-- ==== Sys2Proof/Word.lean ====
section
/-! DEFINITION. The words of the block: bytes, 32-bit and 64-bit register words, and the initiator identifiers (R480). -/

namespace Sys2Proof

/-- One byte. -/
abbrev Byte := BitVec 8
/-- A 32-bit value. -/
abbrev Word32 := BitVec 32
/-- A 64-bit register, ledger or buffer-memory word. -/
abbrev Word := BitVec 64
/-- An initiator identifier from 0x000 to 0x101 (R480). -/
abbrev Init := Fin 0x102

end Sys2Proof
end

