-- ==== Sys2Proof/Syntax.lean ====
section
/-! DEFINITION. The commands: one constructor per row of the opcode table. `dt` is how many TIME_CK cycles pass before the
command acts; a command without it acts at a moment the state itself fixes. -/

namespace Sys2Proof

/-- A request on the register port (R67): the initiator, the size code, for a 32-bit access which half of the slot
(REGP_ADDR[2], R68), and the write data in the register's own bit positions. `dt` cycles pass before it. -/
structure Access where
  dt : Nat
  init : Init
  size : BitVec 2
  up : Bool
  data : Word
  deriving DecidableEq, Repr

/-- One staff-room access of a service core or of the host side (R217 to R219): a write or a read of `len` bytes. -/
structure StaffReq where
  wr : Bool
  addr : BitVec 18
  len : Fin 9
  data : Word
  deriving DecidableEq, Repr

/-- One write of a service core to buffer memory (R200). -/
structure ProcWrite where
  core : Fin 2
  addr : BitVec 23
  len : Fin 9
  data : Word
  deriving DecidableEq, Repr

/-- The host side of the staff room in a cycle: no access, one of the register port's aperture, or the write that a block writer made
last (R218, R220). -/
inductive HostSide where | idle | port (r : StaffReq) | block
  deriving DecidableEq, Repr

/-- A low pulse at an input pin: for how many ns the level is low, and whether it is high after them (R45, R59). -/
structure Pulse where
  low : Nat
  back : Bool
  deriving DecidableEq, Repr

/-- The release of main-domain reset: the cycles before it, and those that FRC has counted since the TIME_CK domain left reset (R60). -/
structure Release where
  dt : Nat
  after : Nat
  deriving DecidableEq, Repr

/-- How a management SPI transaction ends: whether the register port answers too late, and how many MSPI_SCK cycles it has (R73, R74). -/
structure SpiEnd where
  late : Bool
  sck : Nat
  deriving DecidableEq, Repr

/-- The test access port's inputs: whether JTAG_TRST# falls, and then JTAG_TMS and JTAG_TDI at each rising edge of JTAG_TCK (R75). -/
structure TapInput where
  dt : Nat
  trst : Bool
  tck : List (Bool × Bool)
  deriving DecidableEq, Repr

/-- A step on buffer memory, and the writes of the service cores that are accepted while it runs (R198). -/
structure StepWork where
  dt : Nat
  writes : List ProcWrite
  deriving DecidableEq, Repr

/-- A pad of a pluggable module: for how many ns it has held its level (R124). -/
structure PadHeld where
  dt : Nat
  held : Nat
  deriving DecidableEq, Repr

/-- The start of a control frame: how many aligned lanes after the first that the gap allows (R108). -/
structure StartAt where
  dt : Nat
  extra : Nat
  deriving DecidableEq, Repr

/-- The marks of receive beats of a radio port: SOP on the first, EOP and RADn_RX_ERR on the last (R171). -/
structure RadMarks where
  sop : Bool
  eop : Bool
  err : Bool
  deriving DecidableEq, Repr

/-- The commands of the block. -/
inductive Instr where
  /-- REGISTER_WRITE (R68): A register-port write to a register with no row of its own, decided under the access decision and then stored under the field types. -/
  | registerWrite (a : Access) (addr : BitVec 20)
  /-- AON_POR (R58): VDD_AON rises and the always-on power-on reset resets the whole block, including GLB_RST_CAUSE. -/
  | aonPor (dt : Nat)
  /-- PORST (R59): A filtered low pulse on PORST# resets the whole block except GLB_RST_CAUSE. -/
  | porst (dt : Nat) (x : Pulse)
  /-- CORE_RAIL (R47): PG_CORE or PG_SRAM deasserts, the clamps engage and main-domain reset asserts. -/
  | coreRail (dt : Nat) (sram : Bool) (x : Pulse)
  /-- LEDGER_RAIL (R47): PG_LEDGER deasserts, ledger writes are held and the LEDGER_RAIL source is raised. -/
  | ledgerRail (dt : Nat) (low : Nat)
  /-- LEDGER_RAIL_RETURN (R47): PG_LEDGER reasserts, the held ledger writes run in request order and LEDGER_AVAIL is set. -/
  | ledgerRailReturn (dt : Nat)
  /-- CLOCK_LOSS (R57): A clock monitor finds a domain absent and the block applies the loss effect of that domain. -/
  | clockLoss (dt : Nat) (d : Fin 13) (rxOpen : BitVec 8)
  /-- CLOCK_RETURN (R56): A clock monitor finds an absent domain present again. -/
  | clockReturn (dt : Nat) (d : Fin 13)
  /-- GLB_RST_CMD (R63): A write of 0xB10C to GLB_RST_CMD schedules main-domain reset 16 REG_CK cycles later. -/
  | glbRstCmd (a : Access)
  /-- SW_RESET (R63): Main-domain reset asserts 16 REG_CK cycles after an accepted GLB_RST_CMD write. -/
  | swReset (dt : Nat)
  /-- MAIN_RESET_END (R60): All release conditions hold, the domain resets deassert in turn and the block enters START. -/
  | mainResetEnd (w : Release)
  /-- BOOT_COUNTER_WRITE (R469): After the ledger read, START writes the incremented boot counter and then the deferred tamper records. -/
  | bootCounterWrite (dt : Nat)
  /-- START_MARCH (R214): After the ledger read, START loads the repair map and runs the destructive march with repair on every column. -/
  | startMarch (dt : Nat) (defects : List (Fin 10 × Fin 2 × Fin 1032 × Fin 321))
  /-- IMAGE_LOAD (R463): After the ledger read, the flash loader reads both slot headers, selects a slot and loads its image. -/
  | imageLoad (dt : Nat) (flash0 flash1 : List Byte)
  /-- POOL_BUILD (R238): When the ledger write, march and image load have ended, the pools, roles, generations and timetables are set and the cores released. -/
  | poolBuild (dt : Nat)
  /-- GPIO_INPUT (R66): A level change on a GPIO input pin reaches GLB_GPIO_IN. -/
  | gpioInput (dt : Nat) (pin : Fin 32) (level : Bool)
  /-- HOST_READ_RESPONSE (R71): Read data returns on the host memory port, matched by its tag. -/
  | hostReadResponse (dt : Nat) (tag : Fin 128) (bad : Bool) (data : BitVec 512)
  /-- HOST_WRITE_RESPONSE (R72): A write response returns on the host memory port. -/
  | hostWriteResponse (dt : Nat) (tag : Fin 64) (bad : Bool)
  /-- HOST_TIMEOUT (R335): A host memory request meets no response within 16 us. -/
  | hostTimeout
  /-- WRITE_32 (R73): A management SPI transaction with command 0x01 issues a 32-bit register write. -/
  | write32 (dt : Nat) (addr : BitVec 24) (data : Word32) (x : SpiEnd)
  /-- WRITE_64 (R73): A management SPI transaction with command 0x02 issues a 64-bit register write. -/
  | write64 (dt : Nat) (addr : BitVec 24) (data : Word) (x : SpiEnd)
  /-- READ_32 (R73): A management SPI transaction with command 0x03 issues a 32-bit register read and returns its data. -/
  | read32 (dt : Nat) (addr : BitVec 24) (x : SpiEnd)
  /-- READ_64 (R73): A management SPI transaction with command 0x04 issues a 64-bit register read and returns its data. -/
  | read64 (dt : Nat) (addr : BitVec 24) (x : SpiEnd)
  /-- REGACC (R78): Update-DR under REGACC issues one register-port access with initiator 0xFF. -/
  | regacc (dt : Nat) (wr wide : Bool) (addr : BitVec 20) (data : Word)
  /-- MBIST (R77): The MBIST instruction starts memory self-test where the life-cycle state permits it. -/
  | mbist (dt : Nat)
  /-- JTAG_TRST (R75): JTAG_TRST# or the Test-Logic-Reset state resets only the test access port. -/
  | jtagTrst (w : TapInput)
  /-- TM_SCAN (R80): A rising TM_SCAN or TM_MBIST wipes the secure region and enters manufacturing test where permitted. -/
  | tmScan (dt : Nat) (mbist : Bool)
  /-- ROLE_CMD (R26): A GLB_ROLE_CMD write requests a function change of a unit for the next bell edge. -/
  | roleCmd (a : Access)
  /-- REQUEST_TEST (R36): GLB_MODE_REQ with TARGET TEST requests the TEST mode for the next bell edge. -/
  | requestTest (a : Access)
  /-- REQUEST_SERVICE (R36): GLB_MODE_REQ with TARGET SERVICE requests the SERVICE mode for the next bell edge. -/
  | requestService (a : Access)
  /-- REQUEST_START (R36): GLB_MODE_REQ with TARGET START requests a flash reload from RECOVERY. -/
  | requestStart (a : Access)
  /-- REQUEST_SLEEP (R36): GLB_MODE_REQ with TARGET SLEEP is always refused with REQ_ERR. -/
  | requestSleep (a : Access)
  /-- HALT_REQUEST (R34): GLB_MODE_REQ with TARGET HALT enters HALT at once. -/
  | haltRequest (a : Access)
  /-- BELL_EDGE (R89): The bell period elapses, GLB_BELL_NUM advances and the fixed per-bell work runs. -/
  | bellEdge
  /-- TERM_BOUNDARY (R96): The term reaches TERM_BELLS bells, counters latch into the report card and reset. -/
  | termBoundary
  /-- REPHASE_EDGE (R85): The bell reaches the re-phase boundary, ends the term and enters ALIGNED. -/
  | rephaseEdge
  /-- GLB_BELL_CFG_WRITE (R88): A GLB_BELL_CFG write stages a new period or term length, or changes ALIGN or OUT_EN. -/
  | glbBellCfgWrite (a : Access)
  /-- PRESERVING_MARCH_STEP (R210): One step of the preserving march tests or rebuilds part of the slice. -/
  | preservingMarchStep (w : StepWork) (defects : List (Fin 2 × Fin 4096))
  /-- SCRUB_STEP (R215): One scrub step reads up to 8 stripes, decodes them and writes back at most one. -/
  | scrubStep (w : StepWork)
  /-- FILL_STEP (R203): One fill step writes up to 8 stripes of zero in a FILLING bank. -/
  | fillStep (dt : Nat)
  /-- RULE_BANK_SWAP_STEP (R269): One mirroring step copies up to 256 rules into the mirroring bank. -/
  | ruleBankSwapStep (dt : Nat)
  /-- POOL_REBUILD_STEP (R236): One pool-rebuild step adds up to 512 buffers to a free list or removes them from it. -/
  | poolRebuildStep (dt : Nat)
  /-- LEDGER_WRITE_STEP (R474): One ledger word of a queued request is written and read back. -/
  | ledgerWriteStep (dt : Nat) (miss : Fin 3)
  /-- FLASH_STEP (R465): One flash-reload step drives NVM_SCK for at most 1,990 ns. -/
  | flashStep (dt : Nat) (bytes : List Byte)
  /-- SECURE_ZERO_STEP (R499): One zeroing step writes 1,024 words of the secure region. -/
  | secureZeroStep (dt : Nat)
  /-- RX_FRAME (R112): A wired port receives a whole frame, checks its length and FCS and writes it to the RX FIFO. -/
  | rxFrame (dt : Nat) (n : Fin 8) (age : Nat) (lane : Fin 16) (c : List Bool) (b : List Byte)
  /-- RX_JABBER (R114): A frame without Terminate 65,536 bytes after its Start is discarded. -/
  | rxJabber (dt : Nat) (n : Fin 8)
  /-- LOCAL_FAULT (R110): The local-fault or remote-fault status is set or cleared from the received ordered sets. -/
  | localFault (dt : Nat) (n : Fin 8) (c : List (BitVec 8)) (w : List (BitVec 64))
  /-- LINK_STATE_CHANGE (R120): An input or setting change moves a wired port to another link state. -/
  | linkStateChange (dt : Nat) (n : Fin 8) (linkOk rxOpen : Bool)
  /-- UP_HOLD_EXPIRY (R120): UP_HOLD elapses in ARMING and the port enters UP. -/
  | upHoldExpiry (n : Fin 8)
  /-- EGRESS_COPY (R119): When the TX FIFO has room, the scheduler chooses a head frame and the mover copies it in. -/
  | egressCopy (dt : Nat) (u : Fin 11)
  /-- TX_FRAME_START (R108): The transmitter sends the Start of a whole frame in the TX FIFO after the gap. -/
  | txFrameStart (dt : Nat) (n : Fin 8) (extra : Nat)
  /-- TERMINATE (R119): A frame's Terminate is sent, the frame leaves the FIFO and its buffer is released. -/
  | terminate (dt : Nat) (n : Fin 8)
  /-- PORTN_MAC_CTRL_WRITE (R123): A PORTn_MAC_CTRL write enables, disables or reconfigures a port, or is refused. -/
  | portnMacCtrlWrite (a : Access) (n : Fin 8)
  /-- LOS_CHG (R124): The filtered MOD_LOS level changes on an uplink. -/
  | losChg (w : PadHeld) (n : Fin 2) (level : Bool)
  /-- TXFLT (R124): The filtered MOD_TXFLT rises on an uplink. -/
  | txflt (w : PadHeld) (n : Fin 2)
  /-- RX_PAUSE (R128): A pause frame loads the pause timer. -/
  | rxPause (dt : Nat) (n : Fin 8) (own : Bool) (quanta : BitVec 16)
  /-- RX_PFC (R129): A PFC frame loads the per-priority pause timers. -/
  | rxPfc (dt : Nat) (n : Fin 8) (vec : BitVec 16) (times : BitVec 128)
  /-- PAUSE_TIMER_EXPIRY (R128): The pause timer reaches zero and the waiting frame may start. -/
  | pauseTimerExpiry (n : Fin 8)
  /-- PFC_TIMER_EXPIRY (R129): A PFC timer reaches zero and its classes are no longer paused. -/
  | pfcTimerExpiry (n : Fin 8) (p : Fin 8)
  /-- XOFF (R131): Held bytes, FIFO fill or FORCE move a priority or the port into or out of XOFF. -/
  | xoff (dt : Nat) (n : Fin 8)
  /-- TX_PAUSE (R132): A generated pause or PFC frame is sent at the next frame boundary. -/
  | txPause (w : StartAt) (n : Fin 8)
  /-- PAUSE_REFRESH (R132): REFRESH quanta pass in XOFF and the pause frame is sent again. -/
  | pauseRefresh (n : Fin 8)
  /-- FC_MODE_WRITE (R133): A change of PORTn_FC_CTRL.MODE takes effect at the next frame boundary. -/
  | fcModeWrite (a : Access) (n : Fin 8)
  /-- PAUSE_WDOG (R134): Paused time exceeds BUDGET and the watchdog ignores further pause frames. -/
  | pauseWdog (n : Fin 8)
  /-- WDOG_TRIP_CLEAR (R134): A write of 1 to WDOG_TRIP restores pause handling. -/
  | wdogTripClear (a : Access) (n : Fin 8)
  /-- RECESS_ENTRY (R135): The transmitter has been idle for ENTRY_IDLE and enters recess. -/
  | recessEntry (n : Fin 8)
  /-- RECESS_EXIT (R136): A ready frame or other cause takes the transmitter out of recess into WAKING. -/
  | recessExit (dt : Nat) (n : Fin 8)
  /-- WAKING_END (R136): TX_WAKE elapses after the first Idle and transmission may start. -/
  | wakingEnd (n : Fin 8)
  /-- RX_LPI (R137): The receiver starts or stops seeing LPI in every lane. -/
  | rxLpi (dt : Nat) (n : Fin 8) (lpi : Bool)
  /-- SWITCH (R147): A PORTn_GCL_CMD SWITCH names a list to activate at a cycle start. -/
  | switch (a : Access) (n : Fin 8)
  /-- CANCEL (R148): A PORTn_GCL_CMD CANCEL clears a pending switch. -/
  | cancel (a : Access) (n : Fin 8)
  /-- GCL_ENTRY_WRITE (R145): A write to a gate control list entry is stored or refused for an active or pending list. -/
  | gclEntryWrite (a : Access) (n : Fin 8) (l : Fin 2) (i : Fin 96)
  /-- PORTN_GCL_CFG_WRITE (R149): A PORTn_GCL_CFG write changes timetable settings or EN, or is refused. -/
  | portnGclCfgWrite (a : Access) (n : Fin 8)
  /-- GATE_CHANGE (R142): An entry start time is reached and the gate state changes. -/
  | gateChange (n : Fin 8)
  /-- HOLD (R162): The preemption hold is asserted HOLD_ADV before a SET_HOLD entry or released at a SET_RELEASE. -/
  | hold (n : Fin 8)
  /-- VERIFY_START (R158): PM EN with link UP starts verification and sends a verify mPacket. -/
  | verifyStart (dt : Nat) (n : Fin 8)
  /-- VERIFY_MS_EXPIRY (R158): VERIFY_MS elapses in VERIFYING and another verify is sent or the state FAILS. -/
  | verifyMsExpiry (n : Fin 8)
  /-- RX_VERIFY (R159): A valid verify mPacket is received and answered with a respond mPacket. -/
  | rxVerify (dt : Nat) (n : Fin 8) (b : List Byte)
  /-- RX_RESPOND (R158): A valid respond mPacket in VERIFYING makes preemption SUCCEEDED. -/
  | rxRespond (dt : Nat) (n : Fin 8) (b : List Byte)
  /-- PREEMPT_CUT (R161): A preemptable frame reaches a legal point after a cut event and its fragment ends. -/
  | preemptCut (dt : Nat) (n : Fin 8)
  /-- PREEMPT_CONTINUE (R161): A cut preemptable frame continues with its next fragment. -/
  | preemptContinue (dt : Nat) (n : Fin 8) (extra : Nat)
  /-- RX_FRAGMENT (R163): A preemptable fragment is received and added to the assembly. -/
  | rxFragment (dt : Nat) (n : Fin 8) (age : Nat) (lane : Fin 16) (smd cnt : Byte) (b : List Byte)
  /-- LAUNCH_AVAILABLE (R165): A launch-time frame at the head of its class becomes available at LT minus LOOKAHEAD. -/
  | launchAvailable (n : Fin 8)
  /-- RADIO_RX_FRAME (R174): A radio port receives a whole frame with its metadata. -/
  | radioRxFrame (dt : Nat) (n : Fin 3) (md : BitVec 128) (ago : Nat) (x : RadMarks) (b : List Byte)
  /-- RADIO_TX_SOP (R175): A whole frame in the TX FIFO starts transfer with its SOP beat. -/
  | radioTxSop (dt : Nat) (n : Fin 3) (ready : Bool)
  /-- EOP (R175): The EOP beat transfers, the frame leaves the FIFO and its buffer is released. -/
  | eop (dt : Nat) (n : Fin 3) (ready : Bool)
  /-- BEACON_REPORT (R181): A beacon report arrives, arms the deadline and drives the radio port state. -/
  | beaconReport (dt : Nat) (n : Fin 3) (info : Word32)
  /-- BCN_MISSED (R181): A beacon deadline passes without a report. -/
  | bcnMissed (n : Fin 3)
  /-- RADN_CTRL_WRITE (R184): A RADn_CTRL write enables the port or clears EN, aborting a partial frame. -/
  | radnCtrlWrite (a : Access) (n : Fin 3)
  /-- PROC_ACCESS (R200): A service-core buffer-memory read or write is served by the codec. -/
  | procAccess (dt : Nat) (core : Fin 2) (wr : Bool) (addr : BitVec 23) (len : Fin 9) (data : Word)
  /-- ON (R202): MEM_BANK_CMD TARGET ON turns an OFF bank to FILLING. -/
  | on (a : Access)
  /-- OFF (R202): MEM_BANK_CMD TARGET OFF turns an unused ON bank OFF at the next edge. -/
  | off (a : Access)
  /-- ERASE_COLUMN (R204): MEM_COL_CMD ERASE marks a column ERASED at the next edge. -/
  | eraseColumn (a : Access)
  /-- MARCH_START (R207): MEM_MARCH_CMD START begins a preserving march of a slice. -/
  | marchStart (a : Access)
  /-- MARCH_ABORT (R209): MEM_MARCH_CMD ABORT ends the test and starts the rebuild. -/
  | marchAbort (a : Access)
  /-- STAFF_ACCESS (R219): A staff-room access is served, with collisions resolved. -/
  | staffAccess (dt : Nat) (core : Fin 2) (init : Init) (sc : Option StaffReq) (host : HostSide)
  /-- WITHDRAW (R235): POOL_CMD WITHDRAW removes a bank's buffers from its pool. -/
  | withdraw (a : Access)
  /-- RESTORE (R235): POOL_CMD RESTORE returns a withdrawn bank's buffers to the free list. -/
  | restore (a : Access)
  /-- REDEFINE (R235): POOL_CMD REDEFINE gives a pool its staged size and banks. -/
  | redefine (a : Access)
  /-- POOL_ALLOC (R239): A POOL_ALLOC write requests one buffer for the writer. -/
  | poolAlloc (a : Access)
  /-- POOL_ALLOC_RESULT (R239): The allocator decides the request and places the grant or failure in POOL_ALLOC_RES. -/
  | poolAllocResult (dt : Nat) (init : Init) (same : Bool)
  /-- POOL_ALLOC_RES_READ (R239): A read of POOL_ALLOC_RES returns and clears the writer's result. -/
  | poolAllocResRead (a : Access)
  /-- POOL_FREE (R232): A POOL_FREE write releases a reference after the pointer checks. -/
  | poolFree (a : Access)
  /-- PARSER_PASS (R242): The parser runs a pass over a waiting frame, builds the key and looks up flow and rules. -/
  | parserPass (dt : Nat) (same : Bool)
  /-- FLOW_INSERT (R255): CLS_FLOW_CMD INSERT stores or replaces a flow entry. -/
  | flowInsert (a : Access)
  /-- FLOW_DELETE (R255): CLS_FLOW_CMD DELETE invalidates the entry with the masked key. -/
  | flowDelete (a : Access)
  /-- FLOW_READ (R255): CLS_FLOW_CMD READ loads an entry into the writer's staging, optionally clearing HIT. -/
  | flowRead (a : Access)
  /-- FLOW_CFG_WRITE (R256): A write to CLS_FLOW_MASK or SEED is refused while the table holds entries. -/
  | flowCfgWrite (a : Access) (i : Fin 6)
  /-- COMMIT (R259): CLS_RULE_CMD COMMIT writes a staged rule into a bank. -/
  | commit (a : Access)
  /-- INVALIDATE (R259): CLS_RULE_CMD INVALIDATE clears a rule's valid bit. -/
  | invalidate (a : Access)
  /-- RULE_READ (R259): CLS_RULE_CMD READ loads a rule or default slot into the writer's staging. -/
  | ruleRead (a : Access)
  /-- SWAP (R267): CLS_BANK_CMD SWAP requests a bank swap at the next bell edge. -/
  | swap (a : Access)
  /-- DRAIN_END (R266): No frame remains pinned and the DRAINING bank moves to MIRRORING or STANDBY. -/
  | drainEnd (dt : Nat)
  /-- STORE_COMPLETE (R287): A stored frame is forwarded, its destinations decided and checked, and it is enqueued. -/
  | storeComplete (dt : Nat)
  /-- LEARN_WRITE (R283): The learning engine performs one queued learn write. -/
  | learnWrite (dt : Nat)
  /-- FDB_INSERT (R285): BR_FDB_CMD INSERT writes an entry. -/
  | fdbInsert (a : Access)
  /-- FDB_DELETE (R285): BR_FDB_CMD DELETE removes an entry. -/
  | fdbDelete (a : Access)
  /-- FDB_READ (R285): BR_FDB_CMD READ loads an entry into the writer's staging. -/
  | fdbRead (a : Access)
  /-- FLUSH (R285): BR_FDB_CMD FLUSH starts an immediate sweep removing matching dynamic entries. -/
  | flush (a : Access)
  /-- FLUSH_DONE (R285): The FLUSH sweep ends and FLUSH_DONE is set. -/
  | flushDone (dt : Nat)
  /-- MTR_CFG_WRITE (R291): A write to MTR_CFGm fills the bucket to the new BURST. -/
  | mtrCfgWrite (a : Access) (m : Fin 64)
  /-- PART_ENABLE (R299): A PART_CTRL write sets or clears EN of a partition. -/
  | partEnable (a : Access) (p : Fin 8)
  /-- PART_RESET (R302): PART_CMD RESET sends the partition to RESETTING. -/
  | partReset (a : Access) (p : Fin 8)
  /-- RUN (R299): PART_CMD RUN returns a partition from RECOVERY to ACTIVE at the next edge. -/
  | run (a : Access) (p : Fin 8)
  /-- RESET_DONE (R302): RESETTING ends at a bell edge, pointers reset and generations advance. -/
  | resetDone (p : Fin 8)
  /-- RING_BASE_WRITE (R304): A ring base write is accepted in OFF or refused. -/
  | ringBaseWrite (a : Access) (p : Fin 8) (ring : Fin 4)
  /-- TXQ_DOORBELL (R306): A PART_TXQ_DB write moves the TX submission tail. -/
  | txqDoorbell (a : Access) (p : Fin 8)
  /-- RXQ_DOORBELL (R306): A PART_RXQ_DB write moves the RX supply tail. -/
  | rxqDoorbell (a : Access) (p : Fin 8)
  /-- COMPLETION_HEAD_WRITE (R308): Software writes a completion ring head, freeing slots for held completions. -/
  | completionHeadWrite (a : Access) (p : Fin 8) (rx : Bool)
  /-- TX_PUSH (R311): A burst to the TX push window moves the tail and keeps pushed slots. -/
  | txPush (dt : Nat) (init : Init) (p : Fin 8) (off : Fin 32) (beats : BitVec 512)
  /-- RX_PUSH (R311): A burst to the RX push window moves the tail and keeps pushed slots. -/
  | rxPush (dt : Nat) (init : Init) (p : Fin 8) (off : Fin 32) (beats : BitVec 512)
  /-- TX_JOB (R323): The queue engine takes the next TX job and checks it. -/
  | txJob (dt : Nat) (p : Fin 8) (same : Bool)
  /-- TX_JOB_RETRY (R325): A job held for a buffer retries its allocation at a bell edge. -/
  | txJobRetry (p : Fin 8)
  /-- RX_BUF (R329): The block takes an RX_BUF entry and adds its buffers to the list. -/
  | rxBuf (dt : Nat) (p : Fin 8)
  /-- RX_DELIVERY (R330): The data writes of the next queued frame to a partition start. -/
  | rxDelivery (dt : Nat) (p : Fin 8)
  /-- RX_DONE (R330): All data writes returned OKAY, the frame is released and its RX_DONE written. -/
  | rxDone (dt : Nat) (p : Fin 8)
  /-- COAL_TIME (R342): The coalescing time limit passes and the edge source becomes deliverable. -/
  | coalTime (n : Fin 256)
  /-- INT_TGTT_CLAIM (R349): A read of INT_TGTt_CLAIM claims the highest-priority presented source. -/
  | intTgttClaim (a : Access) (t : Fin 16)
  /-- INT_TGTT_COMPLETE (R351): A write of INT_TGTt_COMPLETE completes a claimed source. -/
  | intTgttComplete (a : Access) (t : Fin 16)
  /-- INT_PEND (R340): A write of 1 to an INT_PEND bit clears an edge source. -/
  | intPend (a : Access) (k : Fin 4)
  /-- INT_SRC_CFG_WRITE (R346): A write to a source or target configuration may withdraw or re-present sources. -/
  | intSrcCfgWrite (a : Access) (tgt : Bool) (n : Fin 256)
  /-- LATCH_SET (R353): A configured edge on an always-on input sets its latch. -/
  | latchSet (dt : Nat) (l : Fin 32) (rising : Bool)
  /-- LATCH_TRANSFER (R353): A set latch is transferred to its source as one event when the main domain runs. -/
  | latchTransfer (dt : Nat) (l : Fin 32)
  /-- BTMR (R355): A bell timer's LEFT reaches 0 and it raises an event. -/
  | btmr (k : Fin 8)
  /-- INT_BTMR_WRITE (R355): A write that sets EN of a bell timer loads LEFT with PERIOD. -/
  | intBtmrWrite (a : Access) (k : Fin 8)
  /-- RATE_CHANGE (R364): A TIME_RATE write re-anchors synchronized time at a new rate. -/
  | rateChange (a : Access)
  /-- STEP (R368): A TIME_STEP write steps synchronized time or is held. -/
  | step (a : Access)
  /-- HELD_STEP (R368): A held step is applied after the bell source returns to FREE. -/
  | heldStep
  /-- ACQUIRE (R367): TIME_CMD ACQUIRE enters ACQUIRING. -/
  | acquire (a : Access)
  /-- LOCK (R367): TIME_CMD LOCK enters LOCKED. -/
  | lock (a : Access)
  /-- UNLOCK (R367): TIME_CMD UNLOCK returns LOCKED to TRACKING. -/
  | unlock (a : Access)
  /-- HOLDOVER (R369): TIME_CMD HOLDOVER enters HOLDOVER, optionally applying a rate. -/
  | holdover (a : Access)
  /-- RESUME (R367): TIME_CMD RESUME returns HOLDOVER to TRACKING. -/
  | resume (a : Access)
  /-- SERVO_TMO (R367): No rate write for SERVO_TMO_MS in LOCKED enters HOLDOVER. -/
  | servoTmo
  /-- TIME_NOW_NS (R366): A read of TIME_NOW_NS returns time and latches the reader's copies. -/
  | timeNowNs (a : Access)
  /-- CAPTURE_EDGE (R374): A configured edge on a capture input writes a timestamp entry. -/
  | captureEdge (dt : Nat) (k : Fin 6) (rising : Bool)
  /-- TIME_CAPK_TS (R374): A read of TIME_CAPk_TS removes the oldest capture entry. -/
  | timeCapkTs (a : Access) (k : Fin 6)
  /-- OUTPUT_EDGE (R375): Synchronized time reaches a scheduled edge of an event or PPS output. -/
  | outputEdge (o : Fin 6)
  /-- OUTPUT_FALL (R375): A pulse falls WIDTH_NS after its edge. -/
  | outputFall (o : Fin 6)
  /-- REF_WINDOW (R377): A TIME_REF_IN counting window ends and EDGES is loaded. -/
  | refWindow (edges : Nat)
  /-- CHECKPOINT (R378): At the checkpoint interval a time checkpoint ledger write is requested. -/
  | checkpoint
  /-- ROLL_INTAKE (R387): The roll-call engine takes an intake frame and sorts it. -/
  | rollIntake (dt : Nat)
  /-- SWEEP (R396): After fixed work the roster sweep visits entries and marks LATE, ABSENT or IDLE. -/
  | sweep (dt : Nat)
  /-- ROLL_ABSENT (R397): A read of ROLL_ABSENT removes the oldest ABSENT index. -/
  | rollAbsent (a : Access)
  /-- ROLL_CFG_WRITE (R390): A ROLL_CFG write that would clear an occupied bank is refused. -/
  | rollCfgWrite (a : Access)
  /-- INSERT (R407): ROLL_NBR_CMD INSERT creates or updates a roster entry. -/
  | insert (a : Access)
  /-- DELETE (R407): ROLL_NBR_CMD DELETE clears an entry and releases its downlink. -/
  | delete (a : Access)
  /-- READ (R407): ROLL_NBR_CMD READ loads an entry into the writer's registers. -/
  | read (a : Access)
  /-- DL_CLEAR (R407): ROLL_NBR_CMD DL_CLEAR releases a neighbour's held downlink. -/
  | dlClear (a : Access)
  /-- SC_RUN (R412): A write to SCn_CTRL.RUN releases or holds a core. -/
  | scRun (a : Access) (c : Fin 2)
  /-- SC_RESTART (R412): A write of 1 to SCn_CTRL.RESTART resets a FAULTED core. -/
  | scRestart (a : Access) (c : Fin 2)
  /-- KICK (R414): A write of 1 to SCn_CTRL.KICK reloads the watchdog. -/
  | kick (a : Access) (c : Fin 2)
  /-- WDOG (R414): The core watchdog reaches 0 and the core restarts or faults. -/
  | wdog (c : Fin 2)
  /-- DEBUG_HALT (R412): A debugger halts a running core through SCDBG. -/
  | debugHalt (dt : Nat) (c : Fin 2)
  /-- DEBUG_RESUME (R412): A debugger resumes a halted core. -/
  | debugResume (dt : Nat) (c : Fin 2)
  /-- SC_TX_DESC1 (R415): A write of SC_TX_DESC1 submits a core's frame. -/
  | scTxDesc1 (a : Access)
  /-- SC_TX_DONE (R417): A read of SC_TX_DONE removes the oldest core completion. -/
  | scTxDone (a : Access)
  /-- SC_RX_POP (R418): A read of SC_RX_POP removes the oldest frame pointer. -/
  | scRxPop (a : Access)
  /-- MBX_DB (R425): A mailbox doorbell is checked and posts the request. -/
  | mbxDb (a : Access)
  /-- MBX_DONE (R426): Firmware answers a posted request and the engine writes the response header. -/
  | mbxDone (a : Access)
  /-- MBX_TIMEOUT (R427): A request POSTED for MBX_TMO_BELLS bells is answered TIMEOUT. -/
  | mbxTimeout (m : Fin 16)
  /-- PMU_OVF (R430): A monitor counter overflows and may freeze counting. -/
  | pmuOvf (dt : Nat) (k : Fin 16) (n : BitVec 32)
  /-- PMU_SAMPLE (R433): Every PERIODth sampled event writes a sample record. -/
  | pmuSample (dt : Nat) (core : Fin 2) (latency : BitVec 16) (addr : BitVec 32)
  /-- CRC_RESTART (R438): CRCu_CMD RESTART starts a computation. -/
  | crcRestart (a : Access) (u : Fin 4)
  /-- CRC_FLUSH (R450): CRCu_CMD FLUSH empties the result FIFO. -/
  | crcFlush (a : Access) (u : Fin 4)
  /-- CRCU_DATA (R446): A write to CRCu_DATA feeds 4 or 8 bytes on the SW tap. -/
  | crcuData (a : Access) (u : Fin 4)
  /-- CRCU_DATA1 (R446): A write to CRCu_DATA1 feeds one byte on the SW tap. -/
  | crcuData1 (a : Access) (u : Fin 4)
  /-- CRCU_CFG_WRITE (R445): A write to a unit's configuration while enabled is refused. -/
  | crcuCfgWrite (a : Access) (u which : Fin 4)
  /-- CRC_RES (R443): A frame result counts and is pushed into the result FIFO. -/
  | crcRes (dt : Nat) (u : Fin 4)
  /-- CRCU_FIFO_VAL (R443): A read of CRCu_FIFO_VAL removes the oldest result entry. -/
  | crcuFifoVal (a : Access) (u : Fin 4)
  /-- VERIFY (R465): NVM_CMD VERIFY reads a slot with every check and applies nothing. -/
  | verify (a : Access)
  /-- ERASE (R465): NVM_CMD ERASE erases a 64 KiB flash sector. -/
  | erase (a : Access)
  /-- PROGRAM (R465): NVM_CMD PROGRAM programs a 256-byte page from NVM_BUF. -/
  | program (a : Access)
  /-- NVM_DONE (R465): The flash status poll at a bell finds the write done or timed out. -/
  | nvmDone (dt : Nat) (timeout : Bool)
  /-- LDG_FW_DATA (R473): A write of LDG_FW_DATA requests a firmware-area ledger word write. -/
  | ldgFwData (a : Access)
  /-- LDG_RD_DATA (R479): A read of LDG_RD_DATA performs a ledger word read. -/
  | ldgRdData (a : Access)
  /-- PROP_COMMIT (R489): PROT_CMD COMMIT stages a proposal and computes its digest. -/
  | propCommit (a : Access)
  /-- APPROVE (R491): PROT_CMD APPROVE checks number, party and digest and approves the proposal. -/
  | approve (a : Access)
  /-- PROP_CANCEL (R491): PROT_CMD CANCEL empties the proposal slot. -/
  | propCancel (a : Access)
  /-- EXPIRED (R487): A STAGED proposal reaches EXPIRE_TERM and expires. -/
  | expired
  /-- APPLIED (R492): An approved change applies at a bell edge once the ledger can take its writes. -/
  | applied
  /-- TAMPER (R500): A tamper detection wipes the secure region, empties the slot and logs. -/
  | tamper (dt : Nat) (i : BitVec 8)
  /-- WIPE_DONE (R499): A secure-region wipe ends. -/
  | wipeDone (dt : Nat)
  /-- DOZE (R510): PWR_CMD DOZE starts entry to DOZE. -/
  | doze (a : Access)
  /-- WATCH (R509): PWR_CMD WATCH starts entry to WATCH. -/
  | watch (a : Access)
  /-- DEEP (R515): PWR_CMD DEEP starts entry to DEEP. -/
  | deep (a : Access)
  /-- WAKE (R509): PWR_CMD WAKE is a wake cause. -/
  | wake (a : Access)
  /-- ACK (R522): PWR_CMD ACK drives WAKE_OUT to 0. -/
  | ack (a : Access)
  /-- STATE_REACHED (R510): 6 us after E1 ports enter recess, clocks gate and the state becomes DOZE or WATCH. -/
  | stateReached
  /-- DEEP_RESET (R515): The ledger queue empties and main-domain reset asserts with power requests dropped. -/
  | deepReset (dt : Nat)
  /-- DEEP_FAIL (R515): DEEP_TMO_MS passes before the ledger drains and the entry is abandoned. -/
  | deepFail
  /-- KEEP_RETURN (R521): RETURN_BELLS after a KEEP wake, the block enters WATCH again. -/
  | keepReturn
  /-- SLEEP_RX_FRAME (R523): A frame received asleep is checked against wake patterns, magic packet and keeper rules. -/
  | sleepRxFrame (dt : Nat) (n : Fin 8) (age : Nat) (lane : Fin 16) (b : List Byte)
  /-- AON_TIMER (R526): The always-on count reaches ALARM and raises the alarm. -/
  | aonTimer
  /-- PANEL_RAW_CHANGE (R528): A raw level change on a panel input is counted for chatter. -/
  | panelRawChange (dt : Nat) (k : Fin 4) (level : Bool)
  /-- PRESS (R528): The debounce time elapses and the debounced level changes, reporting PRESS, RELEASE or CLEAR. -/
  | press (k : Fin 4)
  /-- LONG (R528): An input stays active for LONG_S and reports LONG. -/
  | long (k : Fin 4)
  /-- STUCK (R528): An input stays active for STUCK_S and becomes STUCK. -/
  | stuck (k : Fin 4)
  /-- QUARANTINE_END (R528): QUAR_S after entry to CHATTER the input returns by its debounced level. -/
  | quarantineEnd (k : Fin 4)
  /-- REGISTER_READ (R68): A register-port read of a register with no read effect of its own is decided under the access decision and may return DENIED or DECODE, or wake the block in DOZE or WATCH. -/
  | registerRead (a : Access) (addr : BitVec 20)
  /-- VDD_AON_FALL (R47): VDD_AON falls below its power-on threshold, the always-on power-on reset asserts, the whole block resets and the clamps lose power. -/
  | vddAonFall (dt : Nat)
  /-- AGE_SWEEP_END (R284): The forwarding-database age sweep finishes its last bucket, BR_FDB_STAT.SWEEP clears and FLUSH is no longer refused with BUSY. -/
  | ageSweepEnd (dt : Nat)
  /-- BELL_OUT_FALL (R87): BELL_OUT falls 256 TIME_CK cycles after it rose. -/
  | bellOutFall
  /-- MISALIGNED_START (R109): A Start in a lane not divisible by 4 while no frame is open is counted once in RX_CODE_ERR and input is discarded until Idle, LPI, an ordered set or an aligned Start. -/
  | misalignedStart (dt : Nat) (n : Fin 8)
  /-- RADIO_STRAY_BEAT (R174): A receive beat without SOP while no frame is open is discarded, and beats are discarded until the next SOP, counted once per run in RX_PROTO_ERR. -/
  | radioStrayBeat (dt : Nat) (n : Fin 3)
  /-- RADIO_RX_OVERLONG (R174): A radio receive frame still open 65,536 bytes after its SOP is discarded and beats are discarded until the next SOP, counted in RX_PROTO_ERR. -/
  | radioRxOverlong (dt : Nat) (n : Fin 3)
  /-- MOD_TXFLT_FALL (R124): The filtered MOD_TXFLT level falls on an uplink, which changes the MOD_TXDIS drive and the FAULT LED condition. -/
  | modTxfltFall (w : PadHeld) (n : Fin 2)
  deriving DecidableEq, Repr

end Sys2Proof
end

