-- ==== Sys2Proof/Decode.lean ====
section
/-! DEFINITION. The decoder over the bits of the command table. No row of the table gives bits: a command reaches the block as
an access or an event, not as a word. -/

namespace Sys2Proof

/-- The command that the table's bits spell in a word: none, since no row has bits. -/
def decodeTableWord (_nbits _w : Nat) : Option Instr := none

end Sys2Proof
end

