-- ==== Sys2Proof/Machine/RegMap.lean ====
section
/-! DEFINITION. The register map of the block: one row for every register of the spec's index (R535, R536, R538), with
its address, array strides, width, copies, reset word and the masks of its field types (R9). -/

namespace Sys2Proof.Machine

/-- How many copies a register has (R221, R436, R538). -/
inductive Bank where
  | one | perInit | perCore
  deriving DecidableEq, Repr

/-- One register (or array of registers) of the map. `base` is the address of element (0, 0); element (i, j) lies at
`base + i * s1 + j * s2`. `reset` is the word at the end of block reset (R11, R538), `overs` the elements i that differ
from it. The masks hold the bits of the RW, W1C, RC and WO fields; every other bit is RO or reserved (R9, R12). -/
structure RegRow where
  name : String
  base : Nat
  n1 : Nat
  s1 : Nat
  n2 : Nat
  s2 : Nat
  wide : Bool
  bank : Bank
  aon : Bool
  reset : Nat
  overs : List (Nat × Nat)
  rw : Nat
  w1c : Nat
  rc : Nat
  wo : Nat
  deriving DecidableEq, Repr

/-- A field of a register: bits `lo .. lo + w - 1` of element (i, j) of the register at `base`. -/
structure Fld where
  base : Nat
  s1 : Nat
  s2 : Nat
  lo : Nat
  w : Nat
  deriving DecidableEq, Repr

/-- Rows of the register index (R538), part 0. -/
def regRows0 : List RegRow := [
  ⟨"PART_CTRL", 0, 8, 0x10000, 1, 8, false, .one, false, 0x10, [], 0xfff3, 0, 0, 0⟩,
  ⟨"PART_CMD", 8, 8, 0x10000, 1, 8, false, .one, false, 0, [], 0, 0, 0, 3⟩,
  ⟨"PART_STAT", 0x10, 8, 0x10000, 1, 8, true, .one, false, 0, [], 0, 0, 0, 0⟩,
  ⟨"PART_EVT", 0x18, 8, 0x10000, 1, 8, false, .one, false, 0, [], 0, 0x3ff, 0, 0⟩,
  ⟨"PART_ERR_LOG", 0x20, 8, 0x10000, 1, 8, true, .one, false, 0, [], 0, 0, 0, 0⟩,
  ⟨"PART_GEN", 0x28, 8, 0x10000, 1, 8, false, .one, false, 0, [], 0, 0, 0, 0⟩,
  ⟨"PART_TXQ_BASE", 0x40, 8, 0x10000, 1, 8, true, .one, false, 0x6000000000000, [], 0xfffffffffffff, 0, 0, 0⟩,
  ⟨"PART_RXQ_BASE", 0x60, 8, 0x10000, 1, 8, true, .one, false, 0x6000000000000, [], 0xfffffffffffff, 0, 0, 0⟩,
  ⟨"PART_TXC_BASE", 0x80, 8, 0x10000, 1, 8, true, .one, false, 0x6000000000000, [], 0xfffffffffffff, 0, 0, 0⟩,
  ⟨"PART_RXC_BASE", 0xa0, 8, 0x10000, 1, 8, true, .one, false, 0x6000000000000, [], 0xfffffffffffff, 0, 0, 0⟩,
  ⟨"PART_TXQ_DB", 0x48, 8, 0x10000, 1, 8, false, .one, false, 0, [], 0x1ffff, 0, 0, 0⟩,
  ⟨"PART_RXQ_DB", 0x68, 8, 0x10000, 1, 8, false, .one, false, 0, [], 0x1ffff, 0, 0, 0⟩,
  ⟨"PART_TXQ_HEAD", 0x50, 8, 0x10000, 1, 8, false, .one, false, 0, [], 0, 0, 0, 0⟩,
  ⟨"PART_RXQ_HEAD", 0x70, 8, 0x10000, 1, 8, false, .one, false, 0, [], 0, 0, 0, 0⟩,
  ⟨"PART_TXC_HEAD", 0x88, 8, 0x10000, 1, 8, false, .one, false, 0, [], 0x1ffff, 0, 0, 0⟩,
  ⟨"PART_RXC_HEAD", 0xa8, 8, 0x10000, 1, 8, false, .one, false, 0, [], 0x1ffff, 0, 0, 0⟩,
  ⟨"PART_TXC_TAIL", 0x90, 8, 0x10000, 1, 8, false, .one, false, 0, [], 0, 0, 0, 0⟩,
  ⟨"PART_RXC_TAIL", 0xb0, 8, 0x10000, 1, 8, false, .one, false, 0, [], 0, 0, 0, 0⟩,
  ⟨"PART_CNT", 0x800, 8, 0x10000, 8, 8, true, .one, false, 0, [], 0, 0, 0, 0⟩,
  ⟨"GLB_ID", 0x80000, 1, 8, 1, 8, false, .one, false, 0x20100, [], 0, 0, 0, 0⟩,
  ⟨"GLB_MODE", 0x80008, 1, 8, 1, 8, false, .one, false, 0, [], 0, 0x100000, 0, 0⟩,
  ⟨"GLB_MODE_REQ", 0x80010, 1, 8, 1, 8, false, .one, false, 0, [], 0, 0, 0, 7⟩,
  ⟨"GLB_ROLE_SEL", 0x80040, 1, 8, 1, 8, false, .one, false, 0, [], 0x3ff, 0, 0, 0⟩,
  ⟨"GLB_ROLE", 0x80048, 1, 8, 1, 8, true, .one, false, 0xf00000000f, [], 0, 0, 0, 0⟩,
  ⟨"GLB_ROLE_CMD", 0x80050, 1, 8, 1, 8, true, .one, false, 0, [], 0, 0, 0, 0xffff00ff03ff⟩,
  ⟨"GLB_ROLE_STAT", 0x80058, 1, 8, 1, 8, false, .one, false, 0, [], 0, 0x1f, 0, 0⟩,
  ⟨"GLB_STALE_CNT", 0x80060, 1, 8, 1, 8, false, .one, false, 0, [], 0, 0, 0, 0⟩,
  ⟨"GLB_RST_CAUSE", 0x80100, 1, 8, 1, 8, false, .one, true, 1, [], 0, 0xff, 0, 0⟩,
  ⟨"GLB_RST_CMD", 0x80108, 1, 8, 1, 8, false, .one, false, 0, [], 0, 0, 0, 0xffff⟩,
  ⟨"GLB_RAIL_STAT", 0x80110, 1, 8, 1, 8, false, .one, false, 0xf, [], 0, 0, 0, 0⟩,
  ⟨"GLB_CLK_STAT", 0x80118, 1, 8, 1, 8, true, .one, false, 0, [], 0, 0x17ff00000000, 0, 0⟩,
  ⟨"GLB_GPIO_OE", 0x80120, 1, 8, 1, 8, false, .one, false, 0, [], 0xffffffff, 0, 0, 0⟩,
  ⟨"GLB_GPIO_OUT", 0x80128, 1, 8, 1, 8, false, .one, false, 0, [], 0xffffffff, 0, 0, 0⟩,
  ⟨"GLB_GPIO_IN", 0x80130, 1, 8, 1, 8, false, .one, false, 0, [], 0, 0, 0, 0⟩,
  ⟨"GLB_BELL_CFG", 0x80200, 1, 8, 1, 8, true, .one, false, 0x31f400001e848, [], 0x3ffff001fffff, 0, 0, 0⟩,
  ⟨"GLB_BELL_STAT", 0x80208, 1, 8, 1, 8, true, .one, false, 0, [], 0, 0x18, 0, 0⟩,
  ⟨"GLB_BELL_NUM", 0x80210, 1, 8, 1, 8, false, .one, false, 0, [], 0, 0, 0, 0⟩,
  ⟨"GLB_TERM_NUM", 0x80218, 1, 8, 1, 8, false, .one, false, 0, [], 0, 0, 0, 0⟩,
  ⟨"GLB_TERM_BELL", 0x80220, 1, 8, 1, 8, false, .one, false, 0, [], 0, 0, 0, 0⟩,
  ⟨"GLB_BELL_FRC", 0x80228, 1, 8, 1, 8, true, .one, false, 0, [], 0, 0, 0, 0⟩]

/-- Rows of the register index (R538), part 1. -/
def regRows1 : List RegRow := [
  ⟨"GLB_BELL_ST", 0x80230, 1, 8, 1, 8, true, .one, false, 0, [], 0, 0, 0, 0⟩,
  ⟨"GLB_CARD_STAT", 0x80238, 1, 8, 1, 8, true, .one, false, 0, [], 0, 0, 0, 0⟩,
  ⟨"GLB_STEP_STAT", 0x80248, 1, 8, 1, 8, true, .one, false, 0, [], 0, 0, 0, 0⟩,
  ⟨"GLB_CMDQ_STAT", 0x80250, 1, 8, 1, 8, false, .one, false, 0, [], 0, 0x100, 0, 0⟩,
  ⟨"PWR_CFG", 0x80400, 1, 8, 1, 8, true, .one, false, 0x6400001fff, [], 0xffff0000ffff, 0, 0, 0⟩,
  ⟨"PWR_WATCH", 0x80408, 1, 8, 1, 8, true, .one, false, 0x60000, [], 0xffff00f707ff, 0, 0, 0⟩,
  ⟨"PWR_CMD", 0x80410, 1, 8, 1, 8, false, .one, false, 0, [], 0, 0, 0, 7⟩,
  ⟨"PWR_STAT", 0x80418, 1, 8, 1, 8, true, .one, true, 0, [], 0, 0x7000000, 0, 0⟩,
  ⟨"PWR_CNT", 0x80428, 3, 8, 1, 8, true, .one, false, 0, [], 0, 0, 0, 0⟩,
  ⟨"PWR_WAKE_EN", 0x80440, 1, 8, 1, 8, false, .one, true, 0x7ffff, [], 0x7ffff, 0, 0, 0⟩,
  ⟨"PWR_AON_CNT", 0x80448, 1, 8, 1, 8, true, .one, true, 0, [], 0, 0, 0, 0⟩,
  ⟨"PWR_AON_ALARM", 0x80450, 1, 8, 1, 8, true, .one, true, 0, [], 0x1ffffffffffff, 0, 0, 0⟩,
  ⟨"WAKE_MAGIC", 0x80460, 1, 8, 1, 8, true, .one, false, 0, [], 0xffffffffffff, 0, 0, 0⟩,
  ⟨"PANEL_CFG", 0x80600, 4, 8, 1, 8, true, .one, true, 0xa3214, [(0, 0x1e0a0a3214), (1, 0x1e0a0a3214)], 0xffffffffffff, 0, 0, 0⟩,
  ⟨"PANEL_STAT", 0x80620, 1, 8, 1, 8, false, .one, true, 0x8888, [], 0, 0, 0, 0⟩,
  ⟨"PANEL_EVT", 0x80628, 1, 8, 1, 8, false, .one, true, 0, [], 0, 0xffffff, 0, 0⟩,
  ⟨"LED_BLINK", 0x80700, 1, 8, 1, 8, false, .one, false, 0x7d0, [], 0xffff, 0, 0, 0⟩,
  ⟨"LED_CFG", 0x80708, 8, 8, 1, 8, true, .one, false, 0xff20ff0654, [(0, 0xffc0ff0654), (1, 0xffc0ff0654)], 0xffffff0fff, 0, 0, 0⟩,
  ⟨"WAKE_PAT_CFG", 0x80800, 16, 0x20, 1, 8, true, .one, false, 0x7ff0000, [], 0xffffffff07ff0001, 0, 0, 0⟩,
  ⟨"WAKE_PAT_MASK0", 0x80808, 16, 0x20, 1, 8, true, .one, false, 0, [], 0xffffffffffffffff, 0, 0, 0⟩,
  ⟨"WAKE_PAT_MASK1", 0x80810, 16, 0x20, 1, 8, true, .one, false, 0, [], 0xffffffffffffffff, 0, 0, 0⟩,
  ⟨"PORT_MAC_CTRL", 0x90000, 8, 0x1000, 1, 8, false, .one, false, 0x50, [(0, 0x70), (1, 0x70)], 0x371, 0, 0, 0⟩,
  ⟨"PORT_MAC_STAT", 0x90008, 8, 0x1000, 1, 8, false, .one, false, 0, [], 0, 0x80, 0, 0⟩,
  ⟨"PORT_MAC_ADDR", 0x90010, 8, 0x1000, 1, 8, true, .one, false, 0, [], 0xffffffffffff, 0, 0, 0⟩,
  ⟨"PORT_MAX_FRAME", 0x90018, 8, 0x1000, 1, 8, false, .one, false, 0x5f2, [], 0x3fff, 0, 0, 0⟩,
  ⟨"PORT_LINK_CFG", 0x90020, 8, 0x1000, 1, 8, false, .one, false, 0xa, [(0, 0x10a), (1, 0x10a)], 0x1ff, 0, 0, 0⟩,
  ⟨"PORT_EVT", 0x90028, 8, 0x1000, 1, 8, false, .one, false, 0, [], 0, 0x3ff, 0, 0⟩,
  ⟨"PORT_FC_CTRL", 0x90040, 8, 0x1000, 1, 8, true, .one, false, 0x7fffffff0004, [], 0xffffffffff007f, 0, 0, 0⟩,
  ⟨"PORT_FC_THRESH", 0x90048, 8, 0x1000, 1, 8, true, .one, false, 0x102001000200, [(0, 0x104001000200), (1, 0x104001000200)], 0xffffffffffff, 0, 0, 0⟩,
  ⟨"PORT_FC_WDOG", 0x90050, 8, 0x1000, 1, 8, false, .one, false, 0x7a120, [], 0x1ffffff, 0, 0, 0⟩,
  ⟨"PORT_FC_STAT", 0x90058, 8, 0x1000, 1, 8, true, .one, false, 0, [], 0, 0x100000000, 0, 0⟩,
  ⟨"PORT_PFC_MAP", 0x90060, 8, 0x1000, 1, 8, true, .one, false, 0x8040201008040201, [], 0xffffffffffffffff, 0, 0, 0⟩,
  ⟨"PORT_LPI_CFG", 0x90080, 8, 0x1000, 1, 8, true, .one, false, 0x1000640000, [], 0xffffffff0001, 0, 0, 0⟩,
  ⟨"PORT_LPI_STAT", 0x90088, 8, 0x1000, 1, 8, false, .one, false, 0, [], 0, 0, 0, 0⟩,
  ⟨"PORT_MOD_CTRL", 0x900a0, 8, 0x1000, 1, 8, false, .one, false, 0, [(0, 0xb03), (1, 0xb03)], 7, 0, 0, 0⟩,
  ⟨"PORT_PHY_CTRL", 0x900b0, 8, 0x1000, 1, 8, false, .one, true, 0, [], 1, 0, 0, 0⟩,
  ⟨"PORT_TS_LAT", 0x900c0, 8, 0x1000, 1, 8, true, .one, false, 0, [], 0xffffffffffffffff, 0, 0, 0⟩,
  ⟨"PORT_TS_ASYM", 0x900c8, 8, 0x1000, 1, 8, false, .one, false, 0, [], 0xffffffff, 0, 0, 0⟩,
  ⟨"PORT_GCL_CFG", 0x90100, 8, 0x1000, 1, 8, true, .one, false, 0xa0001ff00, [], 0xffff01ffff03, 0, 0, 0⟩,
  ⟨"PORT_GCL_CMD", 0x90108, 8, 0x1000, 1, 8, true, .one, false, 0, [], 0, 0, 0, 0xffff007f000f⟩]

/-- Rows of the register index (R538), part 2. -/
def regRows2 : List RegRow := [
  ⟨"PORT_GCL_SWITCH_AT", 0x90110, 8, 0x1000, 1, 8, true, .one, false, 0, [], 0xffffffffffffffff, 0, 0, 0⟩,
  ⟨"PORT_GCL_STAT", 0x90118, 8, 0x1000, 1, 8, true, .one, false, 0xff00, [], 0, 0, 0, 0⟩,
  ⟨"PORT_GCL_EVT", 0x90120, 8, 0x1000, 1, 8, false, .one, false, 0, [], 0, 0x7ff, 0, 0⟩,
  ⟨"PORT_PM_CFG", 0x90140, 8, 0x1000, 1, 8, true, .one, false, 0xa0000, [], 0xffff00ffff0f, 0, 0, 0⟩,
  ⟨"PORT_PM_STAT", 0x90148, 8, 0x1000, 1, 8, false, .one, false, 0, [], 0, 0, 0, 0⟩,
  ⟨"PORT_LAUNCH_CFG", 0x90160, 8, 0x1000, 1, 8, true, .one, false, 0x3e807d000640000, [], 0xffffffffffff0001, 0, 0, 0⟩,
  ⟨"PORT_GCL0_E", 0x90200, 8, 0x1000, 96, 8, true, .one, false, 0, [], 0xffffffff000003ff, 0, 0, 0⟩,
  ⟨"PORT_GCL1_E", 0x90500, 8, 0x1000, 96, 8, true, .one, false, 0, [], 0xffffffff000003ff, 0, 0, 0⟩,
  ⟨"PORT_CNT", 0x90800, 8, 0x1000, 32, 8, true, .one, false, 0, [], 0, 0, 0, 0⟩,
  ⟨"RAD_CTRL", 0x98000, 3, 0x1000, 1, 8, false, .one, false, 0x880, [], 0xff3, 0, 0, 0⟩,
  ⟨"RAD_STAT", 0x98008, 3, 0x1000, 1, 8, false, .one, false, 0, [], 0, 0, 0, 0⟩,
  ⟨"RAD_MAX_FRAME", 0x98018, 3, 0x1000, 1, 8, false, .one, false, 0x5f2, [], 0x3fff, 0, 0, 0⟩,
  ⟨"RAD_BCN_CFG", 0x98020, 3, 0x1000, 1, 8, true, .one, false, 0x2138800019000, [], 0x3ffff00ffffff, 0, 0, 0⟩,
  ⟨"RAD_SILENT_CFG", 0x98028, 3, 0x1000, 1, 8, false, .one, false, 0x100, [], 0x1ffff, 0, 0, 0⟩,
  ⟨"RAD_EVT", 0x98030, 3, 0x1000, 1, 8, false, .one, false, 0, [], 0, 0x7f, 0, 0⟩,
  ⟨"RAD_BCN_LAST", 0x98038, 3, 0x1000, 1, 8, true, .one, false, 0, [], 0, 0, 0, 0⟩,
  ⟨"RAD_CNT", 0x98800, 3, 0x1000, 32, 8, true, .one, false, 0, [], 0, 0, 0, 0⟩,
  ⟨"MEM_CFG", 0xa0000, 1, 8, 1, 8, true, .one, false, 0x41000003c03, [], 0xffff0000ff03, 0, 0, 0⟩,
  ⟨"MEM_EVT", 0xa0008, 1, 8, 1, 8, false, .one, false, 0, [], 0, 0x3ff, 0, 0⟩,
  ⟨"MEM_ERR_LOG", 0xa0010, 1, 8, 1, 8, true, .one, false, 0, [], 0, 0, 0, 0⟩,
  ⟨"MEM_BANK_CMD", 0xa0020, 1, 8, 1, 8, true, .one, false, 0, [], 0, 0, 0, 0x30f⟩,
  ⟨"MEM_COL_CMD", 0xa0028, 1, 8, 1, 8, true, .one, false, 0, [], 0, 0, 0, 0x1ff⟩,
  ⟨"MEM_MARCH_CMD", 0xa0030, 1, 8, 1, 8, true, .one, false, 0, [], 0, 0, 0, 0xff3⟩,
  ⟨"MEM_MARCH_STAT", 0xa0038, 1, 8, 1, 8, true, .one, false, 0, [], 0, 0x8000, 0, 0⟩,
  ⟨"MEM_SCRUB_STAT", 0xa0040, 1, 8, 1, 8, true, .one, false, 0, [], 0, 0, 0, 0⟩,
  ⟨"STAFF_PAGE", 0xa0060, 1, 8, 1, 8, false, .perInit, false, 0, [], 3, 0, 0, 0⟩,
  ⟨"STAFF_COLL", 0xa0068, 1, 8, 1, 8, false, .one, false, 0, [], 0, 0, 0, 0⟩,
  ⟨"MEM_BANK_STAT", 0xa0100, 16, 8, 1, 8, true, .one, false, 0, [], 0, 0, 0, 0⟩,
  ⟨"MEM_REPAIR", 0xa0400, 160, 8, 1, 8, true, .one, false, 0, [], 0, 0, 0, 0⟩,
  ⟨"MEM_CNT", 0xa0c00, 31, 8, 1, 8, true, .one, false, 0, [], 0, 0, 0, 0⟩,
  ⟨"POOL_CFG", 0xa1000, 5, 0x40, 1, 8, true, .one, false, 0x2000200, [(0, 0x2000200), (1, 0x800222), (2, 0x400444), (3, 0x100285), (4, 0x402a7)], 0xffff0ff7, 0, 0, 0⟩,
  ⟨"POOL_STAT", 0xa1008, 5, 0x40, 1, 8, true, .one, false, 0, [], 0, 0, 0, 0⟩,
  ⟨"POOL_CMD", 0xa1200, 1, 8, 1, 8, true, .one, false, 0, [], 0, 0, 0, 0x7f3⟩,
  ⟨"POOL_EVT", 0xa1210, 1, 8, 1, 8, false, .one, false, 0, [], 0, 0x7f, 0, 0⟩,
  ⟨"POOL_PTR_LOG", 0xa1218, 1, 8, 1, 8, true, .one, false, 0, [], 0, 0, 0, 0⟩,
  ⟨"POOL_ALLOC", 0xa1220, 1, 8, 1, 8, false, .one, false, 0, [], 0, 0, 0, 0x3fff⟩,
  ⟨"POOL_ALLOC_RES", 0xa1228, 1, 8, 1, 8, true, .perInit, false, 0, [], 0, 0, 0x3ffffffff, 0⟩,
  ⟨"POOL_FREE", 0xa1230, 1, 8, 1, 8, false, .one, false, 0, [], 0, 0, 0, 0xffffffff⟩,
  ⟨"POOL_CNT", 0xa1400, 5, 0x40, 8, 8, true, .one, false, 0, [], 0, 0, 0, 0⟩,
  ⟨"CLS_CFG", 0xb0000, 1, 8, 1, 8, false, .one, false, 7, [], 7, 0, 0, 0⟩]

/-- Rows of the register index (R538), part 3. -/
def regRows3 : List RegRow := [
  ⟨"CLS_TPID", 0xb0008, 1, 8, 1, 8, false, .one, false, 0x9100, [], 0x1ffff, 0, 0, 0⟩,
  ⟨"CLS_BANK_CMD", 0xb0010, 1, 8, 1, 8, false, .one, false, 0, [], 0, 0, 0, 7⟩,
  ⟨"CLS_BANK_STAT", 0xb0018, 1, 8, 1, 8, true, .one, false, 0x10, [], 0, 0, 0, 0⟩,
  ⟨"CLS_EVT", 0xb0020, 1, 8, 1, 8, false, .one, false, 0, [], 0, 0x1f, 0, 0⟩,
  ⟨"CLS_STG_VAL", 0xb0040, 8, 8, 1, 8, true, .perInit, false, 0, [], 0xffffffffffffffff, 0, 0, 0⟩,
  ⟨"CLS_STG_MASK", 0xb0080, 8, 8, 1, 8, true, .perInit, false, 0, [], 0xffffffffffffffff, 0, 0, 0⟩,
  ⟨"CLS_STG_ACT0", 0xb00c0, 1, 8, 1, 8, true, .perInit, false, 0, [], 0xffffffffffffffff, 0, 0, 0⟩,
  ⟨"CLS_STG_ACT1", 0xb00c8, 1, 8, 1, 8, true, .perInit, false, 0, [], 0xffffffffffffffff, 0, 0, 0⟩,
  ⟨"CLS_RULE_CMD", 0xb00d0, 1, 8, 1, 8, false, .one, false, 0, [], 0, 0, 0, 0xffff⟩,
  ⟨"CLS_RULE_RES", 0xb00d8, 1, 8, 1, 8, false, .perInit, false, 0, [], 0, 0, 0x3f, 0⟩,
  ⟨"CLS_FLOW_KEY", 0xb0100, 5, 8, 1, 8, true, .perInit, false, 0, [], 0xffffffffffffffff, 0, 0, 0⟩,
  ⟨"CLS_FLOW_DATA", 0xb0128, 1, 8, 1, 8, false, .perInit, false, 0, [], 0x7fff, 0, 0, 0⟩,
  ⟨"CLS_FLOW_CMD", 0xb0130, 1, 8, 1, 8, false, .one, false, 0, [], 0, 0, 0, 0xffff0007⟩,
  ⟨"CLS_FLOW_RES", 0xb0138, 1, 8, 1, 8, false, .perInit, false, 0, [], 0, 0, 0xffff007f, 0⟩,
  ⟨"CLS_FLOW_CFG", 0xb0140, 1, 8, 1, 8, true, .one, false, 0xffffffff00000001, [], 0xffffffff00000001, 0, 0, 0⟩,
  ⟨"CLS_FLOW_MASK", 0xb0148, 5, 8, 1, 8, true, .one, false, 0xffffffffffffffff, [], 0xffffffffffffffff, 0, 0, 0⟩,
  ⟨"CLS_FLOW_STAT", 0xb0180, 1, 8, 1, 8, false, .one, false, 0, [], 0, 0x20000, 0, 0⟩,
  ⟨"CLS_CNT", 0xb0e00, 32, 8, 1, 8, true, .one, false, 0, [], 0, 0, 0, 0⟩,
  ⟨"BR_CFG", 0xb1000, 1, 8, 1, 8, false, .one, false, 0xff03, [], 0xff03, 0, 0, 0⟩,
  ⟨"BR_EVT", 0xb1010, 1, 8, 1, 8, false, .one, false, 0, [], 0, 0xf, 0, 0⟩,
  ⟨"BR_PORT_CFG", 0xb1040, 11, 8, 1, 8, true, .one, false, 0xfac688003001, [], 0xffffff0fffff, 0, 0, 0⟩,
  ⟨"BR_PORT_TCPCP", 0xb10a0, 11, 8, 1, 8, false, .one, false, 0xfac688, [], 0xffffff, 0, 0, 0⟩,
  ⟨"BR_FDB_KEY", 0xb1100, 1, 8, 1, 8, true, .perInit, false, 0, [], 0x1fffffffffffffff, 0, 0, 0⟩,
  ⟨"BR_FDB_DATA", 0xb1108, 1, 8, 1, 8, false, .perInit, false, 0, [], 0xff1fffff, 0, 0, 0⟩,
  ⟨"BR_FDB_CMD", 0xb1110, 1, 8, 1, 8, false, .one, false, 0, [], 0, 0, 0, 0x3fff0007⟩,
  ⟨"BR_FDB_RES", 0xb1118, 1, 8, 1, 8, false, .perInit, false, 0, [], 0, 0, 0x3fff001f, 0⟩,
  ⟨"BR_FDB_STAT", 0xb1120, 1, 8, 1, 8, false, .one, false, 0x80000000, [], 0, 0, 0, 0⟩,
  ⟨"EGR_PORT_SCHED", 0xb1200, 11, 0x40, 1, 8, true, .one, false, 0xff, [], 0xff, 0, 0, 0⟩,
  ⟨"EGR_PORT_QUANTUM", 0xb1208, 11, 0x40, 1, 8, true, .one, false, 0x1818181818181818, [], 0xffffffffffffffff, 0, 0, 0⟩,
  ⟨"EGR_PORT_QUOTA0", 0xb1210, 11, 0x40, 1, 8, true, .one, false, 0x400040004000400, [], 0xffffffffffffffff, 0, 0, 0⟩,
  ⟨"EGR_PORT_QUOTA1", 0xb1218, 11, 0x40, 1, 8, true, .one, false, 0x400040004000400, [], 0xffffffffffffffff, 0, 0, 0⟩,
  ⟨"EGR_PORT_STAT", 0xb1220, 11, 0x40, 1, 8, true, .one, false, 0, [], 0, 0, 0, 0⟩,
  ⟨"EGR_PART_QUOTA", 0xb1600, 8, 8, 1, 8, true, .one, false, 0x200, [], 0xffff, 0, 0, 0⟩,
  ⟨"MIR_SESS", 0xb1700, 4, 8, 1, 8, false, .one, false, 0, [], 0x1ff, 0, 0, 0⟩,
  ⟨"MTR_CFG", 0xb1800, 64, 0x10, 1, 8, true, .one, false, 0, [], 0xffffffffffff, 0, 0, 0⟩,
  ⟨"MTR_STAT", 0xb1808, 64, 0x10, 1, 8, false, .one, false, 0, [], 0, 0, 0, 0⟩,
  ⟨"BR_VLAN", 0xb8000, 4096, 8, 1, 8, true, .one, false, 2, [(1, 0x3fffff03)], 0x3fffffff03, 0, 0, 0⟩,
  ⟨"EGR_CNT", 0xb2000, 8, 0x100, 25, 8, true, .one, false, 0, [], 0, 0, 0, 0⟩,
  ⟨"MTR_CNT", 0xb3000, 64, 0x10, 2, 8, true, .one, false, 0, [], 0, 0, 0, 0⟩,
  ⟨"TIME_CFG", 0xc0000, 1, 8, 1, 8, false, .one, false, 0x25803e8, [], 0xffffffff, 0, 0, 0⟩]

/-- Rows of the register index (R538), part 4. -/
def regRows4 : List RegRow := [
  ⟨"TIME_STAT", 0xc0008, 1, 8, 1, 8, false, .one, false, 0, [], 0, 0, 0, 0⟩,
  ⟨"TIME_EVT", 0xc0010, 1, 8, 1, 8, false, .one, false, 0, [], 0, 0x1ff, 0, 0⟩,
  ⟨"TIME_CMD", 0xc0018, 1, 8, 1, 8, true, .one, false, 0, [], 0, 0, 0, 0xffffffffff01ff⟩,
  ⟨"TIME_RATE", 0xc0020, 1, 8, 1, 8, true, .one, false, 0, [], 0xffffffffff, 0, 0, 0⟩,
  ⟨"TIME_STEP", 0xc0028, 1, 8, 1, 8, true, .one, false, 0, [], 0, 0, 0, 0xffffffffffffffff⟩,
  ⟨"TIME_REF", 0xc0070, 1, 8, 1, 8, true, .one, false, 0x3e80000, [], 0x3ff0001, 0, 0, 0⟩,
  ⟨"TIME_UTC", 0xc0078, 1, 8, 1, 8, false, .one, false, 0, [], 0x7ffff, 0, 0, 0⟩,
  ⟨"TIME_CKPT_LAST", 0xc0080, 1, 8, 1, 8, true, .one, false, 0, [], 0, 0, 0, 0⟩,
  ⟨"TIME_SVC_CFG", 0xc0088, 1, 8, 1, 8, true, .one, false, 0xc8006408000104, [], 0xffffffffffffff1f, 0, 0, 0⟩,
  ⟨"TIME_SVC_LIM", 0xc0090, 1, 8, 1, 8, true, .one, false, 0x3e8, [], 0xffffffff, 0, 0, 0⟩,
  ⟨"TIME_NOW_SEC", 0xc0058, 1, 8, 1, 8, true, .perInit, false, 0, [], 0, 0, 0, 0⟩,
  ⟨"TIME_OFFSET", 0xc0030, 1, 8, 1, 8, true, .one, false, 0, [], 0, 0, 0, 0⟩,
  ⟨"TIME_OFFSET_FRAC", 0xc0038, 1, 8, 1, 8, true, .one, false, 0, [], 0, 0, 0, 0⟩,
  ⟨"TIME_ANCHOR", 0xc0040, 1, 8, 1, 8, true, .one, false, 0, [], 0, 0, 0, 0⟩,
  ⟨"TIME_FRC", 0xc0048, 1, 8, 1, 8, true, .one, false, 0, [], 0, 0, 0, 0⟩,
  ⟨"TIME_NOW_NS", 0xc0050, 1, 8, 1, 8, true, .one, false, 0, [], 0, 0, 0, 0⟩,
  ⟨"TIME_NOW_NSEC", 0xc0060, 1, 8, 1, 8, false, .perInit, false, 0, [], 0, 0, 0, 0⟩,
  ⟨"TIME_NOW_FRC", 0xc0068, 1, 8, 1, 8, true, .perInit, false, 0, [], 0, 0, 0, 0⟩,
  ⟨"TIME_CAP_CTRL", 0xc0100, 6, 0x10, 1, 8, false, .one, false, 2, [], 7, 0x200, 0, 0⟩,
  ⟨"TIME_CAP_TS", 0xc0108, 6, 0x10, 1, 8, true, .one, false, 0, [], 0, 0, 0xffffffffffffffff, 0⟩,
  ⟨"TIME_OUT_CFG", 0xc0200, 4, 0x20, 1, 8, true, .one, false, 0x6400000008, [], 0xffffffff0000ff0f, 0, 0, 0⟩,
  ⟨"TIME_PPS_CFG", 0xc0300, 2, 8, 1, 8, true, .one, false, 0x6400000008, [], 0xffffffff0000ff0f, 0, 0, 0⟩,
  ⟨"TIME_OUT_START", 0xc0208, 4, 0x20, 1, 8, true, .one, false, 0, [], 0xffffffffffffffff, 0, 0, 0⟩,
  ⟨"TIME_OUT_PERIOD", 0xc0210, 4, 0x20, 1, 8, true, .one, false, 0x3b9aca00, [], 0xffffffffffff, 0, 0, 0⟩,
  ⟨"TIME_CNT", 0xc0800, 8, 8, 1, 8, true, .one, false, 0, [], 0, 0, 0, 0⟩,
  ⟨"INT_SRC_CFG", 0xc8000, 256, 8, 1, 8, true, .one, false, 0x100, [], 0xffffffffff0f, 0, 0, 0⟩,
  ⟨"INT_SRC_STAT", 0xc8800, 256, 8, 1, 8, false, .one, false, 0xf0000, [(0, 0x3f0000), (1, 0x3f0000), (2, 0x3f0000), (3, 0x3f0000), (4, 0x3f0000), (5, 0x3f0000), (6, 0x3f0000), (7, 0x3f0000), (8, 0x3f0000), (9, 0x3f0000), (10, 0x3f0000), (11, 0x3f0000), (12, 0x3f0000), (13, 0x3f0000), (14, 0x3f0000), (15, 0x3f0000), (16, 0x3f0000), (17, 0x3f0000), (18, 0x3f0000), (19, 0x3f0000), (20, 0x3f0000), (21, 0x3f0000), (22, 0x3f0000), (23, 0x3f0000), (24, 0x3f0000), (32, 0x1f0000), (33, 0x1f0000), (34, 0x1f0000), (35, 0x1f0000), (36, 0x1f0000), (37, 0x1f0000), (38, 0x1f0000), (39, 0x1f0000), (40, 0x1f0000), (41, 0x1f0000), (42, 0x1f0000), (72, 0x1f0000), (73, 0x1f0000), (74, 0x1f0000), (75, 0x1f0000), (76, 0x1f0000), (77, 0x1f0000), (78, 0x1f0000), (79, 0x1f0000), (80, 0x1f0000), (81, 0x1f0000), (82, 0x1f0000), (83, 0x1f0000), (84, 0x1f0000), (85, 0x1f0000), (86, 0x1f0000), (87, 0x1f0000), (97, 0x1f0000), (98, 0x1f0000), (99, 0x1f0000), (100, 0x1f0000), (101, 0x1f0000), (102, 0x1f0000), (103, 0x1f0000), (104, 0x1f0000), (105, 0x1f0000), (106, 0x1f0000), (107, 0x1f0000), (108, 0x1f0000), (109, 0x1f0000), (129, 0x1f0000), (160, 0x1f0000), (161, 0x1f0000), (162, 0x1f0000), (163, 0x1f0000), (164, 0x1f0000), (165, 0x1f0000), (166, 0x1f0000), (167, 0x1f0000), (168, 0x1f0000), (169, 0x1f0000), (170, 0x1f0000), (171, 0x1f0000), (172, 0x1f0000), (173, 0x1f0000), (174, 0x1f0000), (175, 0x1f0000), (178, 0x1f0000), (192, 0x1f0000), (193, 0x1f0000), (194, 0x1f0000), (195, 0x1f0000), (209, 0x1f0000), (210, 0x1f0000), (211, 0x1f0000)], 0, 0, 0, 0⟩,
  ⟨"INT_PEND", 0xc9000, 4, 8, 1, 8, true, .one, false, 0, [], 0, 0xffffffffffffffff, 0, 0⟩,
  ⟨"INT_BTMR", 0xc9100, 8, 8, 1, 8, true, .one, false, 0x10000, [], 0xffff0003, 0, 0, 0⟩,
  ⟨"INT_AON_CFG", 0xc9200, 1, 8, 1, 8, true, .one, true, 0xfaaaffffa, [], 0xfffffffff, 0, 0, 0⟩,
  ⟨"INT_AON_LATCH", 0xc9208, 1, 8, 1, 8, false, .one, true, 0, [], 0, 0, 0, 0⟩,
  ⟨"INT_CNT", 0xc9800, 8, 8, 1, 8, true, .one, false, 0, [], 0, 0, 0, 0⟩,
  ⟨"INT_TGT_CTRL", 0xcc000, 16, 0x100, 1, 8, false, .one, false, 0, [], 0x73, 0, 0, 0⟩,
  ⟨"INT_TGT_CLAIM", 0xcc008, 16, 0x100, 1, 8, false, .one, false, 0x3ff, [], 0, 0, 0x3ff, 0⟩,
  ⟨"INT_TGT_COMPLETE", 0xcc010, 16, 0x100, 1, 8, false, .one, false, 0, [], 0, 0, 0, 0x3ff⟩,
  ⟨"INT_TGT_STAT", 0xcc018, 16, 0x100, 1, 8, false, .one, false, 0, [], 0, 2, 0, 0⟩,
  ⟨"ROLL_CFG", 0xd0000, 1, 8, 1, 8, true, .one, false, 0xf000fa, [], 0xfffffff00ff77ff, 0, 0, 0⟩,
  ⟨"ROLL_LIM", 0xd0008, 1, 8, 1, 8, true, .one, false, 0x10000000008, [], 0xffff0000ffff, 0, 0, 0⟩,
  ⟨"ROLL_STATION", 0xd0010, 1, 8, 1, 8, true, .one, false, 0, [], 0xffffffffffffffff, 0, 0, 0⟩,
  ⟨"ROLL_SMAC", 0xd0018, 1, 8, 1, 8, true, .one, false, 0, [], 0xffffffffffff, 0, 0, 0⟩]

/-- Rows of the register index (R538), part 5. -/
def regRows5 : List RegRow := [
  ⟨"ROLL_STAT", 0xd0020, 1, 8, 1, 8, true, .one, false, 0, [], 0, 0, 0, 0⟩,
  ⟨"ROLL_EVT", 0xd0028, 1, 8, 1, 8, false, .one, false, 0, [], 0, 0xff, 0, 0⟩,
  ⟨"ROLL_ABSENT", 0xd0030, 1, 8, 1, 8, false, .one, false, 0, [], 0, 0, 0x1ffff, 0⟩,
  ⟨"ROLL_BELL", 0xd0038, 1, 8, 1, 8, false, .one, false, 0, [], 0, 0, 0, 0⟩,
  ⟨"ROLL_NBR_KEY", 0xd0040, 1, 8, 1, 8, true, .perInit, false, 0, [], 0xffffffffffffffff, 0, 0, 0⟩,
  ⟨"ROLL_NBR_DATA", 0xd0048, 1, 8, 1, 8, true, .perInit, false, 0, [], 0x7fffffff, 0, 0, 0⟩,
  ⟨"ROLL_NBR_INFO", 0xd0050, 1, 8, 1, 8, true, .perInit, false, 0, [], 0, 0, 0, 0⟩,
  ⟨"ROLL_NBR_CMD", 0xd0058, 1, 8, 1, 8, true, .one, false, 0, [], 0, 0, 0, 0xffffffff0007⟩,
  ⟨"ROLL_NBR_RES", 0xd0060, 1, 8, 1, 8, false, .perInit, false, 0, [], 0, 0, 0xffff003f, 0⟩,
  ⟨"ROLL_DEST_CFG", 0xd0100, 8, 0x20, 1, 8, true, .one, false, 0x5ea0000, [], 0xffff3fff07ff, 0, 0, 0⟩,
  ⟨"ROLL_DEST_DMAC", 0xd0108, 8, 0x20, 1, 8, true, .one, false, 0, [], 0xffffffffffff, 0, 0, 0⟩,
  ⟨"ROLL_DEST_SEQ", 0xd0110, 8, 0x20, 1, 8, false, .one, false, 0, [], 0, 0, 0, 0⟩,
  ⟨"ROLL_CNT", 0xd0800, 16, 8, 1, 8, true, .one, false, 0, [], 0, 0, 0, 0⟩,
  ⟨"CRC_CFG", 0xd8000, 4, 0x100, 1, 8, true, .one, false, 0x2000, [], 0xfff0f7f7f, 0, 0, 0⟩,
  ⟨"CRC_POLY", 0xd8008, 4, 0x100, 1, 8, true, .one, false, 0x1edc6f41, [], 0xffffffffffffffff, 0, 0, 0⟩,
  ⟨"CRC_INIT", 0xd8010, 4, 0x100, 1, 8, true, .one, false, 0xffffffff, [], 0xffffffffffffffff, 0, 0, 0⟩,
  ⟨"CRC_XOROUT", 0xd8018, 4, 0x100, 1, 8, true, .one, false, 0xffffffff, [], 0xffffffffffffffff, 0, 0, 0⟩,
  ⟨"CRC_TAG", 0xd8020, 4, 0x100, 1, 8, false, .one, false, 0, [], 0xffffffff, 0, 0, 0⟩,
  ⟨"CRC_VALUE", 0xd8028, 4, 0x100, 1, 8, true, .one, false, 0, [], 0xffffffffffffffff, 0, 0, 0⟩,
  ⟨"CRC_RESULT", 0xd8030, 4, 0x100, 1, 8, true, .one, false, 0xffffffff, [], 0, 0, 0, 0⟩,
  ⟨"CRC_DATA", 0xd8038, 4, 0x100, 1, 8, true, .one, false, 0, [], 0, 0, 0, 0xffffffffffffffff⟩,
  ⟨"CRC_DATA1", 0xd8040, 4, 0x100, 1, 8, false, .one, false, 0, [], 0, 0, 0, 0xff⟩,
  ⟨"CRC_CMD", 0xd8048, 4, 0x100, 1, 8, false, .one, false, 0, [], 0, 0, 0, 3⟩,
  ⟨"CRC_STAT", 0xd8050, 4, 0x100, 1, 8, false, .one, false, 0, [], 0, 0xc0, 0, 0⟩,
  ⟨"CRC_FIFO_TAG", 0xd8058, 4, 0x100, 1, 8, true, .one, false, 0, [], 0, 0, 0, 0⟩,
  ⟨"CRC_FIFO_VAL", 0xd8060, 4, 0x100, 1, 8, true, .one, false, 0, [], 0, 0, 0xffffffffffffffff, 0⟩,
  ⟨"CRC_CNT", 0xd8800, 8, 8, 1, 8, true, .one, false, 0, [], 0, 0, 0, 0⟩,
  ⟨"SC_CTRL", 0xd9000, 2, 0x40, 1, 8, false, .one, false, 0x1f400033, [], 0xffff00f3, 0, 0, 0xc⟩,
  ⟨"SC_STAT", 0xd9008, 2, 0x40, 1, 8, false, .one, false, 0, [], 0, 0, 0, 0⟩,
  ⟨"SC_SVC_CFG", 0xd9100, 1, 8, 1, 8, true, .one, false, 0x1f4000f00500, [], 0xffff00ff0fff, 0, 0, 0⟩,
  ⟨"SC_EVT", 0xd9108, 1, 8, 1, 8, false, .one, false, 0, [], 0, 0x1f, 0, 0⟩,
  ⟨"SC_TX_DESC0", 0xd9200, 1, 8, 1, 8, true, .perCore, false, 0, [], 0x3fffffffffffffff, 0, 0, 0⟩,
  ⟨"SC_TX_LAUNCH", 0xd9208, 1, 8, 1, 8, true, .perCore, false, 0, [], 0xffffffffffffffff, 0, 0, 0⟩,
  ⟨"SC_TX_DESC1", 0xd9210, 1, 8, 1, 8, false, .perCore, false, 0, [], 0, 0, 0, 0xfff1fff⟩,
  ⟨"SC_TX_DONE_TS", 0xd9218, 1, 8, 1, 8, true, .perCore, false, 0, [], 0, 0, 0, 0⟩,
  ⟨"SC_TX_DONE", 0xd9220, 1, 8, 1, 8, true, .perCore, false, 0, [], 0, 0, 0x1ffffffff, 0⟩,
  ⟨"SC_RX_POP", 0xd9228, 1, 8, 1, 8, true, .perCore, false, 0, [], 0, 0, 0x1ffffffff, 0⟩,
  ⟨"MBX_DB", 0xd9300, 1, 8, 1, 8, true, .one, false, 0, [], 0, 0, 0, 0xffffffff000f⟩,
  ⟨"MBX_DB_RES", 0xd9308, 1, 8, 1, 8, false, .perInit, false, 0, [], 0, 0, 0xf, 0⟩,
  ⟨"MBX_DONE", 0xd9310, 1, 8, 1, 8, true, .perCore, false, 0, [], 0, 0, 0, 0x1ffffffffff000f⟩]

/-- Rows of the register index (R538), part 6. -/
def regRows6 : List RegRow := [
  ⟨"MBX_STAT", 0xd9400, 16, 8, 1, 8, false, .one, false, 0, [], 0, 0, 0, 0⟩,
  ⟨"SC_CNT", 0xd9800, 8, 8, 1, 8, true, .one, false, 0, [], 0, 0, 0, 0⟩,
  ⟨"PMU_CTRL", 0xda000, 1, 8, 1, 8, false, .one, false, 0, [], 3, 0, 0, 0⟩,
  ⟨"PMU_OVF", 0xda008, 1, 8, 1, 8, false, .one, false, 0, [], 0, 0xffff, 0, 0⟩,
  ⟨"PMU_EVSEL", 0xda100, 16, 8, 1, 8, false, .one, false, 0x300, [], 0xfff, 0, 0, 0⟩,
  ⟨"PMU_CNT", 0xda200, 16, 8, 1, 8, true, .one, false, 0, [], 0xffffffff, 0, 0, 0⟩,
  ⟨"PMU_SAMP_CFG", 0xda300, 1, 8, 1, 8, false, .one, false, 0x400020c, [], 0xffffff0f, 0, 0, 0⟩,
  ⟨"PMU_SAMP_STAT", 0xda308, 1, 8, 1, 8, false, .one, false, 0, [], 0, 0, 0, 0⟩,
  ⟨"PMU_SAMP", 0xdb000, 256, 0x10, 2, 8, true, .one, false, 0, [], 0, 0, 0, 0⟩,
  ⟨"NVM_CFG", 0xe0000, 1, 8, 1, 8, false, .one, false, 0x30, [], 0, 0, 0, 0⟩,
  ⟨"LDR_STAT", 0xe0008, 1, 8, 1, 8, true, .one, false, 0, [], 0, 0, 0, 0⟩,
  ⟨"LDR_EVT", 0xe0010, 1, 8, 1, 8, false, .one, false, 0, [], 0, 0x3f, 0, 0⟩,
  ⟨"NVM_CMD", 0xe0020, 1, 8, 1, 8, true, .one, false, 0, [], 0, 0, 0, 0xffffff07⟩,
  ⟨"NVM_STAT", 0xe0028, 1, 8, 1, 8, true, .one, false, 0, [], 0, 0, 0, 0⟩,
  ⟨"NVM_BUF", 0xe0100, 32, 8, 1, 8, true, .one, false, 0, [], 0xffffffffffffffff, 0, 0, 0⟩,
  ⟨"LDG_STAT", 0xe0800, 1, 8, 1, 8, true, .one, false, 7, [], 0, 0, 0, 0⟩,
  ⟨"LDG_EVT", 0xe0808, 1, 8, 1, 8, false, .one, false, 0, [], 0, 0x1f, 0, 0⟩,
  ⟨"LDG_RD_ADDR", 0xe0810, 1, 8, 1, 8, false, .perInit, false, 0, [], 0x1fff, 0, 0, 0⟩,
  ⟨"LDG_RD_DATA", 0xe0818, 1, 8, 1, 8, true, .perInit, false, 0, [], 0, 0, 0, 0⟩,
  ⟨"LDG_FW_ADDR", 0xe0820, 1, 8, 1, 8, false, .one, false, 0, [], 0x7ff, 0, 0, 0⟩,
  ⟨"LDG_FW_DATA", 0xe0828, 1, 8, 1, 8, true, .one, false, 0, [], 0, 0, 0, 0xffffffffffffffff⟩,
  ⟨"PROT_CFG", 0xe1000, 1, 8, 1, 8, false, .one, false, 2, [], 0xff, 0, 0, 0⟩,
  ⟨"PROT_CMD", 0xe1008, 1, 8, 1, 8, true, .one, false, 0, [], 0, 0, 0, 0xffffffff00000003⟩,
  ⟨"PROT_CMD_RES", 0xe1010, 1, 8, 1, 8, true, .perInit, false, 0, [], 0, 0, 0xffffffff0000003f, 0⟩,
  ⟨"PROT_APPROVE_DG", 0xe1018, 1, 8, 1, 8, true, .perInit, false, 0, [], 0xffffffffffffffff, 0, 0, 0⟩,
  ⟨"PROT_STG_CTRL", 0xe1020, 1, 8, 1, 8, false, .perInit, false, 0, [], 0x3ff000f, 0, 0, 0⟩,
  ⟨"PROT_STG_VAL", 0xe1040, 6, 8, 1, 8, true, .perInit, false, 0, [], 0xffffffffffffffff, 0, 0, 0⟩,
  ⟨"PROT_PROP_VAL", 0xe10c0, 6, 8, 1, 8, true, .one, false, 0, [], 0, 0, 0, 0⟩,
  ⟨"PROT_PROP_STAT", 0xe1080, 1, 8, 1, 8, true, .one, false, 0, [], 0, 0, 0, 0⟩,
  ⟨"PROT_PROP_INFO", 0xe1088, 1, 8, 1, 8, true, .one, false, 0, [], 0, 0, 0, 0⟩,
  ⟨"PROT_PROP_DIGEST", 0xe1100, 4, 8, 1, 8, true, .one, false, 0, [], 0, 0, 0, 0⟩,
  ⟨"PROT_EVT", 0xe1140, 1, 8, 1, 8, false, .one, false, 0, [], 0, 0x3ff, 0, 0⟩,
  ⟨"PROT_DENY_LOG", 0xe1148, 1, 8, 1, 8, true, .one, false, 0, [], 0, 0, 0, 0⟩,
  ⟨"PROT_SEC_STAT", 0xe1150, 1, 8, 1, 8, false, .one, false, 0, [], 0, 0, 0, 0⟩,
  ⟨"PROT_SECPAGE", 0xe1200, 16, 8, 1, 8, false, .one, false, 3, [], 0, 0, 0, 0⟩,
  ⟨"PROT_INIT", 0xe2000, 258, 8, 1, 8, true, .one, false, 0, [(0, 0x8000001c10101), (1, 0x9000002c10102), (2, 0xa000004c10104), (3, 0xb000008c10108), (4, 0xc000010c10110), (5, 0xd000020c10120), (6, 0xe000040c10140), (7, 0xf000080c10180), (16, 0x30ffffffffffff), (254, 0x30120000ffffff), (255, 0x30ffffffffffff), (256, 0x10ffffffffffff), (257, 0x10ffffffffffff)], 0, 0, 0, 0⟩,
  ⟨"TAMPER_CFG", 0xe3000, 1, 8, 1, 8, true, .one, true, 0, [], 0x1ffffffff, 0, 0, 0⟩,
  ⟨"TAMPER_STAT", 0xe3008, 1, 8, 1, 8, false, .one, true, 0, [], 0, 0xff00, 0, 0⟩,
  ⟨"PROT_CNT", 0xe3800, 5, 8, 1, 8, true, .one, false, 0, [], 0, 0, 0, 0⟩]

/-- The whole register index (R538). -/
def regRows : List RegRow :=
  regRows0 ++ regRows1 ++ regRows2 ++ regRows3 ++ regRows4 ++ regRows5 ++ regRows6

/-- Does the slot at address `a` (a multiple of 8, R536) belong to row `r`? -/
def RegRow.covers (r : RegRow) (a : Nat) : Bool :=
  decide (r.base ≤ a) &&
    (let o := a - r.base
     decide (o / r.s1 < r.n1) && decide (o % r.s1 / r.s2 < r.n2) && decide (o % r.s1 % r.s2 = 0))

/-- The reset word of element i of a row. -/
def RegRow.resetAt (r : RegRow) (i : Nat) : Nat :=
  match r.overs.find? (fun p => p.1 == i) with
  | some p => p.2
  | none => r.reset

/-- The register at slot address `a`, if any (R12: no register, no effect). -/
def findReg (a : Nat) : Option RegRow := regRows.find? (fun r => r.covers a)

/-- First array index of slot address `a` in row `r`. -/
def RegRow.idx1 (r : RegRow) (a : Nat) : Nat := (a - r.base) / r.s1
/-- Second array index of slot address `a` in row `r`. -/
def RegRow.idx2 (r : RegRow) (a : Nat) : Nat := (a - r.base) % r.s1 / r.s2

/-- Copies of a register (per initiator or per core) are kept 2^20 apart, above the 1 MiB register space (R221, R436). -/
def copyStride : Nat := 0x100000

/-- The reset word of the register stored under key `k` (copy, address); 0 where no register lies (R12). -/
def resetWord (k : Nat) : BitVec 64 :=
  match findReg (k % copyStride) with
  | some r => BitVec.ofNat 64 (r.resetAt (r.idx1 (k % copyStride)))
  | none => 0

/-- Is the register under key `k` always-on (R538: kept through main-domain reset)? -/
def isAon (k : Nat) : Bool :=
  match findReg (k % copyStride) with
  | some r => r.aon
  | none => false

/-- The key of element (i, j) of a field's register. -/
def Fld.key (f : Fld) (i j : Nat) : Nat := f.base + i * f.s1 + j * f.s2
/-- The field in copy `c` (initiator identifier or core number) of a register with copies. -/
def Fld.of (f : Fld) (c : Nat) : Fld := { f with base := f.base + (c + 1) * copyStride }

end Sys2Proof.Machine
end

