-- ==== Sys2Proof/Machine/Fields.lean ====
section
/-! DEFINITION. The register fields of the spec's field tables by name: REGISTER.FIELD with its place (R9, R538). The index
letter of a register name (PORTn, POOLp) is left out: the element is the first argument of State.get and State.put. -/

namespace Sys2Proof.Machine

/-- PART_CTRL (R338), whole word -/
def PART_CTRL.reg : Fld := ⟨0, 0x10000, 0, 0, 32⟩
def PART_CTRL.EN : Fld := ⟨0, 0x10000, 0, 0, 1⟩
def PART_CTRL.RX_LONG : Fld := ⟨0, 0x10000, 0, 1, 1⟩
def PART_CTRL.PVID : Fld := ⟨0, 0x10000, 0, 4, 12⟩
/-- PART_CMD (R338), whole word -/
def PART_CMD.reg : Fld := ⟨8, 0x10000, 0, 0, 32⟩
def PART_CMD.ACTION : Fld := ⟨8, 0x10000, 0, 0, 2⟩
/-- PART_STAT (R338), whole word -/
def PART_STAT.reg : Fld := ⟨0x10, 0x10000, 0, 0, 64⟩
def PART_STAT.STATE : Fld := ⟨0x10, 0x10000, 0, 0, 3⟩
def PART_STAT.TXC_STALL : Fld := ⟨0x10, 0x10000, 0, 3, 1⟩
def PART_STAT.RXC_STALL : Fld := ⟨0x10, 0x10000, 0, 4, 1⟩
def PART_STAT.ALLOC_WAIT : Fld := ⟨0x10, 0x10000, 0, 5, 1⟩
def PART_STAT.TX_INPROG : Fld := ⟨0x10, 0x10000, 0, 8, 7⟩
def PART_STAT.TXC_HELD : Fld := ⟨0x10, 0x10000, 0, 16, 7⟩
def PART_STAT.RXC_HELD : Fld := ⟨0x10, 0x10000, 0, 24, 7⟩
def PART_STAT.RX_BUFS : Fld := ⟨0x10, 0x10000, 0, 32, 16⟩
def PART_STAT.RX_DROP_OTHER : Fld := ⟨0x10, 0x10000, 0, 48, 16⟩
/-- PART_EVT (R338), whole word -/
def PART_EVT.reg : Fld := ⟨0x18, 0x10000, 0, 0, 32⟩
def PART_EVT.FENCED : Fld := ⟨0x18, 0x10000, 0, 0, 1⟩
def PART_EVT.RESET_DONE : Fld := ⟨0x18, 0x10000, 0, 1, 1⟩
def PART_EVT.TXC_FULL : Fld := ⟨0x18, 0x10000, 0, 2, 1⟩
def PART_EVT.RXC_FULL : Fld := ⟨0x18, 0x10000, 0, 3, 1⟩
def PART_EVT.RX_NO_BUF : Fld := ⟨0x18, 0x10000, 0, 4, 1⟩
def PART_EVT.DB_ERR : Fld := ⟨0x18, 0x10000, 0, 5, 1⟩
def PART_EVT.PUSH_DISCARD : Fld := ⟨0x18, 0x10000, 0, 6, 1⟩
def PART_EVT.MALFORMED : Fld := ⟨0x18, 0x10000, 0, 7, 1⟩
def PART_EVT.CFG_REFUSED : Fld := ⟨0x18, 0x10000, 0, 8, 1⟩
def PART_EVT.CMD_REFUSED : Fld := ⟨0x18, 0x10000, 0, 9, 1⟩
/-- PART_ERR_LOG (R338), whole word -/
def PART_ERR_LOG.reg : Fld := ⟨0x20, 0x10000, 0, 0, 64⟩
def PART_ERR_LOG.PTR : Fld := ⟨0x20, 0x10000, 0, 0, 17⟩
def PART_ERR_LOG.RING : Fld := ⟨0x20, 0x10000, 0, 17, 2⟩
def PART_ERR_LOG.CODE : Fld := ⟨0x20, 0x10000, 0, 24, 8⟩
def PART_ERR_LOG.TAG : Fld := ⟨0x20, 0x10000, 0, 32, 16⟩
def PART_ERR_LOG.FENCE : Fld := ⟨0x20, 0x10000, 0, 48, 1⟩
def PART_ERR_LOG.VALID : Fld := ⟨0x20, 0x10000, 0, 49, 1⟩
/-- PART_GEN (R338), whole word -/
def PART_GEN.reg : Fld := ⟨0x28, 0x10000, 0, 0, 32⟩
def PART_GEN.TX_GEN : Fld := ⟨0x28, 0x10000, 0, 0, 16⟩
def PART_GEN.RX_GEN : Fld := ⟨0x28, 0x10000, 0, 16, 16⟩
/-- PART_TXQ_BASE (R338), whole word -/
def PART_TXQ_BASE.reg : Fld := ⟨0x40, 0x10000, 0, 0, 64⟩
def PART_TXQ_BASE.BASE : Fld := ⟨0x40, 0x10000, 0, 0, 48⟩
def PART_TXQ_BASE.SIZE : Fld := ⟨0x40, 0x10000, 0, 48, 4⟩
/-- PART_RXQ_BASE (R338), whole word -/
def PART_RXQ_BASE.reg : Fld := ⟨0x60, 0x10000, 0, 0, 64⟩
def PART_RXQ_BASE.BASE : Fld := ⟨0x60, 0x10000, 0, 0, 48⟩
def PART_RXQ_BASE.SIZE : Fld := ⟨0x60, 0x10000, 0, 48, 4⟩
/-- PART_TXC_BASE (R338), whole word -/
def PART_TXC_BASE.reg : Fld := ⟨0x80, 0x10000, 0, 0, 64⟩
def PART_TXC_BASE.BASE : Fld := ⟨0x80, 0x10000, 0, 0, 48⟩
def PART_TXC_BASE.SIZE : Fld := ⟨0x80, 0x10000, 0, 48, 4⟩
/-- PART_RXC_BASE (R338), whole word -/
def PART_RXC_BASE.reg : Fld := ⟨0xa0, 0x10000, 0, 0, 64⟩
def PART_RXC_BASE.BASE : Fld := ⟨0xa0, 0x10000, 0, 0, 48⟩
def PART_RXC_BASE.SIZE : Fld := ⟨0xa0, 0x10000, 0, 48, 4⟩
/-- PART_TXQ_DB (R338), whole word -/
def PART_TXQ_DB.reg : Fld := ⟨0x48, 0x10000, 0, 0, 32⟩
def PART_TXQ_DB.TAIL : Fld := ⟨0x48, 0x10000, 0, 0, 17⟩
/-- PART_RXQ_DB (R338), whole word -/
def PART_RXQ_DB.reg : Fld := ⟨0x68, 0x10000, 0, 0, 32⟩
def PART_RXQ_DB.TAIL : Fld := ⟨0x68, 0x10000, 0, 0, 17⟩
/-- PART_TXQ_HEAD (R338), whole word -/
def PART_TXQ_HEAD.reg : Fld := ⟨0x50, 0x10000, 0, 0, 32⟩
def PART_TXQ_HEAD.HEAD : Fld := ⟨0x50, 0x10000, 0, 0, 17⟩
/-- PART_RXQ_HEAD (R338), whole word -/
def PART_RXQ_HEAD.reg : Fld := ⟨0x70, 0x10000, 0, 0, 32⟩
def PART_RXQ_HEAD.HEAD : Fld := ⟨0x70, 0x10000, 0, 0, 17⟩
/-- PART_TXC_HEAD (R338), whole word -/
def PART_TXC_HEAD.reg : Fld := ⟨0x88, 0x10000, 0, 0, 32⟩
def PART_TXC_HEAD.HEAD : Fld := ⟨0x88, 0x10000, 0, 0, 17⟩
/-- PART_RXC_HEAD (R338), whole word -/
def PART_RXC_HEAD.reg : Fld := ⟨0xa8, 0x10000, 0, 0, 32⟩
def PART_RXC_HEAD.HEAD : Fld := ⟨0xa8, 0x10000, 0, 0, 17⟩
/-- PART_TXC_TAIL (R338), whole word -/
def PART_TXC_TAIL.reg : Fld := ⟨0x90, 0x10000, 0, 0, 32⟩
def PART_TXC_TAIL.TAIL : Fld := ⟨0x90, 0x10000, 0, 0, 17⟩
/-- PART_RXC_TAIL (R338), whole word -/
def PART_RXC_TAIL.reg : Fld := ⟨0xb0, 0x10000, 0, 0, 32⟩
def PART_RXC_TAIL.TAIL : Fld := ⟨0xb0, 0x10000, 0, 0, 17⟩
/-- PART_CNT (R338), whole word -/
def PART_CNT.reg : Fld := ⟨0x800, 0x10000, 8, 0, 64⟩
def PART_CNT.COUNT : Fld := ⟨0x800, 0x10000, 8, 0, 48⟩
/-- GLB_ID (R2), whole word -/
def GLB_ID.reg : Fld := ⟨0x80000, 0, 0, 0, 32⟩
def GLB_ID.REL_MAJOR : Fld := ⟨0x80000, 0, 0, 16, 8⟩
def GLB_ID.REL_MINOR : Fld := ⟨0x80000, 0, 0, 8, 8⟩
def GLB_ID.REL_PATCH : Fld := ⟨0x80000, 0, 0, 0, 8⟩
/-- GLB_MODE (R35), whole word -/
def GLB_MODE.reg : Fld := ⟨0x80008, 0, 0, 0, 32⟩
def GLB_MODE.MODE : Fld := ⟨0x80008, 0, 0, 0, 3⟩
def GLB_MODE.CAUSE : Fld := ⟨0x80008, 0, 0, 8, 4⟩
def GLB_MODE.REQ_PEND : Fld := ⟨0x80008, 0, 0, 16, 1⟩
def GLB_MODE.REQ_TARGET : Fld := ⟨0x80008, 0, 0, 17, 3⟩
def GLB_MODE.REQ_ERR : Fld := ⟨0x80008, 0, 0, 20, 1⟩
/-- GLB_MODE_REQ (R35), whole word -/
def GLB_MODE_REQ.reg : Fld := ⟨0x80010, 0, 0, 0, 32⟩
def GLB_MODE_REQ.TARGET : Fld := ⟨0x80010, 0, 0, 0, 3⟩
/-- GLB_ROLE_SEL (R26), whole word -/
def GLB_ROLE_SEL.reg : Fld := ⟨0x80040, 0, 0, 0, 32⟩
def GLB_ROLE_SEL.UNIT : Fld := ⟨0x80040, 0, 0, 0, 10⟩
/-- GLB_ROLE (R26), whole word -/
def GLB_ROLE.reg : Fld := ⟨0x80048, 0, 0, 0, 64⟩
def GLB_ROLE.OWNER : Fld := ⟨0x80048, 0, 0, 0, 4⟩
def GLB_ROLE.FUNC : Fld := ⟨0x80048, 0, 0, 4, 4⟩
def GLB_ROLE.GEN : Fld := ⟨0x80048, 0, 0, 16, 16⟩
def GLB_ROLE.PEND : Fld := ⟨0x80048, 0, 0, 32, 1⟩
def GLB_ROLE.PEND_OWNER : Fld := ⟨0x80048, 0, 0, 36, 4⟩
def GLB_ROLE.PEND_FUNC : Fld := ⟨0x80048, 0, 0, 40, 4⟩
/-- GLB_ROLE_CMD (R26), whole word -/
def GLB_ROLE_CMD.reg : Fld := ⟨0x80050, 0, 0, 0, 64⟩
def GLB_ROLE_CMD.UNIT : Fld := ⟨0x80050, 0, 0, 0, 10⟩
def GLB_ROLE_CMD.OWNER : Fld := ⟨0x80050, 0, 0, 16, 4⟩
def GLB_ROLE_CMD.FUNC : Fld := ⟨0x80050, 0, 0, 20, 4⟩
def GLB_ROLE_CMD.EXP_GEN : Fld := ⟨0x80050, 0, 0, 32, 16⟩
/-- GLB_ROLE_STAT (R26), whole word -/
def GLB_ROLE_STAT.reg : Fld := ⟨0x80058, 0, 0, 0, 32⟩
def GLB_ROLE_STAT.ACCEPTED : Fld := ⟨0x80058, 0, 0, 0, 1⟩
def GLB_ROLE_STAT.BUSY : Fld := ⟨0x80058, 0, 0, 1, 1⟩
def GLB_ROLE_STAT.STALE_REFUSED : Fld := ⟨0x80058, 0, 0, 2, 1⟩
def GLB_ROLE_STAT.OWNER_REFUSED : Fld := ⟨0x80058, 0, 0, 3, 1⟩
def GLB_ROLE_STAT.RANGE_REFUSED : Fld := ⟨0x80058, 0, 0, 4, 1⟩
/-- GLB_STALE_CNT (R26), whole word -/
def GLB_STALE_CNT.reg : Fld := ⟨0x80060, 0, 0, 0, 32⟩
def GLB_STALE_CNT.COUNT : Fld := ⟨0x80060, 0, 0, 0, 32⟩
/-- GLB_RST_CAUSE (R62), whole word -/
def GLB_RST_CAUSE.reg : Fld := ⟨0x80100, 0, 0, 0, 32⟩
def GLB_RST_CAUSE.AON_POR : Fld := ⟨0x80100, 0, 0, 0, 1⟩
def GLB_RST_CAUSE.PORST : Fld := ⟨0x80100, 0, 0, 1, 1⟩
def GLB_RST_CAUSE.CORE_RAIL : Fld := ⟨0x80100, 0, 0, 2, 1⟩
def GLB_RST_CAUSE.SRAM_RAIL : Fld := ⟨0x80100, 0, 0, 3, 1⟩
def GLB_RST_CAUSE.CLOCK_LOSS : Fld := ⟨0x80100, 0, 0, 4, 1⟩
def GLB_RST_CAUSE.SW_RESET : Fld := ⟨0x80100, 0, 0, 5, 1⟩
def GLB_RST_CAUSE.DEEP_WAKE : Fld := ⟨0x80100, 0, 0, 6, 1⟩
def GLB_RST_CAUSE.LEDGER_RAIL : Fld := ⟨0x80100, 0, 0, 7, 1⟩
def GLB_RST_CAUSE.LOST_CLK : Fld := ⟨0x80100, 0, 0, 8, 4⟩
/-- GLB_RST_CMD (R63), whole word -/
def GLB_RST_CMD.reg : Fld := ⟨0x80108, 0, 0, 0, 32⟩
def GLB_RST_CMD.CMD : Fld := ⟨0x80108, 0, 0, 0, 16⟩
/-- GLB_RAIL_STAT (R63), whole word -/
def GLB_RAIL_STAT.reg : Fld := ⟨0x80110, 0, 0, 0, 32⟩
def GLB_RAIL_STAT.PG_CORE : Fld := ⟨0x80110, 0, 0, 0, 1⟩
def GLB_RAIL_STAT.PG_SRAM : Fld := ⟨0x80110, 0, 0, 1, 1⟩
def GLB_RAIL_STAT.PG_LEDGER : Fld := ⟨0x80110, 0, 0, 2, 1⟩
def GLB_RAIL_STAT.LEDGER_AVAIL : Fld := ⟨0x80110, 0, 0, 3, 1⟩
def GLB_RAIL_STAT.LEDGER_HELD : Fld := ⟨0x80110, 0, 0, 4, 5⟩
/-- GLB_CLK_STAT (R57), whole word -/
def GLB_CLK_STAT.reg : Fld := ⟨0x80118, 0, 0, 0, 64⟩
def GLB_CLK_STAT.PRESENT : Fld := ⟨0x80118, 0, 0, 0, 11⟩
def GLB_CLK_STAT.AON_PRESENT : Fld := ⟨0x80118, 0, 0, 12, 1⟩
def GLB_CLK_STAT.LOST : Fld := ⟨0x80118, 0, 0, 32, 11⟩
def GLB_CLK_STAT.AON_LOST : Fld := ⟨0x80118, 0, 0, 44, 1⟩
/-- GLB_GPIO_OE (R66), whole word -/
def GLB_GPIO_OE.reg : Fld := ⟨0x80120, 0, 0, 0, 32⟩
def GLB_GPIO_OE.OE : Fld := ⟨0x80120, 0, 0, 0, 32⟩
/-- GLB_GPIO_OUT (R66), whole word -/
def GLB_GPIO_OUT.reg : Fld := ⟨0x80128, 0, 0, 0, 32⟩
def GLB_GPIO_OUT.OUT : Fld := ⟨0x80128, 0, 0, 0, 32⟩
/-- GLB_GPIO_IN (R66), whole word -/
def GLB_GPIO_IN.reg : Fld := ⟨0x80130, 0, 0, 0, 32⟩
def GLB_GPIO_IN.IN : Fld := ⟨0x80130, 0, 0, 0, 32⟩
/-- GLB_BELL_CFG (R88), whole word -/
def GLB_BELL_CFG.reg : Fld := ⟨0x80200, 0, 0, 0, 64⟩
def GLB_BELL_CFG.PERIOD : Fld := ⟨0x80200, 0, 0, 0, 21⟩
def GLB_BELL_CFG.TERM_BELLS : Fld := ⟨0x80200, 0, 0, 32, 16⟩
def GLB_BELL_CFG.ALIGN : Fld := ⟨0x80200, 0, 0, 48, 1⟩
def GLB_BELL_CFG.OUT_EN : Fld := ⟨0x80200, 0, 0, 49, 1⟩
/-- GLB_BELL_STAT (R88), whole word -/
def GLB_BELL_STAT.reg : Fld := ⟨0x80208, 0, 0, 0, 64⟩
def GLB_BELL_STAT.SRC : Fld := ⟨0x80208, 0, 0, 0, 1⟩
def GLB_BELL_STAT.ARMED : Fld := ⟨0x80208, 0, 0, 1, 1⟩
def GLB_BELL_STAT.CFG_PEND : Fld := ⟨0x80208, 0, 0, 2, 1⟩
def GLB_BELL_STAT.CFG_REFUSED : Fld := ⟨0x80208, 0, 0, 3, 1⟩
def GLB_BELL_STAT.REPHASED : Fld := ⟨0x80208, 0, 0, 4, 1⟩
def GLB_BELL_STAT.ST_VALID : Fld := ⟨0x80208, 0, 0, 5, 1⟩
def GLB_BELL_STAT.MAX_FIXED : Fld := ⟨0x80208, 0, 0, 16, 16⟩
/-- GLB_BELL_NUM (R88), whole word -/
def GLB_BELL_NUM.reg : Fld := ⟨0x80210, 0, 0, 0, 32⟩
def GLB_BELL_NUM.BELL : Fld := ⟨0x80210, 0, 0, 0, 32⟩
/-- GLB_TERM_NUM (R88), whole word -/
def GLB_TERM_NUM.reg : Fld := ⟨0x80218, 0, 0, 0, 32⟩
def GLB_TERM_NUM.TERM : Fld := ⟨0x80218, 0, 0, 0, 32⟩
/-- GLB_TERM_BELL (R88), whole word -/
def GLB_TERM_BELL.reg : Fld := ⟨0x80220, 0, 0, 0, 32⟩
def GLB_TERM_BELL.INDEX : Fld := ⟨0x80220, 0, 0, 0, 16⟩
/-- GLB_BELL_FRC (R88), whole word -/
def GLB_BELL_FRC.reg : Fld := ⟨0x80228, 0, 0, 0, 64⟩
def GLB_BELL_FRC.FRC : Fld := ⟨0x80228, 0, 0, 0, 64⟩
/-- GLB_BELL_ST (R88), whole word -/
def GLB_BELL_ST.reg : Fld := ⟨0x80230, 0, 0, 0, 64⟩
def GLB_BELL_ST.ST_NS : Fld := ⟨0x80230, 0, 0, 0, 64⟩
/-- GLB_CARD_STAT (R100), whole word -/
def GLB_CARD_STAT.reg : Fld := ⟨0x80238, 0, 0, 0, 64⟩
def GLB_CARD_STAT.LATEST : Fld := ⟨0x80238, 0, 0, 0, 1⟩
def GLB_CARD_STAT.VALID : Fld := ⟨0x80238, 0, 0, 1, 1⟩
def GLB_CARD_STAT.LATEST_TERM : Fld := ⟨0x80238, 0, 0, 32, 32⟩
/-- GLB_STEP_STAT (R95), whole word -/
def GLB_STEP_STAT.reg : Fld := ⟨0x80248, 0, 0, 0, 64⟩
def GLB_STEP_STAT.OP : Fld := ⟨0x80248, 0, 0, 0, 4⟩
def GLB_STEP_STAT.PEND : Fld := ⟨0x80248, 0, 0, 16, 8⟩
def GLB_STEP_STAT.CMD_WAIT_MAX : Fld := ⟨0x80248, 0, 0, 32, 16⟩
/-- GLB_CMDQ_STAT (R95), whole word -/
def GLB_CMDQ_STAT.reg : Fld := ⟨0x80250, 0, 0, 0, 32⟩
def GLB_CMDQ_STAT.DEPTH : Fld := ⟨0x80250, 0, 0, 0, 5⟩
def GLB_CMDQ_STAT.OVERFLOW : Fld := ⟨0x80250, 0, 0, 8, 1⟩
/-- PWR_CFG (R534), whole word -/
def PWR_CFG.reg : Fld := ⟨0x80400, 0, 0, 0, 64⟩
def PWR_CFG.WAKE_PORTS : Fld := ⟨0x80400, 0, 0, 0, 11⟩
def PWR_CFG.KEEP_FRAME : Fld := ⟨0x80400, 0, 0, 11, 1⟩
def PWR_CFG.LINK_WAKE : Fld := ⟨0x80400, 0, 0, 12, 1⟩
def PWR_CFG.ACC_WAKE : Fld := ⟨0x80400, 0, 0, 13, 1⟩
def PWR_CFG.MAGIC_EN : Fld := ⟨0x80400, 0, 0, 14, 1⟩
def PWR_CFG.LED_SLEEP : Fld := ⟨0x80400, 0, 0, 15, 1⟩
def PWR_CFG.DEEP_TMO_MS : Fld := ⟨0x80400, 0, 0, 32, 16⟩
/-- PWR_WATCH (R534), whole word -/
def PWR_WATCH.reg : Fld := ⟨0x80408, 0, 0, 0, 64⟩
def PWR_WATCH.WATCH_PORTS : Fld := ⟨0x80408, 0, 0, 0, 11⟩
def PWR_WATCH.KEEP_EN : Fld := ⟨0x80408, 0, 0, 16, 1⟩
def PWR_WATCH.KEEP_PTP : Fld := ⟨0x80408, 0, 0, 17, 1⟩
def PWR_WATCH.KEEP_ROLL : Fld := ⟨0x80408, 0, 0, 18, 1⟩
def PWR_WATCH.KEEP_PORT : Fld := ⟨0x80408, 0, 0, 20, 4⟩
def PWR_WATCH.RETURN_BELLS : Fld := ⟨0x80408, 0, 0, 32, 16⟩
/-- PWR_CMD (R534), whole word -/
def PWR_CMD.reg : Fld := ⟨0x80410, 0, 0, 0, 32⟩
def PWR_CMD.ACTION : Fld := ⟨0x80410, 0, 0, 0, 3⟩
/-- PWR_STAT (R534), whole word -/
def PWR_STAT.reg : Fld := ⟨0x80418, 0, 0, 0, 64⟩
def PWR_STAT.STATE : Fld := ⟨0x80418, 0, 0, 0, 3⟩
def PWR_STAT.TARGET : Fld := ⟨0x80418, 0, 0, 3, 3⟩
def PWR_STAT.PEND : Fld := ⟨0x80418, 0, 0, 6, 1⟩
def PWR_STAT.WAKE_OUT : Fld := ⟨0x80418, 0, 0, 7, 1⟩
def PWR_STAT.CAUSE : Fld := ⟨0x80418, 0, 0, 8, 4⟩
def PWR_STAT.FROM : Fld := ⟨0x80418, 0, 0, 12, 4⟩
def PWR_STAT.DETAIL : Fld := ⟨0x80418, 0, 0, 16, 8⟩
def PWR_STAT.REFUSED : Fld := ⟨0x80418, 0, 0, 24, 1⟩
def PWR_STAT.DEEP_FAIL : Fld := ⟨0x80418, 0, 0, 25, 1⟩
def PWR_STAT.ENTRY_ABORT : Fld := ⟨0x80418, 0, 0, 26, 1⟩
/-- PWR_CNT (R534), whole word -/
def PWR_CNT.reg : Fld := ⟨0x80428, 8, 0, 0, 64⟩
def PWR_CNT.COUNT : Fld := ⟨0x80428, 8, 0, 0, 48⟩
/-- PWR_WAKE_EN (R534), whole word -/
def PWR_WAKE_EN.reg : Fld := ⟨0x80440, 0, 0, 0, 32⟩
def PWR_WAKE_EN.EN : Fld := ⟨0x80440, 0, 0, 0, 19⟩
/-- PWR_AON_CNT (R534), whole word -/
def PWR_AON_CNT.reg : Fld := ⟨0x80448, 0, 0, 0, 64⟩
def PWR_AON_CNT.COUNT : Fld := ⟨0x80448, 0, 0, 0, 48⟩
/-- PWR_AON_ALARM (R534), whole word -/
def PWR_AON_ALARM.reg : Fld := ⟨0x80450, 0, 0, 0, 64⟩
def PWR_AON_ALARM.ALARM : Fld := ⟨0x80450, 0, 0, 0, 48⟩
def PWR_AON_ALARM.EN : Fld := ⟨0x80450, 0, 0, 48, 1⟩
/-- WAKE_MAGIC (R534), whole word -/
def WAKE_MAGIC.reg : Fld := ⟨0x80460, 0, 0, 0, 64⟩
def WAKE_MAGIC.ADDR : Fld := ⟨0x80460, 0, 0, 0, 48⟩
/-- PANEL_CFG (R534), whole word -/
def PANEL_CFG.reg : Fld := ⟨0x80600, 8, 0, 0, 64⟩
def PANEL_CFG.DEBOUNCE_MS : Fld := ⟨0x80600, 8, 0, 0, 8⟩
def PANEL_CFG.CHATTER_CNT : Fld := ⟨0x80600, 8, 0, 8, 8⟩
def PANEL_CFG.QUAR_S : Fld := ⟨0x80600, 8, 0, 16, 8⟩
def PANEL_CFG.LONG_S : Fld := ⟨0x80600, 8, 0, 24, 8⟩
def PANEL_CFG.STUCK_S : Fld := ⟨0x80600, 8, 0, 32, 16⟩
/-- PANEL_STAT (R534), whole word -/
def PANEL_STAT.reg : Fld := ⟨0x80620, 0, 0, 0, 32⟩
def PANEL_STAT.STATE_0 : Fld := ⟨0x80620, 0, 0, 0, 2⟩
def PANEL_STAT.LONG_0 : Fld := ⟨0x80620, 0, 0, 2, 1⟩
def PANEL_STAT.LEVEL_0 : Fld := ⟨0x80620, 0, 0, 3, 1⟩
def PANEL_STAT.STATE_1 : Fld := ⟨0x80620, 0, 0, 4, 2⟩
def PANEL_STAT.LONG_1 : Fld := ⟨0x80620, 0, 0, 6, 1⟩
def PANEL_STAT.LEVEL_1 : Fld := ⟨0x80620, 0, 0, 7, 1⟩
def PANEL_STAT.STATE_2 : Fld := ⟨0x80620, 0, 0, 8, 2⟩
def PANEL_STAT.LONG_2 : Fld := ⟨0x80620, 0, 0, 10, 1⟩
def PANEL_STAT.LEVEL_2 : Fld := ⟨0x80620, 0, 0, 11, 1⟩
def PANEL_STAT.STATE_3 : Fld := ⟨0x80620, 0, 0, 12, 2⟩
def PANEL_STAT.LONG_3 : Fld := ⟨0x80620, 0, 0, 14, 1⟩
def PANEL_STAT.LEVEL_3 : Fld := ⟨0x80620, 0, 0, 15, 1⟩
/-- PANEL_EVT (R534), whole word -/
def PANEL_EVT.reg : Fld := ⟨0x80628, 0, 0, 0, 32⟩
def PANEL_EVT.PRESS_0 : Fld := ⟨0x80628, 0, 0, 0, 1⟩
def PANEL_EVT.RELEASE_0 : Fld := ⟨0x80628, 0, 0, 1, 1⟩
def PANEL_EVT.LONG_0 : Fld := ⟨0x80628, 0, 0, 2, 1⟩
def PANEL_EVT.STUCK_0 : Fld := ⟨0x80628, 0, 0, 3, 1⟩
def PANEL_EVT.CHATTER_0 : Fld := ⟨0x80628, 0, 0, 4, 1⟩
def PANEL_EVT.CLEAR_0 : Fld := ⟨0x80628, 0, 0, 5, 1⟩
def PANEL_EVT.PRESS_1 : Fld := ⟨0x80628, 0, 0, 6, 1⟩
def PANEL_EVT.RELEASE_1 : Fld := ⟨0x80628, 0, 0, 7, 1⟩
def PANEL_EVT.LONG_1 : Fld := ⟨0x80628, 0, 0, 8, 1⟩
def PANEL_EVT.STUCK_1 : Fld := ⟨0x80628, 0, 0, 9, 1⟩
def PANEL_EVT.CHATTER_1 : Fld := ⟨0x80628, 0, 0, 10, 1⟩
def PANEL_EVT.CLEAR_1 : Fld := ⟨0x80628, 0, 0, 11, 1⟩
def PANEL_EVT.PRESS_2 : Fld := ⟨0x80628, 0, 0, 12, 1⟩
def PANEL_EVT.RELEASE_2 : Fld := ⟨0x80628, 0, 0, 13, 1⟩
def PANEL_EVT.LONG_2 : Fld := ⟨0x80628, 0, 0, 14, 1⟩
def PANEL_EVT.STUCK_2 : Fld := ⟨0x80628, 0, 0, 15, 1⟩
def PANEL_EVT.CHATTER_2 : Fld := ⟨0x80628, 0, 0, 16, 1⟩
def PANEL_EVT.CLEAR_2 : Fld := ⟨0x80628, 0, 0, 17, 1⟩
def PANEL_EVT.PRESS_3 : Fld := ⟨0x80628, 0, 0, 18, 1⟩
def PANEL_EVT.RELEASE_3 : Fld := ⟨0x80628, 0, 0, 19, 1⟩
def PANEL_EVT.LONG_3 : Fld := ⟨0x80628, 0, 0, 20, 1⟩
def PANEL_EVT.STUCK_3 : Fld := ⟨0x80628, 0, 0, 21, 1⟩
def PANEL_EVT.CHATTER_3 : Fld := ⟨0x80628, 0, 0, 22, 1⟩
def PANEL_EVT.CLEAR_3 : Fld := ⟨0x80628, 0, 0, 23, 1⟩
/-- LED_BLINK (R534), whole word -/
def LED_BLINK.reg : Fld := ⟨0x80700, 0, 0, 0, 32⟩
def LED_BLINK.HALF_BELLS : Fld := ⟨0x80700, 0, 0, 0, 16⟩
/-- LED_CFG (R534), whole word -/
def LED_CFG.reg : Fld := ⟨0x80708, 8, 0, 0, 64⟩
def LED_CFG.MODE0 : Fld := ⟨0x80708, 8, 0, 0, 4⟩
def LED_CFG.MODE1 : Fld := ⟨0x80708, 8, 0, 4, 4⟩
def LED_CFG.MODE2 : Fld := ⟨0x80708, 8, 0, 8, 4⟩
def LED_CFG.SPD0 : Fld := ⟨0x80708, 8, 0, 16, 8⟩
def LED_CFG.SPD1 : Fld := ⟨0x80708, 8, 0, 24, 8⟩
def LED_CFG.SPD2 : Fld := ⟨0x80708, 8, 0, 32, 8⟩
/-- WAKE_PAT_CFG (R534), whole word -/
def WAKE_PAT_CFG.reg : Fld := ⟨0x80800, 0x20, 0, 0, 64⟩
def WAKE_PAT_CFG.EN : Fld := ⟨0x80800, 0x20, 0, 0, 1⟩
def WAKE_PAT_CFG.PORTS : Fld := ⟨0x80800, 0x20, 0, 16, 11⟩
def WAKE_PAT_CFG.CRC : Fld := ⟨0x80800, 0x20, 0, 32, 32⟩
/-- WAKE_PAT_MASK0 (R534), whole word -/
def WAKE_PAT_MASK0.reg : Fld := ⟨0x80808, 0x20, 0, 0, 64⟩
def WAKE_PAT_MASK0.MASK : Fld := ⟨0x80808, 0x20, 0, 0, 64⟩
/-- WAKE_PAT_MASK1 (R534), whole word -/
def WAKE_PAT_MASK1.reg : Fld := ⟨0x80810, 0x20, 0, 0, 64⟩
def WAKE_PAT_MASK1.MASK : Fld := ⟨0x80810, 0x20, 0, 0, 64⟩
/-- PORT_MAC_CTRL (R139), whole word -/
def PORT_MAC_CTRL.reg : Fld := ⟨0x90000, 0x1000, 0, 0, 32⟩
def PORT_MAC_CTRL.EN : Fld := ⟨0x90000, 0x1000, 0, 0, 1⟩
def PORT_MAC_CTRL.SPEED : Fld := ⟨0x90000, 0x1000, 0, 4, 3⟩
def PORT_MAC_CTRL.OVS_DROP : Fld := ⟨0x90000, 0x1000, 0, 8, 1⟩
def PORT_MAC_CTRL.LOOP : Fld := ⟨0x90000, 0x1000, 0, 9, 1⟩
/-- PORT_MAC_STAT (R139), whole word -/
def PORT_MAC_STAT.reg : Fld := ⟨0x90008, 0x1000, 0, 0, 32⟩
def PORT_MAC_STAT.LINK : Fld := ⟨0x90008, 0x1000, 0, 0, 3⟩
def PORT_MAC_STAT.PCS_LINK_OK : Fld := ⟨0x90008, 0x1000, 0, 3, 1⟩
def PORT_MAC_STAT.CLK_OK : Fld := ⟨0x90008, 0x1000, 0, 4, 1⟩
def PORT_MAC_STAT.LF_RX : Fld := ⟨0x90008, 0x1000, 0, 5, 1⟩
def PORT_MAC_STAT.RF_RX : Fld := ⟨0x90008, 0x1000, 0, 6, 1⟩
def PORT_MAC_STAT.CFG_REFUSED : Fld := ⟨0x90008, 0x1000, 0, 7, 1⟩
/-- PORT_MAC_ADDR (R139), whole word -/
def PORT_MAC_ADDR.reg : Fld := ⟨0x90010, 0x1000, 0, 0, 64⟩
def PORT_MAC_ADDR.ADDR : Fld := ⟨0x90010, 0x1000, 0, 0, 48⟩
/-- PORT_MAX_FRAME (R139), whole word -/
def PORT_MAX_FRAME.reg : Fld := ⟨0x90018, 0x1000, 0, 0, 32⟩
def PORT_MAX_FRAME.MAX_FRAME : Fld := ⟨0x90018, 0x1000, 0, 0, 14⟩
/-- PORT_LINK_CFG (R139), whole word -/
def PORT_LINK_CFG.reg : Fld := ⟨0x90020, 0x1000, 0, 0, 32⟩
def PORT_LINK_CFG.UP_HOLD : Fld := ⟨0x90020, 0x1000, 0, 0, 8⟩
def PORT_LINK_CFG.LOS_USE : Fld := ⟨0x90020, 0x1000, 0, 8, 1⟩
/-- PORT_EVT (R139), whole word -/
def PORT_EVT.reg : Fld := ⟨0x90028, 0x1000, 0, 0, 32⟩
def PORT_EVT.LINK_UP : Fld := ⟨0x90028, 0x1000, 0, 0, 1⟩
def PORT_EVT.LINK_DOWN : Fld := ⟨0x90028, 0x1000, 0, 1, 1⟩
def PORT_EVT.LOCAL_FAULT : Fld := ⟨0x90028, 0x1000, 0, 2, 1⟩
def PORT_EVT.REMOTE_FAULT : Fld := ⟨0x90028, 0x1000, 0, 3, 1⟩
def PORT_EVT.MOD_IN : Fld := ⟨0x90028, 0x1000, 0, 4, 1⟩
def PORT_EVT.MOD_OUT : Fld := ⟨0x90028, 0x1000, 0, 5, 1⟩
def PORT_EVT.LOS_CHG : Fld := ⟨0x90028, 0x1000, 0, 6, 1⟩
def PORT_EVT.TXFLT : Fld := ⟨0x90028, 0x1000, 0, 7, 1⟩
def PORT_EVT.PAUSE_WDOG : Fld := ⟨0x90028, 0x1000, 0, 8, 1⟩
def PORT_EVT.CLK_LOST : Fld := ⟨0x90028, 0x1000, 0, 9, 1⟩
/-- PORT_FC_CTRL (R139), whole word -/
def PORT_FC_CTRL.reg : Fld := ⟨0x90040, 0x1000, 0, 0, 64⟩
def PORT_FC_CTRL.MODE : Fld := ⟨0x90040, 0x1000, 0, 0, 2⟩
def PORT_FC_CTRL.RX_EN : Fld := ⟨0x90040, 0x1000, 0, 2, 1⟩
def PORT_FC_CTRL.TX_EN : Fld := ⟨0x90040, 0x1000, 0, 3, 1⟩
def PORT_FC_CTRL.DEF_PRI : Fld := ⟨0x90040, 0x1000, 0, 4, 3⟩
def PORT_FC_CTRL.QUANTA : Fld := ⟨0x90040, 0x1000, 0, 16, 16⟩
def PORT_FC_CTRL.REFRESH : Fld := ⟨0x90040, 0x1000, 0, 32, 16⟩
def PORT_FC_CTRL.FORCE : Fld := ⟨0x90040, 0x1000, 0, 48, 8⟩
/-- PORT_FC_THRESH (R139), whole word -/
def PORT_FC_THRESH.reg : Fld := ⟨0x90048, 0x1000, 0, 0, 64⟩
def PORT_FC_THRESH.XOFF_LVL : Fld := ⟨0x90048, 0x1000, 0, 0, 16⟩
def PORT_FC_THRESH.XON_LVL : Fld := ⟨0x90048, 0x1000, 0, 16, 16⟩
def PORT_FC_THRESH.FIFO_XOFF : Fld := ⟨0x90048, 0x1000, 0, 32, 8⟩
def PORT_FC_THRESH.FIFO_XON : Fld := ⟨0x90048, 0x1000, 0, 40, 8⟩
/-- PORT_FC_WDOG (R139), whole word -/
def PORT_FC_WDOG.reg : Fld := ⟨0x90050, 0x1000, 0, 0, 32⟩
def PORT_FC_WDOG.BUDGET : Fld := ⟨0x90050, 0x1000, 0, 0, 24⟩
def PORT_FC_WDOG.HOLD : Fld := ⟨0x90050, 0x1000, 0, 24, 1⟩
/-- PORT_FC_STAT (R139), whole word -/
def PORT_FC_STAT.reg : Fld := ⟨0x90058, 0x1000, 0, 0, 64⟩
def PORT_FC_STAT.PAUSE_LEFT : Fld := ⟨0x90058, 0x1000, 0, 0, 16⟩
def PORT_FC_STAT.CLASS_PAUSED : Fld := ⟨0x90058, 0x1000, 0, 16, 8⟩
def PORT_FC_STAT.XOFF : Fld := ⟨0x90058, 0x1000, 0, 24, 8⟩
def PORT_FC_STAT.WDOG_TRIP : Fld := ⟨0x90058, 0x1000, 0, 32, 1⟩
def PORT_FC_STAT.WDOG_ACTIVE : Fld := ⟨0x90058, 0x1000, 0, 33, 1⟩
def PORT_FC_STAT.WDOG_USED : Fld := ⟨0x90058, 0x1000, 0, 40, 24⟩
/-- PORT_PFC_MAP (R139), whole word -/
def PORT_PFC_MAP.reg : Fld := ⟨0x90060, 0x1000, 0, 0, 64⟩
def PORT_PFC_MAP.MAP : Fld := ⟨0x90060, 0x1000, 0, 0, 64⟩
/-- PORT_LPI_CFG (R139), whole word -/
def PORT_LPI_CFG.reg : Fld := ⟨0x90080, 0x1000, 0, 0, 64⟩
def PORT_LPI_CFG.EN : Fld := ⟨0x90080, 0x1000, 0, 0, 1⟩
def PORT_LPI_CFG.ENTRY_IDLE : Fld := ⟨0x90080, 0x1000, 0, 16, 16⟩
def PORT_LPI_CFG.TX_WAKE : Fld := ⟨0x90080, 0x1000, 0, 32, 16⟩
/-- PORT_LPI_STAT (R139), whole word -/
def PORT_LPI_STAT.reg : Fld := ⟨0x90088, 0x1000, 0, 0, 32⟩
def PORT_LPI_STAT.TX_STATE : Fld := ⟨0x90088, 0x1000, 0, 0, 2⟩
def PORT_LPI_STAT.RX_LPI : Fld := ⟨0x90088, 0x1000, 0, 2, 1⟩
/-- PORT_MOD_CTRL (R139), whole word -/
def PORT_MOD_CTRL.reg : Fld := ⟨0x900a0, 0x1000, 0, 0, 32⟩
def PORT_MOD_CTRL.TXDIS : Fld := ⟨0x900a0, 0x1000, 0, 0, 1⟩
def PORT_MOD_CTRL.AUTO_TXDIS : Fld := ⟨0x900a0, 0x1000, 0, 1, 1⟩
def PORT_MOD_CTRL.RS : Fld := ⟨0x900a0, 0x1000, 0, 2, 1⟩
def PORT_MOD_CTRL.ABS : Fld := ⟨0x900a0, 0x1000, 0, 8, 1⟩
def PORT_MOD_CTRL.LOS : Fld := ⟨0x900a0, 0x1000, 0, 9, 1⟩
def PORT_MOD_CTRL.TXFLT : Fld := ⟨0x900a0, 0x1000, 0, 10, 1⟩
def PORT_MOD_CTRL.TXDIS_OUT : Fld := ⟨0x900a0, 0x1000, 0, 11, 1⟩
/-- PORT_PHY_CTRL (R139), whole word -/
def PORT_PHY_CTRL.reg : Fld := ⟨0x900b0, 0x1000, 0, 0, 32⟩
def PORT_PHY_CTRL.RST_N : Fld := ⟨0x900b0, 0x1000, 0, 0, 1⟩
/-- PORT_TS_LAT (R385), whole word -/
def PORT_TS_LAT.reg : Fld := ⟨0x900c0, 0x1000, 0, 0, 64⟩
def PORT_TS_LAT.RX_LAT : Fld := ⟨0x900c0, 0x1000, 0, 0, 32⟩
def PORT_TS_LAT.TX_LAT : Fld := ⟨0x900c0, 0x1000, 0, 32, 32⟩
/-- PORT_TS_ASYM (R385), whole word -/
def PORT_TS_ASYM.reg : Fld := ⟨0x900c8, 0x1000, 0, 0, 32⟩
def PORT_TS_ASYM.ASYM : Fld := ⟨0x900c8, 0x1000, 0, 0, 32⟩
/-- PORT_GCL_CFG (R169), whole word -/
def PORT_GCL_CFG.reg : Fld := ⟨0x90100, 0x1000, 0, 0, 64⟩
def PORT_GCL_CFG.EN : Fld := ⟨0x90100, 0x1000, 0, 0, 1⟩
def PORT_GCL_CFG.SLOT : Fld := ⟨0x90100, 0x1000, 0, 1, 1⟩
def PORT_GCL_CFG.CUT_GATES : Fld := ⟨0x90100, 0x1000, 0, 8, 8⟩
def PORT_GCL_CFG.CYCLE_BELLS : Fld := ⟨0x90100, 0x1000, 0, 16, 9⟩
def PORT_GCL_CFG.LPI_MIN : Fld := ⟨0x90100, 0x1000, 0, 32, 16⟩
/-- PORT_GCL_CMD (R169), whole word -/
def PORT_GCL_CMD.reg : Fld := ⟨0x90108, 0x1000, 0, 0, 64⟩
def PORT_GCL_CMD.ACTION : Fld := ⟨0x90108, 0x1000, 0, 0, 2⟩
def PORT_GCL_CMD.LIST : Fld := ⟨0x90108, 0x1000, 0, 2, 1⟩
def PORT_GCL_CMD.AT_ST : Fld := ⟨0x90108, 0x1000, 0, 3, 1⟩
def PORT_GCL_CMD.COUNT : Fld := ⟨0x90108, 0x1000, 0, 16, 7⟩
def PORT_GCL_CMD.EXP_GEN : Fld := ⟨0x90108, 0x1000, 0, 32, 16⟩
/-- PORT_GCL_SWITCH_AT (R169), whole word -/
def PORT_GCL_SWITCH_AT.reg : Fld := ⟨0x90110, 0x1000, 0, 0, 64⟩
def PORT_GCL_SWITCH_AT.AT : Fld := ⟨0x90110, 0x1000, 0, 0, 64⟩
/-- PORT_GCL_STAT (R169), whole word -/
def PORT_GCL_STAT.reg : Fld := ⟨0x90118, 0x1000, 0, 0, 64⟩
def PORT_GCL_STAT.VALID : Fld := ⟨0x90118, 0x1000, 0, 0, 1⟩
def PORT_GCL_STAT.ACTIVE : Fld := ⟨0x90118, 0x1000, 0, 1, 1⟩
def PORT_GCL_STAT.PEND : Fld := ⟨0x90118, 0x1000, 0, 2, 1⟩
def PORT_GCL_STAT.PEND_LIST : Fld := ⟨0x90118, 0x1000, 0, 3, 1⟩
def PORT_GCL_STAT.EN_PEND : Fld := ⟨0x90118, 0x1000, 0, 4, 1⟩
def PORT_GCL_STAT.RUN : Fld := ⟨0x90118, 0x1000, 0, 5, 1⟩
def PORT_GCL_STAT.CUT : Fld := ⟨0x90118, 0x1000, 0, 6, 1⟩
def PORT_GCL_STAT.HOLD : Fld := ⟨0x90118, 0x1000, 0, 7, 1⟩
def PORT_GCL_STAT.GATES : Fld := ⟨0x90118, 0x1000, 0, 8, 8⟩
def PORT_GCL_STAT.ENTRY : Fld := ⟨0x90118, 0x1000, 0, 16, 7⟩
def PORT_GCL_STAT.CYCLE_NUM : Fld := ⟨0x90118, 0x1000, 0, 32, 32⟩
/-- PORT_GCL_EVT (R169), whole word -/
def PORT_GCL_EVT.reg : Fld := ⟨0x90120, 0x1000, 0, 0, 32⟩
def PORT_GCL_EVT.SWITCHED : Fld := ⟨0x90120, 0x1000, 0, 0, 1⟩
def PORT_GCL_EVT.LIST_ERR : Fld := ⟨0x90120, 0x1000, 0, 1, 1⟩
def PORT_GCL_EVT.STALE : Fld := ⟨0x90120, 0x1000, 0, 2, 1⟩
def PORT_GCL_EVT.CMD_REFUSED : Fld := ⟨0x90120, 0x1000, 0, 3, 1⟩
def PORT_GCL_EVT.WR_REFUSED : Fld := ⟨0x90120, 0x1000, 0, 4, 1⟩
def PORT_GCL_EVT.CFG_REFUSED : Fld := ⟨0x90120, 0x1000, 0, 5, 1⟩
def PORT_GCL_EVT.CYCLE_CUT : Fld := ⟨0x90120, 0x1000, 0, 6, 1⟩
def PORT_GCL_EVT.GATE_OVERRUN : Fld := ⟨0x90120, 0x1000, 0, 7, 1⟩
def PORT_GCL_EVT.VERIFY_FAIL : Fld := ⟨0x90120, 0x1000, 0, 8, 1⟩
def PORT_GCL_EVT.VERIFY_OK : Fld := ⟨0x90120, 0x1000, 0, 9, 1⟩
def PORT_GCL_EVT.LATE : Fld := ⟨0x90120, 0x1000, 0, 10, 1⟩
/-- PORT_PM_CFG (R169), whole word -/
def PORT_PM_CFG.reg : Fld := ⟨0x90140, 0x1000, 0, 0, 64⟩
def PORT_PM_CFG.EN : Fld := ⟨0x90140, 0x1000, 0, 0, 1⟩
def PORT_PM_CFG.VERIFY_DIS : Fld := ⟨0x90140, 0x1000, 0, 1, 1⟩
def PORT_PM_CFG.ADD_FRAG : Fld := ⟨0x90140, 0x1000, 0, 2, 2⟩
def PORT_PM_CFG.PREEMPT : Fld := ⟨0x90140, 0x1000, 0, 8, 8⟩
def PORT_PM_CFG.VERIFY_MS : Fld := ⟨0x90140, 0x1000, 0, 16, 8⟩
def PORT_PM_CFG.HOLD_ADV : Fld := ⟨0x90140, 0x1000, 0, 32, 16⟩
/-- PORT_PM_STAT (R169), whole word -/
def PORT_PM_STAT.reg : Fld := ⟨0x90148, 0x1000, 0, 0, 32⟩
def PORT_PM_STAT.VSTATE : Fld := ⟨0x90148, 0x1000, 0, 0, 2⟩
def PORT_PM_STAT.ATTEMPTS : Fld := ⟨0x90148, 0x1000, 0, 2, 2⟩
def PORT_PM_STAT.TX_SPLIT : Fld := ⟨0x90148, 0x1000, 0, 4, 1⟩
def PORT_PM_STAT.RX_ASSY : Fld := ⟨0x90148, 0x1000, 0, 5, 1⟩
/-- PORT_LAUNCH_CFG (R169), whole word -/
def PORT_LAUNCH_CFG.reg : Fld := ⟨0x90160, 0x1000, 0, 0, 64⟩
def PORT_LAUNCH_CFG.LATE_SEND : Fld := ⟨0x90160, 0x1000, 0, 0, 1⟩
def PORT_LAUNCH_CFG.LATE_TOL : Fld := ⟨0x90160, 0x1000, 0, 16, 16⟩
def PORT_LAUNCH_CFG.LOOKAHEAD : Fld := ⟨0x90160, 0x1000, 0, 32, 16⟩
def PORT_LAUNCH_CFG.FAR_MS : Fld := ⟨0x90160, 0x1000, 0, 48, 16⟩
/-- PORT_GCL0_E (R144), whole word -/
def PORT_GCL0_E.reg : Fld := ⟨0x90200, 0x1000, 8, 0, 64⟩
def PORT_GCL0_E.GATES : Fld := ⟨0x90200, 0x1000, 8, 0, 8⟩
def PORT_GCL0_E.OP : Fld := ⟨0x90200, 0x1000, 8, 8, 2⟩
def PORT_GCL0_E.INTERVAL : Fld := ⟨0x90200, 0x1000, 8, 32, 32⟩
/-- PORT_GCL1_E (R144), whole word -/
def PORT_GCL1_E.reg : Fld := ⟨0x90500, 0x1000, 8, 0, 64⟩
def PORT_GCL1_E.GATES : Fld := ⟨0x90500, 0x1000, 8, 0, 8⟩
def PORT_GCL1_E.OP : Fld := ⟨0x90500, 0x1000, 8, 8, 2⟩
def PORT_GCL1_E.INTERVAL : Fld := ⟨0x90500, 0x1000, 8, 32, 32⟩
/-- PORT_CNT (R139), whole word -/
def PORT_CNT.reg : Fld := ⟨0x90800, 0x1000, 8, 0, 64⟩
def PORT_CNT.COUNT : Fld := ⟨0x90800, 0x1000, 8, 0, 48⟩
/-- RAD_CTRL (R186), whole word -/
def RAD_CTRL.reg : Fld := ⟨0x98000, 0x1000, 0, 0, 32⟩
def RAD_CTRL.EN : Fld := ⟨0x98000, 0x1000, 0, 0, 1⟩
def RAD_CTRL.OVS_DROP : Fld := ⟨0x98000, 0x1000, 0, 1, 1⟩
def RAD_CTRL.RX_INC : Fld := ⟨0x98000, 0x1000, 0, 4, 4⟩
def RAD_CTRL.TX_INC : Fld := ⟨0x98000, 0x1000, 0, 8, 4⟩
/-- RAD_STAT (R186), whole word -/
def RAD_STAT.reg : Fld := ⟨0x98008, 0x1000, 0, 0, 32⟩
def RAD_STAT.STATE : Fld := ⟨0x98008, 0x1000, 0, 0, 3⟩
def RAD_STAT.MISSES : Fld := ⟨0x98008, 0x1000, 0, 3, 2⟩
def RAD_STAT.RESUME_CNT : Fld := ⟨0x98008, 0x1000, 0, 5, 2⟩
def RAD_STAT.TX_HOLD : Fld := ⟨0x98008, 0x1000, 0, 7, 1⟩
def RAD_STAT.CLK_OK : Fld := ⟨0x98008, 0x1000, 0, 8, 1⟩
/-- RAD_MAX_FRAME (R186), whole word -/
def RAD_MAX_FRAME.reg : Fld := ⟨0x98018, 0x1000, 0, 0, 32⟩
def RAD_MAX_FRAME.MAX_FRAME : Fld := ⟨0x98018, 0x1000, 0, 0, 14⟩
/-- RAD_BCN_CFG (R186), whole word -/
def RAD_BCN_CFG.reg : Fld := ⟨0x98020, 0x1000, 0, 0, 64⟩
def RAD_BCN_CFG.INTERVAL_US : Fld := ⟨0x98020, 0x1000, 0, 0, 24⟩
def RAD_BCN_CFG.SLACK_US : Fld := ⟨0x98020, 0x1000, 0, 32, 16⟩
def RAD_BCN_CFG.RESUME : Fld := ⟨0x98020, 0x1000, 0, 48, 2⟩
/-- RAD_SILENT_CFG (R186), whole word -/
def RAD_SILENT_CFG.reg : Fld := ⟨0x98028, 0x1000, 0, 0, 32⟩
def RAD_SILENT_CFG.QUOTA : Fld := ⟨0x98028, 0x1000, 0, 0, 16⟩
def RAD_SILENT_CFG.FLUSH : Fld := ⟨0x98028, 0x1000, 0, 16, 1⟩
/-- RAD_EVT (R186), whole word -/
def RAD_EVT.reg : Fld := ⟨0x98030, 0x1000, 0, 0, 32⟩
def RAD_EVT.UP : Fld := ⟨0x98030, 0x1000, 0, 0, 1⟩
def RAD_EVT.SILENT_ENTER : Fld := ⟨0x98030, 0x1000, 0, 1, 1⟩
def RAD_EVT.SILENT_EXIT : Fld := ⟨0x98030, 0x1000, 0, 2, 1⟩
def RAD_EVT.BCN_SEQ : Fld := ⟨0x98030, 0x1000, 0, 3, 1⟩
def RAD_EVT.PROTO_ERR : Fld := ⟨0x98030, 0x1000, 0, 4, 1⟩
def RAD_EVT.HOLD_CHG : Fld := ⟨0x98030, 0x1000, 0, 5, 1⟩
def RAD_EVT.CLK_LOST : Fld := ⟨0x98030, 0x1000, 0, 6, 1⟩
/-- RAD_BCN_LAST (R186), whole word -/
def RAD_BCN_LAST.reg : Fld := ⟨0x98038, 0x1000, 0, 0, 64⟩
def RAD_BCN_LAST.INFO : Fld := ⟨0x98038, 0x1000, 0, 0, 32⟩
def RAD_BCN_LAST.AGE_US : Fld := ⟨0x98038, 0x1000, 0, 32, 32⟩
/-- RAD_CNT (R186), whole word -/
def RAD_CNT.reg : Fld := ⟨0x98800, 0x1000, 8, 0, 64⟩
def RAD_CNT.COUNT : Fld := ⟨0x98800, 0x1000, 8, 0, 48⟩
/-- MEM_CFG (R223), whole word -/
def MEM_CFG.reg : Fld := ⟨0xa0000, 0, 0, 0, 64⟩
def MEM_CFG.SCRUB_EN : Fld := ⟨0xa0000, 0, 0, 0, 1⟩
def MEM_CFG.AUTO_ERASE : Fld := ⟨0xa0000, 0, 0, 1, 1⟩
def MEM_CFG.SCRUB_PASS_TERMS : Fld := ⟨0xa0000, 0, 0, 8, 8⟩
def MEM_CFG.CE_WATCH : Fld := ⟨0xa0000, 0, 0, 32, 8⟩
def MEM_CFG.UE_ERASE : Fld := ⟨0xa0000, 0, 0, 40, 8⟩
/-- MEM_EVT (R223), whole word -/
def MEM_EVT.reg : Fld := ⟨0xa0008, 0, 0, 0, 32⟩
def MEM_EVT.CE_WATCH : Fld := ⟨0xa0008, 0, 0, 0, 1⟩
def MEM_EVT.UE : Fld := ⟨0xa0008, 0, 0, 1, 1⟩
def MEM_EVT.ERASED : Fld := ⟨0xa0008, 0, 0, 2, 1⟩
def MEM_EVT.CRITICAL : Fld := ⟨0xa0008, 0, 0, 3, 1⟩
def MEM_EVT.MARCH_DONE : Fld := ⟨0xa0008, 0, 0, 4, 1⟩
def MEM_EVT.REPAIRED : Fld := ⟨0xa0008, 0, 0, 5, 1⟩
def MEM_EVT.CMD_REFUSED : Fld := ⟨0xa0008, 0, 0, 6, 1⟩
def MEM_EVT.ACC_OFF : Fld := ⟨0xa0008, 0, 0, 7, 1⟩
def MEM_EVT.BANK_READY : Fld := ⟨0xa0008, 0, 0, 8, 1⟩
def MEM_EVT.STAFF_UE : Fld := ⟨0xa0008, 0, 0, 9, 1⟩
/-- MEM_ERR_LOG (R223), whole word -/
def MEM_ERR_LOG.reg : Fld := ⟨0xa0010, 0, 0, 0, 64⟩
def MEM_ERR_LOG.STRIPE : Fld := ⟨0xa0010, 0, 0, 0, 17⟩
def MEM_ERR_LOG.COLS : Fld := ⟨0xa0010, 0, 0, 17, 10⟩
def MEM_ERR_LOG.SOURCE : Fld := ⟨0xa0010, 0, 0, 27, 3⟩
def MEM_ERR_LOG.VALID : Fld := ⟨0xa0010, 0, 0, 30, 1⟩
def MEM_ERR_LOG.BELL : Fld := ⟨0xa0010, 0, 0, 32, 32⟩
/-- MEM_BANK_CMD (R223), whole word -/
def MEM_BANK_CMD.reg : Fld := ⟨0xa0020, 0, 0, 0, 64⟩
def MEM_BANK_CMD.BANK : Fld := ⟨0xa0020, 0, 0, 0, 4⟩
def MEM_BANK_CMD.TARGET : Fld := ⟨0xa0020, 0, 0, 8, 2⟩
/-- MEM_COL_CMD (R223), whole word -/
def MEM_COL_CMD.reg : Fld := ⟨0xa0028, 0, 0, 0, 64⟩
def MEM_COL_CMD.BANK : Fld := ⟨0xa0028, 0, 0, 0, 4⟩
def MEM_COL_CMD.COLUMN : Fld := ⟨0xa0028, 0, 0, 4, 4⟩
def MEM_COL_CMD.ERASE : Fld := ⟨0xa0028, 0, 0, 8, 1⟩
/-- MEM_MARCH_CMD (R223), whole word -/
def MEM_MARCH_CMD.reg : Fld := ⟨0xa0030, 0, 0, 0, 64⟩
def MEM_MARCH_CMD.ACTION : Fld := ⟨0xa0030, 0, 0, 0, 2⟩
def MEM_MARCH_CMD.BANK : Fld := ⟨0xa0030, 0, 0, 4, 4⟩
def MEM_MARCH_CMD.COLUMN : Fld := ⟨0xa0030, 0, 0, 8, 4⟩
/-- MEM_MARCH_STAT (R223), whole word -/
def MEM_MARCH_STAT.reg : Fld := ⟨0xa0038, 0, 0, 0, 64⟩
def MEM_MARCH_STAT.STATE : Fld := ⟨0xa0038, 0, 0, 0, 2⟩
def MEM_MARCH_STAT.RESULT : Fld := ⟨0xa0038, 0, 0, 2, 2⟩
def MEM_MARCH_STAT.BANK : Fld := ⟨0xa0038, 0, 0, 4, 4⟩
def MEM_MARCH_STAT.COLUMN : Fld := ⟨0xa0038, 0, 0, 8, 4⟩
def MEM_MARCH_STAT.ELEMENT : Fld := ⟨0xa0038, 0, 0, 12, 3⟩
def MEM_MARCH_STAT.REFUSED : Fld := ⟨0xa0038, 0, 0, 15, 1⟩
def MEM_MARCH_STAT.PROGRESS : Fld := ⟨0xa0038, 0, 0, 16, 16⟩
def MEM_MARCH_STAT.FAIL_ROWS0 : Fld := ⟨0xa0038, 0, 0, 32, 4⟩
def MEM_MARCH_STAT.FAIL_ROWS1 : Fld := ⟨0xa0038, 0, 0, 36, 4⟩
/-- MEM_SCRUB_STAT (R223), whole word -/
def MEM_SCRUB_STAT.reg : Fld := ⟨0xa0040, 0, 0, 0, 64⟩
def MEM_SCRUB_STAT.NEXT : Fld := ⟨0xa0040, 0, 0, 0, 17⟩
def MEM_SCRUB_STAT.ACTIVE : Fld := ⟨0xa0040, 0, 0, 17, 1⟩
def MEM_SCRUB_STAT.LAST_TERM : Fld := ⟨0xa0040, 0, 0, 32, 32⟩
/-- STAFF_PAGE (R223), whole word -/
def STAFF_PAGE.reg : Fld := ⟨0xa0060, 0, 0, 0, 32⟩
def STAFF_PAGE.PAGE : Fld := ⟨0xa0060, 0, 0, 0, 2⟩
/-- STAFF_COLL (R223), whole word -/
def STAFF_COLL.reg : Fld := ⟨0xa0068, 0, 0, 0, 32⟩
def STAFF_COLL.WORD : Fld := ⟨0xa0068, 0, 0, 0, 15⟩
def STAFF_COLL.SAME : Fld := ⟨0xa0068, 0, 0, 15, 1⟩
def STAFF_COLL.VALID : Fld := ⟨0xa0068, 0, 0, 16, 1⟩
/-- MEM_BANK_STAT (R223), whole word -/
def MEM_BANK_STAT.reg : Fld := ⟨0xa0100, 8, 0, 0, 64⟩
def MEM_BANK_STAT.POWER : Fld := ⟨0xa0100, 8, 0, 0, 2⟩
def MEM_BANK_STAT.IN_USE : Fld := ⟨0xa0100, 8, 0, 2, 1⟩
def MEM_BANK_STAT.MARCH : Fld := ⟨0xa0100, 8, 0, 3, 1⟩
def MEM_BANK_STAT.ERASED : Fld := ⟨0xa0100, 8, 0, 8, 10⟩
def MEM_BANK_STAT.WATCH : Fld := ⟨0xa0100, 8, 0, 18, 10⟩
def MEM_BANK_STAT.HEALTH : Fld := ⟨0xa0100, 8, 0, 28, 2⟩
def MEM_BANK_STAT.FILL_LEFT : Fld := ⟨0xa0100, 8, 0, 32, 14⟩
/-- MEM_REPAIR (R223), whole word -/
def MEM_REPAIR.reg : Fld := ⟨0xa0400, 8, 0, 0, 64⟩
def MEM_REPAIR.KIND : Fld := ⟨0xa0400, 8, 0, 0, 2⟩
def MEM_REPAIR.ROW : Fld := ⟨0xa0400, 8, 0, 8, 10⟩
def MEM_REPAIR.LEDGER : Fld := ⟨0xa0400, 8, 0, 18, 1⟩
/-- MEM_CNT (R223), whole word -/
def MEM_CNT.reg : Fld := ⟨0xa0c00, 8, 0, 0, 64⟩
def MEM_CNT.COUNT : Fld := ⟨0xa0c00, 8, 0, 0, 48⟩
/-- POOL_CFG (R241), whole word -/
def POOL_CFG.reg : Fld := ⟨0xa1000, 0x40, 0, 0, 64⟩
def POOL_CFG.SIZE : Fld := ⟨0xa1000, 0x40, 0, 0, 3⟩
def POOL_CFG.FIRST_BANK : Fld := ⟨0xa1000, 0x40, 0, 4, 4⟩
def POOL_CFG.BANKS : Fld := ⟨0xa1000, 0x40, 0, 8, 4⟩
def POOL_CFG.RESERVE : Fld := ⟨0xa1000, 0x40, 0, 16, 16⟩
/-- POOL_STAT (R241), whole word -/
def POOL_STAT.reg : Fld := ⟨0xa1008, 0x40, 0, 0, 64⟩
def POOL_STAT.FREE : Fld := ⟨0xa1008, 0x40, 0, 0, 16⟩
def POOL_STAT.TOTAL : Fld := ⟨0xa1008, 0x40, 0, 16, 16⟩
def POOL_STAT.WITHDRAWN : Fld := ⟨0xa1008, 0x40, 0, 32, 12⟩
def POOL_STAT.ACTIVE : Fld := ⟨0xa1008, 0x40, 0, 44, 1⟩
/-- POOL_CMD (R241), whole word -/
def POOL_CMD.reg : Fld := ⟨0xa1200, 0, 0, 0, 64⟩
def POOL_CMD.ACTION : Fld := ⟨0xa1200, 0, 0, 0, 2⟩
def POOL_CMD.BANK : Fld := ⟨0xa1200, 0, 0, 4, 4⟩
def POOL_CMD.POOL : Fld := ⟨0xa1200, 0, 0, 8, 3⟩
/-- POOL_EVT (R241), whole word -/
def POOL_EVT.reg : Fld := ⟨0xa1210, 0, 0, 0, 32⟩
def POOL_EVT.LOW : Fld := ⟨0xa1210, 0, 0, 0, 1⟩
def POOL_EVT.EMPTY : Fld := ⟨0xa1210, 0, 0, 1, 1⟩
def POOL_EVT.PTR_BAD : Fld := ⟨0xa1210, 0, 0, 2, 1⟩
def POOL_EVT.DOUBLE_FREE : Fld := ⟨0xa1210, 0, 0, 3, 1⟩
def POOL_EVT.CMD_DONE : Fld := ⟨0xa1210, 0, 0, 4, 1⟩
def POOL_EVT.CMD_REFUSED : Fld := ⟨0xa1210, 0, 0, 5, 1⟩
def POOL_EVT.BANK_FREE : Fld := ⟨0xa1210, 0, 0, 6, 1⟩
/-- POOL_PTR_LOG (R241), whole word -/
def POOL_PTR_LOG.reg : Fld := ⟨0xa1218, 0, 0, 0, 64⟩
def POOL_PTR_LOG.PTR : Fld := ⟨0xa1218, 0, 0, 0, 32⟩
def POOL_PTR_LOG.SOURCE : Fld := ⟨0xa1218, 0, 0, 32, 8⟩
def POOL_PTR_LOG.KIND : Fld := ⟨0xa1218, 0, 0, 40, 3⟩
def POOL_PTR_LOG.VALID : Fld := ⟨0xa1218, 0, 0, 43, 1⟩
/-- POOL_ALLOC (R241), whole word -/
def POOL_ALLOC.reg : Fld := ⟨0xa1220, 0, 0, 0, 32⟩
def POOL_ALLOC.BYTES : Fld := ⟨0xa1220, 0, 0, 0, 14⟩
/-- POOL_ALLOC_RES (R241), whole word -/
def POOL_ALLOC_RES.reg : Fld := ⟨0xa1228, 0, 0, 0, 64⟩
def POOL_ALLOC_RES.PTR : Fld := ⟨0xa1228, 0, 0, 0, 32⟩
def POOL_ALLOC_RES.FAIL : Fld := ⟨0xa1228, 0, 0, 32, 1⟩
def POOL_ALLOC_RES.VALID : Fld := ⟨0xa1228, 0, 0, 33, 1⟩
def POOL_ALLOC_RES.PENDING : Fld := ⟨0xa1228, 0, 0, 34, 1⟩
/-- POOL_FREE (R241), whole word -/
def POOL_FREE.reg : Fld := ⟨0xa1230, 0, 0, 0, 32⟩
def POOL_FREE.PTR : Fld := ⟨0xa1230, 0, 0, 0, 32⟩
/-- POOL_CNT (R241), whole word -/
def POOL_CNT.reg : Fld := ⟨0xa1400, 0x40, 8, 0, 64⟩
def POOL_CNT.COUNT : Fld := ⟨0xa1400, 0x40, 8, 0, 48⟩
/-- CLS_CFG (R275), whole word -/
def CLS_CFG.reg : Fld := ⟨0xb0000, 0, 0, 0, 32⟩
def CLS_CFG.L3_VERIFY : Fld := ⟨0xb0000, 0, 0, 0, 1⟩
def CLS_CFG.L4_VERIFY : Fld := ⟨0xb0000, 0, 0, 1, 1⟩
def CLS_CFG.UDP6_ZERO_BAD : Fld := ⟨0xb0000, 0, 0, 2, 1⟩
/-- CLS_TPID (R275), whole word -/
def CLS_TPID.reg : Fld := ⟨0xb0008, 0, 0, 0, 32⟩
def CLS_TPID.CUSTOM : Fld := ⟨0xb0008, 0, 0, 0, 16⟩
def CLS_TPID.CUSTOM_EN : Fld := ⟨0xb0008, 0, 0, 16, 1⟩
/-- CLS_BANK_CMD (R275), whole word -/
def CLS_BANK_CMD.reg : Fld := ⟨0xb0010, 0, 0, 0, 32⟩
def CLS_BANK_CMD.ACTION : Fld := ⟨0xb0010, 0, 0, 0, 2⟩
def CLS_BANK_CMD.MIRROR : Fld := ⟨0xb0010, 0, 0, 2, 1⟩
/-- CLS_BANK_STAT (R275), whole word -/
def CLS_BANK_STAT.reg : Fld := ⟨0xb0018, 0, 0, 0, 64⟩
def CLS_BANK_STAT.ACTIVE : Fld := ⟨0xb0018, 0, 0, 0, 1⟩
def CLS_BANK_STAT.PEND : Fld := ⟨0xb0018, 0, 0, 1, 1⟩
def CLS_BANK_STAT.STATE0 : Fld := ⟨0xb0018, 0, 0, 2, 2⟩
def CLS_BANK_STAT.STATE1 : Fld := ⟨0xb0018, 0, 0, 4, 2⟩
def CLS_BANK_STAT.MIRROR_PEND : Fld := ⟨0xb0018, 0, 0, 6, 1⟩
def CLS_BANK_STAT.SWAP_NUM : Fld := ⟨0xb0018, 0, 0, 16, 16⟩
def CLS_BANK_STAT.PINNED : Fld := ⟨0xb0018, 0, 0, 32, 16⟩
def CLS_BANK_STAT.STEPS_LEFT : Fld := ⟨0xb0018, 0, 0, 48, 5⟩
/-- CLS_EVT (R275), whole word -/
def CLS_EVT.reg : Fld := ⟨0xb0020, 0, 0, 0, 32⟩
def CLS_EVT.SWAPPED : Fld := ⟨0xb0020, 0, 0, 0, 1⟩
def CLS_EVT.STANDBY_READY : Fld := ⟨0xb0020, 0, 0, 1, 1⟩
def CLS_EVT.CMD_REFUSED : Fld := ⟨0xb0020, 0, 0, 2, 1⟩
def CLS_EVT.PASS_LIMIT : Fld := ⟨0xb0020, 0, 0, 3, 1⟩
def CLS_EVT.FLOW_FULL : Fld := ⟨0xb0020, 0, 0, 4, 1⟩
/-- CLS_STG_VAL (R275), whole word -/
def CLS_STG_VAL.reg : Fld := ⟨0xb0040, 8, 0, 0, 64⟩
def CLS_STG_VAL.BYTES : Fld := ⟨0xb0040, 8, 0, 0, 64⟩
/-- CLS_STG_MASK (R275), whole word -/
def CLS_STG_MASK.reg : Fld := ⟨0xb0080, 8, 0, 0, 64⟩
def CLS_STG_MASK.BYTES : Fld := ⟨0xb0080, 8, 0, 0, 64⟩
/-- CLS_STG_ACT0 (R275), whole word -/
def CLS_STG_ACT0.reg : Fld := ⟨0xb00c0, 0, 0, 0, 64⟩
def CLS_STG_ACT0.PORTS : Fld := ⟨0xb00c0, 0, 0, 0, 11⟩
def CLS_STG_ACT0.DEST : Fld := ⟨0xb00c0, 0, 0, 11, 2⟩
def CLS_STG_ACT0.PART_EN : Fld := ⟨0xb00c0, 0, 0, 13, 1⟩
def CLS_STG_ACT0.PART : Fld := ⟨0xb00c0, 0, 0, 14, 3⟩
def CLS_STG_ACT0.ROLL : Fld := ⟨0xb00c0, 0, 0, 17, 1⟩
def CLS_STG_ACT0.SC_EN : Fld := ⟨0xb00c0, 0, 0, 18, 1⟩
def CLS_STG_ACT0.SC : Fld := ⟨0xb00c0, 0, 0, 19, 1⟩
def CLS_STG_ACT0.DROP : Fld := ⟨0xb00c0, 0, 0, 20, 1⟩
def CLS_STG_ACT0.MIRROR_EN : Fld := ⟨0xb00c0, 0, 0, 21, 1⟩
def CLS_STG_ACT0.MIRROR : Fld := ⟨0xb00c0, 0, 0, 22, 2⟩
def CLS_STG_ACT0.TC_EN : Fld := ⟨0xb00c0, 0, 0, 24, 1⟩
def CLS_STG_ACT0.TC : Fld := ⟨0xb00c0, 0, 0, 25, 3⟩
def CLS_STG_ACT0.METER_EN : Fld := ⟨0xb00c0, 0, 0, 28, 1⟩
def CLS_STG_ACT0.METER : Fld := ⟨0xb00c0, 0, 0, 29, 6⟩
def CLS_STG_ACT0.VLAN_OP : Fld := ⟨0xb00c0, 0, 0, 35, 2⟩
def CLS_STG_ACT0.VLAN_TCI : Fld := ⟨0xb00c0, 0, 0, 38, 16⟩
/-- CLS_STG_ACT1 (R275), whole word -/
def CLS_STG_ACT1.reg : Fld := ⟨0xb00c8, 0, 0, 0, 64⟩
def CLS_STG_ACT1.COOKIE : Fld := ⟨0xb00c8, 0, 0, 0, 32⟩
def CLS_STG_ACT1.RECIRC : Fld := ⟨0xb00c8, 0, 0, 32, 1⟩
def CLS_STG_ACT1.STRIP : Fld := ⟨0xb00c8, 0, 0, 33, 8⟩
/-- CLS_RULE_CMD (R275), whole word -/
def CLS_RULE_CMD.reg : Fld := ⟨0xb00d0, 0, 0, 0, 32⟩
def CLS_RULE_CMD.ACTION : Fld := ⟨0xb00d0, 0, 0, 0, 2⟩
def CLS_RULE_CMD.BANK : Fld := ⟨0xb00d0, 0, 0, 2, 1⟩
def CLS_RULE_CMD.DEFAULT : Fld := ⟨0xb00d0, 0, 0, 3, 1⟩
def CLS_RULE_CMD.INDEX : Fld := ⟨0xb00d0, 0, 0, 4, 12⟩
/-- CLS_RULE_RES (R275), whole word -/
def CLS_RULE_RES.reg : Fld := ⟨0xb00d8, 0, 0, 0, 32⟩
def CLS_RULE_RES.DONE : Fld := ⟨0xb00d8, 0, 0, 0, 1⟩
def CLS_RULE_RES.REFUSED : Fld := ⟨0xb00d8, 0, 0, 1, 1⟩
def CLS_RULE_RES.REASON : Fld := ⟨0xb00d8, 0, 0, 2, 3⟩
def CLS_RULE_RES.VALID_ENTRY : Fld := ⟨0xb00d8, 0, 0, 5, 1⟩
/-- CLS_FLOW_KEY (R275), whole word -/
def CLS_FLOW_KEY.reg : Fld := ⟨0xb0100, 8, 0, 0, 64⟩
def CLS_FLOW_KEY.BYTES : Fld := ⟨0xb0100, 8, 0, 0, 64⟩
/-- CLS_FLOW_DATA (R275), whole word -/
def CLS_FLOW_DATA.reg : Fld := ⟨0xb0128, 0, 0, 0, 32⟩
def CLS_FLOW_DATA.TAG : Fld := ⟨0xb0128, 0, 0, 0, 15⟩
/-- CLS_FLOW_CMD (R275), whole word -/
def CLS_FLOW_CMD.reg : Fld := ⟨0xb0130, 0, 0, 0, 32⟩
def CLS_FLOW_CMD.ACTION : Fld := ⟨0xb0130, 0, 0, 0, 2⟩
def CLS_FLOW_CMD.CLEAR_HIT : Fld := ⟨0xb0130, 0, 0, 2, 1⟩
def CLS_FLOW_CMD.INDEX : Fld := ⟨0xb0130, 0, 0, 16, 16⟩
/-- CLS_FLOW_RES (R275), whole word -/
def CLS_FLOW_RES.reg : Fld := ⟨0xb0138, 0, 0, 0, 32⟩
def CLS_FLOW_RES.DONE : Fld := ⟨0xb0138, 0, 0, 0, 1⟩
def CLS_FLOW_RES.REFUSED : Fld := ⟨0xb0138, 0, 0, 1, 1⟩
def CLS_FLOW_RES.REASON : Fld := ⟨0xb0138, 0, 0, 2, 2⟩
def CLS_FLOW_RES.REPLACED : Fld := ⟨0xb0138, 0, 0, 4, 1⟩
def CLS_FLOW_RES.VALID : Fld := ⟨0xb0138, 0, 0, 5, 1⟩
def CLS_FLOW_RES.HIT : Fld := ⟨0xb0138, 0, 0, 6, 1⟩
def CLS_FLOW_RES.INDEX : Fld := ⟨0xb0138, 0, 0, 16, 16⟩
/-- CLS_FLOW_CFG (R275), whole word -/
def CLS_FLOW_CFG.reg : Fld := ⟨0xb0140, 0, 0, 0, 64⟩
def CLS_FLOW_CFG.EN : Fld := ⟨0xb0140, 0, 0, 0, 1⟩
def CLS_FLOW_CFG.SEED : Fld := ⟨0xb0140, 0, 0, 32, 32⟩
/-- CLS_FLOW_MASK (R275), whole word -/
def CLS_FLOW_MASK.reg : Fld := ⟨0xb0148, 8, 0, 0, 64⟩
def CLS_FLOW_MASK.BYTES : Fld := ⟨0xb0148, 8, 0, 0, 64⟩
/-- CLS_FLOW_STAT (R275), whole word -/
def CLS_FLOW_STAT.reg : Fld := ⟨0xb0180, 0, 0, 0, 32⟩
def CLS_FLOW_STAT.COUNT : Fld := ⟨0xb0180, 0, 0, 0, 17⟩
def CLS_FLOW_STAT.CFG_REFUSED : Fld := ⟨0xb0180, 0, 0, 17, 1⟩
/-- CLS_CNT (R275), whole word -/
def CLS_CNT.reg : Fld := ⟨0xb0e00, 8, 0, 0, 64⟩
def CLS_CNT.COUNT : Fld := ⟨0xb0e00, 8, 0, 0, 48⟩
/-- BR_CFG (R296), whole word -/
def BR_CFG.reg : Fld := ⟨0xb1000, 0, 0, 0, 32⟩
def BR_CFG.LEARN_EN : Fld := ⟨0xb1000, 0, 0, 0, 1⟩
def BR_CFG.LL_TO_SC : Fld := ⟨0xb1000, 0, 0, 1, 1⟩
def BR_CFG.AGE_TERMS : Fld := ⟨0xb1000, 0, 0, 8, 8⟩
/-- BR_EVT (R296), whole word -/
def BR_EVT.reg : Fld := ⟨0xb1010, 0, 0, 0, 32⟩
def BR_EVT.SWEEP_SKIP : Fld := ⟨0xb1010, 0, 0, 0, 1⟩
def BR_EVT.FLUSH_DONE : Fld := ⟨0xb1010, 0, 0, 1, 1⟩
def BR_EVT.LEARN_FULL : Fld := ⟨0xb1010, 0, 0, 2, 1⟩
def BR_EVT.ENQ_FULL : Fld := ⟨0xb1010, 0, 0, 3, 1⟩
/-- BR_PORT_CFG (R296), whole word -/
def BR_PORT_CFG.reg : Fld := ⟨0xb1040, 8, 0, 0, 64⟩
def BR_PORT_CFG.PVID : Fld := ⟨0xb1040, 8, 0, 0, 12⟩
def BR_PORT_CFG.LEARN : Fld := ⟨0xb1040, 8, 0, 12, 1⟩
def BR_PORT_CFG.IN_FILTER : Fld := ⟨0xb1040, 8, 0, 13, 1⟩
def BR_PORT_CFG.MIR_EN : Fld := ⟨0xb1040, 8, 0, 14, 1⟩
def BR_PORT_CFG.MIR_SESS : Fld := ⟨0xb1040, 8, 0, 15, 2⟩
def BR_PORT_CFG.DEF_PRI : Fld := ⟨0xb1040, 8, 0, 17, 3⟩
def BR_PORT_CFG.PCP_MAP : Fld := ⟨0xb1040, 8, 0, 24, 24⟩
/-- BR_PORT_TCPCP (R296), whole word -/
def BR_PORT_TCPCP.reg : Fld := ⟨0xb10a0, 8, 0, 0, 32⟩
def BR_PORT_TCPCP.TC_PCP : Fld := ⟨0xb10a0, 8, 0, 0, 24⟩
/-- BR_FDB_KEY (R296), whole word -/
def BR_FDB_KEY.reg : Fld := ⟨0xb1100, 0, 0, 0, 64⟩
def BR_FDB_KEY.MAC : Fld := ⟨0xb1100, 0, 0, 0, 48⟩
def BR_FDB_KEY.VID : Fld := ⟨0xb1100, 0, 0, 48, 12⟩
def BR_FDB_KEY.BY_VID : Fld := ⟨0xb1100, 0, 0, 60, 1⟩
/-- BR_FDB_DATA (R296), whole word -/
def BR_FDB_DATA.reg : Fld := ⟨0xb1108, 0, 0, 0, 32⟩
def BR_FDB_DATA.DEST_PORTS : Fld := ⟨0xb1108, 0, 0, 0, 11⟩
def BR_FDB_DATA.DEST_PARTS : Fld := ⟨0xb1108, 0, 0, 11, 8⟩
def BR_FDB_DATA.STATIC : Fld := ⟨0xb1108, 0, 0, 19, 1⟩
def BR_FDB_DATA.DROP : Fld := ⟨0xb1108, 0, 0, 20, 1⟩
def BR_FDB_DATA.AGE : Fld := ⟨0xb1108, 0, 0, 24, 8⟩
/-- BR_FDB_CMD (R296), whole word -/
def BR_FDB_CMD.reg : Fld := ⟨0xb1110, 0, 0, 0, 32⟩
def BR_FDB_CMD.ACTION : Fld := ⟨0xb1110, 0, 0, 0, 3⟩
def BR_FDB_CMD.INDEX : Fld := ⟨0xb1110, 0, 0, 16, 14⟩
/-- BR_FDB_RES (R296), whole word -/
def BR_FDB_RES.reg : Fld := ⟨0xb1118, 0, 0, 0, 32⟩
def BR_FDB_RES.DONE : Fld := ⟨0xb1118, 0, 0, 0, 1⟩
def BR_FDB_RES.REFUSED : Fld := ⟨0xb1118, 0, 0, 1, 1⟩
def BR_FDB_RES.REASON : Fld := ⟨0xb1118, 0, 0, 2, 2⟩
def BR_FDB_RES.VALID : Fld := ⟨0xb1118, 0, 0, 4, 1⟩
def BR_FDB_RES.INDEX : Fld := ⟨0xb1118, 0, 0, 16, 14⟩
/-- BR_FDB_STAT (R296), whole word -/
def BR_FDB_STAT.reg : Fld := ⟨0xb1120, 0, 0, 0, 32⟩
def BR_FDB_STAT.COUNT : Fld := ⟨0xb1120, 0, 0, 0, 15⟩
def BR_FDB_STAT.SWEEP : Fld := ⟨0xb1120, 0, 0, 15, 1⟩
def BR_FDB_STAT.QFREE : Fld := ⟨0xb1120, 0, 0, 16, 16⟩
/-- EGR_PORT_SCHED (R296), whole word -/
def EGR_PORT_SCHED.reg : Fld := ⟨0xb1200, 0x40, 0, 0, 64⟩
def EGR_PORT_SCHED.SP : Fld := ⟨0xb1200, 0x40, 0, 0, 8⟩
/-- EGR_PORT_QUANTUM (R296), whole word -/
def EGR_PORT_QUANTUM.reg : Fld := ⟨0xb1208, 0x40, 0, 0, 64⟩
def EGR_PORT_QUANTUM.QUANTUM : Fld := ⟨0xb1208, 0x40, 0, 0, 64⟩
/-- EGR_PORT_QUOTA0 (R296), whole word -/
def EGR_PORT_QUOTA0.reg : Fld := ⟨0xb1210, 0x40, 0, 0, 64⟩
def EGR_PORT_QUOTA0.QUOTA : Fld := ⟨0xb1210, 0x40, 0, 0, 64⟩
/-- EGR_PORT_QUOTA1 (R296), whole word -/
def EGR_PORT_QUOTA1.reg : Fld := ⟨0xb1218, 0x40, 0, 0, 64⟩
def EGR_PORT_QUOTA1.QUOTA : Fld := ⟨0xb1218, 0x40, 0, 0, 64⟩
/-- EGR_PORT_STAT (R296), whole word -/
def EGR_PORT_STAT.reg : Fld := ⟨0xb1220, 0x40, 0, 0, 64⟩
def EGR_PORT_STAT.BUSY : Fld := ⟨0xb1220, 0x40, 0, 0, 8⟩
def EGR_PORT_STAT.ELIG : Fld := ⟨0xb1220, 0x40, 0, 8, 8⟩
/-- EGR_PART_QUOTA (R296), whole word -/
def EGR_PART_QUOTA.reg : Fld := ⟨0xb1600, 8, 0, 0, 64⟩
def EGR_PART_QUOTA.QUOTA : Fld := ⟨0xb1600, 8, 0, 0, 16⟩
def EGR_PART_QUOTA.USED : Fld := ⟨0xb1600, 8, 0, 32, 24⟩
/-- MIR_SESS (R296), whole word -/
def MIR_SESS.reg : Fld := ⟨0xb1700, 8, 0, 0, 32⟩
def MIR_SESS.EN : Fld := ⟨0xb1700, 8, 0, 0, 1⟩
def MIR_SESS.TO_PART : Fld := ⟨0xb1700, 8, 0, 1, 1⟩
def MIR_SESS.DEST : Fld := ⟨0xb1700, 8, 0, 2, 4⟩
def MIR_SESS.TC : Fld := ⟨0xb1700, 8, 0, 6, 3⟩
/-- MTR_CFG (R296), whole word -/
def MTR_CFG.reg : Fld := ⟨0xb1800, 0x10, 0, 0, 64⟩
def MTR_CFG.RATE : Fld := ⟨0xb1800, 0x10, 0, 0, 20⟩
def MTR_CFG.MODE : Fld := ⟨0xb1800, 0x10, 0, 20, 1⟩
def MTR_CFG.EXCEED_TC : Fld := ⟨0xb1800, 0x10, 0, 21, 3⟩
def MTR_CFG.BURST : Fld := ⟨0xb1800, 0x10, 0, 24, 24⟩
/-- MTR_STAT (R296), whole word -/
def MTR_STAT.reg : Fld := ⟨0xb1808, 0x10, 0, 0, 32⟩
def MTR_STAT.TOKENS : Fld := ⟨0xb1808, 0x10, 0, 0, 24⟩
/-- BR_VLAN (R296), whole word -/
def BR_VLAN.reg : Fld := ⟨0xb8000, 8, 0, 0, 64⟩
def BR_VLAN.VALID : Fld := ⟨0xb8000, 8, 0, 0, 1⟩
def BR_VLAN.LEARN : Fld := ⟨0xb8000, 8, 0, 1, 1⟩
def BR_VLAN.MEMBERS : Fld := ⟨0xb8000, 8, 0, 8, 11⟩
def BR_VLAN.UNTAG : Fld := ⟨0xb8000, 8, 0, 19, 11⟩
def BR_VLAN.PARTS : Fld := ⟨0xb8000, 8, 0, 30, 8⟩
/-- EGR_CNT (R296), whole word -/
def EGR_CNT.reg : Fld := ⟨0xb2000, 0x100, 8, 0, 64⟩
def EGR_CNT.COUNT : Fld := ⟨0xb2000, 0x100, 8, 0, 48⟩
/-- MTR_CNT (R296), whole word -/
def MTR_CNT.reg : Fld := ⟨0xb3000, 0x10, 8, 0, 64⟩
def MTR_CNT.COUNT : Fld := ⟨0xb3000, 0x10, 8, 0, 48⟩
/-- TIME_CFG (R385), whole word -/
def TIME_CFG.reg : Fld := ⟨0xc0000, 0, 0, 0, 32⟩
def TIME_CFG.SERVO_TMO_MS : Fld := ⟨0xc0000, 0, 0, 0, 16⟩
def TIME_CFG.CKPT_S : Fld := ⟨0xc0000, 0, 0, 16, 16⟩
/-- TIME_STAT (R385), whole word -/
def TIME_STAT.reg : Fld := ⟨0xc0008, 0, 0, 0, 32⟩
def TIME_STAT.STATE : Fld := ⟨0xc0008, 0, 0, 0, 3⟩
def TIME_STAT.STEP_AVAIL : Fld := ⟨0xc0008, 0, 0, 3, 1⟩
def TIME_STAT.STEP_PEND : Fld := ⟨0xc0008, 0, 0, 4, 1⟩
def TIME_STAT.RESTORED : Fld := ⟨0xc0008, 0, 0, 5, 1⟩
def TIME_STAT.HOLD_CAUSE : Fld := ⟨0xc0008, 0, 0, 8, 4⟩
/-- TIME_EVT (R385), whole word -/
def TIME_EVT.reg : Fld := ⟨0xc0010, 0, 0, 0, 32⟩
def TIME_EVT.STATE_CHG : Fld := ⟨0xc0010, 0, 0, 0, 1⟩
def TIME_EVT.STEP_DONE : Fld := ⟨0xc0010, 0, 0, 1, 1⟩
def TIME_EVT.PATH_STEP : Fld := ⟨0xc0010, 0, 0, 2, 1⟩
def TIME_EVT.SERVO_TMO : Fld := ⟨0xc0010, 0, 0, 3, 1⟩
def TIME_EVT.CMD_REFUSED : Fld := ⟨0xc0010, 0, 0, 4, 1⟩
def TIME_EVT.CAP_OVF : Fld := ⟨0xc0010, 0, 0, 5, 1⟩
def TIME_EVT.OUT_LATE : Fld := ⟨0xc0010, 0, 0, 6, 1⟩
def TIME_EVT.REF_LOST : Fld := ⟨0xc0010, 0, 0, 7, 1⟩
def TIME_EVT.CKPT_FAIL : Fld := ⟨0xc0010, 0, 0, 8, 1⟩
/-- TIME_CMD (R385), whole word -/
def TIME_CMD.reg : Fld := ⟨0xc0018, 0, 0, 0, 64⟩
def TIME_CMD.ACTION : Fld := ⟨0xc0018, 0, 0, 0, 4⟩
def TIME_CMD.CAUSE : Fld := ⟨0xc0018, 0, 0, 4, 4⟩
def TIME_CMD.USE_RATE : Fld := ⟨0xc0018, 0, 0, 8, 1⟩
def TIME_CMD.RATE : Fld := ⟨0xc0018, 0, 0, 16, 40⟩
/-- TIME_RATE (R385), whole word -/
def TIME_RATE.reg : Fld := ⟨0xc0020, 0, 0, 0, 64⟩
def TIME_RATE.RATE : Fld := ⟨0xc0020, 0, 0, 0, 40⟩
/-- TIME_STEP (R385), whole word -/
def TIME_STEP.reg : Fld := ⟨0xc0028, 0, 0, 0, 64⟩
def TIME_STEP.DELTA : Fld := ⟨0xc0028, 0, 0, 0, 64⟩
/-- TIME_REF (R385), whole word -/
def TIME_REF.reg : Fld := ⟨0xc0070, 0, 0, 0, 64⟩
def TIME_REF.EN : Fld := ⟨0xc0070, 0, 0, 0, 1⟩
def TIME_REF.PRESENT : Fld := ⟨0xc0070, 0, 0, 1, 1⟩
def TIME_REF.WIN_MS : Fld := ⟨0xc0070, 0, 0, 16, 10⟩
def TIME_REF.EDGES : Fld := ⟨0xc0070, 0, 0, 32, 32⟩
/-- TIME_UTC (R385), whole word -/
def TIME_UTC.reg : Fld := ⟨0xc0078, 0, 0, 0, 32⟩
def TIME_UTC.UTC_OFFSET : Fld := ⟨0xc0078, 0, 0, 0, 16⟩
def TIME_UTC.LEAP61 : Fld := ⟨0xc0078, 0, 0, 16, 1⟩
def TIME_UTC.LEAP59 : Fld := ⟨0xc0078, 0, 0, 17, 1⟩
def TIME_UTC.UTC_VALID : Fld := ⟨0xc0078, 0, 0, 18, 1⟩
/-- TIME_CKPT_LAST (R385), whole word -/
def TIME_CKPT_LAST.reg : Fld := ⟨0xc0080, 0, 0, 0, 64⟩
def TIME_CKPT_LAST.ST_NS : Fld := ⟨0xc0080, 0, 0, 0, 64⟩
/-- TIME_SVC_CFG (R385), whole word -/
def TIME_SVC_CFG.reg : Fld := ⟨0xc0088, 0, 0, 0, 64⟩
def TIME_SVC_CFG.EN : Fld := ⟨0xc0088, 0, 0, 0, 1⟩
def TIME_SVC_CFG.PROFILE : Fld := ⟨0xc0088, 0, 0, 1, 2⟩
def TIME_SVC_CFG.BOUNDARY : Fld := ⟨0xc0088, 0, 0, 3, 1⟩
def TIME_SVC_CFG.AUTO_REACQ : Fld := ⟨0xc0088, 0, 0, 4, 1⟩
def TIME_SVC_CFG.PORTS : Fld := ⟨0xc0088, 0, 0, 8, 8⟩
def TIME_SVC_CFG.DOMAIN : Fld := ⟨0xc0088, 0, 0, 16, 8⟩
def TIME_SVC_CFG.LOCK_CNT : Fld := ⟨0xc0088, 0, 0, 24, 8⟩
def TIME_SVC_CFG.LOCK_NS : Fld := ⟨0xc0088, 0, 0, 32, 16⟩
def TIME_SVC_CFG.PATH_THRESH_NS : Fld := ⟨0xc0088, 0, 0, 48, 16⟩
/-- TIME_SVC_LIM (R385), whole word -/
def TIME_SVC_LIM.reg : Fld := ⟨0xc0090, 0, 0, 0, 64⟩
def TIME_SVC_LIM.STEP_MIN_NS : Fld := ⟨0xc0090, 0, 0, 0, 32⟩
/-- TIME_NOW_SEC (R385), whole word -/
def TIME_NOW_SEC.reg : Fld := ⟨0xc0058, 0, 0, 0, 64⟩
def TIME_NOW_SEC.SEC : Fld := ⟨0xc0058, 0, 0, 0, 48⟩
def TIME_NOW_SEC.FRAC : Fld := ⟨0xc0058, 0, 0, 48, 16⟩
/-- TIME_OFFSET (R385), whole word -/
def TIME_OFFSET.reg : Fld := ⟨0xc0030, 0, 0, 0, 64⟩
def TIME_OFFSET.VALUE : Fld := ⟨0xc0030, 0, 0, 0, 64⟩
/-- TIME_OFFSET_FRAC (R385), whole word -/
def TIME_OFFSET_FRAC.reg : Fld := ⟨0xc0038, 0, 0, 0, 64⟩
def TIME_OFFSET_FRAC.FRAC : Fld := ⟨0xc0038, 0, 0, 0, 16⟩
/-- TIME_ANCHOR (R385), whole word -/
def TIME_ANCHOR.reg : Fld := ⟨0xc0040, 0, 0, 0, 64⟩
def TIME_ANCHOR.VALUE : Fld := ⟨0xc0040, 0, 0, 0, 64⟩
/-- TIME_FRC (R385), whole word -/
def TIME_FRC.reg : Fld := ⟨0xc0048, 0, 0, 0, 64⟩
def TIME_FRC.VALUE : Fld := ⟨0xc0048, 0, 0, 0, 64⟩
/-- TIME_NOW_NS (R385), whole word -/
def TIME_NOW_NS.reg : Fld := ⟨0xc0050, 0, 0, 0, 64⟩
def TIME_NOW_NS.VALUE : Fld := ⟨0xc0050, 0, 0, 0, 64⟩
/-- TIME_NOW_NSEC (R385), whole word -/
def TIME_NOW_NSEC.reg : Fld := ⟨0xc0060, 0, 0, 0, 32⟩
def TIME_NOW_NSEC.NSEC : Fld := ⟨0xc0060, 0, 0, 0, 30⟩
/-- TIME_NOW_FRC (R385), whole word -/
def TIME_NOW_FRC.reg : Fld := ⟨0xc0068, 0, 0, 0, 64⟩
def TIME_NOW_FRC.FRC : Fld := ⟨0xc0068, 0, 0, 0, 64⟩
/-- TIME_CAP_CTRL (R385), whole word -/
def TIME_CAP_CTRL.reg : Fld := ⟨0xc0100, 0x10, 0, 0, 32⟩
def TIME_CAP_CTRL.EN : Fld := ⟨0xc0100, 0x10, 0, 0, 1⟩
def TIME_CAP_CTRL.EDGE : Fld := ⟨0xc0100, 0x10, 0, 1, 2⟩
def TIME_CAP_CTRL.COUNT : Fld := ⟨0xc0100, 0x10, 0, 4, 4⟩
def TIME_CAP_CTRL.HEAD_EDGE : Fld := ⟨0xc0100, 0x10, 0, 8, 1⟩
def TIME_CAP_CTRL.CAP_OVF : Fld := ⟨0xc0100, 0x10, 0, 9, 1⟩
/-- TIME_CAP_TS (R385), whole word -/
def TIME_CAP_TS.reg : Fld := ⟨0xc0108, 0x10, 0, 0, 64⟩
def TIME_CAP_TS.ST_NS : Fld := ⟨0xc0108, 0x10, 0, 0, 64⟩
/-- TIME_OUT_CFG (R385), whole word -/
def TIME_OUT_CFG.reg : Fld := ⟨0xc0200, 0x20, 0, 0, 64⟩
def TIME_OUT_CFG.EN : Fld := ⟨0xc0200, 0x20, 0, 0, 1⟩
def TIME_OUT_CFG.MODE : Fld := ⟨0xc0200, 0x20, 0, 1, 2⟩
def TIME_OUT_CFG.GATE : Fld := ⟨0xc0200, 0x20, 0, 3, 1⟩
def TIME_OUT_CFG.OUT_ADV : Fld := ⟨0xc0200, 0x20, 0, 8, 8⟩
def TIME_OUT_CFG.WIDTH_NS : Fld := ⟨0xc0200, 0x20, 0, 32, 32⟩
/-- TIME_PPS_CFG (R385), whole word -/
def TIME_PPS_CFG.reg : Fld := ⟨0xc0300, 8, 0, 0, 64⟩
def TIME_PPS_CFG.EN : Fld := ⟨0xc0300, 8, 0, 0, 1⟩
def TIME_PPS_CFG.MODE : Fld := ⟨0xc0300, 8, 0, 1, 2⟩
def TIME_PPS_CFG.GATE : Fld := ⟨0xc0300, 8, 0, 3, 1⟩
def TIME_PPS_CFG.OUT_ADV : Fld := ⟨0xc0300, 8, 0, 8, 8⟩
def TIME_PPS_CFG.WIDTH_NS : Fld := ⟨0xc0300, 8, 0, 32, 32⟩
/-- TIME_OUT_START (R385), whole word -/
def TIME_OUT_START.reg : Fld := ⟨0xc0208, 0x20, 0, 0, 64⟩
def TIME_OUT_START.START : Fld := ⟨0xc0208, 0x20, 0, 0, 64⟩
/-- TIME_OUT_PERIOD (R385), whole word -/
def TIME_OUT_PERIOD.reg : Fld := ⟨0xc0210, 0x20, 0, 0, 64⟩
def TIME_OUT_PERIOD.PERIOD : Fld := ⟨0xc0210, 0x20, 0, 0, 48⟩
/-- TIME_CNT (R385), whole word -/
def TIME_CNT.reg : Fld := ⟨0xc0800, 8, 0, 0, 64⟩
def TIME_CNT.COUNT : Fld := ⟨0xc0800, 8, 0, 0, 48⟩
/-- INT_SRC_CFG (R359), whole word -/
def INT_SRC_CFG.reg : Fld := ⟨0xc8000, 8, 0, 0, 64⟩
def INT_SRC_CFG.EN : Fld := ⟨0xc8000, 8, 0, 0, 1⟩
def INT_SRC_CFG.PRIO : Fld := ⟨0xc8000, 8, 0, 1, 3⟩
def INT_SRC_CFG.COAL_CNT : Fld := ⟨0xc8000, 8, 0, 8, 8⟩
def INT_SRC_CFG.COAL_TIME : Fld := ⟨0xc8000, 8, 0, 16, 16⟩
def INT_SRC_CFG.ROUTE : Fld := ⟨0xc8000, 8, 0, 32, 16⟩
/-- INT_SRC_STAT (R359), whole word -/
def INT_SRC_STAT.reg : Fld := ⟨0xc8800, 8, 0, 0, 32⟩
def INT_SRC_STAT.PEND : Fld := ⟨0xc8800, 8, 0, 0, 1⟩
def INT_SRC_STAT.LEVEL : Fld := ⟨0xc8800, 8, 0, 1, 1⟩
def INT_SRC_STAT.PRESENTED : Fld := ⟨0xc8800, 8, 0, 2, 1⟩
def INT_SRC_STAT.CLAIMED : Fld := ⟨0xc8800, 8, 0, 3, 1⟩
def INT_SRC_STAT.TARGET : Fld := ⟨0xc8800, 8, 0, 4, 4⟩
def INT_SRC_STAT.HELD : Fld := ⟨0xc8800, 8, 0, 8, 8⟩
def INT_SRC_STAT.LAST : Fld := ⟨0xc8800, 8, 0, 16, 4⟩
def INT_SRC_STAT.TYPE : Fld := ⟨0xc8800, 8, 0, 20, 1⟩
def INT_SRC_STAT.LATCHED : Fld := ⟨0xc8800, 8, 0, 21, 1⟩
/-- INT_PEND (R359), whole word -/
def INT_PEND.reg : Fld := ⟨0xc9000, 8, 0, 0, 64⟩
def INT_PEND.PEND : Fld := ⟨0xc9000, 8, 0, 0, 64⟩
/-- INT_BTMR (R359), whole word -/
def INT_BTMR.reg : Fld := ⟨0xc9100, 8, 0, 0, 64⟩
def INT_BTMR.EN : Fld := ⟨0xc9100, 8, 0, 0, 1⟩
def INT_BTMR.ONESHOT : Fld := ⟨0xc9100, 8, 0, 1, 1⟩
def INT_BTMR.PERIOD : Fld := ⟨0xc9100, 8, 0, 16, 16⟩
def INT_BTMR.LEFT : Fld := ⟨0xc9100, 8, 0, 32, 16⟩
/-- INT_AON_CFG (R359), whole word -/
def INT_AON_CFG.reg : Fld := ⟨0xc9200, 0, 0, 0, 64⟩
def INT_AON_CFG.EDGE : Fld := ⟨0xc9200, 0, 0, 0, 36⟩
/-- INT_AON_LATCH (R359), whole word -/
def INT_AON_LATCH.reg : Fld := ⟨0xc9208, 0, 0, 0, 32⟩
def INT_AON_LATCH.SET : Fld := ⟨0xc9208, 0, 0, 0, 32⟩
/-- INT_CNT (R359), whole word -/
def INT_CNT.reg : Fld := ⟨0xc9800, 8, 0, 0, 64⟩
def INT_CNT.COUNT : Fld := ⟨0xc9800, 8, 0, 0, 48⟩
/-- INT_TGT_CTRL (R359), whole word -/
def INT_TGT_CTRL.reg : Fld := ⟨0xcc000, 0x100, 0, 0, 32⟩
def INT_TGT_CTRL.EN : Fld := ⟨0xcc000, 0x100, 0, 0, 1⟩
def INT_TGT_CTRL.NEST : Fld := ⟨0xcc000, 0x100, 0, 1, 1⟩
def INT_TGT_CTRL.THRESH : Fld := ⟨0xcc000, 0x100, 0, 4, 3⟩
/-- INT_TGT_CLAIM (R359), whole word -/
def INT_TGT_CLAIM.reg : Fld := ⟨0xcc008, 0x100, 0, 0, 32⟩
def INT_TGT_CLAIM.SRC : Fld := ⟨0xcc008, 0x100, 0, 0, 10⟩
/-- INT_TGT_COMPLETE (R359), whole word -/
def INT_TGT_COMPLETE.reg : Fld := ⟨0xcc010, 0x100, 0, 0, 32⟩
def INT_TGT_COMPLETE.SRC : Fld := ⟨0xcc010, 0x100, 0, 0, 10⟩
/-- INT_TGT_STAT (R359), whole word -/
def INT_TGT_STAT.reg : Fld := ⟨0xcc018, 0x100, 0, 0, 32⟩
def INT_TGT_STAT.LINE : Fld := ⟨0xcc018, 0x100, 0, 0, 1⟩
def INT_TGT_STAT.CMPL_ERR : Fld := ⟨0xcc018, 0x100, 0, 1, 1⟩
def INT_TGT_STAT.INSERV : Fld := ⟨0xcc018, 0x100, 0, 4, 4⟩
def INT_TGT_STAT.PRESENTED : Fld := ⟨0xcc018, 0x100, 0, 8, 8⟩
def INT_TGT_STAT.TOP_PRIO : Fld := ⟨0xcc018, 0x100, 0, 16, 3⟩
/-- ROLL_CFG (R411), whole word -/
def ROLL_CFG.reg : Fld := ⟨0xd0000, 0, 0, 0, 64⟩
def ROLL_CFG.EN : Fld := ⟨0xd0000, 0, 0, 0, 1⟩
def ROLL_CFG.LEARN : Fld := ⟨0xd0000, 0, 0, 1, 1⟩
def ROLL_CFG.DL_KEEP : Fld := ⟨0xd0000, 0, 0, 2, 1⟩
def ROLL_CFG.ABSENT_REC : Fld := ⟨0xd0000, 0, 0, 3, 1⟩
def ROLL_CFG.BANKS : Fld := ⟨0xd0000, 0, 0, 4, 4⟩
def ROLL_CFG.DEF_DEST : Fld := ⟨0xd0000, 0, 0, 8, 3⟩
def ROLL_CFG.DL_TC : Fld := ⟨0xd0000, 0, 0, 12, 3⟩
def ROLL_CFG.MAX_PAYLOAD : Fld := ⟨0xd0000, 0, 0, 16, 8⟩
def ROLL_CFG.DEF_INTERVAL : Fld := ⟨0xd0000, 0, 0, 32, 28⟩
/-- ROLL_LIM (R411), whole word -/
def ROLL_LIM.reg : Fld := ⟨0xd0008, 0, 0, 0, 64⟩
def ROLL_LIM.GRACE : Fld := ⟨0xd0008, 0, 0, 0, 16⟩
def ROLL_LIM.DL_MAX : Fld := ⟨0xd0008, 0, 0, 32, 16⟩
/-- ROLL_STATION (R411), whole word -/
def ROLL_STATION.reg : Fld := ⟨0xd0010, 0, 0, 0, 64⟩
def ROLL_STATION.STATION : Fld := ⟨0xd0010, 0, 0, 0, 64⟩
/-- ROLL_SMAC (R411), whole word -/
def ROLL_SMAC.reg : Fld := ⟨0xd0018, 0, 0, 0, 64⟩
def ROLL_SMAC.SMAC : Fld := ⟨0xd0018, 0, 0, 0, 48⟩
/-- ROLL_STAT (R411), whole word -/
def ROLL_STAT.reg : Fld := ⟨0xd0020, 0, 0, 0, 64⟩
def ROLL_STAT.ENTRIES : Fld := ⟨0xd0020, 0, 0, 0, 17⟩
def ROLL_STAT.INTAKE : Fld := ⟨0xd0020, 0, 0, 32, 11⟩
def ROLL_STAT.DL_HELD : Fld := ⟨0xd0020, 0, 0, 48, 16⟩
/-- ROLL_EVT (R411), whole word -/
def ROLL_EVT.reg : Fld := ⟨0xd0028, 0, 0, 0, 32⟩
def ROLL_EVT.ABSENT : Fld := ⟨0xd0028, 0, 0, 0, 1⟩
def ROLL_EVT.ABSENT_OVF : Fld := ⟨0xd0028, 0, 0, 1, 1⟩
def ROLL_EVT.NO_ROOM : Fld := ⟨0xd0028, 0, 0, 2, 1⟩
def ROLL_EVT.ALLOC_FAIL : Fld := ⟨0xd0028, 0, 0, 3, 1⟩
def ROLL_EVT.ROLL_DROP : Fld := ⟨0xd0028, 0, 0, 4, 1⟩
def ROLL_EVT.DL_DROP : Fld := ⟨0xd0028, 0, 0, 5, 1⟩
def ROLL_EVT.CMD_REFUSED : Fld := ⟨0xd0028, 0, 0, 6, 1⟩
def ROLL_EVT.CFG_REFUSED : Fld := ⟨0xd0028, 0, 0, 7, 1⟩
/-- ROLL_ABSENT (R411), whole word -/
def ROLL_ABSENT.reg : Fld := ⟨0xd0030, 0, 0, 0, 32⟩
def ROLL_ABSENT.INDEX : Fld := ⟨0xd0030, 0, 0, 0, 16⟩
def ROLL_ABSENT.VALID : Fld := ⟨0xd0030, 0, 0, 16, 1⟩
def ROLL_ABSENT.LEFT : Fld := ⟨0xd0030, 0, 0, 17, 6⟩
/-- ROLL_BELL (R411), whole word -/
def ROLL_BELL.reg : Fld := ⟨0xd0038, 0, 0, 0, 32⟩
def ROLL_BELL.BELL : Fld := ⟨0xd0038, 0, 0, 0, 32⟩
/-- ROLL_NBR_KEY (R411), whole word -/
def ROLL_NBR_KEY.reg : Fld := ⟨0xd0040, 0, 0, 0, 64⟩
def ROLL_NBR_KEY.NBR_ID : Fld := ⟨0xd0040, 0, 0, 0, 64⟩
/-- ROLL_NBR_DATA (R411), whole word -/
def ROLL_NBR_DATA.reg : Fld := ⟨0xd0048, 0, 0, 0, 64⟩
def ROLL_NBR_DATA.INTERVAL : Fld := ⟨0xd0048, 0, 0, 0, 28⟩
def ROLL_NBR_DATA.DEST : Fld := ⟨0xd0048, 0, 0, 28, 3⟩
def ROLL_NBR_DATA.STATE : Fld := ⟨0xd0048, 0, 0, 32, 3⟩
def ROLL_NBR_DATA.DL_PEND : Fld := ⟨0xd0048, 0, 0, 35, 1⟩
def ROLL_NBR_DATA.LAST_SEQ : Fld := ⟨0xd0048, 0, 0, 48, 16⟩
/-- ROLL_NBR_INFO (R411), whole word -/
def ROLL_NBR_INFO.reg : Fld := ⟨0xd0050, 0, 0, 0, 64⟩
def ROLL_NBR_INFO.LAST_BELL : Fld := ⟨0xd0050, 0, 0, 0, 32⟩
def ROLL_NBR_INFO.MISSED_TOTAL : Fld := ⟨0xd0050, 0, 0, 32, 16⟩
def ROLL_NBR_INFO.DUP_TOTAL : Fld := ⟨0xd0050, 0, 0, 48, 16⟩
/-- ROLL_NBR_CMD (R411), whole word -/
def ROLL_NBR_CMD.reg : Fld := ⟨0xd0058, 0, 0, 0, 64⟩
def ROLL_NBR_CMD.ACTION : Fld := ⟨0xd0058, 0, 0, 0, 3⟩
def ROLL_NBR_CMD.INDEX : Fld := ⟨0xd0058, 0, 0, 16, 16⟩
def ROLL_NBR_CMD.EXP_GEN : Fld := ⟨0xd0058, 0, 0, 32, 16⟩
/-- ROLL_NBR_RES (R411), whole word -/
def ROLL_NBR_RES.reg : Fld := ⟨0xd0060, 0, 0, 0, 32⟩
def ROLL_NBR_RES.DONE : Fld := ⟨0xd0060, 0, 0, 0, 1⟩
def ROLL_NBR_RES.REFUSED : Fld := ⟨0xd0060, 0, 0, 1, 1⟩
def ROLL_NBR_RES.REASON : Fld := ⟨0xd0060, 0, 0, 2, 3⟩
def ROLL_NBR_RES.REPLACED : Fld := ⟨0xd0060, 0, 0, 5, 1⟩
def ROLL_NBR_RES.INDEX : Fld := ⟨0xd0060, 0, 0, 16, 16⟩
/-- ROLL_DEST_CFG (R411), whole word -/
def ROLL_DEST_CFG.reg : Fld := ⟨0xd0100, 0x20, 0, 0, 64⟩
def ROLL_DEST_CFG.EN : Fld := ⟨0xd0100, 0x20, 0, 0, 1⟩
def ROLL_DEST_CFG.KIND : Fld := ⟨0xd0100, 0x20, 0, 1, 2⟩
def ROLL_DEST_CFG.TARGET : Fld := ⟨0xd0100, 0x20, 0, 3, 4⟩
def ROLL_DEST_CFG.TC : Fld := ⟨0xd0100, 0x20, 0, 7, 3⟩
def ROLL_DEST_CFG.TAG_EN : Fld := ⟨0xd0100, 0x20, 0, 10, 1⟩
def ROLL_DEST_CFG.MAX_BYTES : Fld := ⟨0xd0100, 0x20, 0, 16, 14⟩
def ROLL_DEST_CFG.TCI : Fld := ⟨0xd0100, 0x20, 0, 32, 16⟩
/-- ROLL_DEST_DMAC (R411), whole word -/
def ROLL_DEST_DMAC.reg : Fld := ⟨0xd0108, 0x20, 0, 0, 64⟩
def ROLL_DEST_DMAC.DMAC : Fld := ⟨0xd0108, 0x20, 0, 0, 48⟩
/-- ROLL_DEST_SEQ (R411), whole word -/
def ROLL_DEST_SEQ.reg : Fld := ⟨0xd0110, 0x20, 0, 0, 32⟩
def ROLL_DEST_SEQ.NEXT : Fld := ⟨0xd0110, 0x20, 0, 0, 32⟩
/-- ROLL_CNT (R411), whole word -/
def ROLL_CNT.reg : Fld := ⟨0xd0800, 8, 0, 0, 64⟩
def ROLL_CNT.COUNT : Fld := ⟨0xd0800, 8, 0, 0, 48⟩
/-- CRC_CFG (R450), whole word -/
def CRC_CFG.reg : Fld := ⟨0xd8000, 0x100, 0, 0, 64⟩
def CRC_CFG.EN : Fld := ⟨0xd8000, 0x100, 0, 0, 1⟩
def CRC_CFG.MODE : Fld := ⟨0xd8000, 0x100, 0, 1, 1⟩
def CRC_CFG.FOLD : Fld := ⟨0xd8000, 0x100, 0, 2, 2⟩
def CRC_CFG.REFIN : Fld := ⟨0xd8000, 0x100, 0, 4, 1⟩
def CRC_CFG.REFOUT : Fld := ⟨0xd8000, 0x100, 0, 5, 1⟩
def CRC_CFG.TAG_LE : Fld := ⟨0xd8000, 0x100, 0, 6, 1⟩
def CRC_CFG.WIDTH : Fld := ⟨0xd8000, 0x100, 0, 8, 7⟩
def CRC_CFG.TAP : Fld := ⟨0xd8000, 0x100, 0, 16, 4⟩
def CRC_CFG.SEL : Fld := ⟨0xd8000, 0x100, 0, 24, 8⟩
def CRC_CFG.TAG_SRC : Fld := ⟨0xd8000, 0x100, 0, 32, 2⟩
def CRC_CFG.TAG_BYTES : Fld := ⟨0xd8000, 0x100, 0, 34, 2⟩
/-- CRC_POLY (R450), whole word -/
def CRC_POLY.reg : Fld := ⟨0xd8008, 0x100, 0, 0, 64⟩
def CRC_POLY.VALUE : Fld := ⟨0xd8008, 0x100, 0, 0, 64⟩
/-- CRC_INIT (R450), whole word -/
def CRC_INIT.reg : Fld := ⟨0xd8010, 0x100, 0, 0, 64⟩
def CRC_INIT.VALUE : Fld := ⟨0xd8010, 0x100, 0, 0, 64⟩
/-- CRC_XOROUT (R450), whole word -/
def CRC_XOROUT.reg : Fld := ⟨0xd8018, 0x100, 0, 0, 64⟩
def CRC_XOROUT.VALUE : Fld := ⟨0xd8018, 0x100, 0, 0, 64⟩
/-- CRC_TAG (R450), whole word -/
def CRC_TAG.reg : Fld := ⟨0xd8020, 0x100, 0, 0, 32⟩
def CRC_TAG.TAG : Fld := ⟨0xd8020, 0x100, 0, 0, 32⟩
/-- CRC_VALUE (R450), whole word -/
def CRC_VALUE.reg : Fld := ⟨0xd8028, 0x100, 0, 0, 64⟩
def CRC_VALUE.VALUE : Fld := ⟨0xd8028, 0x100, 0, 0, 64⟩
/-- CRC_RESULT (R450), whole word -/
def CRC_RESULT.reg : Fld := ⟨0xd8030, 0x100, 0, 0, 64⟩
def CRC_RESULT.VALUE : Fld := ⟨0xd8030, 0x100, 0, 0, 64⟩
/-- CRC_DATA (R450), whole word -/
def CRC_DATA.reg : Fld := ⟨0xd8038, 0x100, 0, 0, 64⟩
def CRC_DATA.BYTES : Fld := ⟨0xd8038, 0x100, 0, 0, 64⟩
/-- CRC_DATA1 (R450), whole word -/
def CRC_DATA1.reg : Fld := ⟨0xd8040, 0x100, 0, 0, 32⟩
def CRC_DATA1.BYTE : Fld := ⟨0xd8040, 0x100, 0, 0, 8⟩
/-- CRC_CMD (R450), whole word -/
def CRC_CMD.reg : Fld := ⟨0xd8048, 0x100, 0, 0, 32⟩
def CRC_CMD.RESTART : Fld := ⟨0xd8048, 0x100, 0, 0, 1⟩
def CRC_CMD.FLUSH : Fld := ⟨0xd8048, 0x100, 0, 1, 1⟩
/-- CRC_STAT (R450), whole word -/
def CRC_STAT.reg : Fld := ⟨0xd8050, 0x100, 0, 0, 32⟩
def CRC_STAT.COUNT : Fld := ⟨0xd8050, 0x100, 0, 0, 5⟩
def CRC_STAT.IN_FRAME : Fld := ⟨0xd8050, 0x100, 0, 5, 1⟩
def CRC_STAT.CFG_REFUSED : Fld := ⟨0xd8050, 0x100, 0, 6, 1⟩
def CRC_STAT.OVF : Fld := ⟨0xd8050, 0x100, 0, 7, 1⟩
/-- CRC_FIFO_TAG (R450), whole word -/
def CRC_FIFO_TAG.reg : Fld := ⟨0xd8058, 0x100, 0, 0, 64⟩
def CRC_FIFO_TAG.TAG : Fld := ⟨0xd8058, 0x100, 0, 0, 32⟩
def CRC_FIFO_TAG.LEN : Fld := ⟨0xd8058, 0x100, 0, 32, 24⟩
/-- CRC_FIFO_VAL (R450), whole word -/
def CRC_FIFO_VAL.reg : Fld := ⟨0xd8060, 0x100, 0, 0, 64⟩
def CRC_FIFO_VAL.RESULT : Fld := ⟨0xd8060, 0x100, 0, 0, 64⟩
/-- CRC_CNT (R450), whole word -/
def CRC_CNT.reg : Fld := ⟨0xd8800, 8, 0, 0, 64⟩
def CRC_CNT.COUNT : Fld := ⟨0xd8800, 8, 0, 0, 48⟩
/-- SC_CTRL (R436), whole word -/
def SC_CTRL.reg : Fld := ⟨0xd9000, 0x40, 0, 0, 32⟩
def SC_CTRL.RUN : Fld := ⟨0xd9000, 0x40, 0, 0, 1⟩
def SC_CTRL.AUTO_RESTART : Fld := ⟨0xd9000, 0x40, 0, 1, 1⟩
def SC_CTRL.RESTART : Fld := ⟨0xd9000, 0x40, 0, 2, 1⟩
def SC_CTRL.KICK : Fld := ⟨0xd9000, 0x40, 0, 3, 1⟩
def SC_CTRL.RESTART_MAX : Fld := ⟨0xd9000, 0x40, 0, 4, 4⟩
def SC_CTRL.WDOG_BELLS : Fld := ⟨0xd9000, 0x40, 0, 16, 16⟩
/-- SC_STAT (R436), whole word -/
def SC_STAT.reg : Fld := ⟨0xd9008, 0x40, 0, 0, 32⟩
def SC_STAT.STATE : Fld := ⟨0xd9008, 0x40, 0, 0, 3⟩
def SC_STAT.ROM : Fld := ⟨0xd9008, 0x40, 0, 3, 1⟩
def SC_STAT.CAUSE : Fld := ⟨0xd9008, 0x40, 0, 4, 2⟩
def SC_STAT.WDOG_LEFT : Fld := ⟨0xd9008, 0x40, 0, 16, 16⟩
/-- SC_SVC_CFG (R436), whole word -/
def SC_SVC_CFG.reg : Fld := ⟨0xd9100, 0, 0, 0, 64⟩
def SC_SVC_CFG.LLDP_PORTS : Fld := ⟨0xd9100, 0, 0, 0, 8⟩
def SC_SVC_CFG.PROXY_EN : Fld := ⟨0xd9100, 0, 0, 8, 1⟩
def SC_SVC_CFG.ROLL_POL : Fld := ⟨0xd9100, 0, 0, 9, 1⟩
def SC_SVC_CFG.HIST_EN : Fld := ⟨0xd9100, 0, 0, 10, 1⟩
def SC_SVC_CFG.I2C_FAST : Fld := ⟨0xd9100, 0, 0, 11, 1⟩
def SC_SVC_CFG.MDC_DIV : Fld := ⟨0xd9100, 0, 0, 16, 8⟩
def SC_SVC_CFG.MBX_TMO_BELLS : Fld := ⟨0xd9100, 0, 0, 32, 16⟩
/-- SC_EVT (R436), whole word -/
def SC_EVT.reg : Fld := ⟨0xd9108, 0, 0, 0, 32⟩
def SC_EVT.RESTART : Fld := ⟨0xd9108, 0, 0, 0, 1⟩
def SC_EVT.FAULT : Fld := ⟨0xd9108, 0, 0, 1, 1⟩
def SC_EVT.TXQ_FULL : Fld := ⟨0xd9108, 0, 0, 2, 1⟩
def SC_EVT.MBX_LATE : Fld := ⟨0xd9108, 0, 0, 3, 1⟩
def SC_EVT.HIST_MISS : Fld := ⟨0xd9108, 0, 0, 4, 1⟩
/-- SC_TX_DESC0 (R436), whole word -/
def SC_TX_DESC0.reg : Fld := ⟨0xd9200, 0, 0, 0, 64⟩
def SC_TX_DESC0.PTR : Fld := ⟨0xd9200, 0, 0, 0, 32⟩
def SC_TX_DESC0.LEN : Fld := ⟨0xd9200, 0, 0, 32, 14⟩
def SC_TX_DESC0.TAG : Fld := ⟨0xd9200, 0, 0, 46, 16⟩
/-- SC_TX_LAUNCH (R436), whole word -/
def SC_TX_LAUNCH.reg : Fld := ⟨0xd9208, 0, 0, 0, 64⟩
def SC_TX_LAUNCH.LT : Fld := ⟨0xd9208, 0, 0, 0, 64⟩
/-- SC_TX_DESC1 (R436), whole word -/
def SC_TX_DESC1.reg : Fld := ⟨0xd9210, 0, 0, 0, 32⟩
def SC_TX_DESC1.DEST : Fld := ⟨0xd9210, 0, 0, 0, 4⟩
def SC_TX_DESC1.BRIDGE : Fld := ⟨0xd9210, 0, 0, 4, 1⟩
def SC_TX_DESC1.CLASSIFY : Fld := ⟨0xd9210, 0, 0, 5, 1⟩
def SC_TX_DESC1.L3_INS : Fld := ⟨0xd9210, 0, 0, 6, 1⟩
def SC_TX_DESC1.L4_INS : Fld := ⟨0xd9210, 0, 0, 7, 1⟩
def SC_TX_DESC1.TS_REQ : Fld := ⟨0xd9210, 0, 0, 8, 1⟩
def SC_TX_DESC1.LAUNCH_EN : Fld := ⟨0xd9210, 0, 0, 9, 1⟩
def SC_TX_DESC1.TC : Fld := ⟨0xd9210, 0, 0, 10, 3⟩
def SC_TX_DESC1.VID : Fld := ⟨0xd9210, 0, 0, 16, 12⟩
/-- SC_TX_DONE_TS (R436), whole word -/
def SC_TX_DONE_TS.reg : Fld := ⟨0xd9218, 0, 0, 0, 64⟩
def SC_TX_DONE_TS.TS : Fld := ⟨0xd9218, 0, 0, 0, 64⟩
/-- SC_TX_DONE (R436), whole word -/
def SC_TX_DONE.reg : Fld := ⟨0xd9220, 0, 0, 0, 64⟩
def SC_TX_DONE.TAG : Fld := ⟨0xd9220, 0, 0, 0, 16⟩
def SC_TX_DONE.STATUS : Fld := ⟨0xd9220, 0, 0, 16, 16⟩
def SC_TX_DONE.VALID : Fld := ⟨0xd9220, 0, 0, 32, 1⟩
/-- SC_RX_POP (R436), whole word -/
def SC_RX_POP.reg : Fld := ⟨0xd9228, 0, 0, 0, 64⟩
def SC_RX_POP.PTR : Fld := ⟨0xd9228, 0, 0, 0, 32⟩
def SC_RX_POP.VALID : Fld := ⟨0xd9228, 0, 0, 32, 1⟩
def SC_RX_POP.LEFT : Fld := ⟨0xd9228, 0, 0, 33, 9⟩
/-- MBX_DB (R436), whole word -/
def MBX_DB.reg : Fld := ⟨0xd9300, 0, 0, 0, 64⟩
def MBX_DB.MBX : Fld := ⟨0xd9300, 0, 0, 0, 4⟩
def MBX_DB.SEQ : Fld := ⟨0xd9300, 0, 0, 16, 16⟩
def MBX_DB.EXP_GEN : Fld := ⟨0xd9300, 0, 0, 32, 16⟩
/-- MBX_DB_RES (R436), whole word -/
def MBX_DB_RES.reg : Fld := ⟨0xd9308, 0, 0, 0, 32⟩
def MBX_DB_RES.DONE : Fld := ⟨0xd9308, 0, 0, 0, 1⟩
def MBX_DB_RES.RESULT : Fld := ⟨0xd9308, 0, 0, 1, 3⟩
/-- MBX_DONE (R436), whole word -/
def MBX_DONE.reg : Fld := ⟨0xd9310, 0, 0, 0, 64⟩
def MBX_DONE.MBX : Fld := ⟨0xd9310, 0, 0, 0, 4⟩
def MBX_DONE.SEQ : Fld := ⟨0xd9310, 0, 0, 16, 16⟩
def MBX_DONE.STATUS : Fld := ⟨0xd9310, 0, 0, 32, 16⟩
def MBX_DONE.LEN : Fld := ⟨0xd9310, 0, 0, 48, 9⟩
/-- MBX_STAT (R436), whole word -/
def MBX_STAT.reg : Fld := ⟨0xd9400, 8, 0, 0, 32⟩
def MBX_STAT.STATE : Fld := ⟨0xd9400, 8, 0, 0, 2⟩
def MBX_STAT.SEQ : Fld := ⟨0xd9400, 8, 0, 16, 16⟩
/-- SC_CNT (R436), whole word -/
def SC_CNT.reg : Fld := ⟨0xd9800, 8, 0, 0, 64⟩
def SC_CNT.COUNT : Fld := ⟨0xd9800, 8, 0, 0, 48⟩
/-- PMU_CTRL (R436), whole word -/
def PMU_CTRL.reg : Fld := ⟨0xda000, 0, 0, 0, 32⟩
def PMU_CTRL.EN : Fld := ⟨0xda000, 0, 0, 0, 1⟩
def PMU_CTRL.FREEZE : Fld := ⟨0xda000, 0, 0, 1, 1⟩
/-- PMU_OVF (R436), whole word -/
def PMU_OVF.reg : Fld := ⟨0xda008, 0, 0, 0, 32⟩
def PMU_OVF.OVF : Fld := ⟨0xda008, 0, 0, 0, 16⟩
/-- PMU_EVSEL (R436), whole word -/
def PMU_EVSEL.reg : Fld := ⟨0xda100, 8, 0, 0, 32⟩
def PMU_EVSEL.EVENT : Fld := ⟨0xda100, 8, 0, 0, 8⟩
def PMU_EVSEL.CORE : Fld := ⟨0xda100, 8, 0, 8, 2⟩
def PMU_EVSEL.CHAIN : Fld := ⟨0xda100, 8, 0, 10, 1⟩
def PMU_EVSEL.EN : Fld := ⟨0xda100, 8, 0, 11, 1⟩
/-- PMU_CNT (R436), whole word -/
def PMU_CNT.reg : Fld := ⟨0xda200, 8, 0, 0, 64⟩
def PMU_CNT.COUNT : Fld := ⟨0xda200, 8, 0, 0, 32⟩
/-- PMU_SAMP_CFG (R436), whole word -/
def PMU_SAMP_CFG.reg : Fld := ⟨0xda300, 0, 0, 0, 32⟩
def PMU_SAMP_CFG.EN : Fld := ⟨0xda300, 0, 0, 0, 1⟩
def PMU_SAMP_CFG.WRAP : Fld := ⟨0xda300, 0, 0, 1, 1⟩
def PMU_SAMP_CFG.CORE : Fld := ⟨0xda300, 0, 0, 2, 2⟩
def PMU_SAMP_CFG.EVENT : Fld := ⟨0xda300, 0, 0, 8, 8⟩
def PMU_SAMP_CFG.PERIOD : Fld := ⟨0xda300, 0, 0, 16, 16⟩
/-- PMU_SAMP_STAT (R436), whole word -/
def PMU_SAMP_STAT.reg : Fld := ⟨0xda308, 0, 0, 0, 32⟩
def PMU_SAMP_STAT.NEXT : Fld := ⟨0xda308, 0, 0, 0, 8⟩
def PMU_SAMP_STAT.FULL : Fld := ⟨0xda308, 0, 0, 8, 1⟩
/-- PMU_SAMP (R436), whole word -/
def PMU_SAMP.reg : Fld := ⟨0xdb000, 0x10, 8, 0, 64⟩
def PMU_SAMP.WORD : Fld := ⟨0xdb000, 0x10, 8, 0, 64⟩
/-- NVM_CFG (R479), whole word -/
def NVM_CFG.reg : Fld := ⟨0xe0000, 0, 0, 0, 32⟩
def NVM_CFG.NVM_DIV : Fld := ⟨0xe0000, 0, 0, 0, 8⟩
def NVM_CFG.RD_MODE : Fld := ⟨0xe0000, 0, 0, 8, 3⟩
def NVM_CFG.ADDR4 : Fld := ⟨0xe0000, 0, 0, 11, 1⟩
def NVM_CFG.DUMMY : Fld := ⟨0xe0000, 0, 0, 12, 4⟩
/-- LDR_STAT (R479), whole word -/
def LDR_STAT.reg : Fld := ⟨0xe0008, 0, 0, 0, 64⟩
def LDR_STAT.SLOT : Fld := ⟨0xe0008, 0, 0, 0, 1⟩
def LDR_STAT.LOADED : Fld := ⟨0xe0008, 0, 0, 1, 1⟩
def LDR_STAT.FALLBACK : Fld := ⟨0xe0008, 0, 0, 2, 1⟩
def LDR_STAT.RESULT0 : Fld := ⟨0xe0008, 0, 0, 8, 4⟩
def LDR_STAT.RESULT1 : Fld := ⟨0xe0008, 0, 0, 12, 4⟩
def LDR_STAT.FAIL_SEC : Fld := ⟨0xe0008, 0, 0, 16, 16⟩
def LDR_STAT.IMG_GEN : Fld := ⟨0xe0008, 0, 0, 32, 32⟩
/-- LDR_EVT (R479), whole word -/
def LDR_EVT.reg : Fld := ⟨0xe0010, 0, 0, 0, 32⟩
def LDR_EVT.LOAD_FAIL : Fld := ⟨0xe0010, 0, 0, 0, 1⟩
def LDR_EVT.FALLBACK : Fld := ⟨0xe0010, 0, 0, 1, 1⟩
def LDR_EVT.ROSTER_SKIP : Fld := ⟨0xe0010, 0, 0, 2, 1⟩
def LDR_EVT.NVM_DONE : Fld := ⟨0xe0010, 0, 0, 3, 1⟩
def LDR_EVT.NVM_REFUSED : Fld := ⟨0xe0010, 0, 0, 4, 1⟩
def LDR_EVT.NVM_FAIL : Fld := ⟨0xe0010, 0, 0, 5, 1⟩
/-- NVM_CMD (R479), whole word -/
def NVM_CMD.reg : Fld := ⟨0xe0020, 0, 0, 0, 64⟩
def NVM_CMD.ACTION : Fld := ⟨0xe0020, 0, 0, 0, 2⟩
def NVM_CMD.SLOT : Fld := ⟨0xe0020, 0, 0, 2, 1⟩
def NVM_CMD.ADDR : Fld := ⟨0xe0020, 0, 0, 8, 24⟩
/-- NVM_STAT (R479), whole word -/
def NVM_STAT.reg : Fld := ⟨0xe0028, 0, 0, 0, 64⟩
def NVM_STAT.BUSY : Fld := ⟨0xe0028, 0, 0, 0, 1⟩
def NVM_STAT.ACTION : Fld := ⟨0xe0028, 0, 0, 1, 2⟩
def NVM_STAT.WP : Fld := ⟨0xe0028, 0, 0, 3, 1⟩
def NVM_STAT.V_RESULT : Fld := ⟨0xe0028, 0, 0, 4, 4⟩
def NVM_STAT.V_SLOT : Fld := ⟨0xe0028, 0, 0, 8, 1⟩
def NVM_STAT.TD0_MATCH : Fld := ⟨0xe0028, 0, 0, 9, 1⟩
def NVM_STAT.TD1_MATCH : Fld := ⟨0xe0028, 0, 0, 10, 1⟩
def NVM_STAT.V_GEN : Fld := ⟨0xe0028, 0, 0, 32, 32⟩
/-- NVM_BUF (R479), whole word -/
def NVM_BUF.reg : Fld := ⟨0xe0100, 8, 0, 0, 64⟩
def NVM_BUF.BYTES : Fld := ⟨0xe0100, 8, 0, 0, 64⟩
/-- LDG_STAT (R479), whole word -/
def LDG_STAT.reg : Fld := ⟨0xe0800, 0, 0, 0, 64⟩
def LDG_STAT.LC : Fld := ⟨0xe0800, 0, 0, 0, 3⟩
def LDG_STAT.QUEUED : Fld := ⟨0xe0800, 0, 0, 3, 5⟩
def LDG_STAT.MIN_EN : Fld := ⟨0xe0800, 0, 0, 8, 1⟩
def LDG_STAT.TD0_SET : Fld := ⟨0xe0800, 0, 0, 9, 1⟩
def LDG_STAT.TD1_SET : Fld := ⟨0xe0800, 0, 0, 10, 1⟩
def LDG_STAT.BOOT_COUNT : Fld := ⟨0xe0800, 0, 0, 16, 48⟩
/-- LDG_EVT (R479), whole word -/
def LDG_EVT.reg : Fld := ⟨0xe0808, 0, 0, 0, 32⟩
def LDG_EVT.CE : Fld := ⟨0xe0808, 0, 0, 0, 1⟩
def LDG_EVT.UE : Fld := ⟨0xe0808, 0, 0, 1, 1⟩
def LDG_EVT.BUSY : Fld := ⟨0xe0808, 0, 0, 2, 1⟩
def LDG_EVT.BUDGET : Fld := ⟨0xe0808, 0, 0, 3, 1⟩
def LDG_EVT.WRITE_FAIL : Fld := ⟨0xe0808, 0, 0, 4, 1⟩
/-- LDG_RD_ADDR (R479), whole word -/
def LDG_RD_ADDR.reg : Fld := ⟨0xe0810, 0, 0, 0, 32⟩
def LDG_RD_ADDR.WORD : Fld := ⟨0xe0810, 0, 0, 0, 13⟩
/-- LDG_RD_DATA (R479), whole word -/
def LDG_RD_DATA.reg : Fld := ⟨0xe0818, 0, 0, 0, 64⟩
def LDG_RD_DATA.DATA : Fld := ⟨0xe0818, 0, 0, 0, 64⟩
/-- LDG_FW_ADDR (R479), whole word -/
def LDG_FW_ADDR.reg : Fld := ⟨0xe0820, 0, 0, 0, 32⟩
def LDG_FW_ADDR.WORD : Fld := ⟨0xe0820, 0, 0, 0, 11⟩
/-- LDG_FW_DATA (R479), whole word -/
def LDG_FW_DATA.reg : Fld := ⟨0xe0828, 0, 0, 0, 64⟩
def LDG_FW_DATA.DATA : Fld := ⟨0xe0828, 0, 0, 0, 64⟩
/-- PROT_CFG (R505), whole word -/
def PROT_CFG.reg : Fld := ⟨0xe1000, 0, 0, 0, 32⟩
def PROT_CFG.EXPIRY_TERMS : Fld := ⟨0xe1000, 0, 0, 0, 8⟩
/-- PROT_CMD (R505), whole word -/
def PROT_CMD.reg : Fld := ⟨0xe1008, 0, 0, 0, 64⟩
def PROT_CMD.ACTION : Fld := ⟨0xe1008, 0, 0, 0, 2⟩
def PROT_CMD.PROP_NUM : Fld := ⟨0xe1008, 0, 0, 32, 32⟩
/-- PROT_CMD_RES (R505), whole word -/
def PROT_CMD_RES.reg : Fld := ⟨0xe1010, 0, 0, 0, 64⟩
def PROT_CMD_RES.DONE : Fld := ⟨0xe1010, 0, 0, 0, 1⟩
def PROT_CMD_RES.REFUSED : Fld := ⟨0xe1010, 0, 0, 1, 1⟩
def PROT_CMD_RES.REASON : Fld := ⟨0xe1010, 0, 0, 2, 4⟩
def PROT_CMD_RES.PROP_NUM : Fld := ⟨0xe1010, 0, 0, 32, 32⟩
/-- PROT_APPROVE_DG (R505), whole word -/
def PROT_APPROVE_DG.reg : Fld := ⟨0xe1018, 0, 0, 0, 64⟩
def PROT_APPROVE_DG.DG : Fld := ⟨0xe1018, 0, 0, 0, 64⟩
/-- PROT_STG_CTRL (R505), whole word -/
def PROT_STG_CTRL.reg : Fld := ⟨0xe1020, 0, 0, 0, 32⟩
def PROT_STG_CTRL.KIND : Fld := ⟨0xe1020, 0, 0, 0, 4⟩
def PROT_STG_CTRL.TARGET : Fld := ⟨0xe1020, 0, 0, 16, 10⟩
/-- PROT_STG_VAL (R505), whole word -/
def PROT_STG_VAL.reg : Fld := ⟨0xe1040, 8, 0, 0, 64⟩
def PROT_STG_VAL.VAL : Fld := ⟨0xe1040, 8, 0, 0, 64⟩
/-- PROT_PROP_VAL (R505), whole word -/
def PROT_PROP_VAL.reg : Fld := ⟨0xe10c0, 8, 0, 0, 64⟩
def PROT_PROP_VAL.VAL : Fld := ⟨0xe10c0, 8, 0, 0, 64⟩
/-- PROT_PROP_STAT (R505), whole word -/
def PROT_PROP_STAT.reg : Fld := ⟨0xe1080, 0, 0, 0, 64⟩
def PROT_PROP_STAT.STATE : Fld := ⟨0xe1080, 0, 0, 0, 2⟩
def PROT_PROP_STAT.KIND : Fld := ⟨0xe1080, 0, 0, 2, 4⟩
def PROT_PROP_STAT.TARGET : Fld := ⟨0xe1080, 0, 0, 6, 10⟩
def PROT_PROP_STAT.PROPOSER : Fld := ⟨0xe1080, 0, 0, 16, 9⟩
def PROT_PROP_STAT.PROP_NUM : Fld := ⟨0xe1080, 0, 0, 32, 32⟩
/-- PROT_PROP_INFO (R505), whole word -/
def PROT_PROP_INFO.reg : Fld := ⟨0xe1088, 0, 0, 0, 64⟩
def PROT_PROP_INFO.APPROVER : Fld := ⟨0xe1088, 0, 0, 0, 9⟩
def PROT_PROP_INFO.EXPIRE_TERM : Fld := ⟨0xe1088, 0, 0, 32, 32⟩
/-- PROT_PROP_DIGEST (R505), whole word -/
def PROT_PROP_DIGEST.reg : Fld := ⟨0xe1100, 8, 0, 0, 64⟩
def PROT_PROP_DIGEST.DIGEST : Fld := ⟨0xe1100, 8, 0, 0, 64⟩
/-- PROT_EVT (R505), whole word -/
def PROT_EVT.reg : Fld := ⟨0xe1140, 0, 0, 0, 32⟩
def PROT_EVT.STAGED : Fld := ⟨0xe1140, 0, 0, 0, 1⟩
def PROT_EVT.APPROVED : Fld := ⟨0xe1140, 0, 0, 1, 1⟩
def PROT_EVT.APPLIED : Fld := ⟨0xe1140, 0, 0, 2, 1⟩
def PROT_EVT.APPLY_FAIL : Fld := ⟨0xe1140, 0, 0, 3, 1⟩
def PROT_EVT.EXPIRED : Fld := ⟨0xe1140, 0, 0, 4, 1⟩
def PROT_EVT.REFUSED : Fld := ⟨0xe1140, 0, 0, 5, 1⟩
def PROT_EVT.PERSIST_FAIL : Fld := ⟨0xe1140, 0, 0, 6, 1⟩
def PROT_EVT.DENIED : Fld := ⟨0xe1140, 0, 0, 7, 1⟩
def PROT_EVT.TAMPER : Fld := ⟨0xe1140, 0, 0, 8, 1⟩
def PROT_EVT.WIPE_DONE : Fld := ⟨0xe1140, 0, 0, 9, 1⟩
/-- PROT_DENY_LOG (R505), whole word -/
def PROT_DENY_LOG.reg : Fld := ⟨0xe1148, 0, 0, 0, 64⟩
def PROT_DENY_LOG.ADDR : Fld := ⟨0xe1148, 0, 0, 0, 20⟩
def PROT_DENY_LOG.WRITE : Fld := ⟨0xe1148, 0, 0, 20, 1⟩
def PROT_DENY_LOG.INIT : Fld := ⟨0xe1148, 0, 0, 21, 9⟩
def PROT_DENY_LOG.VALID : Fld := ⟨0xe1148, 0, 0, 30, 1⟩
def PROT_DENY_LOG.BELL : Fld := ⟨0xe1148, 0, 0, 32, 32⟩
/-- PROT_SEC_STAT (R505), whole word -/
def PROT_SEC_STAT.reg : Fld := ⟨0xe1150, 0, 0, 0, 32⟩
def PROT_SEC_STAT.WIPING : Fld := ⟨0xe1150, 0, 0, 0, 1⟩
def PROT_SEC_STAT.CAUSE : Fld := ⟨0xe1150, 0, 0, 1, 2⟩
def PROT_SEC_STAT.PENDING : Fld := ⟨0xe1150, 0, 0, 4, 16⟩
/-- PROT_SECPAGE (R505), whole word -/
def PROT_SECPAGE.reg : Fld := ⟨0xe1200, 8, 0, 0, 32⟩
def PROT_SECPAGE.SC_MASK : Fld := ⟨0xe1200, 8, 0, 0, 2⟩
def PROT_SECPAGE.PART_EN : Fld := ⟨0xe1200, 8, 0, 2, 1⟩
def PROT_SECPAGE.PART : Fld := ⟨0xe1200, 8, 0, 3, 3⟩
/-- PROT_INIT (R505), whole word -/
def PROT_INIT.reg : Fld := ⟨0xe2000, 8, 0, 0, 64⟩
def PROT_INIT.RD : Fld := ⟨0xe2000, 8, 0, 0, 24⟩
def PROT_INIT.WR : Fld := ⟨0xe2000, 8, 0, 24, 24⟩
def PROT_INIT.PART : Fld := ⟨0xe2000, 8, 0, 48, 3⟩
def PROT_INIT.PART_EN : Fld := ⟨0xe2000, 8, 0, 51, 1⟩
def PROT_INIT.PROPOSE : Fld := ⟨0xe2000, 8, 0, 52, 1⟩
def PROT_INIT.APPROVE : Fld := ⟨0xe2000, 8, 0, 53, 1⟩
/-- TAMPER_CFG (R505), whole word -/
def TAMPER_CFG.reg : Fld := ⟨0xe3000, 0, 0, 0, 64⟩
def TAMPER_CFG.EN : Fld := ⟨0xe3000, 0, 0, 0, 8⟩
def TAMPER_CFG.POL : Fld := ⟨0xe3000, 0, 0, 8, 8⟩
def TAMPER_CFG.FILTER : Fld := ⟨0xe3000, 0, 0, 16, 8⟩
def TAMPER_CFG.LOCKOUT : Fld := ⟨0xe3000, 0, 0, 24, 8⟩
def TAMPER_CFG.LOCK : Fld := ⟨0xe3000, 0, 0, 32, 1⟩
/-- TAMPER_STAT (R505), whole word -/
def TAMPER_STAT.reg : Fld := ⟨0xe3008, 0, 0, 0, 32⟩
def TAMPER_STAT.LEVEL : Fld := ⟨0xe3008, 0, 0, 0, 8⟩
def TAMPER_STAT.SEEN : Fld := ⟨0xe3008, 0, 0, 8, 8⟩
def TAMPER_STAT.LOG_PEND : Fld := ⟨0xe3008, 0, 0, 16, 8⟩
def TAMPER_STAT.LOCKED_OUT : Fld := ⟨0xe3008, 0, 0, 24, 1⟩
/-- PROT_CNT (R505), whole word -/
def PROT_CNT.reg : Fld := ⟨0xe3800, 8, 0, 0, 64⟩
def PROT_CNT.COUNT : Fld := ⟨0xe3800, 8, 0, 0, 48⟩

end Sys2Proof.Machine
end

