-- ==== Sys2Proof/Machine/State.lean ====
section
/-! DEFINITION. The state of the block as plain data: the register file, the state no register shows, and the queue of
waiting commands. Sparse maps are lists of (key, value) in one canonical form: keys strictly rising, and no value equal to
what an unlisted key holds. -/

namespace Sys2Proof.Machine

open Sys2Proof

/-- What stops the machine. The spec names no event after which the block stops working, so no command raises a fault and
the type is empty. -/
inductive Fault where
  deriving DecidableEq, Repr

/-- Why a command has no meaning. -/
inductive Refusal where
  /-- An arm of exec that the model does not give its meaning yet. Safe: nothing can be proved of such a command. -/
  | notModelled (mnemonic : String)
  deriving DecidableEq, Repr

/-! Units. -/

/-- Unit functions (R16). -/
inductive UnitFunc where
  | idle | owned | shared | firmware | diag
  deriving DecidableEq, Repr

/-- The role of a unit (R16): its owner (a partition, or none for the block), its function, its generation, and the
accepted change that waits for the next bell edge (R18). -/
structure Role where
  owner : Option (Fin 8)
  func : UnitFunc
  gen : BitVec 16
  pend : Option (Option (Fin 8) × UnitFunc)
  deriving DecidableEq, Repr

/-- The role of every unit at block reset (R26). -/
def Role.init : Role := ⟨none, .idle, 0, none⟩

/-! Frames. -/

/-- A stored frame as the queues of the block carry it: what its card holds (R234), and what the egress entry holds in the
card's place (R30). -/
structure Frame where
  /-- Buffer pointer (R225), counted size of the buffer (R233), stored length. -/
  ptr : Nat
  size : Nat
  len : Nat
  /-- SRC and FLAGS of the card (R234). -/
  src : Nat
  flags : Nat
  /-- Traffic class, VLAN v of the bridge (R276), VLAN field of the card, and whether the frame has an outer tag. -/
  tc : Nat
  vlan : Nat
  tci : Nat
  tagged : Bool
  /-- Ingress timestamp in units of 2^-16 ns. -/
  ts : Nat
  /-- Launch time in whole ns (R165). -/
  launch : Option Nat
  /-- The host or core job that waits for this frame, by number (R327, R417). -/
  job : Option Nat
  /-- A downlink of the roll-call engine: its neighbour and link (R178, R406). -/
  downlink : Option (Nat × Nat)
  /-- Passes taken, and the rule bank the frame is pinned to (R265). -/
  pass : Nat
  bank : Nat
  /-- Card fields of the parser's result: matched rule, flow tag, offsets and types, cookie (R234). -/
  rule : Nat
  flow : Nat
  l3off : Nat
  l4off : Nat
  l3type : Nat
  l4type : Nat
  cookie : Nat
  /-- Radio metadata word (R176), bell of ingress (R387). -/
  rmeta : Nat
  bell : Nat
  /-- The class of a frame that a meter found red (R291). -/
  red : Option Nat
  /-- Mirror sessions that already took a copy; bytes stripped over all passes, and those to strip before the next pass. -/
  mirrored : Nat
  strip : Nat
  skip : Nat
  /-- Destination and source address, for the bridge. -/
  mac : Nat
  deriving DecidableEq, Repr

/-- A port destination in a class queue: the frame, whether its copy takes the tag edit of the bridge (R286), its class,
and whether this destination completes the frame's job (R327). -/
structure QEntry where
  f : Frame
  edit : Bool
  cls : Nat
  first : Bool
  deriving DecidableEq, Repr

/-- A result of a check-value unit (R443). -/
structure CrcEntry where
  result : Nat
  tag : Nat
  len : Nat
  deriving DecidableEq, Repr

/-- A PORT_TX computation that counts once its frame is sent (R441, R444). -/
structure CrcMark where
  unit : Nat
  epoch : Nat
  entry : CrcEntry
  deriving DecidableEq, Repr

/-- A whole frame in a TX FIFO (R29, R119): its bytes without FCS, whether it was padded, its timestamp, the bytes and
fragments already sent (R160), whether it goes out preemptable, when it started, whether it is late (R167), its start code,
and its check computations. -/
structure TxFrame where
  e : QEntry
  data : List Nat
  padded : Bool
  ts : Nat
  sent : Nat
  frags : Nat
  preempt : Bool
  startAt : Nat
  late : Bool
  smd : Nat
  marks : List CrcMark
  /-- Has the copy been eligible at its earliest start (R152)? -/
  ok : Bool
  deriving DecidableEq, Repr

/-- What a byte lane of the PCS stream carries (R106): a control character, a data byte, or an invalid character. -/
inductive Lane where
  | idle | lpi | start | terminate | error | sequence
  | data (v : Nat)
  | invalid (v : Nat)
  deriving DecidableEq, Repr

/-- Which Start a receiver takes next: any; after a misaligned Start it discards its input until Idle, LPI, an ordered set or an
aligned Start (R109); after a jabber until Idle, LPI or an ordered set (R114). -/
inductive RxGate where
  | take | misaligned | jabber
  deriving DecidableEq, Repr

/-- The ordered sets of one fault: how many 64-bit words ago the last four came, newest first, and how many words have gone by
without one (R110). -/
structure FaultSt where
  seen : List Nat
  clean : Nat
  deriving DecidableEq, Repr

/-- Control frames a port generates (R132, R158, R159). -/
inductive CtrlKind where
  | pause | pfc | verify | respond
  deriving DecidableEq, Repr

structure CtrlFrame where
  kind : CtrlKind
  bytes : List Nat
  deriving DecidableEq, Repr

/-- A frame in an RX FIFO: its bytes without FCS, the OVERSIZE mark (R113), its timestamp, its radio metadata, and the bell
in which it was received. -/
structure RxFrame where
  bytes : List Nat
  oversize : Bool
  ts : Nat
  md : Option Nat
  bell : Nat
  deriving DecidableEq, Repr

/-- An assembly of fragments (R163). -/
structure Assy where
  idx : Nat
  next : Nat
  data : List Nat
  ts : Nat
  /-- FRC at the Start of the first fragment, whose MAX_FRAME counts (R113). -/
  startAt : Nat
  deriving DecidableEq, Repr

/-- What a wired port holds beside its registers. -/
structure PortSt where
  /-- PCS link input, a frame open on the receive side, a cleared EN that waits for its frame (R120, R123). -/
  linkOk : Bool
  rxOpen : Bool
  disabling : Bool
  /-- FRC at entry to ARMING, at the start of idle, at the end of WAKING (R120, R135, R136). -/
  armAt : Nat
  idleAt : Nat
  wakeAt : Nat
  /-- Deficit count and byte position of R108. -/
  dic : Nat
  txPos : Nat
  rxFifo : List RxFrame
  tx : Option TxFrame
  wait : Option TxFrame
  split : Option TxFrame
  ctrlQ : List CtrlFrame
  /-- Ends of the pause and PFC timers, in 1/100 ns (R128, R129). -/
  pauseEnd : Nat
  pfcEnd : List Nat
  /-- Flow-control mode in force, TX_EN when the mode was rewritten, priorities last sent as XOFF, time of the last frame sent
  (R132, R133). -/
  fcMode : Nat
  fcTx : Bool
  pfcSent : Nat
  fcSentAt : Nat
  /-- Paused time of the watchdog, in ns (R134). -/
  wdogNs : Nat
  /-- Next start code, verify time, assembly (R157, R158, R163). -/
  smd : Nat
  verifyAt : Nat
  assy : Option Assy
  /-- The lanes of the last packet sent, or of the one being sent, from its Start to its Terminate, and the lane of that Start
  in its beat (R105, R108, R159, R160). -/
  wire : List Lane
  startLane : Nat
  /-- What the receiver discards; ordered sets of local and remote fault seen (R109, R110, R114). -/
  gate : RxGate
  lf : FaultSt
  rf : FaultSt
  /-- Writes of PORTn_MAX_FRAME that may fall into a frame still being received: FRC and value before, oldest first (R113). -/
  maxLog : List (Nat × Nat)
  /-- Activity since the last LED evaluation (R530). -/
  act : Bool
  /-- Timetable: entries of the active and of the pending list, how the pending switch is timed, and the grid time of the
  last cycle start (R141, R147). -/
  gclCount : Nat
  pendCount : Nat
  pendAtSt : Bool
  pendBell : Nat
  cycleAt : Nat
  /-- A PORTn_PM_CFG word whose EN, VERIFY_DIS, ADD_FRAG and PREEMPT wait for their frame boundary; the register key holds
  the settings in force. -/
  pmNew : Option Nat
  deriving DecidableEq, Repr

def PortSt.init : PortSt :=
  { linkOk := false, rxOpen := false, disabling := false, armAt := 0, idleAt := 0, wakeAt := 0, dic := 0, txPos := 0,
    rxFifo := [], tx := none, wait := none, split := none, ctrlQ := [], pauseEnd := 0, pfcEnd := List.replicate 8 0,
    fcMode := 0, fcTx := false, pfcSent := 0, fcSentAt := 0, wdogNs := 0, smd := 0, verifyAt := 0, assy := none,
    wire := [], startLane := 0, gate := .take, lf := ⟨[], 0⟩, rf := ⟨[], 0⟩, maxLog := [], act := false,
    gclCount := 0, pendCount := 0, pendAtSt := false, pendBell := 0, cycleAt := 0, pmNew := none }

/-- A frame open on a radio receive stream: its metadata word, its timestamp, MAX_FRAME at its SOP beat, the bytes so far (R174,
R177, R186). -/
structure RadPart where
  md : Nat
  ts : Nat
  ahead : Bool
  max : Nat
  bytes : List Nat
  deriving DecidableEq, Repr

/-- What a radio port holds beside its registers. -/
structure RadSt where
  rxOpen : Option RadPart
  rxSkip : Bool
  /-- RADn_RX_VALID with a beat that READY has not let through (R171). -/
  rxValid : Bool
  rxFifo : List RxFrame
  tx : Option TxFrame
  wait : Option TxFrame
  /-- FRC at which RADn_TX_VALID rises for the SOP beat of the waiting frame (R172, R173). -/
  offer : Option Nat
  /-- FRC of each beat but the last of the frame in transfer (R173), and of the last RADn_TX_ABORT pulse (R184). -/
  txBeats : List Nat
  abortAt : Option Nat
  /-- FRC of the next beacon deadline, 0 for none; last sequence number; FRC of the last report (R181, R183). -/
  due : Nat
  lastSeq : Option Nat
  bcnAt : Nat
  /-- Byte credits and the FRC they hold at (R173). While a frame is in transfer the transmit credit is that of the cycle in which
  its EOP beat is offered. -/
  rxCredit : Int
  rxCreditAt : Nat
  txCredit : Int
  txCreditAt : Nat
  /-- Frame tag of the transmit metadata (R178), the last frame and metadata word sent. -/
  tag : Nat
  wire : List Nat
  metaOut : Nat
  deriving DecidableEq, Repr

def RadSt.init : RadSt := ⟨none, false, false, [], none, none, none, [], none, 0, none, 0, 512, 0, 512, 0, 0, [], 0⟩

/-! Buffer memory and pools. -/

/-- A pool definition in force (R224, R235): SIZE code, first bank, number of banks (0: disabled). -/
structure PoolDef where
  size : Nat
  first : Nat
  banks : Nat
  deriving DecidableEq, Repr
def PoolDef.off : PoolDef := ⟨0, 0, 0⟩

/-- The record of a granted buffer (R231, R233): references, and the ingress port and priority its bytes count against. -/
structure Buf where
  refs : Nat
  src : Nat
  pri : Nat
  deriving DecidableEq, Repr
def Buf.free : Buf := ⟨0, 0, 0⟩

inductive RebuildKind where
  | withdraw | add | build
  deriving DecidableEq, Repr

/-- A pool rebuild in steps (R236). Of a WITHDRAW, `upto` is how many buffers of the bank had joined the list when it was served
and `out` which of them were in use; of a RESTORE or REDEFINE, `out` are the banks withdrawn again before their buffers joined.
`size` is the number of buffers of a bank. -/
structure Rebuild where
  kind : RebuildKind
  pool : Nat
  bank : Nat
  pos : Nat
  size : Nat
  upto : Nat
  out : List Nat
  deriving DecidableEq, Repr

/-- Buffer memory, pools and staff room. -/
structure MemSt where
  pools : List (Nat × PoolDef)
  bufs : List (Nat × Buf)
  joined : List (Nat × Nat)
  avail : List (Nat × Nat)
  srcBytes : List (Nat × Nat)
  priBytes : List (Nat × Nat)
  /-- Allocator cycle: requests reached, the rank of the last of them, the free counts and reserves at its start, the grants in it
  and the buffers released since it began (R227 to R229). -/
  allocReached : Nat
  allocRank : Nat
  allocStart : List Nat
  allocReserve : List Nat
  allocGrants : List Nat
  allocFreed : List Nat
  /-- The port served last before the allocator cycle, and in it: the round robin of rank 2 goes on after it (R227, R546). -/
  allocBase : Nat
  allocPort : Nat
  rebuild : List Rebuild
  /-- The array behind the codec: byte 90·stripe + 9·column + lane, lane 8 the check bits (R188, R189). -/
  cells : List Host.Cell
  /-- Corrected and uncorrectable words per bank and column in this term (R204). -/
  ceTerm : List (Nat × Nat)
  ueTerm : List (Nat × Nat)
  /-- Banks and columns that change at the next edge (R201, R204). -/
  offPend : List Nat
  erasePend : List (Nat × Nat)
  /-- Preserving march (R206 to R210). -/
  marchErase : Bool
  marchOp : Nat
  marchPos : Nat
  marchFails : List (Nat × Nat)
  marchAbort : Bool
  /-- Repair entries not recorded yet (R214). -/
  repairDue : List Nat
  /-- Term in which the last scrub pass started, and a start that waits for SCRUB_EN (R216). -/
  scrubTerm : Option Nat
  scrubWant : Bool
  /-- The staff room: byte 9·word + lane, lane 8 the check bits (R217), and the words that a block writer wrote last: the first
  and how many (R220). -/
  staff : List Host.Cell
  staffRun : Nat × Nat
  deriving DecidableEq, Repr

def MemSt.init : MemSt :=
  { pools := [], bufs := [], joined := [], avail := [], srcBytes := [], priBytes := [], allocReached := 0, allocRank := 0,
    allocStart := [], allocReserve := [], allocGrants := [], allocFreed := [], allocBase := 10, allocPort := 10, rebuild := [],
    cells := [], ceTerm := [], ueTerm := [], offPend := [], erasePend := [], marchErase := false, marchOp := 0, marchPos := 0,
    marchFails := [], marchAbort := false, repairDue := [], scrubTerm := none, scrubWant := false, staff := [],
    staffRun := (0, 0) }

/-! Ledger. -/

/-- What a ledger write request records (R468 to R474). -/
inductive LdgBody where
  | ckpt (w0 w1 w2 : Nat)
  | repair (entry kind row : Nat)
  | config (lc : Nat) (td0 td1 : List Nat) (genMin en : Nat)
  | log (kind top w1 w2 : Nat)
  | fw (a d : Nat)
  deriving DecidableEq, Repr

/-- A request in the ledger queue: its body, and once started the words still to write. -/
structure LdgReq where
  body : LdgBody
  todo : Option (List (Nat × Nat))
  deriving DecidableEq, Repr

/-- The ledger: its cells (byte 9·word + lane, lane 8 the check bits), the queue, the FRC at which the self-timed programming of
the last word ends (R48), the firmware writes of this term, and what START read from it: the two party digests and the lowest
accepted image generation (R468). -/
structure LedgerSt where
  cells : List Host.Cell
  queue : List LdgReq
  progEnd : Nat
  fwUsed : Nat
  td0 : List Nat
  td1 : List Nat
  genMin : Nat
  deriving DecidableEq, Repr
def LedgerSt.init : LedgerSt := ⟨[], [], 0, 0, [0, 0, 0, 0], [0, 0, 0, 0], 0⟩

/-! Egress. -/

/-- Queues of the egress side, keyed by unit · 8 + class, and the bytes they and the partitions hold. -/
structure EgrSt where
  queues : List (Nat × List QEntry)
  qBytes : List (Nat × Nat)
  partBytes : List (Nat × Nat)
  deficit : List (Nat × Nat)
  turn : List (Nat × (Nat × Bool))
  deriving DecidableEq, Repr
def EgrSt.init : EgrSt := ⟨[], [], [], [], []⟩

/-! Time, bell, chip. -/

/-- A capture entry (R374). -/
structure CapEntry where
  st : Nat
  rising : Bool
  deriving DecidableEq, Repr

/-- An event output: its level, its next scheduled edge and the end of its pulse, in ns of synchronized time (R375). -/
structure OutState where
  level : Bool
  next : Option Nat
  fallAt : Option Nat
  deriving DecidableEq, Repr
def OutState.idle : OutState := ⟨false, none, none⟩

/-- Time parameters that were in force in the cycles before FRC `upTo`: offset in 2^-16 ns, anchor and rate (R361, R364). -/
structure TimePar where
  upTo : Nat
  offset : Int
  anchor : Nat
  rate : Int
  deriving DecidableEq, Repr

/-- The timebase beside its registers: start of the rate-write timeout, a held step, captures, outputs, the start of the
running reference window, and the earlier parameters, the last first. -/
structure TimeSt where
  servoStart : Nat
  heldStep : Option Int
  caps : List (Nat × List CapEntry)
  outs : List (Nat × OutState)
  refStart : Nat
  past : List TimePar
  deriving DecidableEq, Repr
def TimeSt.init : TimeSt := ⟨0, none, [], [], 0, []⟩

/-- The bell (R81 to R88): PERIOD and TERM_BELLS in force, the grid origin and index, the grid time of the last edge, the
boundary of an armed re-phase, what the running term's card will say, and BELL_OUT. -/
structure BellSt where
  period : Nat
  termBells : Nat
  origin : Nat
  k : Nat
  edgeGrid : Nat
  unalign : Bool
  rephaseAt : Nat
  firstBell : Nat
  startFrc : Nat
  startSt : Nat
  startValid : Bool
  changed : Bool
  restart : Bool
  outEn : Bool
  outFallAt : Option Nat
  outLevel : Bool
  /-- FRC at which the fixed work of the bell ends (R89). -/
  fixedEnd : Nat
  /-- Steps of each operation in this bell, the code served last (R93), the FRC at which that step ends, and steps, refused commands
  and idle bells of this term (R99). -/
  steps : List (Nat × Nat)
  lastStep : Nat
  stepEnd : Nat
  stepsRun : Nat
  cmdRefused : Nat
  idleBells : Nat
  deriving DecidableEq, Repr
def BellSt.init : BellSt :=
  ⟨125000, 8000, 0, 0, 0, false, 0, 0, 0, 0, false, false, true, true, none, false, 0, [], 0, 0, 0, 0, 0⟩

/-- The steps of START (R451): the FRC at which START was entered, the ledger read, the boot-counter write, the march, the
image load and the pool build that have ended, and the words of step 2 that wait for VDD_LEDGER (R47). -/
structure StartSt where
  enteredAt : Nat
  ledgerDone : Bool
  countDone : Bool
  marchDone : Bool
  imageDone : Bool
  built : Bool
  held : List (Nat × Nat)
  deriving DecidableEq, Repr
def StartSt.init : StartSt := ⟨0, false, false, false, false, false, []⟩

/-- The states of the test access port controller of IEEE 1149.1 (R75). -/
inductive TapState where
  | reset | idle
  | selectDr | captureDr | shiftDr | exit1Dr | pauseDr | exit2Dr | updateDr
  | selectIr | captureIr | shiftIr | exit1Ir | pauseIr | exit2Ir | updateIr
  deriving DecidableEq, Repr

/-- The test access port (R75 to R78): the state of its controller; the instruction register and its shift register; the shift
register of the selected data register; the REGACC register as the next Capture-DR loads it, and the accesses that wait for
REG_CK; the result field of MBIST. -/
structure TapSt where
  state : TapState
  ir : BitVec 5
  irShift : BitVec 5
  dr : BitVec 90
  acc : BitVec 90
  wait : List (BitVec 90)
  mbist : BitVec 7
  deriving DecidableEq, Repr
def TapSt.init : TapSt := ⟨.reset, 0x01, 0x01, 0, 0, [], 0⟩

/-- The chip around the block: reset, clocks (R52), the levels of PG_LEDGER, PORST#, PG_CORE and PG_SRAM, power requests (R46),
VDD_AON, manufacturing test and whether TM_MBIST named it (R80), GPIO pins (R66), a scheduled software reset (R63), a wake from
DEEP that START has not ended, the steps of START, the fraction of the always-on count in units of 1/32768 ns, the test access
port. -/
structure ChipSt where
  mainReset : Bool
  clkUp : BitVec 13
  pgLedger : Bool
  porst : Bool
  pgCore : Bool
  pgSram : Bool
  reqMain : Bool
  reqLedger : Bool
  aonOn : Bool
  mfgTest : Bool
  mfgMbist : Bool
  gpio : BitVec 32
  rstPend : Bool
  wakeCause : Bool
  start : StartSt
  aonRem : Nat
  tap : TapSt
  deriving DecidableEq, Repr
def ChipSt.init : ChipSt :=
  ⟨true, 0x1FFF, true, true, true, true, true, true, true, false, false, 0, false, false, .init, 0, .init⟩

/-- The check units beside their registers: results to push, result FIFOs, how often EN was cleared. -/
structure CrcSt where
  due : List (Nat × CrcEntry)
  fifo : List (Nat × List CrcEntry)
  epoch : List (Nat × Nat)
  deriving DecidableEq, Repr
def CrcSt.init : CrcSt := ⟨[], [], []⟩

/-! Host partitions (R297 to R338). -/

/-- A fetched slot of a submission ring: its 16 bytes, or how its read failed (R333). -/
inductive Slot where
  | data (v : Nat)
  | timeout
  | fault
  deriving DecidableEq, Repr

/-- What a host memory request is for: slots of a submission ring, a part of segment data of a job, a data write of a frame,
a write of a completion, or nothing any more (R301). -/
inductive HostOp where
  | ring (rx : Bool) (ptr n : Nat)
  | seg (job idx lo n : Nat)
  | data (deliv : Nat)
  | cpl (rx : Bool) (id : Nat)
  | gone
  deriving DecidableEq, Repr

/-- A host memory request (R70): partition, purpose, 64-byte aligned address, first enabled byte and the bytes of a write,
FRC of its issue, and whether its timeout has passed (R71, R335). -/
structure HostReq where
  part : Nat
  op : HostOp
  addr : Nat
  lo : Nat
  data : List Nat
  at_ : Nat
  dead : Bool
  deriving DecidableEq, Repr

/-- A completion entry (R319 to R321): its number, ring, 16-byte slots with PHASE 0, whether it is a SKIP, whether it was
held, whether its status is OK, the octets it counts, the ring pointer it has, the writes of its later slots outstanding. -/
structure Cpl where
  id : Nat
  rx : Bool
  slots : List Nat
  skip : Bool
  held : Bool
  ok : Bool
  octets : Nat
  ptr : Nat
  rest : Nat
  deriving DecidableEq, Repr

/-- A TX job as its entries give it (R315 to R317), while it is gathered and until its frame is stored. -/
structure HostJob where
  id : Nat
  ptr : Nat
  w : Nat
  gen : Nat
  segs : List (Nat × Nat)
  entries : Nat
  more : Bool
  stale : Bool
  takenSt : Nat
  buf : Option Nat
  chunks : List (Nat × List Nat)
  left : Nat
  marks : List CrcMark
  deriving DecidableEq, Repr

/-- A frame whose data writes are in progress (R330). -/
structure Deliv where
  id : Nat
  f : Frame
  left : Nat
  addr : Nat
  bufs : Nat
  gen : Nat
  card : List Nat
  deriving DecidableEq, Repr

/-- Changes of a partition that wait for the next bell edge (R299). -/
inductive PartPend where
  | none | activate | run
  deriving DecidableEq, Repr

/-- What a partition holds beside its registers. -/
structure PartSt where
  pend : PartPend
  resetToOff : Bool
  txSlots : List (Nat × Slot)
  rxSlots : List (Nat × Slot)
  txPush : List (Nat × List Nat)
  rxPush : List (Nat × List Nat)
  gather : Option HostJob
  held : Option HostJob
  reading : List HostJob
  rxBufs : List (Nat × Nat)
  rxq : List Frame
  deliv : List Deliv
  cpls : List Cpl
  txHeld : List Cpl
  rxHeld : List Cpl
  wantR : List HostReq
  wantW : List HostReq
  deriving DecidableEq, Repr
def PartSt.init : PartSt where
  pend := .none
  resetToOff := false
  txSlots := []
  rxSlots := []
  txPush := []
  rxPush := []
  gather := none
  held := none
  reading := []
  rxBufs := []
  rxq := []
  deliv := []
  cpls := []
  txHeld := []
  rxHeld := []
  wantR := []
  wantW := []

/-- Who waits for a frame: a TX job of a partition or a submission of a service core (who 8 and 9), with what its completion
carries (R319, R327, R417). -/
structure JobRec where
  who : Nat
  tag : Nat
  gen : Nat
  tsReq : Bool
  launchEn : Bool
  tsOk : Bool
  len : Nat
  chained : Bool
  insSkip : Bool
  left : Nat
  deriving DecidableEq, Repr

/-- The host queue engine and the host memory port. -/
structure HostSt where
  parts : List (Nat × PartSt)
  reads : List (Nat × HostReq)
  writes : List (Nat × HostReq)
  /-- Partition served last on the port (R336), plus one. -/
  last : Nat
  /-- Numbers given to jobs, deliveries and completions. -/
  next : Nat
  jobs : List (Nat × JobRec)
  deriving DecidableEq, Repr
def HostSt.init : HostSt := ⟨[], [], [], 0, 0, []⟩

/-! Parser, classifier, bridge. -/

/-- A rule (R258). -/
structure Rule where
  valid : Bool
  value : Nat
  mask : Nat
  act0 : Nat
  act1 : Nat
  deriving DecidableEq, Repr
def Rule.empty : Rule := ⟨false, 0, 0, 0, 0⟩

/-- A valid flow entry (R253, R254). -/
structure Flow where
  key : Nat
  tag : Nat
  hit : Bool
  deriving DecidableEq, Repr

/-- A valid forwarding-database entry (R279): address, VID, the data word of BR_FDB_DATA. -/
structure FdbEntry where
  mac : Nat
  vid : Nat
  data : Nat
  deriving DecidableEq, Repr

/-- A stored frame that waits to be forwarded (R28 step 5): whether the bridge decides, the destinations named, as masks of
ports, partitions, cores and mirror sessions, the roll-call engine, another pass, and whether port copies take the tag
edit. -/
structure Fwd where
  f : Frame
  bridge : Bool
  ports : Nat
  parts : Nat
  roll : Bool
  cores : Nat
  mirrors : Nat
  recirc : Bool
  edit : Bool
  deriving DecidableEq, Repr

/-- A stored frame of a host or a service core that waits for its pass (R31, R243): classification and insertions asked
for, and what happens without classification. -/
structure Work where
  fwd : Fwd
  classify : Bool
  l3 : Bool
  l4 : Bool
  deriving DecidableEq, Repr

/-- A queued learn write (R282, R283): from port u, a move or an insert. -/
structure Learn where
  mac : Nat
  vid : Nat
  u : Nat
  move : Bool
  deriving DecidableEq, Repr

/-- Parser, classifier and bridge beside their registers. -/
structure ClsSt where
  rules : List (Nat × Rule)
  dflt : List (Nat × (Nat × Nat))
  flows : List (Nat × Flow)
  fdb : List (Nat × FdbEntry)
  learn : List Learn
  /-- FLUSH in progress (else an age sweep, while SWEEP reads 1). -/
  flushing : Bool
  /-- Frames that wait for another pass, host jobs, core submissions; the port served last plus one. -/
  recirc : List Frame
  jobs : List Work
  subs : List Work
  lastPort : Nat
  stored : List Fwd
  /-- Tokens of each meter in units of 1/125,000 byte beyond its TOKENS, and the FRC of the last update (R290). -/
  meterFrac : List (Nat × Nat)
  meterAt : List (Nat × Nat)
  deriving DecidableEq, Repr
def ClsSt.init : ClsSt := ⟨[], [], [], [], [], false, [], [], [], 0, [], [], []⟩

/-- A service core beside its registers: completions (SC_TX_DONE word, timestamp), received frame pointers, jobs in
progress, how often it was reset (R412: completions of earlier submissions are discarded), whether it received a FIRMWARE
section in the last START, its watchdog restarts in this term (R412), and what its last read of buffer memory or staff room
gave: the data, and whether it took a bus error (R195, R217). -/
structure CoreSt where
  done : List (Nat × Nat)
  rxq : List Nat
  inprog : Nat
  epoch : Nat
  fw : Bool
  restarts : Nat
  ld : Nat
  err : Bool
  deriving DecidableEq, Repr
def CoreSt.init : CoreSt := ⟨[], [], 0, 0, false, 0, 0, false⟩

/-- A posted mailbox request: what the block copied from its header, its generation and the bell of its post (R425, R427). -/
structure MbxSt where
  service : Nat
  op : Nat
  tag : Nat
  gen : Nat
  bell : Nat
  deriving DecidableEq, Repr
def MbxSt.init : MbxSt := ⟨0, 0, 0, 0, 0⟩

/-! Roll call (R386 to R411). -/

/-- An open roll frame: its buffer, its number, the bell and term it belongs to, its records. -/
structure OpenRoll where
  ptr : Nat
  size : Nat
  seq : Nat
  bell : Nat
  term : Nat
  aligned : Bool
  records : Nat
  bytes : List Nat
  deriving DecidableEq, Repr

/-- The roll-call engine beside its registers: intake queue, open frames by destination, the destinations' configurations in
force (R398), destinations that lost records and that have sent a frame since START (R400, R404) as masks, the ABSENT FIFO,
the entry the sweep visits next and whether this bell's sweep is done (R396), the entries of each bank that are not UNUSED, the
held downlinks by entry, and synchronized time in ns and the bell source at the last edge (R400, R401). -/
structure RollSt where
  intake : List Frame
  opened : List (Nat × OpenRoll)
  cfg : List (Nat × (Nat × Nat))
  lost : Nat
  begun : Nat
  absent : List Nat
  next : Nat
  swept : Bool
  used : List (Nat × Nat)
  held : List (Nat × Frame)
  edgeSt : Nat
  edgeAligned : Bool
  deriving DecidableEq, Repr
def RollSt.init : RollSt := ⟨[], [], [], 0, 0, [], 0, true, [], [], 0, false⟩

/-! Commands, start-up, flash, protection, power, panel, ports of the chip. -/

/-- A queued command (R94): the register it was written to, its element, the copy of its initiator, the word, the captured
staging words. -/
structure QCmd where
  base : Nat
  idx : Nat
  init : Nat
  word : Nat
  stg : List Nat
  deriving DecidableEq, Repr

/-- What the image load leaves for the end of START (R451 step 5): roles (unit, owner code, function code), timetables to
activate (port, list, entries), the mode to enter with its cause; the private memories of the cores (R412), SC1 from 262,144; and
the registers that the present load has written (R461). -/
structure BootSt where
  roles : List (Nat × (Nat × Nat))
  activate : List (Nat × (Nat × Nat))
  target : Nat
  cause : Nat
  coreMem : List Host.Cell
  wrote : List Nat
  deriving DecidableEq, Repr
def BootSt.init : BootSt := ⟨[], [], 0, 0, [], []⟩

/-- The phase of a flash command (R465): VERIFY reads the header, then the image; ERASE and PROGRAM send their command, then
poll the status register. -/
inductive NvmPhase where
  | header | image | send | poll
  deriving DecidableEq, Repr

/-- A flash command that runs (R465): its NVM_CMD word; the bytes that VERIFY has read of the header or of the image, or that
PROGRAM sends; the NVM_SCK cycles of this phase done, in all, and before the first data bit; data lines, divider; and the FRC
at which the write was started. -/
structure NvmJob where
  word : Nat
  phase : NvmPhase
  bytes : List Nat
  done : Nat
  total : Nat
  lead : Nat
  lines : Nat
  div : Nat
  startAt : Nat
  deriving DecidableEq, Repr

/-- The power controller beside its registers (R508 to R521): PWR_REQ_PORT, whether E0 and E1 of the entry have passed and the
FRC of E1, the FRC of the wake decision, the FRC at which the wait of R515 began, a DOZE that becomes WATCH at the next edge,
whether WATCH took effect in this sleep, the bells until a KEEP wake returns, and the released ports (R514). -/
structure PwrSt where
  reqPort : BitVec 11
  e0 : Bool
  e1 : Bool
  e1At : Nat
  wakeAt : Nat
  deepWait : Option Nat
  watchNext : Bool
  inWatch : Bool
  keepLeft : Option Nat
  released : BitVec 11
  deriving DecidableEq, Repr
def PwrSt.init : PwrSt := ⟨0x7FF, false, false, 0, 0, none, false, false, none, 0⟩

/-- A panel input (R527, R528), times in AON_CK counts: raw level, the count of its last change, raw changes in a window and
that window, the count at entry to the present state, the level at entry to CHATTER, whether LONG was reported since entry to
ACTIVE. -/
structure PanelIn where
  raw : Bool
  changeAt : Nat
  changes : Nat
  window : Nat
  since : Nat
  chatLevel : Bool
  longDone : Bool
  deriving DecidableEq, Repr
def PanelIn.init : PanelIn := ⟨true, 0, 0, 0, 0, true, false⟩

/-- The port LEDs (R530): lit LEDs as a mask of bit 3n + i, the sampled activity flags, the blink half-period of the last
sample. -/
structure LedSt where
  lit : Nat
  sampled : Nat
  half : Option Nat
  deriving DecidableEq, Repr
def LedSt.init : LedSt := ⟨0, 0, none⟩

/-- Response codes of the register port (R67). -/
inductive RspCode where
  | okay | denied | decode
  deriving DecidableEq, Repr

/-- The response of the register access made last, with the data of a read. -/
structure Rsp where
  code : RspCode
  data : BitVec 64
  deriving DecidableEq, Repr
def Rsp.none : Rsp := ⟨.okay, 0⟩

/-- The state of the block. -/
structure State where
  /-- Commands that wait, first in, first out. -/
  pending : List Instr
  /-- The register file: key is the slot address, copies lie above the 1 MiB space. -/
  regs : List (Nat × BitVec 64)
  /-- The free-running counter (R360). -/
  frc : BitVec 64
  /-- The model's own counter of free values used. -/
  free : Nat
  /-- FRC of the event that raised HELD from 0 to 1, per source (R342). -/
  intT0 : List (Nat × Nat)
  latchMerged : BitVec 32
  /-- The interrupt lines INT_OUT0 to INT_OUT15 (R347, R348). -/
  intOut : BitVec 16
  roles : List (Nat × Role)
  ports : List (Nat × PortSt)
  rads : List (Nat × RadSt)
  mem : MemSt
  egr : EgrSt
  time : TimeSt
  bell : BellSt
  chip : ChipSt
  ledger : LedgerSt
  crc : CrcSt
  host : HostSt
  cls : ClsSt
  cores : List (Nat × CoreSt)
  mbx : List (Nat × MbxSt)
  roll : RollSt
  /-- The command queue (R94). -/
  cmdq : List QCmd
  boot : BootSt
  nvm : Option NvmJob
  pwr : PwrSt
  panel : List (Nat × PanelIn)
  led : LedSt
  /-- Response of the last register access; status byte of the last management SPI transaction, and what MSPI_SDO carried in it
  from its turnaround on (R73, R74). -/
  rsp : Rsp
  spi : BitVec 8
  spiOut : List Nat
  /-- Sample records written since PMU_SAMP_CFG.EN was set (R433). -/
  samples : Nat
  deriving DecidableEq, Repr

/-- The state right after the always-on power-on reset, with main-domain reset still asserted (R58, R60): every register at
the Reset value of its table, nothing stored anywhere. -/
def State.reset : State where
  pending := []
  regs := []
  frc := 0
  free := 0
  intT0 := []
  latchMerged := 0
  intOut := 0
  roles := []
  ports := []
  rads := []
  mem := .init
  egr := .init
  time := .init
  bell := .init
  chip := .init
  ledger := .init
  crc := .init
  host := .init
  cls := .init
  cores := []
  mbx := []
  roll := .init
  cmdq := []
  boot := .init
  nvm := none
  pwr := .init
  panel := []
  led := .init
  rsp := .none
  spi := 0
  spiOut := []
  samples := 0

end Sys2Proof.Machine
end

