-- ==== Sys2Proof/Machine/Ops.lean ====
section
/-! DEFINITION. The named operations every command is built from: bit fields, sparse maps in canonical form, register
fields, byte memories, statistics counters. -/

namespace Sys2Proof.Machine

open Sys2Proof

/-- Bits `lo .. lo + w - 1` of `v` (R6). -/
def getBits (v lo w : Nat) : Nat := v / 2 ^ lo % 2 ^ w

/-- `v` with bits `lo .. lo + w - 1` replaced by the low `w` bits of `x`. -/
def setBits (v lo w x : Nat) : Nat := v - getBits v lo w * 2 ^ lo + x % 2 ^ w * 2 ^ lo

/-- Is bit `i` of `v` set? -/
def bitAt (v i : Nat) : Bool := v / 2 ^ i % 2 == 1

/-- 1 for true, 0 for false: a one-bit field. -/
def b2n (b : Bool) : Nat := if b then 1 else 0

/-- Read key `k` of a sparse map whose unlisted keys hold `d k`. -/
def mapGet {α : Type} (d : Nat → α) : List (Nat × α) → Nat → α
  | [], k => d k
  | (a, v) :: m, k => if k = a then v else mapGet d m k

/-- Insert an entry before the first larger key. -/
def mapIns {α : Type} (k : Nat) (v : α) : List (Nat × α) → List (Nat × α)
  | [] => [(k, v)]
  | (a, w) :: m => if k < a then (k, v) :: (a, w) :: m else (a, w) :: mapIns k v m

/-- Remove every entry of key `k`. -/
def mapDel {α : Type} (k : Nat) : List (Nat × α) → List (Nat × α)
  | [] => []
  | (a, w) :: m => if a = k then mapDel k m else (a, w) :: mapDel k m

/-- Write key `k`: a value equal to the unlisted one removes the entry, so equal maps are equal lists. -/
def mapSet {α : Type} [DecidableEq α] (d : Nat → α) (m : List (Nat × α)) (k : Nat) (v : α) : List (Nat × α) :=
  if v = d k then mapDel k m else mapIns k v (mapDel k m)

/-- The canonical form: keys strictly rising, no entry equal to what an unlisted key holds. -/
def mapWf {α : Type} [DecidableEq α] (d : Nat → α) : List (Nat × α) → Bool
  | [] => true
  | (a, v) :: m =>
    (match m with
      | [] => true
      | (b, _) :: _ => decide (a < b)) && decide (v ≠ d a) && mapWf d m

/-- What a byte of a memory reads as before anything wrote it: zero (the log names each memory's reason). -/
def zeroByte : Nat → Byte := fun _ => 0

/-- The canonical form of a byte memory. -/
def memWf (m : List Host.Cell) : Bool := mapWf zeroByte m

/-- One byte of a memory. -/
def memByte (m : List Host.Cell) (a : Nat) : Byte := mapGet zeroByte m a

/-- One byte of a memory written. -/
def memPut (m : List Host.Cell) (a : Nat) (b : Byte) : List Host.Cell := mapSet zeroByte m a b

/-- `n` bytes of a memory from address `a`, as natural numbers, lowest address first. -/
def memBytes (m : List Host.Cell) (a : Nat) : Nat → List Nat
  | 0 => []
  | n + 1 => (memByte m a).toNat :: memBytes m (a + 1) n

/-- Write bytes from address `a` upward. -/
def memWrite (m : List Host.Cell) (a : Nat) : List Nat → List Host.Cell
  | [] => m
  | b :: bs => memWrite (memPut m a (BitVec.ofNat 8 b)) (a + 1) bs

/-- The number of little-endian bytes (R7). -/
def leNat : List Nat → Nat
  | [] => 0
  | b :: bs => b % 256 + 256 * leNat bs

/-- The number of big-endian bytes: network byte order (R7). -/
def beNat (bs : List Nat) : Nat := bs.foldl (fun n b => n * 256 + b % 256) 0

/-- The low `n` bytes of `v`, least significant first. -/
def leBytes (v : Nat) : Nat → List Nat
  | 0 => []
  | n + 1 => v % 256 :: leBytes (v / 256) n

/-- The low `n` bytes of `v`, most significant first. -/
def beBytes (v n : Nat) : List Nat := (leBytes v n).reverse

/-- The signed difference of two wrapping n-bit numbers (R101): later when positive; exactly half counts as earlier. -/
def wrapDiff (n a b : Nat) : Int :=
  let d := (a + 2 ^ n - b % 2 ^ n) % 2 ^ n
  if d ≥ 2 ^ (n - 1) then (d : Int) - 2 ^ n else d

/-- The value of a two's-complement `w`-bit field. -/
def sext (w v : Nat) : Int := if v ≥ 2 ^ (w - 1) then (v : Int) - 2 ^ w else v

/-- The register word under key `k`. -/
def State.rg (s : State) (k : Nat) : Nat := (mapGet resetWord s.regs k).toNat

/-- Store the register word under key `k`. -/
def State.setRg (s : State) (k v : Nat) : State :=
  { s with regs := mapSet resetWord s.regs k (BitVec.ofNat 64 v) }

/-- The value of field `f` in element (i, j) of its register. -/
def State.get (s : State) (f : Fld) (i : Nat := 0) (j : Nat := 0) : Nat :=
  getBits (s.rg (f.key i j)) f.lo f.w

/-- Field `f` of element (i, j) set to `v`. -/
def State.put (s : State) (f : Fld) (v : Nat) (i : Nat := 0) (j : Nat := 0) : State :=
  s.setRg (f.key i j) (setBits (s.rg (f.key i j)) f.lo f.w v)

/-- Is the one-bit (or wider) field nonzero? -/
def State.on (s : State) (f : Fld) (i : Nat := 0) (j : Nat := 0) : Bool := s.get f i j != 0

/-- A statistics counter that saturates at its width's maximum (R96), raised by `n`. -/
def State.countN (s : State) (f : Fld) (n : Nat) (i : Nat := 0) (j : Nat := 0) : State :=
  s.put f (min (2 ^ f.w - 1) (s.get f i j + n)) i j

/-- A statistics counter raised by one (R96). -/
def State.count (s : State) (f : Fld) (i : Nat := 0) (j : Nat := 0) : State := s.countN f 1 i j

/-- Apply `f` when `b` holds. -/
def State.when (s : State) (b : Bool) (f : State → State) : State := if b then f s else s

/-- Apply `f` for each element of a list, in order. -/
def State.forEach {α : Type} (s : State) (l : List α) (f : State → α → State) : State := l.foldl f s

end Sys2Proof.Machine
end

