-- ==== Sys2Proof/Machine/Clock.lean ====
section
/-! DEFINITION. The free-running counter, synchronized time as a function of it (R360, R361), and what the passage of time
adds to the counters that count time. -/

namespace Sys2Proof.Machine

open Sys2Proof

/-- The offset O in units of 2^-16 ns (R361). -/
def State.offset80 (s : State) : Int := (s.get TIME_OFFSET.VALUE : Int) * 2 ^ 16 + s.get TIME_OFFSET_FRAC.FRAC

/-- The rate R, signed, in units of 2^-48 (R361). -/
def State.rate (s : State) : Int := sext 40 (s.get TIME_RATE.RATE)

/-- ST in the cycle in which FRC holds `f`, under parameters `p` (R361): 80 bits, 2^-16 ns. -/
def TimePar.st (p : TimePar) (f : Nat) : Int :=
  let d : Int := (f : Int) - p.anchor
  (p.offset + d * 2 ^ 16 + Int.fdiv (d * p.rate) (2 ^ 32)) % 2 ^ 80

/-- The parameters in force now. -/
def State.timePar (s : State) : TimePar := ⟨s.frc.toNat, s.offset80, s.get TIME_ANCHOR.VALUE, s.rate⟩

/-- The parameters in force in the cycle of FRC `f`: a past cycle has those from before every later change (R361, R364). -/
def State.parAt (s : State) (f : Nat) : TimePar :=
  ((s.time.past.filter (fun p => decide (f < p.upTo))).getLast?).getD s.timePar

/-- ST in the cycle in which FRC holds `f` (R361). -/
def State.st80At (s : State) (f : Nat) : Int := (s.parAt f).st f

/-- For how long earlier parameters are kept, in ns: longer than a frame takes to arrive. -/
def pastNs : Nat := 2 ^ 26

/-- The parameters are about to change in this cycle (R364). -/
def State.keepPar (s : State) : State :=
  { s with time.past := s.timePar :: s.time.past.filter (fun p => decide (s.frc.toNat < p.upTo + pastNs)) }

/-- ST now. -/
def State.st80 (s : State) : Int := s.st80At s.frc.toNat

/-- ST in whole ns in the cycle of FRC `f` (R361). -/
def State.stNsAt (s : State) (f : Nat) : Nat := (s.st80At f).toNat / 2 ^ 16

/-- ST in whole ns now. -/
def State.stNs (s : State) : Nat := s.stNsAt s.frc.toNat

/-- The first FRC at which ST in whole ns reaches `x` (R81, R375), not before the anchor. -/
def State.frcAtSt (s : State) (x : Nat) : Nat :=
  let num : Int := ((x : Int) * 2 ^ 16 - s.offset80) * 2 ^ 32
  let den : Int := 2 ^ 48 + s.rate
  let d : Int := -(Int.fdiv (-num) den)
  s.get TIME_ANCHOR.VALUE + d.toNat

/-- The state of wired port `n` that no register shows. -/
def State.port (s : State) (n : Nat) : PortSt := mapGet (fun _ => PortSt.init) s.ports n
def State.setPort (s : State) (n : Nat) (p : PortSt) : State :=
  { s with ports := mapSet (fun _ => PortSt.init) s.ports n p }
def State.onPort (s : State) (n : Nat) (f : PortSt → PortSt) : State := s.setPort n (f (s.port n))

/-- The state of radio port `n` that no register shows. -/
def State.rad (s : State) (n : Nat) : RadSt := mapGet (fun _ => RadSt.init) s.rads n
def State.setRad (s : State) (n : Nat) (r : RadSt) : State :=
  { s with rads := mapSet (fun _ => RadSt.init) s.rads n r }
def State.onRad (s : State) (n : Nat) (f : RadSt → RadSt) : State := s.setRad n (f (s.rad n))

/-- A counter of nanoseconds accrues `dt` while `b` holds. -/
def State.accrue (s : State) (b : Bool) (f : Fld) (dt i j : Nat) : State := if b then s.countN f dt i j else s

/-- How much of the next `dt` ns a receive pause or PFC timer of port `n` still runs (R134, R138). -/
def State.pausedFor (s : State) (n dt : Nat) : Nat :=
  min dt (((s.port n).pfcEnd.foldl max (s.port n).pauseEnd + 99) / 100 - s.frc.toNat)

/-- What `dt` ns add to the counters of time of wired port `n` (R134, R137, R138). -/
def State.portTime (dt : Nat) (s : State) (n : Nat) : State :=
  let paused := s.pausedFor n dt
  let s :=
    if paused = 0 then s
    else
      let ns := (s.port n).wdogNs + paused
      let s := (s.countN PORT_CNT.COUNT paused n 22).onPort n (fun p => { p with wdogNs := ns })
      s.put PORT_FC_STAT.WDOG_USED (min (2 ^ 24 - 1) (ns / 1000)) n
  let s := s.accrue (s.get PORT_LPI_STAT.TX_STATE n != 0) PORT_CNT.COUNT dt n 23
  s.accrue (s.on PORT_LPI_STAT.RX_LPI n) PORT_CNT.COUNT dt n 24

/-- Byte credit after `cyc` RAD_CK cycles of increment `inc`, up to 512 (R173). -/
def creditUp (c : Int) (inc cyc : Nat) : Int := min 512 (c + inc * cyc)

/-- RAD_CK cycles until a credit is at least 0 (R173). -/
def creditWait (c : Int) (inc : Nat) : Nat := if c < 0 then ((-c).toNat + inc - 1) / inc else 0

/-- The receive credit of radio port `n` at FRC `f`: in DISABLED it is held at 512 (R173). One RAD_CK cycle is two TIME_CK
cycles (R52). -/
def State.rxCreditAt (s : State) (n f : Nat) : Int :=
  if s.get RAD_STAT.STATE n = 0 then 512
  else creditUp (s.rad n).rxCredit (s.get RAD_CTRL.RX_INC n) ((f - (s.rad n).rxCreditAt) / 2)
def State.txCreditAt (s : State) (n f : Nat) : Int :=
  creditUp (s.rad n).txCredit (s.get RAD_CTRL.TX_INC n) ((f - (s.rad n).txCreditAt) / 2)

/-- Bytes that an open frame holds in the RX FIFO: the part that would be stored (R113, R115). -/
def RadPart.held (p : RadPart) : Nat := min p.bytes.length (p.max - 4)

/-- Bytes in the RX FIFO of radio port `n`, the open frame included. -/
def State.radFill (s : State) (n : Nat) : Nat :=
  ((s.rad n).rxFifo.map (fun r => r.bytes.length)).foldl (· + ·) 0 +
    (match (s.rad n).rxOpen with
      | some p => p.held
      | none => 0)

/-- Bytes of the RX FIFO of a radio port (R170). -/
def radFifo : Nat := 32768

/-- RADn_RX_READY (R173, R180); a port released in WATCH drives it to 1 (R514). -/
def State.radReady (s : State) (n : Nat) : Bool :=
  s.get RAD_STAT.STATE n == 0 || bitAt s.pwr.released.toNat (8 + n) ||
    (s.get RAD_STAT.STATE n != 1 && decide (0 ≤ s.rxCreditAt n s.frc.toNat) && decide (s.radFill n + 32 ≤ radFifo))

/-- How much of the next `dt` ns RADn_RX_READY stays 0: until the credit is back, where nothing else holds it. -/
def State.unreadyFor (s : State) (n dt : Nat) : Nat :=
  if s.radReady n then 0
  else if s.get RAD_STAT.STATE n = 1 ∨ radFifo < s.radFill n + 32 then dt
  else min dt (2 * creditWait (s.rxCreditAt n s.frc.toNat) (s.get RAD_CTRL.RX_INC n))

/-- From which FRC on RADn_TX_VALID stands at 1 with a beat that has not gone: the SOP beat of the waiting frame, or the EOP beat
of the frame in transfer. -/
def State.txOffered (s : State) (n : Nat) : Option Nat :=
  if (s.rad n).tx.isSome then some (s.rad n).txCreditAt else (s.rad n).offer

/-- What `dt` ns add to radio port `n`: the time egress is held, the time its streams stand (R185). -/
def State.radTimePass (dt : Nat) (s : State) (n : Nat) : State :=
  let st := s.get RAD_STAT.STATE n
  let s := s.accrue (s.rad n).rxValid RAD_CNT.COUNT (s.unreadyFor n dt) n 11
  let s := match s.txOffered n with
    | some f => s.accrue (decide (f < s.frc.toNat + dt)) RAD_CNT.COUNT (s.frc.toNat + dt - max f s.frc.toNat) n 20
    | none => s
  s.accrue (st == 2 || st == 4 || (st == 3 && s.on RAD_STAT.TX_HOLD n)) RAD_CNT.COUNT dt n 26

/-- RADn_BCN_LAST as it reads: AGE_US is the time since the last report, or since the end of main-domain reset. -/
def State.bcnLastWord (s : State) (n : Nat) : Nat :=
  getBits (s.rg (RAD_BCN_LAST.reg.key n 0)) 0 32 +
    min (2 ^ 32 - 1) ((s.frc.toNat - (s.rad n).bcnAt) / 1000) * 2 ^ 32

/-- The always-on count runs at 32.768 kHz while AON_CK is present, through main-domain reset (R52, R526). -/
def State.aonTime (s : State) (dt : Nat) : State :=
  if s.chip.clkUp.getLsbD 12 then
    let acc := s.chip.aonRem + dt * 32768
    let s := { s with chip.aonRem := acc % 1000000000 }
    s.put PWR_AON_CNT.COUNT (s.get PWR_AON_CNT.COUNT + acc / 1000000000)
  else s

/-- BELL_OUT at FRC `f`: high from 4 to 260 cycles after the edge (R87). -/
def State.bellOutAt (s : State) (f : Nat) : Bool :=
  match s.bell.outFallAt with
  | some t => decide (t ≤ f + 256) && decide (f < t)
  | none => false

/-- ARMED clears (R83): the free-running grid goes on behind an edge that was suppressed and whose time has passed (R84). -/
def State.disarm (s : State) : State :=
  let g := s.bell.origin + (s.bell.k + 1) * s.bell.period
  let gone := decide (g ≤ s.frc.toNat) && decide (s.bell.rephaseAt < s.stNsAt g + s.bell.period)
  let s := s.put GLB_BELL_STAT.ARMED 0
  if gone then { s with bell.k := s.bell.k + 1 } else s

/-- `dt` ns pass. Outside main-domain reset FRC advances (R360) and the counters of time accrue: synchronized time in LOCKED
and HOLDOVER (R383), the ports; in DOZE and WATCH the rate-write timeout stands still (R511). -/
def State.advance (s : State) (dt : Nat) : State :=
  if dt = 0 then s
  else
    let s := s.aonTime dt
    if s.chip.mainReset then s
    else
      let s := s.accrue (s.get TIME_STAT.STATE == 3) TIME_CNT.COUNT dt 3 0
      let s := s.accrue (s.get TIME_STAT.STATE == 4) TIME_CNT.COUNT dt 4 0
      let s := s.forEach (List.range 8) (State.portTime dt)
      let s := s.forEach (List.range 3) (State.radTimePass dt)
      let st := s.get PWR_STAT.STATE
      let s := if st = 2 ∨ st = 3 then { s with time.servoStart := s.time.servoStart + dt } else s
      { s with frc := s.frc + BitVec.ofNat 64 dt, bell.outLevel := s.bellOutAt (s.frc.toNat + dt) }

/-- Time passes up to FRC `f`, if that lies ahead. -/
def State.advanceTo (s : State) (f : Nat) : State := s.advance (f - s.frc.toNat)

end Sys2Proof.Machine
end

