-- ==== Sys2Proof/Config.lean ====
section
/-! DEFINITION. The free values: what the spec leaves open. Each is a constant without a body, so no statement can rest on
a value of it. The counter argument is State.free, which the step that uses a value advances. -/

namespace Sys2Proof

/-- Where the pool manager starts to look for a free buffer: the order in which a pool hands out its free buffers is not
specified (R231). -/
opaque Config.pick : Nat → Nat

/-- Whether an input pulse of a length between "ignored" and "recognized" is recognized (R45, R59, R353). -/
opaque Config.pulse : Nat → Bool

/-- The 7-bit result field of an MBIST run: the spec does not say what it shows (R77). -/
opaque Config.mbistResult : Nat → BitVec 7

/-- The integrator's tie-off input JTAG_MFR (R76). -/
opaque Config.jtagMfr : BitVec 11

/-- The level of pad `p` at FRC `t` where service-core trace, service-core firmware, the flash or a manufacturing test drives it,
which the spec does not describe (R64, R79, R80, R419, R465). -/
opaque Config.pad : Nat → Word → Bool

/-- Has firmware enabled service-core trace: no register of the spec holds it (R79)? -/
opaque Config.traceOn : Word → Bool

/-- A 64-bit word for any value the spec leaves open and no other constant names. -/
opaque Config.word : Nat → Word

end Sys2Proof
end

