-- ==== Sys2Proof/Machine/Intr.lean ====
section
/-! DEFINITION. The interrupt controller (R339 to R359): events, levels, presentation, withdrawal, claim, complete, the
always-on latches. INT_SRC_STAT holds each source's state; its read-only words are the state itself. -/

namespace Sys2Proof.Machine

open Sys2Proof

/-- What kind of source a number is (R339, R357). A level source is 1 while a bit of `mask` in the register under `key` is
1. -/
inductive SrcKind where
  | reserved
  | edge
  | level (key mask : Nat)
  deriving DecidableEq, Repr

/-- A level source over all bits of an event register. -/
def levelOf (f : Fld) (i : Nat) : SrcKind := .level (f.key i 0) (2 ^ 64 - 1)

/-- The source table (R357 and the source tables of the other chapters: R384, R410, R435, R449, R478, R504, R533). -/
def srcKind (n : Nat) : SrcKind :=
  if n ≤ 0x18 then .edge
  else if n < 0x20 then .reserved
  else if n ≤ 0x2A then .edge
  else if n < 0x30 then .reserved
  else if n < 0x38 then levelOf PORT_EVT.reg (n - 0x30)
  else if n < 0x40 then levelOf PORT_GCL_EVT.reg (n - 0x38)
  else if n < 0x43 then levelOf RAD_EVT.reg (n - 0x40)
  else if n = 0x43 then levelOf MEM_EVT.reg 0
  else if n = 0x44 then levelOf POOL_EVT.reg 0
  else if n = 0x45 then levelOf CLS_EVT.reg 0
  else if n = 0x46 then levelOf BR_EVT.reg 0
  else if n < 0x48 then .reserved
  else if n < 0x58 then .edge
  else if n < 0x60 then levelOf PART_EVT.reg (n - 0x58)
  else if n = 0x60 then levelOf TIME_EVT.reg 0
  else if n ≤ 0x6D then .edge
  else if n = 0x80 then levelOf ROLL_EVT.reg 0
  else if n = 0x81 then .edge
  else if n < 0xA0 then .reserved
  else if n < 0xB0 then .edge
  else if n = 0xB0 then levelOf SC_EVT.reg 0
  else if n = 0xB1 then levelOf PMU_OVF.reg 0
  else if n = 0xB2 then .edge
  else if n < 0xC0 then .reserved
  else if n < 0xC4 then .edge
  else if n < 0xC8 then .level (CRC_STAT.reg.key (n - 0xC4) 0) 0xC0
  else if n = 0xC8 then levelOf LDR_EVT.reg 0
  else if n = 0xC9 then levelOf LDG_EVT.reg 0
  else if n = 0xD0 then levelOf PROT_EVT.reg 0
  else if n < 0xD1 then .reserved
  else if n ≤ 0xD3 then .edge
  else if n = 0xE0 then .level (PWR_STAT.reg.key 0 0) 0x7000000
  else .reserved

/-- Is the source an edge source? -/
def isEdgeSrc (n : Nat) : Bool := match srcKind n with | .edge => true | _ => false

/-- The level of a level source: 1 while any bit of its event register is 1; 0 for edge sources. -/
def State.srcLevel (s : State) (n : Nat) : Bool :=
  match srcKind n with
  | .level k m => (s.rg k).land m != 0
  | _ => false

/-- Is the source pending (R340)? -/
def State.srcPend (s : State) (n : Nat) : Bool :=
  match srcKind n with
  | .edge => s.on INT_SRC_STAT.PEND n
  | .level k m => (s.rg k).land m != 0 && !s.on INT_SRC_STAT.CLAIMED n
  | .reserved => false

/-- Has an edge source reached COAL_CNT (R342)? -/
def State.coalCount (s : State) (n : Nat) : Bool :=
  decide (s.get INT_SRC_CFG.COAL_CNT n ≤ s.get INT_SRC_STAT.HELD n)

/-- Have COAL_TIME microseconds of TIME_CK passed since the event that raised HELD from 0 to 1 (R342)? -/
def State.coalTime (s : State) (n : Nat) : Bool :=
  decide (mapGet (fun _ => 0) s.intT0 n + 1000 * s.get INT_SRC_CFG.COAL_TIME n ≤ s.frc.toNat)

/-- Is the source deliverable (R342, R343)? -/
def State.deliverable (s : State) (n : Nat) : Bool :=
  s.srcPend n && s.on INT_SRC_CFG.EN n && !s.on INT_SRC_STAT.CLAIMED n &&
    (!isEdgeSrc n || s.coalCount n || s.coalTime n)

/-- Is target `t` open for source `n` (R344)? -/
def State.tgtOpen (s : State) (n t : Nat) : Bool :=
  bitAt (s.get INT_SRC_CFG.ROUTE n) t && s.on INT_TGT_CTRL.EN t &&
    decide (s.get INT_TGT_CTRL.THRESH t ≤ s.get INT_SRC_CFG.PRIO n)

/-- The first open target after LAST, ascending and wrapping from 15 to 0 (R345). -/
def State.nextTarget (s : State) (n : Nat) : Option Nat :=
  ((List.range 16).map (fun d => (s.get INT_SRC_STAT.LAST n + 1 + d) % 16)).find? (fun t => s.tgtOpen n t)

/-- Present a deliverable source to an open target, if there is one (R345); an edge delivery counts by the limit that
reached it (R342, R358). -/
def State.present (s : State) (n : Nat) : State :=
  match s.nextTarget n with
  | none => s
  | some t =>
    let s := s.put INT_SRC_STAT.PRESENTED 1 n
    let s := s.put INT_SRC_STAT.TARGET t n
    let s := s.put INT_SRC_STAT.LAST t n
    let s := s.count INT_CNT.COUNT 0
    if isEdgeSrc n then
      if s.coalCount n then s.count INT_CNT.COUNT 5 else s.count INT_CNT.COUNT 6
    else s

/-- Bring a source's presentation up to date: withdraw it where it may no longer stand (R346), present it where it is
deliverable and not presented (R345). -/
def State.intEval (s : State) (n : Nat) : State :=
  let s :=
    if s.on INT_SRC_STAT.PRESENTED n &&
        !(s.deliverable n && s.tgtOpen n (s.get INT_SRC_STAT.TARGET n)) then
      (s.put INT_SRC_STAT.PRESENTED 0 n).count INT_CNT.COUNT 3
    else s
  if s.deliverable n && !s.on INT_SRC_STAT.PRESENTED n then s.present n else s

/-- One event of an edge source (R339 to R341): HELD counts it up to 255, a further event counts in EDGE_LOST. -/
def State.raise (s : State) (n : Nat) : State :=
  match srcKind n with
  | .edge =>
    let held := s.get INT_SRC_STAT.HELD n
    let s := if held = 0 then { s with intT0 := mapSet (fun _ => 0) s.intT0 n s.frc.toNat } else s
    let s := if held = 255 then s.count INT_CNT.COUNT 7 else s.put INT_SRC_STAT.HELD (held + 1) n
    (s.put INT_SRC_STAT.PEND 1 n).intEval n
  | _ => s

/-- The level sources of the table. -/
def levelSources : List Nat := (List.range 256).filter (fun n => match srcKind n with | .level _ _ => true | _ => false)

/-- The sources whose INT_SRC_STAT word is not at its reset value. -/
def State.touchedSources (s : State) : List Nat :=
  s.regs.filterMap (fun p =>
    if INT_SRC_STAT.reg.base ≤ p.1 ∧ p.1 < INT_SRC_STAT.reg.base + 8 * 256
    then some ((p.1 - INT_SRC_STAT.reg.base) / 8) else none)

/-- Bring every source up to date after a change of a target's enable or threshold (R345, R346). -/
def State.intEvalAll (s : State) : State :=
  (s.forEach s.touchedSources State.intEval).forEach (levelSources.filter s.srcLevel) State.intEval

/-- Set an event bit and bring its level source up to date. -/
def State.evt (s : State) (f : Fld) (src : Nat) (i : Nat := 0) : State := (s.put f 1 i).intEval src

/-- COAL_TIME: an edge source that holds events reaches its time limit (R342). -/
def State.coalExpire (s : State) (n : Nat) : State :=
  if isEdgeSrc n && s.srcPend n && s.on INT_SRC_STAT.HELD n then
    (s.advanceTo (mapGet (fun _ => 0) s.intT0 n + 1000 * s.get INT_SRC_CFG.COAL_TIME n)).intEval n
  else s

/-- The sources presented to target `t` and not claimed. -/
def State.presentedOn (s : State) (t : Nat) : List Nat :=
  s.touchedSources.filter (fun n => s.on INT_SRC_STAT.PRESENTED n && s.get INT_SRC_STAT.TARGET n == t)

/-- The sources target `t` holds claimed. -/
def State.claimedBy (s : State) (t : Nat) : List Nat :=
  s.touchedSources.filter (fun n => s.on INT_SRC_STAT.CLAIMED n && s.get INT_SRC_STAT.TARGET n == t)

/-- The highest priority, lowest number first among equals (R349). -/
def State.topSource (s : State) : List Nat → Option Nat
  | [] => none
  | n :: ns =>
    match s.topSource ns with
    | none => some n
    | some m =>
      if s.get INT_SRC_CFG.PRIO m < s.get INT_SRC_CFG.PRIO n ∨
          (s.get INT_SRC_CFG.PRIO m = s.get INT_SRC_CFG.PRIO n ∧ n ≤ m) then some n else some m

/-- The spurious claim code (R350). -/
def spuriousSrc : Nat := 0x3FF

/-- A claim on target `t` (R349, R350): the source returned and the state after. -/
def State.claim (s : State) (t : Nat) : State × Nat :=
  match s.topSource (s.presentedOn t), decide ((s.claimedBy t).length < 8) with
  | some n, true =>
    let s := s.put INT_SRC_STAT.PRESENTED 0 n
    let s := s.put INT_SRC_STAT.CLAIMED 1 n
    let s := if isEdgeSrc n then (s.put INT_SRC_STAT.PEND 0 n).put INT_SRC_STAT.HELD 0 n else s
    (s.count INT_CNT.COUNT 1, n)
  | _, _ => (s.count INT_CNT.COUNT 2, spuriousSrc)

/-- A complete of source `n` on target `t` (R351, R352). -/
def State.complete (s : State) (t n : Nat) : State :=
  if n < 256 ∧ s.on INT_SRC_STAT.CLAIMED n = true ∧ s.get INT_SRC_STAT.TARGET n = t then
    (s.put INT_SRC_STAT.CLAIMED 0 n).intEval n
  else (s.put INT_TGT_STAT.CMPL_ERR 1 t).count INT_CNT.COUNT 4

/-- A write of 1 to the INT_PEND bit of an edge source (R340, R341, R346). -/
def State.clearPend (s : State) (n : Nat) : State :=
  if isEdgeSrc n then ((s.put INT_SRC_STAT.PEND 0 n).put INT_SRC_STAT.HELD 0 n).intEval n else s

/-- The line INT_OUTt (R347, R348); target 15's line also pulls MSPI_IRQ# low. -/
def State.intLine (s : State) (t : Nat) : Bool :=
  let held := s.claimedBy t
  (s.presentedOn t).any (fun n => held.isEmpty ||
    (s.on INT_TGT_CTRL.NEST t &&
      held.all (fun m => decide (s.get INT_SRC_CFG.PRIO m < s.get INT_SRC_CFG.PRIO n))))

/-- The word INT_SRC_STAT[n] reads as: the stored state with the level input and the pending state of a level source. -/
def State.srcStatWord (s : State) (n : Nat) : Nat :=
  let w := s.rg (INT_SRC_STAT.reg.key n 0)
  setBits (setBits w 0 1 (b2n (s.srcPend n))) 1 1 (b2n (s.srcLevel n))

/-- The word INT_PEND[k] reads as. -/
def State.pendWord (s : State) (k : Nat) : Nat :=
  (List.range 64).foldl (fun v j => v + b2n (s.srcPend (64 * k + j)) * 2 ^ j) 0

/-- The word INT_TGTt_STAT reads as. -/
def State.tgtStatWord (s : State) (t : Nat) : Nat :=
  let held := s.claimedBy t
  b2n (s.intLine t) + 2 * s.get INT_TGT_STAT.CMPL_ERR t + 2 ^ 4 * held.length
    + 2 ^ 8 * min 255 (s.presentedOn t).length
    + 2 ^ 16 * (held.map (fun n => s.get INT_SRC_CFG.PRIO n)).foldl max 0

/-- An edge reaches an always-on latch (R353): it sets the latch, or merges into one already set. -/
def State.latch (s : State) (n : Nat) : State :=
  if bitAt (s.get INT_AON_LATCH.SET) n then { s with latchMerged := s.latchMerged ||| (1#32 <<< n) }
  else s.put INT_AON_LATCH.SET (s.get INT_AON_LATCH.SET + 2 ^ n)

/-- The transfer of a set latch to its source as one event (R353): while the main domain is out of reset and CORE_CK runs.
A merged edge counts one EDGE_LOST at the transfer. -/
def State.latchTransfer (s : State) (n : Nat) : State :=
  if bitAt (s.get INT_AON_LATCH.SET) n && !s.chip.mainReset && s.chip.clkUp.getLsbD 0 then
    let merged := s.latchMerged.getLsbD n
    let s := s.put INT_AON_LATCH.SET (s.get INT_AON_LATCH.SET - 2 ^ n)
    let s := { s with latchMerged := s.latchMerged &&& ~~~(1#32 <<< n) }
    let s := if merged then s.count INT_CNT.COUNT 7 else s
    s.raise n
  else s

end Sys2Proof.Machine
end

