-- ==== Sys2Proof/Machine/Crc.lean ====
section
/-! DEFINITION. The check-value units (R437 to R450): the computation with its fold, the taps, the modes, the result FIFOs. -/

namespace Sys2Proof.Machine

open Sys2Proof

/-- `w` bits of `v` reversed (R438). -/
def revBits : Nat → Nat → Nat
  | 0, _ => 0
  | w + 1, v => v % 2 * 2 ^ w + revBits w (v / 2)

/-- The parameters of a computation (R438, R440). -/
structure CrcParam where
  width : Nat
  poly : Nat
  init : Nat
  xorout : Nat
  refin : Bool
  refout : Bool
  fold : Nat
  tagBytes : Nat
  tagLe : Bool
  deriving DecidableEq, Repr

/-- `n` bits of one byte, most significant first (R438). -/
def crcFeedBits (p : CrcParam) (b : Nat) : Nat → Nat → Nat
  | 0, reg => reg
  | k + 1, reg =>
    let top := (reg / 2 ^ (p.width - 1) + b / 2 ^ k) % 2
    let sh := reg * 2 % 2 ^ p.width
    crcFeedBits p b k (if top = 1 then sh.xor p.poly else sh)

/-- Feed one byte (R438). -/
def crcFeed (p : CrcParam) (reg b : Nat) : Nat :=
  crcFeedBits p (if p.refin then revBits 8 b else b) 8 reg

/-- Feed bytes in order. -/
def crcFeedAll (p : CrcParam) (reg : Nat) (bs : List Nat) : Nat := bs.foldl (crcFeed p) reg

/-- The start of a computation with tag `tag` (R438). -/
def crcStart (p : CrcParam) (tag : Nat) : Nat :=
  let mask := 2 ^ p.width
  let reg := p.init % mask
  let tagv := tag % 2 ^ (8 * p.tagBytes)
  if p.fold = 2 then reg.xor (tagv % mask)
  else if p.fold = 1 then
    let le := leBytes tagv p.tagBytes
    crcFeedAll p reg (if p.tagLe then le else le.reverse)
  else reg

/-- The result of a register value (R438). -/
def crcResult (p : CrcParam) (reg : Nat) : Nat :=
  (if p.refout then revBits p.width reg else reg).xor p.xorout

/-- The parameters unit `u` holds. -/
def State.crcParam (s : State) (u : Nat) : CrcParam :=
  let tb := s.get CRC_CFG.TAG_BYTES u
  ⟨s.get CRC_CFG.WIDTH u, s.get CRC_POLY.VALUE u, s.get CRC_INIT.VALUE u, s.get CRC_XOROUT.VALUE u,
   s.on CRC_CFG.REFIN u, s.on CRC_CFG.REFOUT u, s.get CRC_CFG.FOLD u, if tb = 0 then 4 else tb, s.on CRC_CFG.TAG_LE u⟩

/-- The tag of a start (R440): `addr` is the address of an ADDR tag. A SEQ tag counts up after each start. -/
def State.crcTag (s : State) (u addr : Nat) : State × Nat :=
  let t := s.get CRC_TAG.TAG u
  let src := s.get CRC_CFG.TAG_SRC u
  if src = 1 then (s.put CRC_TAG.TAG (t + 1) u, t)
  else if src = 2 then (s, addr % 2 ^ 32)
  else (s, t)

/-- The events of unit `u`: its level source. -/
def State.cevt (s : State) (f : Fld) (u : Nat) : State := s.evt f (0xC4 + u) u

/-- Is unit `u` on tap `tap` with a selection that `sel` accepts? -/
def State.crcOn (s : State) (u tap : Nat) (sel : Nat → Bool) : Bool :=
  s.on CRC_CFG.EN u && s.get CRC_CFG.TAP u == tap && sel (s.get CRC_CFG.SEL u)

/-- One frame passes the tap of unit `u` (R442, R443): in CONT its bytes are fed; in FRAME a computation starts and ends,
and its entry is answered. -/
def State.crcFrame (s : State) (u addr : Nat) (bs : List Nat) : State × Option CrcEntry :=
  let p := s.crcParam u
  if s.on CRC_CFG.MODE u then
    let r := s.crcTag u addr
    let v := crcFeedAll p (crcStart p r.2) bs
    (r.1.put CRC_VALUE.VALUE v u, some ⟨crcResult p v, r.2, bs.length % 2 ^ 24⟩)
  else (s.put CRC_VALUE.VALUE (crcFeedAll p (s.get CRC_VALUE.VALUE u) bs) u, none)

/-- How often EN of unit `u` has been cleared: a frame in progress then is discarded (R444). -/
def State.crcEpoch (s : State) (u : Nat) : Nat := mapGet (fun _ => 0) s.crc.epoch u

/-- A result counts: its entry waits for the push (R441, R443). -/
def State.crcCount (s : State) (u : Nat) (e : CrcEntry) : State :=
  { s with crc.due := s.crc.due ++ [(u, e)] }

/-- A frame passes a tap whole; `counts` says whether the result counts. -/
def State.crcTap (tap : Nat) (sel : Nat → Bool) (addr : Nat) (counts : Bool) (bs : List Nat) (s : State) (u : Nat) : State :=
  if s.crcOn u tap sel then
    match s.crcFrame u addr bs with
    | (s, some e) => if counts then s.crcCount u e else s
    | (s, none) => s
  else s

/-- The PORT_RX tap of port unit `unit` (R441). -/
def State.crcTapRx (s : State) (unit : Nat) (bs : List Nat) (counts : Bool) : State :=
  s.forEach (List.range 4) (State.crcTap 1 (· == unit) 0 counts bs)

/-- The PORT_TX tap: the frame copied into the TX FIFO of `unit`. Answers the computations in progress, which count when the
frame has been sent (R441). -/
def State.crcTapTx (s : State) (unit : Nat) (bs : List Nat) : State × List CrcMark :=
  (List.range 4).foldl (fun r u =>
    if r.1.crcOn u 2 (· == unit) then
      match r.1.crcFrame u 0 bs with
      | (s, some e) => (s, r.2 ++ [⟨u, s.crcEpoch u, e⟩])
      | (s, none) => (s, r.2)
    else r) (s, [])

/-- The frame of a PORT_TX computation has been sent. -/
def State.crcSent (s : State) (l : List CrcMark) : State :=
  s.forEach l (fun s m => if s.on CRC_CFG.EN m.unit && s.crcEpoch m.unit == m.epoch then s.crcCount m.unit m.entry else s)

/-- The MOVER_WR and MOVER_RD taps: card SRC code `src`, buffer pointer `ptr` (R441). -/
def State.crcTapWr (s : State) (src ptr : Nat) (bs : List Nat) : State :=
  s.forEach (List.range 4) (State.crcTap 3 (fun sel => sel == src || sel == 0xFF) ptr true bs)
def State.crcTapRd (s : State) (src ptr : Nat) (bs : List Nat) : State :=
  s.forEach (List.range 4) (State.crcTap 4 (fun sel => sel == src || sel == 0xFF) ptr true bs)

/-- The HOST tap for the receive data of partition `p`, host address of the first byte (R441). -/
def State.crcTapHostRx (s : State) (p addr : Nat) (bs : List Nat) : State :=
  s.forEach (List.range 4) (State.crcTap 5 (· == p + 0x80) addr true bs)

/-- Does one of the computations `l` follow a frame for unit `u`: EN has not been cleared since it began (R444)? -/
def State.crcFollows (s : State) (u : Nat) (l : List CrcMark) : Bool := l.any (fun m => m.unit == u && s.crcEpoch u == m.epoch)

/-- The first bytes of a TX job of partition `p` pass the HOST tap, at host address `addr`, while `busy` are the computations that
its other jobs are in (R444): a FRAME unit that follows one of them skips the job and counts LOST; another one starts, with its
tag. Answers the computations begun. -/
def State.crcHostBegin (s : State) (p addr : Nat) (busy : List CrcMark) : State × List CrcMark :=
  (List.range 4).foldl (fun r u =>
    if r.1.crcOn u 5 (· == p) && r.1.on CRC_CFG.MODE u then
      if r.1.crcFollows u busy then (r.1.count CRC_CNT.COUNT (4 + u), r.2)
      else
        let t := r.1.crcTag u addr
        (t.1, r.2 ++ [⟨u, t.1.crcEpoch u, ⟨0, t.2, 0⟩⟩])
    else r) (s, [])

/-- The bytes of a TX job of partition `p` have all passed the HOST tap (R441): a CONT unit is fed them; the computations `l` of
the job that still stand have their results, which count. -/
def State.crcHostEnd (s : State) (p : Nat) (l : List CrcMark) (bs : List Nat) : State :=
  s.forEach (List.range 4) (fun s u =>
    if s.crcOn u 5 (· == p) then
      if s.on CRC_CFG.MODE u then
        match l.find? (fun m => m.unit == u && s.crcEpoch u == m.epoch) with
        | some m =>
          let v := crcFeedAll (s.crcParam u) (crcStart (s.crcParam u) m.entry.tag) bs
          (s.put CRC_VALUE.VALUE v u).crcCount u ⟨crcResult (s.crcParam u) v, m.entry.tag, bs.length % 2 ^ 24⟩
        | none => s
      else s.put CRC_VALUE.VALUE (crcFeedAll (s.crcParam u) (s.get CRC_VALUE.VALUE u) bs) u
    else s)

/-- The FLASH tap: one image section, header included, at flash byte offset `off` (R441). -/
def State.crcTapFlash (s : State) (off : Nat) (bs : List Nat) : State :=
  s.forEach (List.range 4) (State.crcTap 6 (fun _ => true) off true bs)

/-- The result FIFO of unit `u`. -/
def State.crcFifo (s : State) (u : Nat) : List CrcEntry := mapGet (fun _ => []) s.crc.fifo u
def State.setCrcFifo (s : State) (u : Nat) (l : List CrcEntry) : State :=
  { s with crc.fifo := mapSet (fun _ => []) s.crc.fifo u l }.put CRC_STAT.COUNT l.length u

/-- CRC_RES: the next result of unit `u` that counts is pushed; with the FIFO full it is lost (R443). -/
def State.crcRes (s : State) (u : Nat) : State :=
  match s.crc.due.find? (fun d => d.1 == u) with
  | none => s
  | some d =>
    let s := { s with crc.due := s.crc.due.erase d }
    let fifo := s.crcFifo u
    if fifo.length < 16 then
      ((s.setCrcFifo u (fifo ++ [d.2])).count CRC_CNT.COUNT u).raise (0xC0 + u)
    else (s.count CRC_CNT.COUNT (4 + u)).cevt CRC_STAT.OVF u

/-- A read of CRCu_FIFO_VAL (R450): the oldest result, removed; 0 while the FIFO is empty. -/
def State.crcPop (s : State) (u : Nat) : State × Nat :=
  match s.crcFifo u with
  | [] => (s, 0)
  | e :: l => (s.setCrcFifo u l, e.result)

/-- The word CRCu_FIFO_TAG reads as. -/
def State.crcFifoTag (s : State) (u : Nat) : Nat :=
  match s.crcFifo u with
  | [] => 0
  | e :: _ => e.tag + e.len * 2 ^ 32

/-- CRCu_CMD RESTART (R438, R442): it has no effect in FRAME mode. An ADDR tag has no frame to come from: its value is left
free. -/
def State.crcRestart (s : State) (u : Nat) : State :=
  if s.on CRC_CFG.MODE u then s
  else
    let free := (Config.word s.free).toNat
    let s := if s.get CRC_CFG.TAG_SRC u = 2 then { s with free := s.free + 1 } else s
    let r := s.crcTag u free
    r.1.put CRC_VALUE.VALUE (crcStart (s.crcParam u) r.2) u

/-- CRCu_CMD FLUSH: the result FIFO is emptied. -/
def State.crcFlush (s : State) (u : Nat) : State := s.setCrcFifo u []

/-- Bytes written to CRCu_DATA or CRCu_DATA1 (R446). -/
def State.crcFeedSw (s : State) (u : Nat) (bs : List Nat) : State :=
  if s.on CRC_CFG.EN u && s.get CRC_CFG.TAP u == 0 then
    s.put CRC_VALUE.VALUE (crcFeedAll (s.crcParam u) (s.get CRC_VALUE.VALUE u) bs) u
  else s

/-- The SRC codes of the frame card (R234). -/
def srcCode (v : Nat) : Bool :=
  decide (v ≤ 0x0A) || (decide (0x10 ≤ v) && decide (v ≤ 0x17)) || v == 0x20 || v == 0x21 || v == 0x30

/-- Is SEL in the range of its tap (R441)? -/
def crcSelOk (tap sel : Nat) : Bool :=
  match tap with
  | 0 => true
  | 1 => decide (sel ≤ 0xA)
  | 2 => decide (sel ≤ 0xA)
  | 3 => srcCode sel || sel == 0xFF
  | 4 => srcCode sel || sel == 0xFF
  | 5 => getBits sel 3 4 == 0
  | 6 => true
  | _ => false

/-- The ranges of a configuration (R13, R439, R440, R441): configuration word, POLY, INIT and XOROUT. -/
def crcCfgOk (cfg poly init xorout : Nat) : Bool :=
  let width := getBits cfg 8 7
  let tap := getBits cfg 16 4
  let src := getBits cfg 32 2
  getBits cfg 2 2 != 3 && decide (1 ≤ width) && decide (width ≤ 64) && src != 3 &&
    (src != 2 || (decide (3 ≤ tap) && decide (tap ≤ 6))) && crcSelOk tap (getBits cfg 24 8) &&
    decide (poly < 2 ^ width) && decide (init < 2 ^ width) && decide (xorout < 2 ^ width) && decide (poly % 2 = 1)

/-- A write to CRCu_CFG, CRCu_POLY, CRCu_INIT or CRCu_XOROUT (which: 0 to 3) with new word `new` (R13, R439, R445). -/
def State.crcCfgWrite (s : State) (u which new : Nat) : State :=
  let cfg := s.rg (CRC_CFG.reg.key u 0)
  let poly := s.get CRC_POLY.VALUE u
  let init := s.get CRC_INIT.VALUE u
  let xo := s.get CRC_XOROUT.VALUE u
  let ok := match which with
    | 0 => crcCfgOk new poly init xo
    | 1 => crcCfgOk cfg new init xo
    | 2 => crcCfgOk cfg poly new xo
    | _ => crcCfgOk cfg poly init new
  if bitAt cfg 0 && (which != 0 || new / 2 != cfg / 2) then s.cevt CRC_STAT.CFG_REFUSED u
  else if !ok then s
  else
    match which with
    | 0 =>
      let s := s.setRg (CRC_CFG.reg.key u 0) new
      if bitAt cfg 0 && !bitAt new 0 then
        { s with crc.epoch := mapSet (fun _ => 0) s.crc.epoch u (s.crcEpoch u + 1) }
      else s
    | 1 => s.put CRC_POLY.VALUE new u
    | 2 => s.put CRC_INIT.VALUE new u
    | _ => s.put CRC_XOROUT.VALUE new u

/-- A write to CRCu_VALUE (R445): accepted while EN is 0 or the tap is SW. Bits at or above WIDTH do not exist. -/
def State.crcValueWrite (s : State) (u new : Nat) : State :=
  if s.on CRC_CFG.EN u && s.get CRC_CFG.TAP u != 0 then s.cevt CRC_STAT.CFG_REFUSED u
  else s.put CRC_VALUE.VALUE (new % 2 ^ s.get CRC_CFG.WIDTH u) u

/-- The value CRCu_RESULT reads (R442). -/
def State.crcResultWord (s : State) (u : Nat) : Nat := crcResult (s.crcParam u) (s.get CRC_VALUE.VALUE u)

end Sys2Proof.Machine
end

