-- ==== Sys2Proof/Machine/Checks.lean ====
section
/-! DEFINITION. Check values over bytes: reflected CRCs bit by bit, the FCS of IEEE 802.3 and CRC-32C, and SHA-256 (R490,
R455, R468). -/

namespace Sys2Proof.Machine

/-- `n` bits of a reflected CRC with polynomial `poly` (bit-reversed). -/
def crcBits (poly : Nat) : Nat → Nat → Nat
  | 0, c => c
  | n + 1, c => crcBits poly n (if c % 2 = 1 then (c / 2).xor poly else c / 2)

/-- A reflected CRC over bytes from register value `c`. -/
def crcRun (poly : Nat) (c : Nat) (bs : List Nat) : Nat :=
  bs.foldl (fun c b => crcBits poly 8 (c.xor (b % 256))) c

/-- CRC-32 of IEEE 802.3. -/
def crc32 (bs : List Nat) : Nat := (crcRun 0xEDB88320 0xFFFFFFFF bs).xor 0xFFFFFFFF

/-- CRC-32C, reflected, initial value and final XOR 0xFFFF_FFFF (R99, R279). -/
def crc32c (bs : List Nat) : Nat := (crcRun 0x82F63B78 0xFFFFFFFF bs).xor 0xFFFFFFFF

/-- The four FCS bytes of a frame, as they follow it. -/
def fcsBytes (bs : List Nat) : List Nat :=
  let c := crc32 bs
  [c % 256, c / 256 % 256, c / 65536 % 256, c / 16777216 % 256]

/-! SHA-256 over byte lists (R455, R490). -/

/-- The low 32 bits. -/
def w32 (v : Nat) : Nat := v % 4294967296

/-- Rotate a 32-bit word right. -/
def rotr (n v : Nat) : Nat := v / 2 ^ n + v % 2 ^ n * 2 ^ (32 - n)

/-- The first `n` primes' square-root and cube-root fractions are the constants of the hash. -/
def shaInit : List Nat :=
  [0x6a09e667, 0xbb67ae85, 0x3c6ef372, 0xa54ff53a, 0x510e527f, 0x9b05688c, 0x1f83d9ab, 0x5be0cd19]

def shaK : List Nat :=
  [0x428a2f98, 0x71374491, 0xb5c0fbcf, 0xe9b5dba5, 0x3956c25b, 0x59f111f1, 0x923f82a4, 0xab1c5ed5,
   0xd807aa98, 0x12835b01, 0x243185be, 0x550c7dc3, 0x72be5d74, 0x80deb1fe, 0x9bdc06a7, 0xc19bf174] ++
  [0xe49b69c1, 0xefbe4786, 0x0fc19dc6, 0x240ca1cc, 0x2de92c6f, 0x4a7484aa, 0x5cb0a9dc, 0x76f988da,
   0x983e5152, 0xa831c66d, 0xb00327c8, 0xbf597fc7, 0xc6e00bf3, 0xd5a79147, 0x06ca6351, 0x14292967] ++
  [0x27b70a85, 0x2e1b2138, 0x4d2c6dfc, 0x53380d13, 0x650a7354, 0x766a0abb, 0x81c2c92e, 0x92722c85,
   0xa2bfe8a1, 0xa81a664b, 0xc24b8b70, 0xc76c51a3, 0xd192e819, 0xd6990624, 0xf40e3585, 0x106aa070] ++
  [0x19a4c116, 0x1e376c08, 0x2748774c, 0x34b0bcb5, 0x391c0cb3, 0x4ed8aa4a, 0x5b9cca4f, 0x682e6ff3,
   0x748f82ee, 0x78a5636f, 0x84c87814, 0x8cc70208, 0x90befffa, 0xa4506ceb, 0xbef9a3f7, 0xc67178f2]

/-- The message schedule, newest word first: `n` more words. -/
def shaExpand : Nat → List Nat → List Nat
  | 0, w => w
  | n + 1, w =>
    let a := w.getD 14 0
    let b := w.getD 1 0
    let s0 := ((rotr 7 a).xor (rotr 18 a)).xor (a / 2 ^ 3)
    let s1 := ((rotr 17 b).xor (rotr 19 b)).xor (b / 2 ^ 10)
    shaExpand n (w32 (w.getD 15 0 + s0 + w.getD 6 0 + s1) :: w)

/-- One round over the eight working words. -/
def shaRound (h : List Nat) (kw : Nat × Nat) : List Nat :=
  match h with
  | [a, b, c, d, e, f, g, hh] =>
    let s1 := ((rotr 6 e).xor (rotr 11 e)).xor (rotr 25 e)
    let ch := (e.land f).xor ((4294967295 - e).land g)
    let t1 := hh + s1 + ch + kw.1 + kw.2
    let s0 := ((rotr 2 a).xor (rotr 13 a)).xor (rotr 22 a)
    let mj := ((a.land b).xor (a.land c)).xor (b.land c)
    [w32 (t1 + s0 + mj), a, b, c, w32 (d + t1), e, f, g]
  | l => l

/-- Four big-endian bytes at a time. -/
def beWords : Nat → List Nat → List Nat
  | 0, _ => []
  | n + 1, bs => (bs.take 4).foldl (fun v b => v * 256 + b % 256) 0 :: beWords n (bs.drop 4)

/-- One 64-byte block. -/
def shaBlock (h : List Nat) (blk : List Nat) : List Nat :=
  let w := (shaExpand 48 (beWords 16 blk).reverse).reverse
  ((shaK.zip w).foldl shaRound h).zip h |>.map (fun p => w32 (p.1 + p.2))

/-- `n` blocks. -/
def shaBlocks : Nat → List Nat → List Nat → List Nat
  | 0, h, _ => h
  | n + 1, h, bs => shaBlocks n (shaBlock h (bs.take 64)) (bs.drop 64)

/-- Eight big-endian bytes of a length in bits. -/
def lenBytes (n : Nat) : List Nat := (List.range 8).map (fun i => n / 256 ^ (7 - i) % 256)

/-- SHA-256: 32 bytes. -/
def sha256 (bs : List Nat) : List Nat :=
  let z := (119 - bs.length % 64) % 64
  let m := bs ++ [0x80] ++ List.replicate z 0 ++ lenBytes (8 * bs.length)
  (shaBlocks (m.length / 64) shaInit m).flatMap
    (fun v => [v / 16777216, v / 65536 % 256, v / 256 % 256, v % 256])

end Sys2Proof.Machine
end

