-- ==== Sys2Proof/Machine/Codes.lean ====
section
/-! DEFINITION. The inner code of R189 and R190 and the outer code of R191, as functions on words. -/

namespace Sys2Proof.Machine

open Sys2Proof

/-- The number of one bits among the low `n` bits. -/
def popCount : Nat → Nat → Nat
  | 0, _ => 0
  | n + 1, v => v % 2 + popCount n (v / 2)

/-- The column vectors h_0 to h_63 of the inner code (R189). -/
def innerCols : List Nat :=
  ((List.range 256).filter (fun v => popCount 8 v == 3)) ++ [0x1F, 0x2F, 0x37, 0x3B, 0x3D, 0x3E, 0x4F, 0x57]

/-- XOR of the vectors of the set bits of `d`. -/
def xorCols : List Nat → Nat → Nat
  | [], _ => 0
  | h :: hs, d => (if d % 2 = 1 then h else 0).xor (xorCols hs (d / 2))

/-- The check bits of a data word (R189); those of zero are zero. -/
def innerCheck (d : Nat) : Nat := if d = 0 then 0 else xorCols innerCols d

/-- What the inner decode of a word says (R190). -/
inductive Inner where
  | good | corrected | bad
  deriving DecidableEq, Repr

/-- The inner decode of data `d` with stored check bits `c` (R190): the data word returned and the verdict. -/
def innerDecode (d c : Nat) : Nat × Inner :=
  let syn := c.xor (innerCheck d)
  if syn = 0 then (d, .good)
  else
    match innerCols.findIdx? (· == syn) with
    | some j => (d.xor (2 ^ j), .corrected)
    | none => if (List.range 8).any (fun k => 2 ^ k == syn) then (d, .corrected) else (d, .bad)

/-- α · v in GF(2^8) with polynomial 0x11D (R191). -/
def gfTimesAlpha (v : Nat) : Nat := if v ≥ 128 then (2 * v - 256).xor 0x1D else 2 * v

/-- α^i · v. -/
def gfPow : Nat → Nat → Nat
  | 0, v => v
  | i + 1, v => gfTimesAlpha (gfPow i v)

/-- One lane of a product: α^i times each of the 8 bytes of `w`. -/
def lanesPow (i : Nat) (w : Nat) : Nat := leNat ((leBytes w 8).map (gfPow i))

/-- The XOR of the data words (q0), and of the data words each times α^i (q1), over all lanes (R191). -/
def outerQ0 : List Nat → Nat
  | [] => 0
  | d :: ds => d.xor (outerQ0 ds)
def outerQ1 : Nat → List Nat → Nat
  | _, [] => 0
  | i, d :: ds => (lanesPow i d).xor (outerQ1 (i + 1) ds)

/-- v · α^-i: the inverse of `gfPow i`, since α has order 255. -/
def gfUnpow (i v : Nat) : Nat := gfPow (255 - i % 255) v

/-- 1 / (α^i xor α^j) times `v`, found among the 255 multiples. -/
def gfDivPair (i j v : Nat) : Nat :=
  let e := (gfPow i 1).xor (gfPow j 1)
  -- the exponent k with α^k = e, then v · α^-k
  match (List.range 255).find? (fun k => gfPow k 1 == e) with
  | some k => gfUnpow k v
  | none => v

/-- What the outer decode of a stripe says (R194), with the ten words after it: data words C0 to C7, Q0, Q1. -/
inductive Outer where
  | good
  | corrected (col : Nat)
  | filled
  | bad
  deriving DecidableEq, Repr

/-- Word `c` of a stripe of ten. -/
def wordAt (ws : List Nat) (c : Nat) : Nat := ws.getD c 0

/-- The syndromes S0 and S1 of ten words (R194). -/
def outerS0 (ws : List Nat) : Nat := (wordAt ws 8).xor (outerQ0 (ws.take 8))
def outerS1 (ws : List Nat) : Nat := (wordAt ws 9).xor (outerQ1 0 (ws.take 8))

/-- Does column `c` alone explain both syndromes in every lane with a nonzero syndrome (R194)? -/
def explains (s0 s1 c : Nat) : Bool :=
  if c < 8 then decide (s1 = lanesPow c s0)
  else if c = 8 then decide (s1 = 0)
  else decide (s0 = 0)

/-- One known erasure at column `c` (R194): the words with it solved, and whether the other syndrome is zero. -/
def solveOne (ws : List Nat) (c : Nat) : List Nat × Bool :=
  let s0 := outerS0 ws
  let s1 := outerS1 ws
  if c < 8 then (ws.set c s0, decide (s1.xor (lanesPow c s0) = 0))
  else if c = 8 then (ws.set 8 (outerQ0 (ws.take 8)), decide (s1 = 0))
  else (ws.set 9 (outerQ1 0 (ws.take 8)), decide (s0 = 0))

/-- Two known erasures at columns `a < b` (R194). -/
def solveTwo (ws : List Nat) (a b : Nat) : List Nat :=
  let s0 := outerS0 ws
  let s1 := outerS1 ws
  if b < 8 then
    -- da + db = s0 and α^a da + α^b db = s1, lane by lane
    let t := (lanesPow b s0).xor s1
    let da := leNat ((leBytes t 8).map (gfDivPair a b))
    (ws.set a da).set b (s0.xor da)
  else if a < 8 then
    if b = 8 then
      let da := leNat ((leBytes s1 8).map (gfUnpow a))
      let ws := ws.set a da
      ws.set 8 (outerQ0 (ws.take 8))
    else
      let ws := ws.set a s0
      ws.set 9 (outerQ1 0 (ws.take 8))
  else (ws.set 8 (outerQ0 (ws.take 8))).set 9 (outerQ1 0 (ws.take 8))

/-- The outer decode of ten words, each erased one taken as zero (R194). -/
def outerDecode (ws : List Nat) (erased : List Nat) : List Nat × Outer :=
  match erased with
  | [] =>
    let s0 := outerS0 ws
    let s1 := outerS1 ws
    if s0 = 0 ∧ s1 = 0 then (ws, .good)
    else
      match (List.range 10).find? (explains s0 s1) with
      | some c => (ws.set c ((wordAt ws c).xor (if c = 9 then s1 else s0)), .corrected c)
      | none => (ws, .bad)
  | [c] =>
    let r := solveOne ws c
    if r.2 then (r.1, .filled) else (r.1, .bad)
  | [a, b] => (solveTwo ws (min a b) (max a b), .filled)
  | _ => (ws, .bad)

end Sys2Proof.Machine
end

