-- ==== Sys2Proof/Machine/Roles.lean ====
section
/-! DEFINITION. Units, roles and role generations (R16 to R27). -/

namespace Sys2Proof.Machine

open Sys2Proof

/-- The unit numbers in use (R17). -/
def unitValid (u : Nat) : Bool :=
  decide (u ≤ 0x0A) || (decide (0x10 ≤ u) && decide (u ≤ 0x14)) || (decide (0x18 ≤ u) && decide (u ≤ 0x1B)) ||
    (decide (0x20 ≤ u) && decide (u ≤ 0x27)) || (decide (0x30 ≤ u) && decide (u ≤ 0x40)) ||
    (decide (0x80 ≤ u) && decide (u ≤ 0x8F)) || (decide (0xC0 ≤ u) && decide (u ≤ 0xFF))

/-- Every unit, in ascending number. -/
def allUnits : List Nat := (List.range 0x100).filter unitValid

/-- Function codes (R16). -/
def UnitFunc.code : UnitFunc → Nat
  | .idle => 0 | .owned => 1 | .shared => 2 | .firmware => 3 | .diag => 4

/-- The function of a code; reserved codes name none (R16). -/
def UnitFunc.ofCode (c : Nat) : Option UnitFunc :=
  match c with
  | 0 => some .idle | 1 => some .owned | 2 => some .shared | 3 => some .firmware | 4 => some .diag
  | _ => none

/-- The owner field: 0x0 to 0x7 are P0 to P7, 0xF is the block (R26). -/
def ownerCode : Option (Fin 8) → Nat
  | some p => p.val
  | none => 0xF

/-- The owner a code names; other values do not occur. -/
def ownerOf (c : Nat) : Option (Fin 8) := if h : c < 8 then some ⟨c, h⟩ else none

/-- The role of unit `u`; at block reset every unit is IDLE, owned by the block, at generation 0 (R26). -/
def State.role (s : State) (u : Nat) : Role := mapGet (fun _ => Role.init) s.roles u
def State.setRole (s : State) (u : Nat) (r : Role) : State :=
  { s with roles := mapSet (fun _ => Role.init) s.roles u r }

/-- A message, command or entry is dropped for its generation (R22). -/
def State.stale (s : State) : State := s.count GLB_STALE_CNT.COUNT

/-- The mode (R35): 0 START, 1 TEST, 2 SERVICE, 3 RECOVERY, 4 SLEEP, 5 HALT. -/
def State.mode (s : State) : Nat := s.get GLB_MODE.MODE

/-- Does forwarding run: not in START and HALT (R32), in SLEEP only while work accepted before E0 completes (R510)? -/
def State.forwards (s : State) : Bool :=
  s.mode != 0 && s.mode != 5 && (s.mode != 4 || s.get PWR_STAT.STATE == 1)

/-- Do the engines take new work: outside START, HALT and SLEEP (R32, R510)? -/
def State.takesWork (s : State) : Bool := s.mode != 0 && s.mode != 4 && s.mode != 5

/-- A GLB_ROLE_CMD word (R18, R22, R26, R27): every matching refusal sets its bit and nothing changes; otherwise the change
waits for the next bell edge. -/
def State.roleCmd (s : State) (w : Nat) : State :=
  let u := getBits w 0 10
  let owner := getBits w 16 4
  let func := UnitFunc.ofCode (getBits w 20 4)
  let r := s.role u
  let range := !unitValid u || func.isNone || (func == some .diag && s.mode != 1 && s.mode != 3)
  let badOwner := unitValid u && owner != ownerCode r.owner
  let badGen := unitValid u && getBits w 32 16 != r.gen.toNat
  let busy := unitValid u && r.pend.isSome
  let s := if range then s.put GLB_ROLE_STAT.RANGE_REFUSED 1 else s
  let s := if badOwner then s.put GLB_ROLE_STAT.OWNER_REFUSED 1 else s
  let s := if badGen then s.stale.put GLB_ROLE_STAT.STALE_REFUSED 1 else s
  let s := if busy then s.put GLB_ROLE_STAT.BUSY 1 else s
  match func, range || badOwner || badGen || busy with
  | some f, false => (s.setRole u { r with pend := some (r.owner, f) }).put GLB_ROLE_STAT.ACCEPTED 1
  | _, _ => s

/-- The word GLB_ROLE reads as, for the unit GLB_ROLE_SEL names (R26). PEND and its fields show function commands that wait, not
an approved UNIT_OWNER change, and a reserved unit number reads as a unit at reset: the spec leaves both open (DESIGN CHOICE,
log entry 128). -/
def State.roleWord (s : State) : Nat :=
  let r := s.role (s.get GLB_ROLE_SEL.UNIT)
  let p := r.pend.getD (none, .idle)
  ownerCode r.owner + r.func.code * 2 ^ 4 + r.gen.toNat * 2 ^ 16 + b2n r.pend.isSome * 2 ^ 32
    + ownerCode p.1 * 2 ^ 36 + p.2.code * 2 ^ 40

end Sys2Proof.Machine
end

