-- ==== Sys2Proof/Machine/Ledger.lean ====
section
/-! DEFINITION. The ledger (R467 to R475): words with the inner code, the ring areas, the queue of write requests and its
steps, and what START reads from it. -/

namespace Sys2Proof.Machine

open Sys2Proof

/-- The stored data and check bits of ledger word `w`: byte 9w + 8 holds the check bits. -/
def State.ldgRaw (s : State) (w : Nat) : Nat × Nat :=
  (leNat (memBytes s.ledger.cells (9 * w) 8), (memByte s.ledger.cells (9 * w + 8)).toNat)

/-- Ledger word `w` decoded under R190, and whether it could be: an uncorrectable word makes its record invalid (R467). -/
def State.ldgWord (s : State) (w : Nat) : Option Nat :=
  match innerDecode (s.ldgRaw w).1 (s.ldgRaw w).2 with
  | (_, .bad) => none
  | (d, _) => some d

/-- Replace the whole ledger word `w` (R467). -/
def State.ldgPut (s : State) (w d : Nat) : State :=
  { s with ledger.cells := memWrite s.ledger.cells (9 * w) (leBytes d 8 ++ [innerCheck d]) }

/-- Reading a word reports a corrected or an uncorrectable one (R467). -/
def State.ldgNote (s : State) (w : Nat) : State :=
  match (innerDecode (s.ldgRaw w).1 (s.ldgRaw w).2).2 with
  | .good => s
  | .corrected => s.evt LDG_EVT.CE 0xC9
  | .bad => s.evt LDG_EVT.UE 0xC9

/-- `n` ledger words from `w`, if every one can be read. -/
def State.ldgWords (s : State) (w : Nat) : Nat → Option (List Nat)
  | 0 => some []
  | n + 1 =>
    match s.ldgWord w, s.ldgWords (w + 1) n with
    | some d, some l => some (d :: l)
    | _, _ => none

/-- CRC-32C of 64-bit words, least significant byte of the first word first (R468). -/
def crcWords (ws : List Nat) : Nat := crc32c (ws.flatMap (fun w => leBytes w 8))

/-- The words of a record whose last word holds in its low 32 bits the CRC of the words before it (R378, R468, R472). An
all-zero record is not valid. -/
def crcRecord (ws : List Nat) : Bool :=
  !ws.all (· == 0) && getBits (ws.getLastD 0) 0 32 == crcWords (ws.dropLast)

/-- The valid records among `n` slots of `size` words from word `base`, with their slot numbers. -/
def State.ldgRecords (s : State) (base size n : Nat) (valid : List Nat → Bool) : List (Nat × List Nat) :=
  (List.range n).filterMap (fun i =>
    match s.ldgWords (base + i * size) size with
    | some ws => if valid ws then some (i, ws) else none
    | none => none)

/-! The configuration area (R468). -/

/-- A configuration block is valid when its CRC is correct, FORMAT is 1 and LC is 0 to 4; the words the table does not name
are covered by the CRC. -/
def cfgValid (ws : List Nat) : Bool :=
  getBits (ws.getD 0 0) 32 16 == 1 && decide (getBits (ws.getD 1 0) 0 3 ≤ 4) && crcRecord ws

/-- The record latest under R101 by the 32-bit number that `seq` reads. -/
def latest (seq : List Nat → Nat) (l : List (Nat × List Nat)) : Option (Nat × List Nat) :=
  l.foldl (fun best r =>
    match best with
    | none => some r
    | some b => if 0 < wrapDiff 32 (seq r.2) (seq b.2) then some r else best) none

def seqOf (ws : List Nat) : Nat := getBits (ws.getD 0 0) 0 32

/-- The current configuration block. -/
def State.ldgConfig (s : State) : Option (Nat × List Nat) := latest seqOf (s.ldgRecords 0 16 16 cfgValid)

/-- Is every word of the configuration area zero: a blank ledger (R468)? -/
def State.ldgBlank (s : State) : Bool := s.ledger.cells.all (fun c => decide (9 * 256 ≤ c.1))

/-- Can the ledger be read (R468)? -/
def State.ldgReadable (s : State) : Bool := s.ldgBlank || s.ldgConfig.isSome

/-- The 16 words of a configuration block. -/
def cfgWords (seq lc : Nat) (td0 td1 : List Nat) (genMin en : Nat) : List Nat :=
  let ws := [seq % 2 ^ 32 + 2 ^ 32, lc] ++ (List.range 4).map (fun i => td0.getD i 0) ++
    (List.range 4).map (fun i => td1.getD i 0) ++ [genMin % 2 ^ 32 + en * 2 ^ 32, 0, 0, 0, 0]
  ws ++ [crcWords ws]

/-! The boot counter (R469). -/

/-- A boot-counter word: COUNT and the complement of its low 16 bits. -/
def bootWord (c : Nat) : Nat := c % 2 ^ 48 + (0xFFFF - c % 2 ^ 16) * 2 ^ 48
def bootValid (w : Nat) : Bool := getBits w 48 16 == 0xFFFF - getBits w 0 16

/-- The current count: the highest valid COUNT, or 0. -/
def State.bootCount (s : State) : Nat :=
  (s.ldgRecords 0x100 1 512 (fun ws => bootValid (ws.getD 0 0))).foldl
    (fun m r => max m (getBits (r.2.getD 0 0) 0 48)) 0

/-! Time checkpoints (R378, R379, R470). -/

/-- The record START selects: the valid one with the highest ST_NS. -/
def State.bestCheckpoint (s : State) : Option (Nat × List Nat) :=
  (s.ldgRecords 0x300 4 512 crcRecord).foldl (fun best r =>
    match best with
    | none => some r
    | some b => if b.2.getD 0 0 < r.2.getD 0 0 then some r else best) none

/-! The repair map (R471). -/

def repairWord (entry kind row : Nat) : Nat :=
  let low := entry % 2 ^ 8 + kind % 4 * 2 ^ 8 + row % 2 ^ 10 * 2 ^ 10
  low + (0xFFFF - low % 2 ^ 16) * 2 ^ 48
def repairValid (w : Nat) : Bool := getBits w 48 16 == 0xFFFF - getBits w 0 16

/-- The lowest word of the area whose check fails: where records are appended. -/
def State.repairNext (s : State) : Option Nat :=
  ((List.range 512).map (· + 0xB00)).find? (fun w => match s.ldgWord w with
    | some d => !repairValid d
    | none => true)

/-! The log (R472, R494). -/

/-- The valid log record with the latest LOG_SEQ. -/
def State.lastLog (s : State) : Option (Nat × List Nat) := latest seqOf (s.ldgRecords 0xD00 4 256 crcRecord)

/-- The four words of log record `seq` of KIND `kind`: `top` is word 0 bits [63:40]. -/
def logWords (seq kind top w1 w2 : Nat) : List Nat :=
  let ws := [seq % 2 ^ 32 + kind * 2 ^ 32 + top * 2 ^ 40, w1, w2]
  ws ++ [crcWords ws]

/-! Write requests (R474). -/

/-- Where a request's record goes, and its words in the order in which they are written: decided when it starts, from the
records then in force. -/
def State.ldgPlace (s : State) (b : LdgBody) : List (Nat × Nat) :=
  match b with
  | .ckpt w0 w1 w2 =>
    let slot := match s.bestCheckpoint with
      | some r => (r.1 + 1) % 512
      | none => 0
    let ws := [w0, w1, w2]
    (List.range 4).map (fun i => (0x300 + 4 * slot + i, (ws ++ [crcWords ws]).getD i 0))
  | .repair e k r =>
    match s.repairNext with
    | some w => [(w, repairWord e k r)]
    | none => []
  | .config lc td0 td1 g en =>
    let seq := match s.ldgConfig with
      | some r => (seqOf r.2 + 1) % 2 ^ 32
      | none => 1
    (List.range 16).map (fun i => (16 * (seq % 16) + i, (cfgWords seq lc td0 td1 g en).getD i 0))
  | .log k top w1 w2 =>
    let seq := match s.lastLog with
      | some r => (seqOf r.2 + 1) % 2 ^ 32
      | none => 1
    (List.range 4).map (fun i => (0xD00 + 4 * (seq % 256) + i, (logWords seq k top w1 w2).getD i 0))
  | .fw a d => [(0x1100 + a, d)]

/-- Request a ledger write; with 16 requests queued it is refused as busy and LDG_EVT.BUSY is set (R474). -/
def State.ldgRequest (s : State) (b : LdgBody) : State × Bool :=
  if s.ledger.queue.length < 16 then
    ({ s with ledger.queue := s.ledger.queue ++ [LdgReq.mk b none] }.put LDG_STAT.QUEUED (s.ledger.queue.length + 1), true)
  else (s.evt LDG_EVT.BUSY 0xC9, false)

/-- What the end of a written record does (R213, R378). -/
def State.ldgWritten (s : State) (b : LdgBody) : State :=
  match b with
  | .ckpt w0 _ _ =>
    ((s.put TIME_CKPT_LAST.ST_NS w0).count TIME_CNT.COUNT 7).raise 0x6D
  | .repair e k r =>
    if s.get MEM_REPAIR.KIND e = k ∧ (k = 2 ∨ s.get MEM_REPAIR.ROW e = r) then s.put MEM_REPAIR.LEDGER 1 e else s
  | _ => s

/-- A request abandoned after a second difference (R474, R492). -/
def State.ldgFailed (s : State) (b : LdgBody) : State :=
  let s := s.evt LDG_EVT.WRITE_FAIL 0xC9
  match b with
  | .config _ _ _ _ _ => s.evt PROT_EVT.PERSIST_FAIL 0xD0
  | _ => s

/-- Take the request at the front off the queue. -/
def State.ldgPop (s : State) : State :=
  { s with ledger.queue := s.ledger.queue.tail }.put LDG_STAT.QUEUED (s.ledger.queue.length - 1)

/-- How long the ledger programs a word by itself, in ns: the longest that R48 allows (DESIGN CHOICE, log entry 133). -/
def programNs : Nat := 5000

/-- One word of the request at the front is written and read back (R474): `miss` says how many of the two tries read back a
different word. An abandoned write leaves its word unchanged (R467). When PG_LEDGER has come back and the held writes have
been performed, LEDGER_AVAIL is set (R47). -/
def State.ldgStep (s : State) (miss : Nat) : State :=
  match s.ledger.queue with
  | [] => s
  | r :: rest =>
    if s.chip.pgLedger then
      let todo := match r.todo with
        | some l => l
        | none => s.ldgPlace r.body
      let s := match todo with
        | [] => (s.ldgPop).ldgWritten r.body
        | (w, d) :: more =>
          if 2 ≤ miss then ({ s with ledger.progEnd := s.frc.toNat + programNs }.ldgPop).ldgFailed r.body
          else
            let s := { s.ldgPut w d with ledger.progEnd := s.frc.toNat + programNs }
            if more.isEmpty then (s.ldgPop).ldgWritten r.body
            else { s with ledger.queue := LdgReq.mk r.body (some more) :: rest }
      if s.ledger.queue.isEmpty then s.put GLB_RAIL_STAT.LEDGER_AVAIL 1 else s
    else s

/-- A firmware write (R473): at most 16 in a term. -/
def State.ldgFirmware (s : State) (d : Nat) : State :=
  if 16 ≤ s.ledger.fwUsed then s.evt LDG_EVT.BUDGET 0xC9
  else
    let r := s.ldgRequest (.fw (s.get LDG_FW_ADDR.WORD) d)
    if r.2 then { r.1 with ledger.fwUsed := s.ledger.fwUsed + 1 } else r.1

/-- A read of LDG_RD_DATA by the initiator of copy `c` (R479): the word its LDG_RD_ADDR names, corrected. -/
def State.ldgRead (s : State) (c : Nat) : State × Nat :=
  let w := s.get (LDG_RD_ADDR.WORD.of c)
  (s.ldgNote w, (innerDecode (s.ldgRaw w).1 (s.ldgRaw w).2).1)

/-- The checkpoint record of the present moment (R378); `deep` marks an entry to DEEP. -/
def State.checkpointBody (s : State) (st : Nat) (deep : Bool) : LdgBody :=
  .ckpt st (s.get TIME_RATE.RATE + s.get TIME_STAT.STATE * 2 ^ 40 + b2n deep * 2 ^ 43 + s.rg (TIME_UTC.reg.key 0 0) % 2 ^ 16 * 2 ^ 48)
    (s.get PWR_AON_CNT.COUNT + s.get LDG_STAT.BOOT_COUNT % 2 ^ 16 * 2 ^ 48)

/-- Request a time checkpoint (R378); a busy ledger sets CKPT_FAIL. -/
def State.checkpoint (s : State) (st : Nat) (deep : Bool) : State :=
  if s.get TIME_STAT.STATE = 3 ∨ s.get TIME_STAT.STATE = 4 then
    let r := s.ldgRequest (s.checkpointBody st deep)
    if r.2 then r.1 else r.1.evt TIME_EVT.CKPT_FAIL 0x60
  else s

end Sys2Proof.Machine
end

