-- ==== Sys2Proof/Machine/Pmu.lean ====
section
/-! DEFINITION. The performance monitor (R429 to R433): counters, chains, overflow, samples. -/

namespace Sys2Proof.Machine

open Sys2Proof

/-- Monitor event codes (R431) that the block raises itself. -/
def evBufAccess : Nat := 0x07
def evBufSlow : Nat := 0x08
def evStaff : Nat := 0x09
def evParserPass : Nat := 0x20
def evAllocGrant : Nat := 0x21
def evAllocFail : Nat := 0x22
def evStripeWr : Nat := 0x23
def evWordRd : Nat := 0x24
def evEgressCopy : Nat := 0x25
def evMemRmw : Nat := 0x30
def evSlowRead : Nat := 0x31
def evCmdServed : Nat := 0x40
def evStepRun : Nat := 0x41

/-- Codes that the table of R431 names. -/
def evNamed (e : Nat) : Bool :=
  (decide (1 ≤ e) && decide (e ≤ 0x0A)) || (decide (0x20 ≤ e) && decide (e ≤ 0x25)) || e == 0x30 || e == 0x31 ||
    (decide (0x40 ≤ e) && decide (e ≤ 0x42))

/-- Events that arise inside a core's pipeline, or count cycles: none of them is an effect of another command. -/
def evOutside (e : Nat) : Bool := (decide (1 ≤ e) && decide (e ≤ 6)) || e == 0x0A || e == 0x42

/-- Does counter `k` count only the carries of the counter below (R429)? -/
def State.pmuChained (s : State) (k : Nat) : Bool := k % 2 == 1 && s.on PMU_EVSEL.CHAIN k

/-- Is counter `k` running? -/
def State.pmuRuns (s : State) (k : Nat) : Bool := s.on PMU_CTRL.EN && s.on PMU_EVSEL.EN k

/-- An overflow that feeds no chained counter (R430). -/
def State.pmuOverflow (s : State) (k : Nat) : State :=
  let s := s.evt { PMU_OVF.OVF with lo := k, w := 1 } 0xB1
  if s.on PMU_CTRL.FREEZE then s.put PMU_CTRL.EN 0 else s

/-- `n` is added to counter `k`; a carry out of bit 31 goes to a chained counter, or overflows (R429, R430). -/
def State.pmuAdd (s : State) (k n : Nat) : State :=
  let v := s.get PMU_CNT.COUNT k + n
  let s := s.put PMU_CNT.COUNT v k
  if v < 2 ^ 32 then s
  else if k % 2 = 0 ∧ s.pmuChained (k + 1) = true ∧ s.pmuRuns (k + 1) = true then
    let c := s.get PMU_CNT.COUNT (k + 1) + v / 2 ^ 32
    let s := s.put PMU_CNT.COUNT c (k + 1)
    if c < 2 ^ 32 then s else s.pmuOverflow (k + 1)
  else s.pmuOverflow k

/-- `n` occurrences of event `e`, on the cores of mask `cores` where it is a core event (R429): every counter that runs in this cycle
adds them, also where the overflow of another clears EN in it (R430). -/
def State.pmuOn (s : State) (e cores n : Nat) : State :=
  s.forEach ((List.range 16).filter (fun k => s.pmuRuns k && !s.pmuChained k && s.get PMU_EVSEL.EVENT k == e &&
      (decide (0x0A < e) || (s.get PMU_EVSEL.CORE k).land cores != 0))) (fun s k => s.pmuAdd k n)

/-- `n` occurrences of an event that is no core event. -/
def State.pmu (s : State) (e n : Nat) : State := if s.on PMU_CTRL.EN then s.pmuOn e 0 n else s

/-- PMU_OVF: `n` occurrences of an event outside the other commands reach counter `k` (R429, R430). -/
def State.pmuOccur (s : State) (k n : Nat) : State :=
  if s.pmuRuns k && !s.pmuChained k && evOutside (s.get PMU_EVSEL.EVENT k) then s.pmuAdd k n else s

/-- PMU_SAMPLE: one sample record (R433). -/
def State.pmuSample (s : State) (core latency addr stLow : Nat) : State :=
  if s.on PMU_SAMP_CFG.EN && bitAt (s.get PMU_SAMP_CFG.CORE) core && !s.on PMU_SAMP_STAT.FULL then
    let i := s.get PMU_SAMP_STAT.NEXT
    let w0 := core + s.get PMU_SAMP_CFG.EVENT * 2 ^ 8 + latency * 2 ^ 16 + addr * 2 ^ 32
    let w1 := stLow % 2 ^ 32 + s.samples % 2 ^ 32 * 2 ^ 32
    let s := (s.put PMU_SAMP.WORD w0 i 0).put PMU_SAMP.WORD w1 i 1
    let s := { s with samples := s.samples + 1 }
    let s := s.put PMU_SAMP_STAT.NEXT (i + 1)
    let s := if i = 255 ∧ s.on PMU_SAMP_CFG.WRAP = false then s.put PMU_SAMP_STAT.FULL 1 else s
    if s.samples % 128 = 0 then s.raise 0xB2 else s
  else s

/-- PMU_SAMP_CFG was written: setting EN empties the buffer and starts the record count (R433, R436). -/
def State.pmuSampCfg (s : State) (old : Nat) : State :=
  if !bitAt old 0 && s.on PMU_SAMP_CFG.EN then
    { s.setRg (PMU_SAMP_STAT.reg.key 0 0) 0 with samples := 0 }
  else s

/-- The word a 64-bit read of PMU_CNTi gives (R430). -/
def State.pmuWord (s : State) (k : Nat) : Nat :=
  s.get PMU_CNT.COUNT k + (if k % 2 = 0 then s.get PMU_CNT.COUNT (k + 1) * 2 ^ 32 else 0)

end Sys2Proof.Machine
end

