-- ==== Sys2Proof/Machine/Pools.lean ====
section
/-! DEFINITION. Buffer pools (R224 to R241): pointers, smallest fit, allocation order and failures, references, release
checks, the pool commands and their rebuild steps. -/

namespace Sys2Proof.Machine

open Sys2Proof

/-- Bytes of a buffer of SIZE code `c` (R241). -/
def bufBytes (c : Nat) : Nat := 128 * 2 ^ c

/-- Bytes of a bank's data (R224). -/
def bankBytes : Nat := 524288

/-- The requesters of the allocator (R227). -/
inductive Requester where
  | recirc | port | host | roll | core
  deriving DecidableEq, Repr

/-- Allocation ranks (R227). -/
def Requester.rank : Requester → Nat
  | .recirc => 1 | .port => 2 | .host => 3 | .roll => 4 | .core => 5

/-- The definition of pool `p` in force (R235: POOLp_CFG only stages it). -/
def State.pool (s : State) (p : Nat) : PoolDef := mapGet (fun _ => PoolDef.off) s.mem.pools p

/-- Is pool `p` enabled? -/
def State.poolOn (s : State) (p : Nat) : Bool := (s.pool p).banks != 0

/-- Buffers of a pool definition: the number of banks × 524,288 ÷ the buffer size (R224). -/
def PoolDef.count (d : PoolDef) : Nat := d.banks * bankBytes / bufBytes d.size

/-- The byte address of buffer `i` of pool `p`, and its pointer (R225). -/
def State.bufAddr (s : State) (p i : Nat) : Nat := (s.pool p).first * bankBytes + i * bufBytes (s.pool p).size
def State.bufPtr (s : State) (p i : Nat) : Nat := p * 2 ^ 24 + s.bufAddr p i

/-- Pool and address fields of a pointer (R225). -/
def ptrPool (ptr : Nat) : Nat := getBits ptr 24 3
def ptrAddr (ptr : Nat) : Nat := getBits ptr 0 23

/-- The reference record of a buffer (R231): absent means a reference count of zero. -/
def State.buf (s : State) (ptr : Nat) : Buf := mapGet (fun _ => Buf.free) s.mem.bufs ptr
def State.setBuf (s : State) (ptr : Nat) (b : Buf) : State :=
  { s with mem.bufs := mapSet (fun _ => Buf.free) s.mem.bufs ptr b }

/-- How many buffers of bank `b`, counted from its first, have joined the free list since the bank was built. -/
def State.joined (s : State) (b : Nat) : Nat := mapGet (fun _ => 0) s.mem.joined b

/-- Is bank `b` withdrawn from pool `p`? -/
def State.withdrawn (s : State) (p b : Nat) : Bool := bitAt (s.get POOL_STAT.WITHDRAWN p) b

/-- May buffer `i` of pool `p` be granted: its bank is not withdrawn, it has joined the list, its count is zero, and it was not
released in this allocator cycle (R228, R231)? -/
def State.bufFree (s : State) (p i : Nat) : Bool :=
  let a := s.bufAddr p i
  let b := a / bankBytes
  !s.withdrawn p b && decide (a % bankBytes / bufBytes (s.pool p).size < s.joined b) &&
    decide ((s.buf (s.bufPtr p i)).refs = 0) && !s.mem.allocFreed.contains (s.bufPtr p i)

/-- A free buffer of pool `p`: the first at or after a free starting point, since the order is not specified (R231). -/
def State.pickBuf (s : State) (p : Nat) : Option Nat :=
  let n := (s.pool p).count
  ((List.range n).map (fun i => (i + Config.pick s.free) % n)).find? (fun i => s.bufFree p i)

/-- The free count of pool `p` that requests see. -/
def State.avail (s : State) (p : Nat) : Nat := mapGet (fun _ => 0) s.mem.avail p
def State.setAvail (s : State) (p v : Nat) : State := { s with mem.avail := mapSet (fun _ => 0) s.mem.avail p v }

/-- The ingress reserve of pool `p` (R229). -/
def State.reserve (s : State) (p : Nat) : Nat := s.get POOL_CFG.RESERVE p

/-- The enabled pool with the smallest buffer size of at least `need` bytes (R226). -/
def State.fitPool (s : State) (need : Nat) : Option Nat :=
  (List.range 5).foldl (fun best p =>
    if s.poolOn p = true ∧ need ≤ bufBytes (s.pool p).size then
      match best with
      | none => some p
      | some q => if bufBytes (s.pool p).size < bufBytes (s.pool q).size then some p else best
    else best) none

/-- The largest enabled pool, or 0: where a request that fits nowhere counts (R226). -/
def State.largestPool (s : State) : Nat :=
  ((List.range 5).foldl (fun best p =>
    if s.poolOn p then
      match best with
      | none => some p
      | some q => if bufBytes (s.pool q).size < bufBytes (s.pool p).size then some p else best
    else best) none).getD 0

/-- How far port `u` stands behind port `b` in the round robin of the ports, U0 to W2 (R227). -/
def portTurn (b u : Nat) : Nat := (u + 10 - b) % 11

/-- Has the allocator cycle a place left that request `who` of `src` can have been reached at: its rank is not above the rank
reached last, and a port stands after the port served in the cycle (R227)? -/
def State.allocJoins (s : State) (who : Requester) (src : Nat) : Bool :=
  decide (s.mem.allocReached < 2) && decide (s.mem.allocRank ≤ who.rank) &&
    !(who == .port && s.mem.allocRank == 2 &&
      decide (portTurn s.mem.allocBase src ≤ portTurn s.mem.allocBase s.mem.allocPort))

/-- The CORE_CK cycle of a request of `who`, by port `src` where it is a port's: `same` says that it is reached in the cycle of the
request before it, where that cycle can have reached it; else in a new one (R227 to R229). -/
def State.allocCycle (s : State) (who : Requester) (src : Nat) (same : Bool) : State :=
  let joins := same && s.allocJoins who src
  let s := if joins then { s with mem.allocReached := s.mem.allocReached + 1 }
    else { s with mem.allocReached := 1, mem.allocStart := (List.range 5).map s.avail,
                  mem.allocReserve := (List.range 5).map s.reserve, mem.allocGrants := [], mem.allocFreed := [],
                  mem.allocBase := s.mem.allocPort }
  { s with mem.allocRank := who.rank, mem.allocPort := if who == .port then src else s.mem.allocPort }

/-- The allocator cycle has ended: the next request is reached in a new one. -/
def State.allocClose (s : State) : State := { s with mem.allocReached := 2 }

/-- The free count of pool `p` went from `old` to `new`: LOW where it fell to RESERVE, EMPTY where it reached 0 (R241). -/
def State.freeFell (s : State) (p old new : Nat) : State :=
  let s := if s.reserve p < old ∧ new ≤ s.reserve p then s.evt POOL_EVT.LOW 0x44 else s
  if 0 < old ∧ new = 0 then s.evt POOL_EVT.EMPTY 0x44 else s

/-- Bytes held against an ingress port, in total and per priority (R131, R233). -/
def State.heldAdd (s : State) (src pri n : Nat) : State :=
  if src ≤ 0x0A then
    { s with mem.srcBytes := mapSet (fun _ => 0) s.mem.srcBytes src (mapGet (fun _ => 0) s.mem.srcBytes src + n),
             mem.priBytes := mapSet (fun _ => 0) s.mem.priBytes (src * 8 + pri)
               (mapGet (fun _ => 0) s.mem.priBytes (src * 8 + pri) + n) }
  else s

/-- The bytes a released buffer no longer holds against its ingress port. -/
def State.heldSub (s : State) (src pri n : Nat) : State :=
  if src ≤ 0x0A then
    { s with mem.srcBytes := mapSet (fun _ => 0) s.mem.srcBytes src (mapGet (fun _ => 0) s.mem.srcBytes src - n),
             mem.priBytes := mapSet (fun _ => 0) s.mem.priBytes (src * 8 + pri)
               (mapGet (fun _ => 0) s.mem.priBytes (src * 8 + pri) - n) }
  else s

/-- One buffer request of `who` for stored length `len` (R226 to R229): the pool it counts in, and the pointer granted.
`src` and `pri` record what the buffer counts against (R233, R131). -/
def State.allocBuf (s : State) (who : Requester) (same : Bool) (len src pri : Nat) : State × Nat × Option Nat :=
  let s := s.allocCycle who src same
  match s.fitPool (len + 64) with
  | none => (s.count POOL_CNT.COUNT s.largestPool 1, s.largestPool, none)
  | some p =>
    let start := s.mem.allocStart.getD p 0
    let seen := start - (s.mem.allocGrants.filter (· == p)).length
    let floor := if who = .port then 0 else s.mem.allocReserve.getD p 0
    if seen ≤ floor then
      if floor < start then (s.count POOL_CNT.COUNT p 3, p, none)
      else if who = .port then (s.count POOL_CNT.COUNT p 1, p, none)
      else (s.count POOL_CNT.COUNT p 2, p, none)
    else
      match s.pickBuf p with
      | none => (s.count POOL_CNT.COUNT p 1, p, none)
      | some i =>
        let ptr := s.bufPtr p i
        let s := s.setBuf ptr ⟨1, src, pri⟩
        let left := s.avail p - 1
        let s := (s.setAvail p left).put POOL_STAT.FREE (s.get POOL_STAT.FREE p - 1) p
        let s := { s with free := s.free + 1, mem.allocGrants := p :: s.mem.allocGrants }
        let s := s.count POOL_CNT.COUNT p 0
        let s := s.freeFell p (left + 1) left
        let s := s.heldAdd src pri (bufBytes (s.pool p).size)
        (s, p, some ptr)

/-- One buffer request, as the performance monitor sees it (R431). -/
def State.alloc (s : State) (who : Requester) (same : Bool) (len src pri : Nat) : State × Nat × Option Nat :=
  let r := s.allocBuf who same len src pri
  (r.1.pmu (if r.2.2.isSome then evAllocGrant else evAllocFail) 1, r.2)

/-- The first failing pointer check of R232: KIND, counter slot and event bit. -/
def State.ptrCheck (s : State) (ptr : Nat) : Option (Nat × Nat × Fld) :=
  let p := ptrPool ptr
  let a := ptrAddr ptr
  let d := s.pool p
  if bitAt ptr 23 = true ∨ ptr / 2 ^ 27 ≠ 0 ∨ 4 < p ∨ s.poolOn p = false then some (1, 5, POOL_EVT.PTR_BAD)
  else if a < d.first * bankBytes ∨ (d.first + d.banks) * bankBytes ≤ a then some (2, 5, POOL_EVT.PTR_BAD)
  else if (a - d.first * bankBytes) % bufBytes d.size ≠ 0 then some (3, 5, POOL_EVT.PTR_BAD)
  else if (s.buf ptr).refs = 0 then some (4, 6, POOL_EVT.DOUBLE_FREE)
  else none

/-- Does any buffer in bank `b` have references? -/
def State.bankBusy (s : State) (b : Nat) : Bool :=
  s.mem.bufs.any (fun e => decide (ptrAddr e.1 / bankBytes = b))

/-- Do steps of a WITHDRAW of bank `b` wait (R236)? -/
def State.leaving (s : State) (b : Nat) : Bool := s.mem.rebuild.any (fun r => r.kind == .withdraw && r.bank == b)

/-- Bank `b` of pool `p` has given up its buffers: BANK_FREE where it is withdrawn, no step of its WITHDRAW waits and no buffer of
it is in use (R235). -/
def State.bankLeft (s : State) (p b : Nat) : State :=
  if s.withdrawn p b && !s.leaving b && !s.bankBusy b then s.evt POOL_EVT.BANK_FREE 0x44 else s

/-- A release of one reference by `source` (R231, R232): the last release returns the buffer to its pool, unless its bank
is withdrawn (R235). -/
def State.release (s : State) (ptr source : Nat) : State :=
  match s.ptrCheck ptr with
  | some (kind, slot, bit) =>
    let p := if ptrPool ptr ≤ 4 then ptrPool ptr else 0
    let s := s.count POOL_CNT.COUNT p slot
    let s := s.setRg (POOL_PTR_LOG.reg.key 0 0)
      (ptr % 2 ^ 32 + source % 2 ^ 8 * 2 ^ 32 + kind * 2 ^ 40 + 2 ^ 43)
    s.evt bit 0x44
  | none =>
    let b := s.buf ptr
    let p := ptrPool ptr
    if 1 < b.refs then s.setBuf ptr { b with refs := b.refs - 1 }
    else
      let s := { s.setBuf ptr Buf.free with mem.allocFreed := ptr :: s.mem.allocFreed }
      let s := s.count POOL_CNT.COUNT p 4
      let s := s.heldSub b.src b.pri (bufBytes (s.pool p).size)
      let bank := ptrAddr ptr / bankBytes
      if s.withdrawn p bank then s.bankLeft p bank
      else if ptrAddr ptr % bankBytes / bufBytes (s.pool p).size < s.joined bank then
        (s.setAvail p (s.avail p + 1)).put POOL_STAT.FREE (s.get POOL_STAT.FREE p + 1) p
      else s

/-- Forwarding sets the reference count to the number of destinations; zero destinations release the buffer (R231). -/
def State.setRefs (s : State) (ptr n source : Nat) : State :=
  if n = 0 then s.release ptr source
  else s.setBuf ptr { s.buf ptr with refs := n }

/-! Pool commands (R235) and their steps, operation code 0x4 (R236). -/

/-- The enabled pool that holds bank `b`. -/
def State.poolOfBank (s : State) (b : Nat) : Option Nat :=
  (List.range 5).find? (fun p => decide ((s.pool p).first ≤ b) && decide (b < (s.pool p).first + (s.pool p).banks))

/-- Is a bank ON and not FAILED (R201, R212)? -/
def State.bankOn (s : State) (b : Nat) : Bool := s.get MEM_BANK_STAT.POWER b == 0 && s.get MEM_BANK_STAT.HEALTH b != 3

/-- The staged definition of pool `p`. -/
def State.stagedPool (s : State) (p : Nat) : PoolDef :=
  ⟨s.get POOL_CFG.SIZE p, s.get POOL_CFG.FIRST_BANK p, s.get POOL_CFG.BANKS p⟩

/-- Is the staged definition of `p` one that R235 refuses, against the other enabled pools `others`? `start` applies the
size condition to the nearest of those below only, and takes OFF or FAILED banks as withdrawn (R238). -/
def State.redefineBad (s : State) (p : Nat) (others : List Nat) (start : Bool) : Bool :=
  let d := s.stagedPool p
  if d.banks = 0 then false
  else
    let banks := (List.range d.banks).map (· + d.first)
    let below := (others.filter (fun q => decide (q < p))).foldl (fun m q => max m (bufBytes (s.pool q).size)) 0
    let above := (others.filter (fun q => decide (p < q))).map (fun q => bufBytes (s.pool q).size)
    banks.any (fun b => decide (11 < b)) ||
      (!start && banks.any (fun b => !s.bankOn b)) ||
      banks.any (fun b => others.any (fun q =>
        decide ((s.pool q).first ≤ b) && decide (b < (s.pool q).first + (s.pool q).banks))) ||
      (below != 0 && decide (bufBytes d.size ≤ below)) ||
      (!start && above.any (fun z => decide (z ≤ bufBytes d.size))) ||
      decide (d.count < s.get POOL_CFG.RESERVE p)

/-- Refuse a pool command (R235). -/
def State.poolRefuse (s : State) : State := s.evt POOL_EVT.CMD_REFUSED 0x44

/-- Which buffers of bank `b` of pool `p`, counted from its first, are free among its buffers `lo .. hi - 1`. -/
def State.freeIn (s : State) (p b lo hi : Nat) : List Nat :=
  let sz := bufBytes (s.pool p).size
  ((List.range (hi - lo)).map (lo + ·)).filter (fun k =>
    decide ((s.buf (p * 2 ^ 24 + b * bankBytes + k * sz)).refs = 0) && decide (k < s.joined b))

/-- Buffers of one bank of pool `p`. -/
def State.perBank (s : State) (p : Nat) : Nat := bankBytes / bufBytes (s.pool p).size

/-- Queue a rebuild; GLB_STEP_STAT.PEND shows operation code 0x4 pending. -/
def State.queueRebuild (s : State) (r : Rebuild) : State :=
  { s with mem.rebuild := s.mem.rebuild ++ [r] }

/-- A rebuild that waits adds no buffer of bank `b` any more. -/
def Rebuild.without (b : Nat) (r : Rebuild) : Rebuild :=
  if r.kind == .withdraw then r else { r with out := b :: r.out }

/-- WITHDRAW bank `b` of pool `q`: its free buffers cannot be allocated from now on, and its steps take them off the list; the
buffers of it that have not joined yet never will (R235, R236). -/
def State.withdraw (s : State) (q b : Nat) : State :=
  let n := s.perBank q
  let free := s.freeIn q b 0 n
  let old := s.avail q
  let left := old - free.length
  let s := (s.setAvail q left).freeFell q old left
  let s := s.put POOL_STAT.WITHDRAWN (s.get POOL_STAT.WITHDRAWN q + 2 ^ b) q
  let s := s.put POOL_STAT.TOTAL (s.get POOL_STAT.TOTAL q - n) q
  let s := { s with mem.rebuild := s.mem.rebuild.map (Rebuild.without b) }
  s.queueRebuild ⟨.withdraw, q, b, 0, n, s.joined b, (List.range (s.joined b)).filter (fun k => !free.contains k)⟩

/-- RESTORE bank `b` of pool `q` (R235): its buffers join again, from its first. -/
def State.restoreBank (s : State) (q b : Nat) : State :=
  let n := s.perBank q
  let s := s.put POOL_STAT.WITHDRAWN (s.get POOL_STAT.WITHDRAWN q - 2 ^ b) q
  let s := s.put POOL_STAT.TOTAL (s.get POOL_STAT.TOTAL q + n) q
  { s with mem.joined := mapSet (fun _ => 0) s.mem.joined b 0 }.queueRebuild ⟨.add, q, b, 0, n, 0, []⟩

/-- A served POOL_CMD (R235). -/
def State.poolCmd (s : State) (w : Nat) : State :=
  let act := getBits w 0 2
  let b := getBits w 4 4
  let p := getBits w 8 3
  if act = 1 then
    match s.poolOfBank b with
    | some q =>
      if s.withdrawn q b then s.poolRefuse else s.withdraw q b
    | none => s.poolRefuse
  else if act = 2 then
    match s.poolOfBank b with
    | some q =>
      if s.withdrawn q b = false ∨ s.bankOn b = false then s.poolRefuse else s.restoreBank q b
    | none => s.poolRefuse
  else if act = 3 then
    let cur := (List.range (s.pool p).banks).map (· + (s.pool p).first)
    let others := (List.range 5).filter (fun q => q != p && s.poolOn q)
    if 4 < p ∨ cur.any (fun c => !s.withdrawn p c || s.bankBusy c) = true ∨ s.redefineBad p others false = true then
      s.poolRefuse
    else
      let d := s.stagedPool p
      let s := { s with mem.pools := mapSet (fun _ => PoolDef.off) s.mem.pools p d }
      let s := s.setAvail p 0
      let s := s.setRg (POOL_STAT.reg.key p 0) 0
      let s := s.put POOL_STAT.ACTIVE (b2n (d.banks != 0)) p
      let s := s.put POOL_STAT.TOTAL d.count p
      let s := s.forEach ((List.range d.banks).map (· + d.first)) (fun s c =>
        { s with mem.joined := mapSet (fun _ => 0) s.mem.joined c 0 })
      s.queueRebuild ⟨.build, p, d.first, 0, s.perBank p, 0, []⟩
  else s.poolRefuse

/-- Buffers up to `hi` join the free list of the pool of rebuild `r` (R236), unless their bank was withdrawn again. -/
def State.joinChunk (s : State) (r : Rebuild) (hi : Nat) : State :=
  if r.out.contains r.bank then s
  else
    let p := r.pool
    let s := { s with mem.joined := mapSet (fun _ => 0) s.mem.joined r.bank hi }
    let n := (s.freeIn p r.bank r.pos hi).length
    (s.setAvail p (s.avail p + n)).put POOL_STAT.FREE (s.get POOL_STAT.FREE p + n) p

/-- Buffers up to `hi` leave the free list under the WITHDRAW of rebuild `r`: those that were on it when it was served (R236). -/
def State.leaveChunk (s : State) (r : Rebuild) (hi : Nat) : State :=
  let gone := ((List.range (hi - r.pos)).map (r.pos + ·)).filter (fun k => decide (k < r.upto) && !r.out.contains k)
  s.put POOL_STAT.FREE (s.get POOL_STAT.FREE r.pool - gone.length) r.pool

/-- The rebuild at the front has ended: its command is done (R235). -/
def State.rebuildDone (s : State) : State :=
  { s with mem.rebuild := s.mem.rebuild.tail }.evt POOL_EVT.CMD_DONE 0x44

/-- One step of the pool rebuild (R236). -/
def State.rebuildStep (s : State) : State :=
  match s.mem.rebuild with
  | [] => s
  | r :: rest =>
    let hi := min (r.pos + 512) r.size
    let more (s : State) : State := { s with mem.rebuild := { r with pos := hi } :: rest }
    match r.kind with
    | .withdraw =>
      let s := s.leaveChunk r hi
      if hi < r.size then more s else s.rebuildDone.bankLeft r.pool r.bank
    | .add =>
      let s := s.joinChunk r hi
      if hi < r.size then more s else s.rebuildDone
    | .build =>
      let d := s.pool r.pool
      if d.banks = 0 then s.rebuildDone
      else
        let s := s.joinChunk r hi
        if hi < r.size then more s
        else if r.bank + 1 < d.first + d.banks then
          { s with mem.rebuild := { r with bank := r.bank + 1, pos := 0 } :: rest }
        else s.rebuildDone

/-- The build of one pool in START (R238): unstepped; OFF or FAILED banks are built as withdrawn. -/
def State.startPool (s : State) (p : Nat) : State :=
  let built := (List.range p).filter s.poolOn
  let d := s.stagedPool p
  if s.redefineBad p built true then
    ({ s with mem.pools := mapSet (fun _ => PoolDef.off) s.mem.pools p PoolDef.off }.setAvail p 0).poolRefuse
  else
    let s := { s with mem.pools := mapSet (fun _ => PoolDef.off) s.mem.pools p d }
    let banks := (List.range d.banks).map (· + d.first)
    let good := banks.filter s.bankOn
    let bad := banks.filter (fun b => !s.bankOn b)
    let s := s.forEach good (fun s b => { s with mem.joined := mapSet (fun _ => 0) s.mem.joined b (s.perBank p) })
    let n := good.length * s.perBank p
    let s := s.setAvail p n
    let s := s.put POOL_STAT.FREE n p
    let s := s.put POOL_STAT.TOTAL n p
    let s := s.put POOL_STAT.WITHDRAWN ((bad.map (fun b => 2 ^ b)).foldl (· + ·) 0) p
    s.put POOL_STAT.ACTIVE (b2n (d.banks != 0)) p

/-- The pool build of START (R238), in ascending pool number. -/
def State.buildPools (s : State) : State := s.forEach (List.range 5) State.startPool

/-- MEM_BANKm_STAT.IN_USE of a bank in B0 to B11 (R237). -/
def State.bankInUse (s : State) (b : Nat) : Bool :=
  (match s.poolOfBank b with
    | some p => !s.withdrawn p b
    | none => false) || s.bankBusy b

end Sys2Proof.Machine
end

