-- ==== Sys2Proof/Machine/BufMem.lean ====
section
/-! DEFINITION. The buffer memory behind its codec (R187 to R205): reads, full and partial writes, column health, bank power
and processor accesses. The array holds, for stripe s and column c, nine bytes from 90·s + 9·c: the eight data lanes and the
check bits. -/

namespace Sys2Proof.Machine

open Sys2Proof

/-- Counter slots of R222, as indices of MEM_CNT. -/
def mcInnerCe : Nat := 0
def mcInnerUe : Nat := 1
def mcErasure : Nat := 2
def mcUnknown : Nat := 3
def mcUncorr : Nat := 4
def mcUncorrDrop : Nat := 5
def mcRmw : Nat := 6
def mcProc : Nat := 7
def mcRecon : Nat := 8
def mcAccOff : Nat := 9
def mcScrubStripes : Nat := 10
def mcScrubWb : Nat := 11
def mcScrubPasses : Nat := 12
def mcMarchOps : Nat := 13
def mcMarchFail : Nat := 14
def mcRepairs : Nat := 15
def mcRedo : Nat := 16
def mcStaffCe : Nat := 17
def mcStaffUe : Nat := 18
def mcCollided : Nat := 19
def mcCollidedSame : Nat := 20
def mcInnerCeCol : Nat := 21

def State.mc (s : State) (slot : Nat) : State := s.count MEM_CNT.COUNT slot
def State.mevt (s : State) (f : Fld) : State := s.evt f 0x43

/-- Sources of MEM_ERR_LOG. -/
inductive MemSrc where
  | processor | mover | roll | scrub | rebuild | rmw | startup
  deriving DecidableEq, Repr

def MemSrc.code : MemSrc → Nat
  | .processor => 0 | .mover => 1 | .roll => 2 | .scrub => 3 | .rebuild => 4 | .rmw => 5 | .startup => 6

/-- Bank of stripe `st` (R188). -/
def stripeBank (st : Nat) : Nat := st / 8192

/-- The raw data and check bits of column `c` of stripe `st`. -/
def State.rawWord (s : State) (st c : Nat) : Nat × Nat :=
  (leNat (memBytes s.mem.cells (90 * st + 9 * c) 8), (memByte s.mem.cells (90 * st + 9 * c + 8)).toNat)

/-- Write the raw data and check bits of column `c` of stripe `st`. -/
def State.putRaw (s : State) (st c d chk : Nat) : State :=
  { s with mem.cells := memWrite s.mem.cells (90 * st + 9 * c) (leBytes d 8 ++ [chk]) }

/-- Write a correctly coded word. -/
def State.putWord (s : State) (st c d : Nat) : State := s.putRaw st c d (innerCheck d)

/-! Column health (R204, R205). -/

/-- The columns of bank `b` that read ERASED. -/
def State.erasedCols (s : State) (b : Nat) : List Nat :=
  (List.range 10).filter (fun c => bitAt (s.get MEM_BANK_STAT.ERASED b) c)

/-- Load MEM_ERR_LOG. -/
def State.memLog (s : State) (st cols : Nat) (src : MemSrc) : State :=
  let s := s.put MEM_ERR_LOG.STRIPE st
  let s := s.put MEM_ERR_LOG.COLS cols
  let s := s.put MEM_ERR_LOG.SOURCE src.code
  let s := s.put MEM_ERR_LOG.VALID 1
  s.put MEM_ERR_LOG.BELL (s.get GLB_BELL_NUM.BELL)

/-- The mask of a list of columns. -/
def colMask (l : List Nat) : Nat := l.foldl (fun m c => m.lor (2 ^ c)) 0

/-- HEALTH follows the number of ERASED columns (R205); FAILED stays (R214). -/
def State.putHealth (s : State) (b : Nat) : State :=
  if s.get MEM_BANK_STAT.HEALTH b = 3 then s else s.put MEM_BANK_STAT.HEALTH (min 2 (s.erasedCols b).length) b

/-- A column becomes ERASED, unless it would be the bank's third (R204, R205). -/
def State.eraseCol (s : State) (b c st : Nat) (src : MemSrc) : State :=
  let cols := s.erasedCols b
  if cols.contains c then s
  else if 2 ≤ cols.length then (s.memLog st (2 ^ c) src).mevt MEM_EVT.CRITICAL
  else
    let s := s.put MEM_BANK_STAT.ERASED (s.get MEM_BANK_STAT.ERASED b + 2 ^ c) b
    let s := if bitAt (s.get MEM_BANK_STAT.WATCH b) c then
      s.put MEM_BANK_STAT.WATCH (s.get MEM_BANK_STAT.WATCH b - 2 ^ c) b else s
    (s.putHealth b).mevt MEM_EVT.ERASED

/-- A column of a bank becomes OK (R204). -/
def State.healCol (s : State) (b c : Nat) : State :=
  let s := if bitAt (s.get MEM_BANK_STAT.WATCH b) c then
    s.put MEM_BANK_STAT.WATCH (s.get MEM_BANK_STAT.WATCH b - 2 ^ c) b else s
  let s := if bitAt (s.get MEM_BANK_STAT.ERASED b) c then
    s.put MEM_BANK_STAT.ERASED (s.get MEM_BANK_STAT.ERASED b - 2 ^ c) b else s
  s.putHealth b

/-- Corrected and uncorrectable words of column `c` of bank `b` in this term. -/
def State.ceTerm (s : State) (b c : Nat) : Nat := mapGet (fun _ => 0) s.mem.ceTerm (b * 10 + c)
def State.ueTerm (s : State) (b c : Nat) : Nat := mapGet (fun _ => 0) s.mem.ueTerm (b * 10 + c)

/-- A single error corrected in column `c` (R190, R204, R222). -/
def State.innerCe (s : State) (b c : Nat) : State :=
  let s := (s.mc mcInnerCe).mc (mcInnerCeCol + c)
  let n := s.ceTerm b c + 1
  let s := { s with mem.ceTerm := mapSet (fun _ => 0) s.mem.ceTerm (b * 10 + c) n }
  if s.get MEM_CFG.CE_WATCH ≤ n ∧ bitAt (s.get MEM_BANK_STAT.ERASED b) c = false ∧
      bitAt (s.get MEM_BANK_STAT.WATCH b) c = false then
    (s.put MEM_BANK_STAT.WATCH (s.get MEM_BANK_STAT.WATCH b + 2 ^ c) b).mevt MEM_EVT.CE_WATCH
  else s

/-- An inner-uncorrectable word in column `c` of stripe `st` (R190, R204, R205). -/
def State.innerUe (s : State) (st c : Nat) (src : MemSrc) : State :=
  let b := stripeBank st
  let s := s.mc mcInnerUe
  let n := s.ueTerm b c + 1
  let s := { s with mem.ueTerm := mapSet (fun _ => 0) s.mem.ueTerm (b * 10 + c) n }
  if s.get MEM_CFG.UE_ERASE ≤ n ∧ s.on MEM_CFG.AUTO_ERASE = true then s.eraseCol b c st src else s

/-! Codec reads (R190 to R195). -/

/-- Is column `c` of stripe `st` the slice of the march, from the bell edge at which it becomes a known erasure (R208, R209)? -/
def State.marchSlice (s : State) (st c : Nat) : Bool :=
  s.get MEM_MARCH_STAT.STATE != 0 && s.mem.marchErase && s.get MEM_MARCH_STAT.BANK == stripeBank st &&
    s.get MEM_MARCH_STAT.COLUMN == c

/-- Is column `c` of stripe `st` a known erasure before the access (R193)? In the slice of a march, until the rebuild has passed
the stripe (R210); elsewhere where the column is ERASED. -/
def State.erasedAt (s : State) (st c : Nat) : Bool :=
  if s.marchSlice st c then !(s.get MEM_MARCH_STAT.STATE == 3 && decide (st % 8192 < s.mem.marchPos))
  else bitAt (s.get MEM_BANK_STAT.ERASED (stripeBank st)) c

/-- Read one word through the inner code (R190): none where it is inner-uncorrectable. -/
def State.readWord (s : State) (src : MemSrc) (st c : Nat) : State × Option Nat :=
  match innerDecode (s.rawWord st c).1 (s.rawWord st c).2 with
  | (d, .good) => (s, some d)
  | (d, .corrected) => (s.innerCe (stripeBank st) c, some d)
  | (_, .bad) => (s.innerUe st c src, none)

/-- Read the words of columns `cols`, in order. -/
def State.readCols (src : MemSrc) (st : Nat) : State → List Nat → State × List (Nat × Option Nat)
  | s, [] => (s, [])
  | s, c :: cs =>
    let r := s.readWord src st c
    let q := State.readCols src st r.1 cs
    (q.1, (c, r.2) :: q.2)

/-- What a stripe read gives: the ten words, whether they can be trusted, whether the slow path was taken, and the columns
found erased. -/
structure Stripe where
  words : List Nat
  ok : Bool
  slow : Bool
  bad : List Nat
  fixed : Bool
  deriving DecidableEq, Repr

/-- The word of column `c` among words read. -/
def gotWord (l : List (Nat × Option Nat)) (c : Nat) : Option Nat := ((l.find? (fun p => p.1 == c)).map (·.2)).getD none

/-- The slow path (R192, R194): every column that is not erased is read (those in `got` already were), and the stripe is
decoded, with its counter. -/
def State.slowRead (s : State) (src : MemSrc) (st : Nat) (got : List (Nat × Option Nat)) : State × Stripe :=
  let rest := (List.range 10).filter (fun c => !s.erasedAt st c && !(got.any (fun p => p.1 == c)))
  let before := (List.range 10).filter (fun c => s.erasedAt st c)
  let r := State.readCols src st (s.pmu evSlowRead 1) rest
  let all := got ++ r.2
  let erased := (List.range 10).filter (fun c => before.contains c || (gotWord all c).isNone)
  let ws := (List.range 10).map (fun c => if before.contains c then 0 else (gotWord all c).getD 0)
  let s := r.1
  let dec := outerDecode ws erased
  let fixed := erased.any (fun c => !before.contains c)
  match dec.2 with
  | .good => (s, ⟨dec.1, true, true, erased, fixed⟩)
  | .corrected c => (s.mc mcUnknown, ⟨dec.1, true, true, c :: erased, true⟩)
  | .filled => (s.mc mcErasure, ⟨dec.1, true, true, erased, fixed⟩)
  | .bad =>
    let asRead := (List.range 10).map (fun c =>
      if before.contains c then (s.rawWord st c).1 else (innerDecode (s.rawWord st c).1 (s.rawWord st c).2).1)
    (s.mc mcUncorr, ⟨asRead, false, true, erased, false⟩)

/-- Is stripe `st` one that a march keeps on the slow path: of its bank, and not rebuilt yet (R208)? -/
def State.marchHolds (s : State) (st : Nat) : Bool := (List.range 10).any (fun c => s.marchSlice st c && s.erasedAt st c)

/-- A read of the data words of columns `cols` (R192, R208): the fast path, or the slow one. -/
def State.readStripe (s : State) (src : MemSrc) (st : Nat) (cols : List Nat) : State × Stripe :=
  if s.marchHolds st || cols.any (fun c => s.erasedAt st c) then s.slowRead src st []
  else
    let r := State.readCols src st s cols
    if r.2.all (fun p => p.2.isSome) then
      (r.1, ⟨(List.range 10).map (fun c => (gotWord r.2 c).getD 0), true, false, [], false⟩)
    else r.1.slowRead src st r.2

/-- What every uncorrectable stripe does (R195): MEM_ERR_LOG and MEM_EVT.UE. -/
def State.noteUncorr (s : State) (src : MemSrc) (st : Nat) (x : Stripe) : State :=
  if x.ok then s else (s.memLog st (colMask x.bad) src).mevt MEM_EVT.UE

/-- The eight data words of a stripe as 64 bytes. -/
def stripeBytes (ws : List Nat) : List Nat := (ws.take 8).flatMap (fun w => leBytes w 8)

/-- Is the bank of stripe `st` ON? -/
def State.stripeOn (s : State) (st : Nat) : Bool := s.get MEM_BANK_STAT.POWER (stripeBank st) == 0

/-- An access to a bank in OFF or FILLING (R201). -/
def State.accOff (s : State) : State := (s.mc mcAccOff).mevt MEM_EVT.ACC_OFF

/-- What a read of bytes gives: the bytes, whether every stripe was correctable, whether the slow path was taken. -/
structure BytesRead where
  bytes : List Nat
  ok : Bool
  slow : Bool
  deriving DecidableEq, Repr

/-- Read `n` bytes from byte address `a` through the codec, stripe by stripe; `fuel` bounds the stripes. -/
def State.readBytes (src : MemSrc) : Nat → State → Nat → Nat → State × BytesRead
  | 0, s, _, _ => (s, ⟨[], true, false⟩)
  | fuel + 1, s, a, n =>
    if n = 0 then (s, ⟨[], true, false⟩)
    else
      let st := a / 64
      let off := a % 64
      let m := min n (64 - off)
      let r : State × BytesRead :=
        if s.stripeOn st then
          let cols := (List.range 8).filter (fun c => decide (off / 8 ≤ c) && decide (c ≤ (off + m - 1) / 8))
          let q := s.readStripe src st cols
          (q.1.noteUncorr src st q.2, ⟨((stripeBytes q.2.words).drop off).take m, q.2.ok, q.2.slow⟩)
        else (s.accOff, ⟨List.replicate m 0, true, false⟩)
      let rest := State.readBytes src fuel r.1 (a + m) (n - m)
      (rest.1, ⟨r.2.bytes ++ rest.2.bytes, r.2.ok && rest.2.ok, r.2.slow || rest.2.slow⟩)

/-- Read `n` bytes of buffer memory from byte address `a`. -/
def State.bufRead (s : State) (src : MemSrc) (a n : Nat) : State × BytesRead :=
  State.readBytes src (n / 64 + 2) s a n

/-! Codec writes (R196, R197, R205). -/

/-- Write ten words of a stripe, leaving out the columns that are known erasures. -/
def State.writeWords (s : State) (st : Nat) (ws : List Nat) (cols : List Nat) : State :=
  s.forEach cols (fun s c => if s.erasedAt st c then s else s.putWord st c (wordAt ws c))

/-- The ten words of eight data words (R191). -/
def codeWords (ds : List Nat) : List Nat := ds.take 8 ++ [outerQ0 (ds.take 8), outerQ1 0 (ds.take 8)]

/-- A full-stripe write (R196); without `fill`, a bank that is not ON ignores it (R201). -/
def State.writeStripe (s : State) (st : Nat) (ds : List Nat) (fill : Bool) : State :=
  if fill || s.stripeOn st then s.writeWords st (codeWords ds) (List.range 10) else s.accOff

/-- The eight data words of up to 64 bytes, zero-filled (R196). -/
def packWords : Nat → List Nat → List Nat
  | 0, _ => []
  | n + 1, bs => leNat ((bs ++ List.replicate 8 0).take 8) :: packWords n (bs.drop 8)

/-- Write whole stripes from byte address `a`, a multiple of 64; the last is filled with zero (R196). -/
def State.writeFull : Nat → State → Nat → List Nat → State
  | 0, s, _, _ => s
  | fuel + 1, s, a, bs =>
    if bs.isEmpty then s
    else
      State.writeFull fuel (s.writeStripe (a / 64) (packWords 8 (bs.take 64)) false) (a + 64) (bs.drop 64)

/-- The mover writes whole stripes (R196, R431); another engine does without the monitor's event. -/
def State.bufWrite (s : State) (a : Nat) (bs : List Nat) : State :=
  State.writeFull (bs.length / 64 + 1) (s.pmu evStripeWr ((bs.length + 63) / 64)) a bs
def State.stripesWrite (s : State) (a : Nat) (bs : List Nat) : State := State.writeFull (bs.length / 64 + 1) s a bs

/-- `bs` placed at offset `off` of 64 bytes. -/
def overlay (old : List Nat) (off : Nat) (bs : List Nat) : List Nat := old.take off ++ bs ++ old.drop (off + bs.length)

/-- A partial write of `bs` at offset `off` of stripe `st` (R197): a read-modify-write. Answers whether the stripe could be
trusted and whether the slow path was taken. -/
def State.writePartial (s : State) (src : MemSrc) (st off : Nat) (bs : List Nat) : State × Bool × Bool :=
  if s.stripeOn st then
    let s := (s.mc mcRmw).pmu evMemRmw 1
    let cols := (List.range 8).filter (fun c => decide (off / 8 ≤ c) && decide (c ≤ (off + bs.length - 1) / 8))
    let slow := s.marchHolds st || cols.any (fun c => s.erasedAt st c)
    let alive := (cols ++ [8, 9]).filter (fun c => !s.erasedAt st c)
    let r := if slow then (s, []) else State.readCols .rmw st s alive
    let whole := r.2.any (fun p => p.2.isNone)
    if slow || whole then
      let q := r.1.slowRead .rmw st r.2
      let old := q.2.words
      let new := packWords 8 (overlay (stripeBytes old) off bs)
      if q.2.ok then
        if whole || q.2.fixed || s.marchHolds st then (q.1.writeWords st (codeWords new) (List.range 10), true, true)
        else (q.1.writeWords st (codeWords new) (cols ++ [8, 9]), true, true)
      else (((q.1.writeWords st (codeWords new) (cols ++ [8, 9])).noteUncorr src st q.2), false, true)
    else
      let oldW := fun c => (gotWord r.2 c).getD 0
      let oldB := stripeBytes ((List.range 8).map oldW)
      let new := packWords 8 (overlay oldB off bs)
      let delta := (List.range 8).map (fun c => if cols.contains c then (oldW c).xor (wordAt new c) else 0)
      let ws := new ++ [(oldW 8).xor (outerQ0 delta), (oldW 9).xor (outerQ1 0 delta)]
      (r.1.writeWords st ws (cols ++ [8, 9]), true, false)
  else (s.accOff, true, false)

/-- Write bytes anywhere, stripe by stripe, each as a partial or a full write; `fuel` bounds the stripes. -/
def State.writeBytes (src : MemSrc) : Nat → State → Nat → List Nat → State × Bool × Bool
  | 0, s, _, _ => (s, true, false)
  | fuel + 1, s, a, bs =>
    if bs.isEmpty then (s, true, false)
    else
      let off := a % 64
      let m := min bs.length (64 - off)
      let r := if m = 64 then (s.writeStripe (a / 64) (packWords 8 (bs.take 64)) false, true, false)
        else s.writePartial src (a / 64) off (bs.take m)
      let q := State.writeBytes src fuel r.1 (a + m) (bs.drop m)
      (q.1, r.2.1 && q.2.1, r.2.2 || q.2.2)

/-- A frame's payload read for egress or host delivery (R195): none where a stripe is uncorrectable. The payload of a stored
frame starts 64 bytes above the buffer's address (R234). -/
def State.fetchPayload (s : State) (ptr len : Nat) : State × Option (List Nat) :=
  let r := (s.pmu evWordRd ((len + 7) / 8)).bufRead .mover (ptrAddr ptr + 64) len
  if r.2.ok then (r.1, some r.2.bytes) else (r.1, none)

/-- The mover's read for egress (R195): a frame with an uncorrectable stripe counts MEM_UNCORR_DROP. -/
def State.fetchFrame (s : State) (_u : Nat) (e : QEntry) : State × Option (List Nat) :=
  match s.fetchPayload e.f.ptr e.f.len with
  | (s, none) => (s.mc mcUncorrDrop, none)
  | (s, some b) => (s.pmu evEgressCopy 1, some b)

/-! Bank power (R201 to R203). -/

/-- Refuse a command of this chapter (R202). -/
def State.memRefuse (s : State) : State := s.mevt MEM_EVT.CMD_REFUSED

/-- IN_USE of any bank (R202, R237, R389). -/
def State.inUse (s : State) (b : Nat) : Bool :=
  if b < 12 then s.bankInUse b else bitAt (s.get ROLL_CFG.BANKS) (b - 12)

/-- Does a preserving march run in bank `b`? -/
def State.marchIn (s : State) (b : Nat) : Bool :=
  s.get MEM_MARCH_STAT.STATE != 0 && s.get MEM_MARCH_STAT.BANK == b

/-- A served MEM_BANK_CMD (R202). -/
def State.bankCmd (s : State) (w : Nat) : State :=
  let b := getBits w 0 4
  let t := getBits w 8 2
  let p := s.get MEM_BANK_STAT.POWER b
  if t = 0 then
    if p = 2 then (s.put MEM_BANK_STAT.POWER 3 b).put MEM_BANK_STAT.FILL_LEFT 8192 b else s.memRefuse
  else if t = 2 then
    if p ≠ 0 ∨ s.inUse b = true ∨ s.marchIn b = true then s.memRefuse
    else if s.mem.offPend.contains b then s
    else { s with mem.offPend := s.mem.offPend ++ [b] }
  else s.memRefuse

/-- A bank goes OFF: its contents are lost (R201). -/
def State.bankOff (s : State) (b : Nat) : State :=
  { s.put MEM_BANK_STAT.POWER 2 b with
    mem.cells := s.mem.cells.filter (fun c => decide (c.1 / (90 * 8192) ≠ b)) }

/-- A served MEM_COL_CMD (R204, R205). -/
def State.colCmd (s : State) (w : Nat) : State :=
  let b := getBits w 0 4
  let c := getBits w 4 4
  if bitAt w 8 = false ∨ 9 < c ∨ 2 ≤ (s.erasedCols b).length ∨ s.marchIn b = true then s.memRefuse
  else { s with mem.erasePend := s.mem.erasePend ++ [(b, c)] }

/-- The bank, column and march changes of a bell edge (R201, R204, R209). -/
def State.memEdge (s : State) : State :=
  let offs := s.mem.offPend
  let ers := s.mem.erasePend
  let s := { s with mem.offPend := [], mem.erasePend := [], mem.marchErase := s.get MEM_MARCH_STAT.STATE != 0 }
  let s := s.forEach offs State.bankOff
  s.forEach ers (fun s e => s.eraseCol e.1 e.2 (e.1 * 8192) .processor)

/-- A fill step (R203): up to 8 stripes of the lowest bank in FILLING. -/
def State.fillStep (s : State) : State :=
  match (List.range 16).find? (fun b => s.get MEM_BANK_STAT.POWER b == 3) with
  | none => s
  | some b =>
    let left := s.get MEM_BANK_STAT.FILL_LEFT b
    let n := min 8 left
    let st := b * 8192 + (8192 - left)
    let s := s.forEach (List.range n) (fun s i => s.writeStripe (st + i) (List.replicate 8 0) true)
    let s := s.put MEM_BANK_STAT.FILL_LEFT (left - n) b
    if left ≤ 8 then (s.put MEM_BANK_STAT.POWER 0 b).mevt MEM_EVT.BANK_READY else s

/-! Processor accesses (R195, R200, R201). -/

/-- A service-core read of `n` bytes: its data, and whether it takes a bus error. -/
def State.procRead (s : State) (a n : Nat) : State × List Nat × Bool :=
  let r := (s.mc mcProc).bufRead .processor a n
  let s := if r.2.slow then r.1.mc mcRecon else r.1
  (s, r.2.bytes, !r.2.ok)

/-- A service-core write. -/
def State.procWrite (s : State) (a : Nat) (bs : List Nat) : State × Bool :=
  let r := State.writeBytes .processor 3 (s.mc mcProc) a bs
  let s := if r.2.2 then r.1.mc mcRecon else r.1
  (s, !r.2.1)

end Sys2Proof.Machine
end

