-- ==== Sys2Proof/Machine/Egress.lean ====
section
/-! DEFINITION. Egress queues (R287, R288, R292, R293), the tag edit of a copy (R286), padding (R117), and the accounting of
a destination until it releases (R231, R233, R288). -/

namespace Sys2Proof.Machine

open Sys2Proof

/-- The class queue `c` of port unit `u`, oldest first. -/
def State.cq (s : State) (u c : Nat) : List QEntry := mapGet (fun _ => []) s.egr.queues (u * 8 + c)
def State.setCq (s : State) (u c : Nat) (l : List QEntry) : State :=
  { s with egr.queues := mapSet (fun _ => []) s.egr.queues (u * 8 + c) l }

/-- Buffer bytes counted for class queue `c` of port `u`, from enqueue to release (R233, R287). -/
def State.cqBytes (s : State) (u c : Nat) : Nat := mapGet (fun _ => 0) s.egr.qBytes (u * 8 + c)
def State.addCqBytes (s : State) (u c n : Nat) : State :=
  { s with egr.qBytes := mapSet (fun _ => 0) s.egr.qBytes (u * 8 + c) (s.cqBytes u c + n) }
def State.subCqBytes (s : State) (u c n : Nat) : State :=
  { s with egr.qBytes := mapSet (fun _ => 0) s.egr.qBytes (u * 8 + c) (s.cqBytes u c - n) }

/-- Buffer bytes counted for port `u` (R182). -/
def State.portBytes (s : State) (u : Nat) : Nat := ((List.range 8).map (fun c => s.cqBytes u c)).foldl (· + ·) 0

/-- Buffer bytes counted for partition `p` (R233); EGR_PART_QUOTA.USED shows them in KiB, rounded up. -/
def State.partBytes (s : State) (p : Nat) : Nat := mapGet (fun _ => 0) s.egr.partBytes p
def State.setPartBytes (s : State) (p n : Nat) : State :=
  { s with egr.partBytes := mapSet (fun _ => 0) s.egr.partBytes p n }

/-- One queue entry is taken or returned (R288). -/
def State.takeEntry (s : State) : State := s.put BR_FDB_STAT.QFREE (s.get BR_FDB_STAT.QFREE - 1)
def State.giveEntry (s : State) : State := s.put BR_FDB_STAT.QFREE (min 32768 (s.get BR_FDB_STAT.QFREE + 1))

/-- A port destination is done with its frame: the bytes, the queue entry and the reference go back (R231, R233, R288). -/
def State.portRelease (s : State) (u : Nat) (e : QEntry) : State :=
  ((s.subCqBytes u e.cls e.f.size).giveEntry).release e.f.ptr e.f.src

/-- Does the copy of `e` for port `u` lose its outer tag, gain one, or keep what it has (R286)? -/
inductive TagEdit where
  | keep | strip | push
  deriving DecidableEq, Repr

def State.tagEdit (s : State) (u : Nat) (e : QEntry) : TagEdit :=
  if e.edit then
    let untag := bitAt (s.get BR_VLAN.UNTAG e.f.vlan) u
    if e.f.tagged && untag then .strip
    else if !e.f.tagged && !untag then .push
    else .keep
  else .keep

/-- The length of the copy after the tag edit, before padding. -/
def State.editedLen (s : State) (u : Nat) (e : QEntry) : Nat :=
  match s.tagEdit u e with
  | .keep => e.f.len
  | .strip => e.f.len - 4
  | .push => e.f.len + 4

/-- The length L of the copy as it will be sent: edited, padded to 60 bytes, with its FCS (R117, R292). -/
def State.wireLen (s : State) (u : Nat) (e : QEntry) : Nat := max 60 (s.editedLen u e) + 4

/-- The tag a copy gains: TPID 0x8100, the PCP of its class, VID v (R286). -/
def State.newTag (s : State) (u : Nat) (e : QEntry) : List Nat :=
  let pcp := getBits (s.get BR_PORT_TCPCP.TC_PCP u) (3 * e.cls) 3
  [0x81, 0x00, pcp * 32 + e.f.vlan / 256 % 16, e.f.vlan % 256]

/-- The bytes of the copy: the stored payload with its tag edited and zero padding to 60 bytes (R117, R286). -/
def State.copyBytes (s : State) (u : Nat) (e : QEntry) (payload : List Nat) : List Nat :=
  let b := match s.tagEdit u e with
    | .keep => payload
    | .strip => payload.take 12 ++ payload.drop 16
    | .push => payload.take 12 ++ s.newTag u e ++ payload.drop 12
  b ++ List.replicate (60 - b.length) 0

/-- Deficit of class `c` of port `u` (R292). -/
def State.deficit (s : State) (u c : Nat) : Nat := mapGet (fun _ => 0) s.egr.deficit (u * 8 + c)
def State.setDeficit (s : State) (u c v : Nat) : State :=
  { s with egr.deficit := mapSet (fun _ => 0) s.egr.deficit (u * 8 + c) v }

/-- The weighted class whose turn it is at port `u`, as class + 1, and whether its turn has begun; 0 before any was
served (R546). -/
def State.turn (s : State) (u : Nat) : Nat × Bool := mapGet (fun _ => (0, false)) s.egr.turn u
def State.setTurn (s : State) (u : Nat) (v : Nat × Bool) : State :=
  { s with egr.turn := mapSet (fun _ => (0, false)) s.egr.turn u v }

/-- Is class `c` of port `u` strict? -/
def State.isStrict (s : State) (u c : Nat) : Bool := bitAt (s.get EGR_PORT_SCHED.SP u) c

/-- The quantum of class `c`, in bytes (R292). -/
def State.quantum (s : State) (u c : Nat) : Nat := getBits (s.get EGR_PORT_QUANTUM.QUANTUM u) (8 * c) 8 * 64

/-- The next class below `c`, wrapping from 0 to 7. -/
def classBelow (c : Nat) : Nat := (c + 7) % 8

/-- Visit weighted classes in descending order from class `c` (R292), `begun` telling that the turn of `c` has begun; at
most `fuel` visits. A turn ends with the frame that empties its class. Answers the class that sends. `elig` gives the length of the eligible head of a class. -/
def State.drr (u : Nat) (elig : Nat → Option Nat) : Nat → State → Nat → Bool → State × Option Nat
  | 0, s, _, _ => (s, none)
  | fuel + 1, s, c, begun =>
    if s.isStrict u c then State.drr u elig fuel s (classBelow c) false
    else if (s.cq u c).isEmpty then State.drr u elig fuel (s.setDeficit u c 0) (classBelow c) false
    else
      match elig c with
      | none => State.drr u elig fuel s (classBelow c) false
      | some len =>
        let s := if begun then s else s.setDeficit u c (s.deficit u c + s.quantum u c)
        if len ≤ s.deficit u c then
          ((s.setDeficit u c (s.deficit u c - len)).setTurn u (c + 1, decide (1 < (s.cq u c).length)), some c)
        else State.drr u elig fuel s (classBelow c) false

/-- A weighted turn ends where its class is found ineligible at a choice (R292). -/
def State.turnEnds (s : State) (u : Nat) (elig : Nat → Option Nat) : State :=
  let t := s.turn u
  if t.2 && (elig (t.1 - 1)).isNone then s.setTurn u (t.1, false) else s

/-- The scheduler's choice among eligible classes (R292): the highest strict class, else the weighted turn. -/
def State.schedule (s : State) (u : Nat) (elig : Nat → Option Nat) : State × Option Nat :=
  let s := s.turnEnds u elig
  match (List.range 8).reverse.find? (fun c => s.isStrict u c && (elig c).isSome) with
  | some c => (s, some c)
  | none =>
    if (List.range 8).any (fun c => (elig c).isSome) then
      let t := s.turn u
      if t.1 = 0 then s.drr u elig 2400 7 false
      else s.drr u elig 2400 (t.1 - 1) t.2
    else (s, none)

/-- Take the head of class queue `c` of port `u`. -/
def State.popCq (s : State) (u c : Nat) : State × Option QEntry :=
  match s.cq u c with
  | [] => (s, none)
  | e :: l => (s.setCq u c l, some e)

/-- Put an entry back at the head of its class queue: a discarded copy (R129, R152, R182). A weighted class gets back what
its copy took from the deficit (R293). -/
def State.pushFront (s : State) (u : Nat) (e : QEntry) : State :=
  let s := s.setCq u e.cls (e :: s.cq u e.cls)
  if s.isStrict u e.cls then s else s.setDeficit u e.cls (s.deficit u e.cls + s.wireLen u e)

/-- EGR_PORTu_STAT.BUSY: classes that hold a frame. -/
def State.busyMask (s : State) (u : Nat) : Nat :=
  (List.range 8).foldl (fun m c => m + b2n (!(s.cq u c).isEmpty) * 2 ^ c) 0

end Sys2Proof.Machine
end

