-- ==== Sys2Proof/Machine/HostPort.lean ====
section
/-! DEFINITION. The host memory port (R70 to R72, R335, R336) and the completion rings (R308, R309, R328, R331): requests,
tags, the writing of completions, and the end of a job. -/

namespace Sys2Proof.Machine

open Sys2Proof

/-- Partition states (R299). -/
def partOff : Nat := 0
def partActive : Nat := 1
def partFenced : Nat := 2
def partResetting : Nat := 3
def partRecovery : Nat := 4

def State.partState (s : State) (p : Nat) : Nat := s.get PART_STAT.STATE p

/-- What partition `p` holds beside its registers. -/
def State.part (s : State) (p : Nat) : PartSt := mapGet (fun _ => PartSt.init) s.host.parts p
def State.setPart (s : State) (p : Nat) (v : PartSt) : State :=
  { s with host.parts := mapSet (fun _ => PartSt.init) s.host.parts p v }
def State.onPart (s : State) (p : Nat) (f : PartSt → PartSt) : State := s.setPart p (f (s.part p))

/-- The events of partition `p` and their level source. -/
def State.partEvt (s : State) (f : Fld) (p : Nat) : State := s.evt f (0x58 + p) p

/-- Units of the ring pairs (R298). -/
def txUnit (p : Nat) : Nat := 0x80 + 2 * p
def rxUnit (p : Nat) : Nat := 0x81 + 2 * p

/-- Does the block serve ring-pair unit `u` of partition `p` (R298)? -/
def State.pairServed (s : State) (p u : Nat) : Bool :=
  (match (s.role u).owner with
    | some q => q.val == p
    | none => false) && ((s.role u).func == .owned || (s.role u).func == .shared)

/-- Are the rings of partition `p` served now (R299)? While the block is in START, HALT or SLEEP no host ring is served (R32, R299). -/
def State.partServed (s : State) (p : Nat) : Bool :=
  (s.partState p == partActive || s.partState p == partRecovery) && s.mode != 0 && s.mode != 4 && s.mode != 5

/-- Slots of a ring (R304): 2^SIZE. `ring` 0 TXQ, 1 RXQ, 2 TXC, 3 RXC. -/
def State.ringReg (s : State) (p ring : Nat) : Nat :=
  match ring with
  | 0 => s.rg (PART_TXQ_BASE.reg.key p 0)
  | 1 => s.rg (PART_RXQ_BASE.reg.key p 0)
  | 2 => s.rg (PART_TXC_BASE.reg.key p 0)
  | _ => s.rg (PART_RXC_BASE.reg.key p 0)
def State.ringBase (s : State) (p ring : Nat) : Nat := getBits (s.ringReg p ring) 0 48
def State.ringN (s : State) (p ring : Nat) : Nat := 2 ^ getBits (s.ringReg p ring) 48 4

/-- Head and tail of a ring. -/
def State.ringHead (s : State) (p ring : Nat) : Nat :=
  match ring with
  | 0 => s.get PART_TXQ_HEAD.HEAD p
  | 1 => s.get PART_RXQ_HEAD.HEAD p
  | 2 => s.get PART_TXC_HEAD.HEAD p
  | _ => s.get PART_RXC_HEAD.HEAD p
def State.ringTail (s : State) (p ring : Nat) : Nat :=
  match ring with
  | 0 => s.get PART_TXQ_DB.TAIL p
  | 1 => s.get PART_RXQ_DB.TAIL p
  | 2 => s.get PART_TXC_TAIL.TAIL p
  | _ => s.get PART_RXC_TAIL.TAIL p

/-- Distance from ring pointer `a` up to `b`, modulo 2N (R305). -/
def ringDist (n a b : Nat) : Nat := (b + 2 * n - a % (2 * n)) % (2 * n)

/-- Entries in a ring. -/
def State.ringUsed (s : State) (p ring : Nat) : Nat := ringDist (s.ringN p ring) (s.ringHead p ring) (s.ringTail p ring)

/-- The PHASE of an entry whose first slot is at pointer `ptr` (R305). -/
def phaseOf (n ptr : Nat) : Nat := if ptr / n % 2 = 0 then 1 else 0

/-! Requests. -/

/-- Requests of partition `p` in a tag table. -/
def ofPart (p : Nat) (l : List (Nat × HostReq)) : List (Nat × HostReq) := l.filter (fun e => e.2.part == p)

/-- The lowest free tag below `n`. -/
def freeTag (n : Nat) (l : List (Nat × HostReq)) : Option Nat := (List.range n).find? (fun t => !l.any (fun e => e.1 == t))

/-- No read and write to the same 64-byte address at once (R72). -/
def sameBeat (l : List (Nat × HostReq)) (r : HostReq) : Bool := l.any (fun e => e.2.addr == r.addr)

/-- May the port issue requests: HOST_CK runs and DMA is not stopped (R32, R57)? -/
def State.portLive (s : State) : Bool := s.chip.clkUp.getLsbD 3 && s.mode != 0 && s.mode != 5

/-- Issue the first read that partition `p` wants, if the limits permit it (R71, R336). -/
def State.issueRead (s : State) (p : Nat) : Option State :=
  match (s.part p).wantR, freeTag 128 s.host.reads with
  | r :: rest, some t =>
    if decide ((ofPart p s.host.reads).length < 32) && !sameBeat s.host.writes r then
      some { s.onPart p (fun q => { q with wantR := rest }) with
        host.reads := mapIns t { r with at_ := s.frc.toNat } s.host.reads, host.last := p + 1 }
    else none
  | _, _ => none

/-- Issue the first write that partition `p` wants. -/
def State.issueWrite (s : State) (p : Nat) : Option State :=
  match (s.part p).wantW, freeTag 64 s.host.writes with
  | r :: rest, some t =>
    if decide ((ofPart p s.host.writes).length < 16) && !sameBeat s.host.reads r then
      some { s.onPart p (fun q => { q with wantW := rest }) with
        host.writes := mapIns t { r with at_ := s.frc.toNat } s.host.writes, host.last := p + 1 }
    else none
  | _, _ => none

/-- Partitions in the round-robin order from the one after the one served last (R336, R546). -/
def State.partOrder (s : State) : List Nat := (List.range 8).map (fun d => (s.host.last + d) % 8)

/-- Issue requests in turn until none can be issued; `fuel` bounds them by the tags there are. -/
def State.pump : Nat → State → State
  | 0, s => s
  | fuel + 1, s =>
    match s.partOrder.findSome? (fun p => match s.issueRead p with
        | some t => some t
        | none => s.issueWrite p) with
    | some t => State.pump fuel t
    | none => s

/-- The port issues what it can. -/
def State.hostPump (s : State) : State := if s.portLive then State.pump 192 s else s

/-! Completions. -/

/-- The header of a completion with PHASE 0 (R313). -/
def cplHeader (len type gen : Nat) : Nat := len * 2 + type * 2 ^ 8 + gen % 65536 * 2 ^ 16

/-- The 16 bytes of a slot. -/
def slotBytes (v : Nat) : List Nat := leBytes v 16

/-- Split bytes at host address `a` into writes of one 64-byte beat each (R70): address, first byte, bytes. -/
def beats : Nat → Nat → List Nat → List (Nat × Nat × List Nat)
  | 0, _, _ => []
  | fuel + 1, a, bs =>
    if bs.isEmpty then []
    else
      let m := 64 - a % 64
      (a / 64 * 64, a % 64, bs.take m) :: beats fuel (a + m) (bs.drop m)

/-- Want writes of bytes at host address `a`. Answers how many. -/
def State.wantBytes (s : State) (p : Nat) (op : HostOp) (a : Nat) (bs : List Nat) : State × Nat :=
  let l := beats (bs.length / 64 + 2) a bs
  (s.onPart p (fun q => { q with wantW := q.wantW ++ l.map (fun b => ⟨p, op, b.1, b.2.1, b.2.2, 0, false⟩) }), l.length)

/-- Ring number of a completion ring. -/
def cplRing (rx : Bool) : Nat := if rx then 3 else 2

/-- Want the write of the first slot of a completion, alone, with its PHASE (R309). -/
def State.firstSlot (s : State) (p : Nat) (c : Cpl) : State :=
  let n := s.ringN p (cplRing c.rx)
  let v := c.slots.headD 0 + phaseOf n c.ptr
  (s.wantBytes p (.cpl c.rx c.id) (s.ringBase p (cplRing c.rx) + 16 * (c.ptr % n)) (slotBytes v)).1

/-- Give a completion its place at the tail and want its writes, the later slots first (R309). -/
def State.cplPlace (s : State) (p : Nat) (c : Cpl) : State :=
  let ring := cplRing c.rx
  let n := s.ringN p ring
  let t := s.ringTail p ring
  let len := c.slots.length
  let s := if c.rx then s.put PART_RXC_TAIL.TAIL ((t + len) % (2 * n)) p else s.put PART_TXC_TAIL.TAIL ((t + len) % (2 * n)) p
  let r := s.wantBytes p (.cpl c.rx c.id) (s.ringBase p ring + 16 * (t % n + 1)) (c.slots.tail.flatMap slotBytes)
  let c := { c with ptr := t, rest := r.2 }
  let s := r.1.onPart p (fun q => { q with cpls := q.cpls ++ [c] })
  if r.2 = 0 then s.firstSlot p c else s

/-- Slots left before the ring end that a completion of `len` slots cannot use (R308). -/
def State.cplPad (s : State) (p ring len : Nat) : Nat :=
  let n := s.ringN p ring
  let left := n - s.ringTail p ring % n
  if left < len then left else 0

/-- Is there room for a completion of `len` slots (R308)? -/
def State.cplRoom (s : State) (p : Nat) (rx : Bool) (len : Nat) : Bool :=
  let ring := cplRing rx
  decide (len + s.cplPad p ring len ≤ s.ringN p ring - s.ringUsed p ring)

/-- A new number. -/
def State.fresh (s : State) : State × Nat := ({ s with host.next := s.host.next + 1 }, s.host.next)

/-- Write a completion that has room, with a SKIP before it where it does not fit before the ring end (R308). -/
def State.cplWrite (s : State) (p : Nat) (c : Cpl) : State :=
  let ring := cplRing c.rx
  let pad := s.cplPad p ring c.slots.length
  let s :=
    if pad = 0 then s
    else
      let r := s.fresh
      let gen := (s.role (if c.rx then rxUnit p else txUnit p)).gen.toNat
      r.1.cplPlace p ⟨r.2, c.rx, cplHeader pad 0x0F gen :: List.replicate (pad - 1) 0, true, false, true, 0, 0, 0⟩
  s.cplPlace p c

/-- Hold a completion (R328, R331): on the first hold the stall bit and its event are set. -/
def State.cplHold (s : State) (p : Nat) (c : Cpl) : State :=
  let c := { c with held := true }
  if c.rx then
    let s := s.onPart p (fun q => { q with rxHeld := q.rxHeld ++ [c] })
    let s := s.put PART_STAT.RXC_HELD (s.part p).rxHeld.length p
    if s.on PART_STAT.RXC_STALL p then s else (s.put PART_STAT.RXC_STALL 1 p).partEvt PART_EVT.RXC_FULL p
  else
    let s := s.onPart p (fun q => { q with txHeld := q.txHeld ++ [c] })
    let s := s.put PART_STAT.TXC_HELD (s.part p).txHeld.length p
    if s.on PART_STAT.TXC_STALL p then s else (s.put PART_STAT.TXC_STALL 1 p).partEvt PART_EVT.TXC_FULL p

/-- A completion is due: written, or held behind those held before it (R328, R331). Outside ACTIVE and RECOVERY none is
written (R301). -/
def State.complete_ (s : State) (p : Nat) (rx : Bool) (slots : List Nat) (ok : Bool) (octets : Nat) : State :=
  if s.partState p = partActive ∨ s.partState p = partRecovery then
    let r := s.fresh
    let c : Cpl := ⟨r.2, rx, slots, false, false, ok, octets, 0, 0⟩
    let s := r.1
    let held := if rx then (s.part p).rxHeld else (s.part p).txHeld
    if held.isEmpty && s.cplRoom p rx slots.length then (s.cplWrite p c).hostPump else s.cplHold p c
  else s

/-- Write held completions while there is room, in the order in which they were held; `fuel` bounds them. -/
def State.cplDrain (p : Nat) (rx : Bool) : Nat → State → State
  | 0, s => s
  | fuel + 1, s =>
    match (if rx then (s.part p).rxHeld else (s.part p).txHeld) with
    | [] => s
    | c :: rest =>
      if s.cplRoom p rx c.slots.length then
        let s := s.onPart p (fun q => if rx then { q with rxHeld := rest } else { q with txHeld := rest })
        let s := if rx then s.put PART_STAT.RXC_HELD rest.length p else s.put PART_STAT.TXC_HELD rest.length p
        State.cplDrain p rx fuel (s.cplWrite p c)
      else s

/-- The interrupt source of a completion ring (R309). -/
def cplSrc (p : Nat) (rx : Bool) : Nat := if rx then 0x50 + p else 0x48 + p

/-- What a completion counts when it is written (R330, R337): TX_DONE its job and octets, or its error; RX_DONE with status OK its
frame and octets. -/
def State.cplCount (s : State) (p : Nat) (c : Cpl) : State :=
  if c.ok then (s.count PART_CNT.COUNT p (if c.rx then 3 else 0)).countN PART_CNT.COUNT c.octets p (if c.rx then 4 else 1)
  else if c.rx then s
  else s.count PART_CNT.COUNT p 2

/-- The first slot of a completion has been written: it counts and raises its source (R309, R337); the stall ends with the
last held completion (R328, R331). -/
def State.cplWritten (s : State) (p : Nat) (c : Cpl) : State :=
  let s := s.onPart p (fun q => { q with cpls := q.cpls.filter (fun d => d.id != c.id) })
  if c.skip then s
  else
    let s := (s.cplCount p c).raise (cplSrc p c.rx)
    let stillHeld := (if c.rx then (s.part p).rxHeld else (s.part p).txHeld) ≠ [] ∨
      (s.part p).cpls.any (fun d => d.rx == c.rx && d.held) = true
    if stillHeld then s
    else if c.rx then s.put PART_STAT.RXC_STALL 0 p
    else s.put PART_STAT.TXC_STALL 0 p

/-- A write of a completion was answered OKAY: after the last of its later slots the first slot follows. -/
def State.cplAck (s : State) (p : Nat) (rx : Bool) (id : Nat) : State :=
  match (s.part p).cpls.find? (fun c => c.rx == rx && c.id == id) with
  | none => s
  | some c =>
    if c.rest = 0 then s.cplWritten p c
    else
      let c := { c with rest := c.rest - 1 }
      let s := s.onPart p (fun q => { q with cpls := q.cpls.map (fun d => if d.id == id then c else d) })
      if c.rest = 0 then s.firstSlot p c else s

/-! TX completions. -/

/-- Status codes and flags (R322). -/
def stOk : Nat := 0
def stStale : Nat := 1
def stBadPhase : Nat := 2
def stBadType : Nat := 3
def stBadLen : Nat := 4
def stBadField : Nat := 5
def stBound : Nat := 6
def stHostTimeout : Nat := 7
def stHostFault : Nat := 8
def stDropped : Nat := 0x10
def stLateDrop : Nat := 0x11
def stLaunchFar : Nat := 0x12
def stDataFault : Nat := 0x20
def stMemUncorr : Nat := 0x21
def flLate : Nat := 0x100
def flTsValid : Nat := 0x200
def flInsSkip : Nat := 0x400
def flChained : Nat := 0x800

/-- One job less in progress. -/
def State.jobLess (s : State) (p : Nat) : State := s.put PART_STAT.TX_INPROG (s.get PART_STAT.TX_INPROG p - 1) p

/-- A TX_DONE is due (R319). -/
def State.txDone (s : State) (p gen status tag ts len : Nat) : State :=
  s.complete_ p false [cplHeader 1 0x20 gen + status * 2 ^ 32 + tag * 2 ^ 48 + ts % 2 ^ 64 * 2 ^ 64] (status % 256 == 0) len

end Sys2Proof.Machine
end

