-- ==== Sys2Proof/Machine/Complete.lean ====
section
/-! DEFINITION. The end of a frame's copy at a port, and the completion of the job that waits for the frame: TX_DONE of a
partition (R327), completion of a service core (R417). -/

namespace Sys2Proof.Machine

open Sys2Proof

/-- How a port destination ends: sent, sent late (R167), or dropped: link not UP (R120), late (R167), oversize (R118), cut
(R122), uncorrectable memory (R195), flushed (R182, R184). -/
inductive TxEnd where
  | sent | sentLate | linkDrop | late | oversize | abort | memErr | flush
  deriving DecidableEq, Repr

/-- The status code of an end (R322). -/
def TxEnd.status : TxEnd → Nat
  | .sent => stOk
  | .sentLate => stOk + flLate
  | .late => stLateDrop
  | .memErr => stMemUncorr
  | _ => stDropped

/-- Was the frame sent? -/
def TxEnd.isSent : TxEnd → Bool
  | .sent => true
  | .sentLate => true
  | _ => false

/-- What a service core holds beside its registers. -/
def State.core (s : State) (c : Nat) : CoreSt := mapGet (fun _ => CoreSt.init) s.cores c
def State.setCore (s : State) (c : Nat) (v : CoreSt) : State :=
  { s with cores := mapSet (fun _ => CoreSt.init) s.cores c v }
def State.onCore (s : State) (c : Nat) (f : CoreSt → CoreSt) : State := s.setCore c (f (s.core c))

/-- The interrupt source of completions and frames of core `c` is SC_EVT; a completion enters the core's FIFO (R417); one with
status OK counts in SC_TX_FRAMES (R434). -/
def State.coreDone (s : State) (c status tag ts : Nat) : State :=
  let s := if status % 256 = 0 then s.count SC_CNT.COUNT 4 else s
  s.onCore c (fun q => { q with done := q.done ++ [(tag + status % 65536 * 2 ^ 16 + 2 ^ 32, ts % 2 ^ 64)] })

/-- The job record under a number. -/
def State.job (s : State) (id : Nat) : Option JobRec := (s.host.jobs.find? (fun j => j.1 == id)).map (·.2)

/-- Replace or remove a job record. -/
def State.setJob (s : State) (id : Nat) (r : JobRec) : State :=
  { s with host.jobs := mapIns id r (mapDel id s.host.jobs) }
def State.dropJob (s : State) (id : Nat) : State := { s with host.jobs := mapDel id s.host.jobs }

/-- The status flags a job's own record adds (R322). -/
def JobRec.flags (r : JobRec) : Nat := (if r.insSkip then flInsSkip else 0) + (if r.chained then flChained else 0)

/-- The job ends with `status`; `ts` is the transmit timestamp in whole ns where one is reported. -/
def State.jobFinish (s : State) (id status : Nat) (ts : Option Nat) : State :=
  match s.job id with
  | none => s
  | some r =>
    let s := s.dropJob id
    let st := status + r.flags + (match ts with
      | some _ => flTsValid
      | none => 0)
    if r.who < 8 then (s.jobLess r.who).txDone r.who r.gen st r.tag (ts.getD 0) r.len
    else
      let s := s.onCore (r.who - 8) (fun q => { q with inprog := q.inprog - 1 })
      if (s.core (r.who - 8)).epoch = r.gen then s.coreDone (r.who - 8) st r.tag (ts.getD 0) else s

/-- The frame of the job that `f` carries was dropped before it reached a port (R327). -/
def State.frameDropped (s : State) (f : Frame) (status : Nat) : State :=
  match f.job with
  | some id => s.jobFinish id status none
  | none => s

/-- The frame of a job has been placed, with `ports` port destinations (mirror copies aside) and whether any destination
passed (R327). -/
def State.jobPlaced (s : State) (f : Frame) (ports : Nat) (passed : Bool) (status : Nat) : State :=
  match f.job with
  | none => s
  | some id =>
    match s.job id with
    | none => s
    | some r =>
      if (r.tsReq || r.launchEn) && decide (0 < ports) then s.setJob id { r with left := ports }
      else s.jobFinish id (if passed then stOk else status) none

/-- A port destination of a job has ended (R327): the first one sent completes it, the last one dropped too. -/
def State.jobPortEnd (s : State) (id u : Nat) (e : TxEnd) (ts : Nat) : State :=
  match s.job id with
  | none => s
  | some r =>
    if e.isSent then
      let asym : Int := if r.who ≥ 8 ∧ u < 8 then sext 32 (s.get PORT_TS_ASYM.ASYM u) else 0
      let t := ((((ts : Int) - asym) % 2 ^ 80).toNat) / 65536
      s.jobFinish id e.status (if r.tsReq && r.tsOk then some t else none)
    else if r.left ≤ 1 then s.jobFinish id e.status none
    else s.setJob id { r with left := r.left - 1 }

/-- The copy of entry `e` at port `u` has ended: the buffer, the bytes and the entry go back (R231, R233, R288), and the job
of the frame learns of it. `ts` is in units of 2^-16 ns. -/
def State.endCopy (s : State) (u : Nat) (e : QEntry) (end_ : TxEnd) (ts : Nat) : State :=
  let s := s.portRelease u e
  match e.first, e.f.job with
  | true, some id => s.jobPortEnd id u end_ ts
  | _, _ => s

end Sys2Proof.Machine
end

