-- ==== Sys2Proof/Machine/Timebase.lean ====
section
/-! DEFINITION. Timebase and synchronized time (R360 to R385): ST from FRC, parameter changes, sync states, captures,
outputs, the frequency reference. -/

namespace Sys2Proof.Machine

open Sys2Proof

/-- Largest magnitude of the rate (R362). -/
def maxRate : Int := 56294995342

/-- Is a signed rate inside R362? -/
def rateOk (r : Int) : Bool := decide (-maxRate ≤ r) && decide (r ≤ maxRate)

/-- Sync state codes (R367). -/
def syncFree : Nat := 0
def syncAcquiring : Nat := 1
def syncTracking : Nat := 2
def syncLocked : Nat := 3
def syncHoldover : Nat := 4

/-- Time is locked for R83 in LOCKED. -/
def State.timeLocked (s : State) : Bool := s.get TIME_STAT.STATE == syncLocked

/-! Event outputs. Output 0 to 3 is EVT_OUTj, 4 and 5 are PPS_OUT0 and PPS_OUT1. -/

/-- The configuration word of an output. -/
def State.outCfg (s : State) (o : Nat) : Nat :=
  if o < 4 then s.rg (TIME_OUT_CFG.reg.key o 0) else s.rg (TIME_PPS_CFG.reg.key (o - 4) 0)

/-- SINGLE 0, PERIODIC 1, TOGGLE 2; a PPS output is PERIODIC with START 0 and PERIOD 10^9 (R375). -/
def State.outMode (s : State) (o : Nat) : Nat := if o < 4 then getBits (s.outCfg o) 1 2 else 1
def State.outStart (s : State) (o : Nat) : Nat := if o < 4 then s.get TIME_OUT_START.START o else 0
def State.outPeriod (s : State) (o : Nat) : Nat := if o < 4 then s.get TIME_OUT_PERIOD.PERIOD o else 1000000000
def State.outEn (s : State) (o : Nat) : Bool := bitAt (s.outCfg o) 0

/-- The output is gated off: GATE is 1 and the state is neither LOCKED nor HOLDOVER (R375). -/
def State.outGated (s : State) (o : Nat) : Bool :=
  bitAt (s.outCfg o) 3 && s.get TIME_STAT.STATE != syncLocked && s.get TIME_STAT.STATE != syncHoldover

/-- The hidden state of output `o`. -/
def State.outSt (s : State) (o : Nat) : OutState := mapGet (fun _ => OutState.idle) s.time.outs o
def State.setOut (s : State) (o : Nat) (v : OutState) : State :=
  { s with time.outs := mapSet (fun _ => OutState.idle) s.time.outs o v }

/-- A gated output holds 0 (R375): its level falls and a pulse in progress ends. -/
def State.outHold (s : State) (o : Nat) : State :=
  if s.outGated o then s.setOut o { s.outSt o with level := false, fallAt := none } else s

/-- A TIME_CMD, TIME_STEP or TIME_RATE write that R367 refuses: nothing changes, CMD_REFUSED is set and counted. -/
def State.timeRefuse (s : State) : State := (s.count TIME_CNT.COUNT 2).evt TIME_EVT.CMD_REFUSED 0x60

/-- A change of sync state (R367): STATE_CHG on a change; leaving the locked state disarms an armed bell source at once,
entering acquisition returns an aligned one to FREE at the next edge (R83); the outputs that the new state gates hold 0
(R375). -/
def State.setSync (s : State) (new : Nat) : State :=
  let old := s.get TIME_STAT.STATE
  if new = old then s
  else
    let s := (s.put TIME_STAT.STATE new).evt TIME_EVT.STATE_CHG 0x60
    let s := s.put TIME_STAT.STEP_AVAIL (b2n (new == syncAcquiring))
    let s := if new = syncLocked then { s with time.servoStart := s.frc.toNat } else s
    let s := s.forEach (List.range 6) State.outHold
    let s := if s.on GLB_BELL_STAT.ARMED && new != syncLocked then s.disarm else s
    if new = syncAcquiring ∧ s.on GLB_BELL_STAT.SRC = true then { s with bell.unalign := true } else s

/-- Store the offset O, an 80-bit value of whole ns and 16 bits of fraction (R361). -/
def State.setOffset (s : State) (o : Int) : State :=
  let v := (o % 2 ^ 80).toNat
  (s.put TIME_OFFSET.VALUE (v / 2 ^ 16)).put TIME_OFFSET_FRAC.FRAC v

/-- A rate change (R364): re-anchor at the present cycle, then the new rate. -/
def State.setRate (s : State) (r : Int) : State :=
  let st := s.st80
  let s := (s.keepPar.setOffset st).put TIME_ANCHOR.VALUE s.frc.toNat
  (s.put TIME_RATE.RATE (r % 2 ^ 40).toNat).count TIME_CNT.COUNT 1

/-- Entry to HOLDOVER with a cause (R367, R369). -/
def State.enterHoldover (s : State) (cause : Nat) : State :=
  let s := (s.setSync syncHoldover).put TIME_STAT.HOLD_CAUSE cause
  if cause = 1 then s.evt TIME_EVT.PATH_STEP 0x60
  else if cause = 3 then s.evt TIME_EVT.SERVO_TMO 0x60
  else s

/-- Has the rate-write timeout of LOCKED passed (R367)? It does not advance in DOZE and WATCH (R511). -/
def State.servoDue (s : State) : Bool :=
  let ms := s.get TIME_CFG.SERVO_TMO_MS
  s.timeLocked && decide (ms ≠ 0) && s.get PWR_STAT.STATE != 2 && s.get PWR_STAT.STATE != 3 &&
    decide (s.time.servoStart + ms * 1000000 ≤ s.frc.toNat)

/-- A TIME_RATE write (R364, R365, R367): refused in HOLDOVER, an automatic one of the same cycle included, and outside R362. -/
def State.writeRate (s : State) (raw : Nat) : State :=
  let r := sext 40 (raw % 2 ^ 40)
  let s := if s.servoDue then s.enterHoldover 3 else s
  if s.get TIME_STAT.STATE = syncHoldover ∨ rateOk r = false then s.timeRefuse
  else
    let s := s.setRate r
    { s with time.servoStart := s.frc.toNat }

/-- A TIME_CFG write took effect: SERVO_TMO_MS is compared with the time already measured (R367). -/
def State.servoCheck (s : State) : State :=
  let ms := s.get TIME_CFG.SERVO_TMO_MS
  if s.timeLocked && decide (ms ≠ 0) && decide (s.time.servoStart + ms * 1000000 < s.frc.toNat)
  then s.enterHoldover 3 else s

/-- A TIME_CMD write (R367, R369). -/
def State.timeCmd (s : State) (w : Nat) : State :=
  let st := s.get TIME_STAT.STATE
  let act := getBits w 0 4
  let cause := getBits w 4 4
  let useRate := bitAt w 8
  let rate := sext 40 (getBits w 16 40)
  if act = 1 then s.setSync syncAcquiring
  else if act = 2 then
    if (st = syncAcquiring ∧ s.on TIME_STAT.STEP_PEND = false) ∨ st = syncTracking then s.setSync syncLocked
    else s.timeRefuse
  else if act = 3 then
    if st = syncLocked then s.setSync syncTracking else s.timeRefuse
  else if act = 4 then
    if (st = syncTracking ∨ st = syncLocked) ∧ cause ≤ 2 ∧ (useRate = false ∨ rateOk rate = true) then
      (if useRate then s.setRate rate else s).enterHoldover cause
    else s.timeRefuse
  else if act = 5 then
    if st = syncHoldover then s.setSync syncTracking else s.timeRefuse
  else s.timeRefuse

/-- The interrupt source of output `o` (R384). -/
def outSrc (o : Nat) : Nat := 0x67 + o

/-- First scheduled edge time of a repeating output at or after time `t` (R375). -/
def nextSched (start period t : Nat) : Nat :=
  if 0 ≤ wrapDiff 64 start t then start else start + (t - start + period - 1) / period * period

/-- One edge of output `o` at time `t`: a pulse rises, or TOGGLE inverts the level; a rising edge is an interrupt event.
A gated output holds 0 and makes no edge (R375). -/
def State.outEdge (s : State) (o t : Nat) : State :=
  let st := s.outSt o
  if s.outGated o then s.setOut o { st with level := false, fallAt := none }
  else if s.outMode o = 2 then
    let s := s.setOut o { st with level := !st.level }
    if st.level then s else s.raise (outSrc o)
  else
    (s.setOut o { st with level := true, fallAt := some (t + getBits (s.outCfg o) 32 32) }).raise (outSrc o)

/-- OUT_ADV of an output (R375). -/
def State.outAdv (s : State) (o : Nat) : Nat := getBits (s.outCfg o) 8 8

/-- When the pad changes for an edge at time `t`: 2 cycles after the first in which ST reaches T - OUT_ADV (R375). -/
def State.padFrc (s : State) (o t : Nat) : Nat := s.frcAtSt (t - s.outAdv o) + 2

/-- Set the next scheduled edge of output `o`. -/
def State.setNextEdge (s : State) (o : Nat) (n : Option Nat) : State := s.setOut o { s.outSt o with next := n }

/-- A late edge (R375, R376): produced at once and counted; a gated output makes no edge. -/
def State.outLate (s : State) (o : Nat) : State :=
  if s.outGated o then s else ((s.outEdge o (s.stNs + s.outAdv o)).count TIME_CNT.COUNT 6).evt TIME_EVT.OUT_LATE 0x60

/-- An output's EN is set (R375): the first scheduled time at or after ST; a SINGLE whose START has passed pulses at once. -/
def State.outStartRun (s : State) (o : Nat) : State :=
  if s.outMode o = 0 then
    if wrapDiff 64 (s.outStart o) s.stNs < 0 then (s.outLate o).setNextEdge o none
    else s.setNextEdge o (some (s.outStart o))
  else s.setNextEdge o (some (nextSched (s.outStart o) (s.outPeriod o) s.stNs))

/-- The output's configuration changed from word `old`. -/
def State.outCfgWritten (s : State) (o old : Nat) : State :=
  if s.outEn o then (if bitAt old 0 then s.outHold o else s.outStartRun o)
  else s.setOut o OutState.idle

/-- The scheduled edge of output `o` shows at the pad (R375); the next one is the first of the schedule after it. -/
def State.outputEdge (s : State) (o : Nat) : State :=
  match (s.outSt o).next with
  | none => s
  | some t =>
    if s.outEn o then
      let s := s.advanceTo (s.padFrc o t)
      let s := s.outEdge o t
      s.setNextEdge o (if s.outMode o = 0 then none else some (nextSched (s.outStart o) (s.outPeriod o) (t + 1)))
    else s

/-- The end of a pulse of output `o` shows at the pad (R375). -/
def State.outputFall (s : State) (o : Nat) : State :=
  match (s.outSt o).fallAt with
  | none => s
  | some t =>
    let s := s.advanceTo (s.padFrc o t)
    s.setOut o { s.outSt o with level := false, fallAt := none }

/-- After a step from ST `old`: each enabled output with a scheduled edge passed makes one late edge, and continues from
the first scheduled time after the new ST (R376). -/
def State.stepOutput (old : Nat) (s : State) (o : Nat) : State :=
  match (s.outSt o).next with
  | none => s
  | some t =>
    if s.outEn o = true ∧ 0 ≤ wrapDiff 64 t old ∧ wrapDiff 64 t s.stNs ≤ 0 then
      let s := s.outLate o
      s.setNextEdge o (if s.outMode o = 0 then none
        else some (nextSched (s.outStart o) (s.outPeriod o) (s.stNs + 1)))
    else s

/-- A step applied (R364, R368, R376): O moves by DELTA whole ns; the state becomes TRACKING. -/
def State.applyStep (s : State) (delta : Int) : State :=
  let old := s.stNs
  let o : Int := s.offset80
  let s := s.keepPar.setOffset (o + delta * 2 ^ 16)
  let s := s.put TIME_STAT.STEP_PEND 0
  let s := { s with time.heldStep := none }
  let s := (s.count TIME_CNT.COUNT 0).evt TIME_EVT.STEP_DONE 0x60
  let s := s.setSync syncTracking
  s.forEach (List.range 6) (State.stepOutput old)

/-- A TIME_STEP write (R367, R368). -/
def State.writeStep (s : State) (raw : Nat) : State :=
  if s.get TIME_STAT.STATE = syncAcquiring ∧ s.on TIME_STAT.STEP_PEND = false then
    if s.on GLB_BELL_STAT.SRC then
      { s.put TIME_STAT.STEP_PEND 1 with time.heldStep := some (sext 64 raw) }
    else s.applyStep (sext 64 raw)
  else s.timeRefuse

/-- A held step is applied in the cycle after the edge at which the bell source returned to FREE (R368). -/
def State.heldStepDue (s : State) : State :=
  match s.time.heldStep with
  | some d => if s.on GLB_BELL_STAT.SRC then s else (s.advance 1).applyStep d
  | none => s

/-- The capture FIFO of input `k`. -/
def State.capFifo (s : State) (k : Nat) : List CapEntry := mapGet (fun _ => []) s.time.caps k
def State.setCap (s : State) (k : Nat) (l : List CapEntry) : State :=
  { s with time.caps := mapSet (fun _ => []) s.time.caps k l }

/-- A configured edge of capture input `k` (R374). -/
def State.captureEdge (s : State) (k : Nat) (rising : Bool) : State :=
  let e := s.get TIME_CAP_CTRL.EDGE k
  if s.on TIME_CAP_CTRL.EN k && (if rising then bitAt e 0 else bitAt e 1) then
    let fifo := s.capFifo k
    if fifo.length < 8 then
      (s.setCap k (fifo ++ [⟨s.stNsAt (s.frc.toNat - 3), rising⟩])).raise (0x61 + k)
    else ((s.count TIME_CNT.COUNT 5).put TIME_CAP_CTRL.CAP_OVF 1 k).evt TIME_EVT.CAP_OVF 0x60
  else s

/-- A read of TIME_CAPk_TS: the oldest entry, removed; 0 while the FIFO is empty (R374, R385). -/
def State.capRead (s : State) (k : Nat) : State × Nat :=
  match s.capFifo k with
  | [] => (s, 0)
  | e :: l => (s.setCap k l, e.st)

/-- A window of TIME_REF_IN ends with `edges` rising edges (R377). -/
def State.refWindow (s : State) (edges : Nat) : State :=
  if s.on TIME_REF.EN then
    let e := s.time.refStart + s.get TIME_REF.WIN_MS * 1000000
    let s := s.advanceTo e
    let s := { s with time.refStart := e }
    let was := s.on TIME_REF.PRESENT
    let s := s.put TIME_REF.EDGES (min edges (2 ^ 32 - 1))
    let s := s.put TIME_REF.PRESENT (b2n (edges != 0))
    if was && edges == 0 then s.evt TIME_EVT.REF_LOST 0x60 else s
  else s

/-- SERVO_TMO: the rate-write timeout in LOCKED passes (R367). -/
def State.servoTimeout (s : State) : State :=
  let ms := s.get TIME_CFG.SERVO_TMO_MS
  if s.timeLocked && decide (ms ≠ 0) && s.get PWR_STAT.STATE != 2 && s.get PWR_STAT.STATE != 3 then
    (s.advanceTo (s.time.servoStart + ms * 1000000)).enterHoldover 3
  else s

/-- A read of TIME_NOW_NS latches the reader's copies (R366, R537) and returns ST in whole ns. -/
def State.readNow (s : State) (c : Nat) : State × Nat :=
  let st := s.st80.toNat
  let ns := st / 2 ^ 16
  let s := s.put (TIME_NOW_SEC.SEC.of c) (ns / 1000000000)
  let s := s.put (TIME_NOW_SEC.FRAC.of c) (st % 2 ^ 16)
  let s := s.put (TIME_NOW_NSEC.NSEC.of c) (ns % 1000000000)
  let s := s.put (TIME_NOW_FRC.FRC.of c) s.frc.toNat
  (s, ns)

end Sys2Proof.Machine
end

