-- ==== Sys2Proof/Machine/Timetable.lean ====
section
/-! DEFINITION. Timetables of the wired ports (R140 to R155, R164): lists, switches, gate changes, close times and
eligibility. -/

namespace Sys2Proof.Machine

open Sys2Proof

/-- Byte time at a SPEED code, in 1/100 ns: 8 bits at 10 Mbit/s to 50 Gbit/s (R107, R371). -/
def byteTime (code : Nat) : Nat :=
  match code with
  | 0 => 80000 | 1 => 8000 | 2 => 800 | 3 => 320 | 4 => 160 | 5 => 80 | 6 => 32 | _ => 16

/-- Nanoseconds of `n` bytes at port `u`'s speed, rounded up. -/
def State.bytesNs (s : State) (u n : Nat) : Nat := (n * byteTime (s.get PORT_MAC_CTRL.SPEED u) + 99) / 100

/-- Entry `i` of list `l` of port `n`: gates, operation, interval (R144). -/
def State.gclWord (s : State) (n l i : Nat) : Nat :=
  if l = 0 then s.rg (PORT_GCL0_E.reg.key n i) else s.rg (PORT_GCL1_E.reg.key n i)
def State.gclGates (s : State) (n l i : Nat) : Nat := getBits (s.gclWord n l i) 0 8
def State.gclOp (s : State) (n l i : Nat) : Nat := getBits (s.gclWord n l i) 8 2
def State.gclInterval (s : State) (n l i : Nat) : Nat := getBits (s.gclWord n l i) 32 32

/-- The active list and its length. -/
def State.gclList (s : State) (n : Nat) : Nat := s.get PORT_GCL_STAT.ACTIVE n
def State.gclCount (s : State) (n : Nat) : Nat := (s.port n).gclCount

/-- Does the timetable run? -/
def State.gclRun (s : State) (n : Nat) : Bool := s.on PORT_GCL_STAT.RUN n

/-- The length of a cycle in units of the grid (R140). -/
def State.cycleLen (s : State) (n : Nat) : Nat := s.get PORT_GCL_CFG.CYCLE_BELLS n * s.bell.period

/-- Time on the grid: synchronized ns on the aligned grid, TIME_CK cycles on the free-running one (R141). -/
def State.gridNow (s : State) : Nat := if s.on GLB_BELL_STAT.SRC then s.stNs else s.frc.toNat

/-- The FRC at which grid time `t` is reached. -/
def State.gridFrc (s : State) (t : Nat) : Nat := if s.on GLB_BELL_STAT.SRC then s.frcAtSt t else t

/-- Entry `i`'s start, counted from the cycle start edge (R141). -/
def State.entryStart (s : State) (n l : Nat) : Nat → Nat
  | 0 => 0
  | i + 1 => s.entryStart n l i + s.gclInterval n l i

/-- The entries of the running cycle as (gates, length): the last entry holds to the cycle's end, an entry running there is
cut, entries that would start later are skipped (R141). -/
def State.cycleEntries (s : State) (n : Nat) : List (Nat × Nat) :=
  let l := s.gclList n
  let cnt := s.gclCount n
  let len := s.cycleLen n
  (List.range cnt).filterMap (fun i =>
    let st := s.entryStart n l i
    if st < len then
      let e := if i + 1 = cnt then len else min len (s.entryStart n l (i + 1))
      some (s.gclGates n l i, e - st)
    else none)

/-- The schedule from now on: what is left of the running entry, then the entries that follow to the end of the cycle. -/
def State.gclAhead (s : State) (n : Nat) : List (Nat × Nat) :=
  let off := s.gridNow - (s.port n).cycleAt
  if s.on PORT_GCL_STAT.CUT n then
    [(s.get PORT_GCL_CFG.CUT_GATES n, s.cycleLen n - (s.bell.k % s.get PORT_GCL_CFG.CYCLE_BELLS n) * s.bell.period
        - (s.gridNow - s.bell.edgeGrid))]
  else
    let e := s.get PORT_GCL_STAT.ENTRY n
    match (s.cycleEntries n).drop e with
    | [] => []
    | (g, len) :: rest => (g, len - (off - s.entryStart n (s.gclList n) e)) :: rest

/-- Length of the leading run of entries with gate `c` open, and whether it reaches the end of the list. -/
def openRun (c : Nat) : List (Nat × Nat) → Nat × Bool
  | [] => (0, true)
  | (g, len) :: rest =>
    if bitAt g c then
      let r := openRun c rest
      (len + r.1, r.2)
    else (0, false)

/-- A schedule `k` units later. -/
def skipAhead (k : Nat) : List (Nat × Nat) → List (Nat × Nat)
  | [] => []
  | (g, len) :: rest => if k < len then (g, len - k) :: rest else skipAhead (k - len) rest

/-- The length of a schedule. -/
def schedLen (l : List (Nat × Nat)) : Nat := (l.map (fun e => e.2)).foldl (· + ·) 0

/-- What is left, from the moment `after` units ahead of now, of the cycle that runs then: of the running one, or of a later
one, each as the active list gives it (R150). -/
def State.gclFrom (s : State) (n after : Nat) : List (Nat × Nat) :=
  let ahead := s.gclAhead n
  if after < schedLen ahead then skipAhead after ahead
  else
    let cyc := s.cycleEntries n
    skipAhead ((after - schedLen ahead) % schedLen cyc) cyc

/-- Time from `after` units ahead of now to class `c`'s close (R150): none where it never closes, some 0 where its gate is
not open then. The list is taken to continue unchanged, cyclically. -/
def State.closeIn (s : State) (n c after : Nat) : Option Nat :=
  let l := s.gclFrom n after
  let cyc := s.cycleEntries n
  if cyc.all (fun e => bitAt e.1 c) && l.all (fun e => bitAt e.1 c) then none
  else some (openRun c (l ++ cyc ++ cyc)).1

/-- Data bytes of the smallest first fragment (R160). -/
def State.minFrag (s : State) (n : Nat) : Nat := 64 * (1 + s.get PORT_PM_CFG.ADD_FRAG n) - 4

/-- Is preemption active on port `n` (R158)? -/
def State.pmActive (s : State) (n : Nat) : Bool := s.get PORT_PM_STAT.VSTATE n == 2

/-- Is class `c` of port `n` preemptable (R156)? -/
def State.isPreemptable (s : State) (n c : Nat) : Bool := s.pmActive n && bitAt (s.get PORT_PM_CFG.PREEMPT n) c

/-- May a frame of `len` wire bytes of class `c` start `after` ns from now under the gates (R151, R155, R164)? -/
def State.gateElig (s : State) (n c len after : Nat) : Bool :=
  if s.gclRun n then
    match s.closeIn n c after with
    | none => true
    | some 0 => false
    | some r =>
      decide (s.bytesNs n (len + 8) ≤ r) ||
        (s.isPreemptable n c && decide ((s.minFrag n + 7) / 8 * 8 + 64 ≤ len) &&
          decide (s.bytesNs n (8 + (s.minFrag n + 7) / 8 * 8 + 4) ≤ r))
  else true

/-- How long gate `c` stays closed from the start of a schedule: none where it does not open in it. -/
def opensIn (c : Nat) : List (Nat × Nat) → Option Nat
  | [] => none
  | (g, len) :: rest => if bitAt g c then some 0 else (opensIn c rest).map (len + ·)

/-- A frame may be copied when it will be eligible at its earliest start, or when its gate opens within 1,000 ns of that
start (R151). -/
def State.gateCopy (s : State) (n c len after : Nat) : Bool :=
  s.gateElig n c len after ||
    (s.gclRun n && match opensIn c (s.gclFrom n after ++ s.cycleEntries n) with
      | some d => decide (d ≤ 1000) && s.gateElig n c len (after + d)
      | none => false)

/-- The current entry's gates hold class `c` open now. -/
def State.gateOpen (s : State) (n c : Nat) : Bool := !s.gclRun n || bitAt (s.get PORT_GCL_STAT.GATES n) c

/-- The event source of a timetable. -/
def gclSrc (n : Nat) : Nat := 0x38 + n

/-- Any receive timer nonzero (R128, R129, R134)? Timers end at a time in 1/100 ns. -/
def State.pauseTimer (s : State) (n : Nat) : Bool := decide (s.frc.toNat * 100 < (s.port n).pauseEnd)
def State.pfcTimer (s : State) (n p : Nat) : Bool := decide (s.frc.toNat * 100 < (s.port n).pfcEnd.getD p 0)

/-- Is traffic class `c` paused (R129)? -/
def State.classPaused (s : State) (n c : Nat) : Bool :=
  (List.range 8).any (fun p => s.pfcTimer n p && bitAt (getBits (s.get PORT_PFC_MAP.MAP n) (8 * p) 8) c)

/-- Is the launch time of an entry reached, `lead` ns ahead (R165)? An entry without one is always available. -/
def State.launchReached (s : State) (e : QEntry) (lead : Nat) : Bool :=
  match e.f.launch with
  | none => true
  | some lt => decide (wrapDiff 64 lt s.stNs ≤ lead)

/-- Estimated time until the transmitter could start another frame: the rest of the frame in transmission with its gap. -/
def State.startIn (s : State) (n : Nat) : Nat :=
  match (s.port n).tx with
  | none => 0
  | some t => s.bytesNs n (8 + (t.data.length - t.sent) + 4 + 12) - (s.frc.toNat - t.startAt)

/-- May the head frame of class `c` of port `n` be copied now (R129, R151, R155, R165, R292)? Its length L, if so. -/
def State.copyElig (s : State) (n c : Nat) : Option Nat :=
  match s.cq n c with
  | [] => none
  | e :: _ =>
    let len := s.wireLen n e
    if !s.classPaused n c && s.launchReached e (s.get PORT_LAUNCH_CFG.LOOKAHEAD n) &&
        s.gateCopy n c len (s.startIn n) then some len else none

/-- Has egress a frame of port `n` ready to copy? A frame held by pause, PFC or a closed gate counts as not ready (R135). -/
def State.egressReady (s : State) (n : Nat) : Bool :=
  !s.pauseTimer n && (List.range 8).any (fun c => (s.copyElig n c).isSome)

/-- Port `n` is idle from now on at the earliest: one of the conditions of R135 has just come to hold. -/
def State.idleFrom (s : State) (n : Nat) : State := s.onPort n (fun p => { p with idleAt := s.frc.toNat })

/-- After a change from `s` to `t`: where a frame that was ready is held now, the idle time of R135 starts here. -/
def State.heldNote (s t : State) (n : Nat) : State :=
  if s.egressReady n && !t.egressReady n then t.idleFrom n else t

/-- A copy that waits in the TX FIFO is discarded: the frame stays at the head of its class queue (R129, R152). -/
def State.discardWait (s : State) (n : Nat) : State :=
  match (s.port n).wait with
  | some t => ((s.onPort n (fun p => { p with wait := none })).idleFrom n).pushFront n t.e
  | none => s

/-- The waiting frame of port `n`, judged at its earliest start (R152): a copy that was eligible there and is no longer, or
that waits for a gate which will not open in time any more, is discarded. -/
def State.copyRecheck (s : State) (n : Nat) : State :=
  match (s.port n).wait with
  | none => s
  | some t =>
    let len := s.wireLen n t.e
    if s.gateElig n t.e.cls len (s.startIn n) then
      if t.ok then s else s.onPort n (fun p => { p with wait := some { t with ok := true } })
    else if t.ok || !s.gateCopy n t.e.cls len (s.startIn n) then s.discardWait n
    else s

/-- Bring port `n` in line with a change of gates: the waiting copy is judged again (R152), and a frame in transmission whose
gate closed sets GATE_OVERRUN (R153). -/
def State.gateChanged (s : State) (n : Nat) : State :=
  let s := s.copyRecheck n
  match (s.port n).tx with
  | some t =>
    if s.gateOpen n t.e.cls || t.preempt then s else s.evt PORT_GCL_EVT.GATE_OVERRUN (gclSrc n) n
  | none => s

/-- Entry `i` of the active list takes effect (R142, R144): its gates, and its hold operation (R162). -/
def State.applyEntry (s : State) (n i : Nat) : State :=
  let l := s.gclList n
  let s := s.put PORT_GCL_STAT.ENTRY i n
  let s := s.put PORT_GCL_STAT.GATES (s.gclGates n l i) n
  let op := s.gclOp n l i
  let s := if op = 1 then s.put PORT_GCL_STAT.HOLD 1 n
    else if op = 2 then s.put PORT_GCL_STAT.HOLD 0 n
    else s
  s.gateChanged n

/-- The grid time at which the running list's next entry starts, if there is one before the cycle ends. -/
def State.nextEntryAt (s : State) (n : Nat) : Option Nat :=
  if s.gclRun n && !s.on PORT_GCL_STAT.CUT n then
    let i := s.get PORT_GCL_STAT.ENTRY n + 1
    if i < (s.cycleEntries n).length then some ((s.port n).cycleAt + s.entryStart n (s.gclList n) i) else none
  else none

/-- GATE_CHANGE: the next entry's start time is reached (R142). -/
def State.gateChange (s : State) (n : Nat) : State :=
  match s.nextEntryAt n with
  | some t => s.heldNote ((s.advanceTo (s.gridFrc t)).applyEntry n (s.get PORT_GCL_STAT.ENTRY n + 1)) n
  | none => s

/-- Where the next entry is a SET_RELEASE, its start is reached and the hold released (R162). -/
def State.holdRelease (s : State) (n : Nat) : State :=
  if (s.nextEntryAt n).isSome ∧ s.gclOp n (s.gclList n) (s.get PORT_GCL_STAT.ENTRY n + 1) = 2 then s.gateChange n else s

/-- The grid time of the next cycle start edge. -/
def State.nextCycleAt (s : State) (n : Nat) : Nat := s.gridNow + schedLen (s.gclAhead n)

/-- The grid times at which the hold is to be asserted (R162): HOLD_ADV before each SET_HOLD entry of the running cycle still
to come, and HOLD_ADV before the next cycle start edge where an entry of that cycle lies within HOLD_ADV of it. -/
def State.holdTimes (s : State) (n : Nat) : List Nat :=
  let l := s.gclList n
  let adv := s.get PORT_PM_CFG.HOLD_ADV n
  let holds := (List.range (s.cycleEntries n).length).filter (fun i => s.gclOp n l i == 1)
  let here := if s.on PORT_GCL_STAT.CUT n then []
    else (holds.filter (fun i => decide (s.get PORT_GCL_STAT.ENTRY n < i))).map
      (fun i => (s.port n).cycleAt + s.entryStart n l i - adv)
  let next := if holds.any (fun i => i == 0 || decide (s.entryStart n l i < adv)) then [s.nextCycleAt n - adv] else []
  here ++ next

/-- HOLD: the hold is asserted at the first such time, where no gate change comes before it; where the next entry is a
SET_RELEASE, its start is reached and the hold released (R162). -/
def State.holdEvent (s : State) (n : Nat) : State :=
  if s.gclRun n then
    let bound := (s.nextEntryAt n).getD (s.nextCycleAt n)
    match (s.holdTimes n).filter (fun t => decide (t ≤ bound)) with
    | t :: ts =>
      if s.on PORT_GCL_STAT.HOLD n then s.holdRelease n
      else (s.advanceTo (s.gridFrc (ts.foldl min t))).put PORT_GCL_STAT.HOLD 1 n
    | [] => s.holdRelease n
  else s

/-- The timetable stops: every gate is open, neither hold nor slots apply (R149, R162). -/
def State.gclStop (s : State) (n : Nat) : State :=
  let s := s.put PORT_GCL_STAT.RUN 0 n
  let s := s.put PORT_GCL_STAT.CUT 0 n
  let s := s.put PORT_GCL_STAT.HOLD 0 n
  let s := s.put PORT_GCL_STAT.GATES 0xFF n
  (s.put PORT_GCL_STAT.ENTRY 0 n).gateChanged n

/-- The word PORTn_PM_CFG reads as: the one written last, in force or not. -/
def State.pmWord (s : State) (n : Nat) : Nat := (s.port n).pmNew.getD (s.rg (PORT_PM_CFG.reg.key n 0))

/-- Does an entry below `cnt` of list `l` fail the checks of R146? -/
def State.listBad (s : State) (n l cnt : Nat) : Bool :=
  (List.range cnt).any (fun i =>
    s.gclOp n l i == 3 || decide (s.gclInterval n l i < 64) ||
      (s.gclOp n l i != 0 && (!bitAt (s.pmWord n) 0 || s.on PORT_GCL_CFG.SLOT n)))

/-- A served PORTn_GCL_CMD (R146 to R148), in the order of its checks. -/
def State.gclCmd (s : State) (n w : Nat) : State :=
  let u := 0x20 + n
  let act := getBits w 0 2
  let l := getBits w 2 1
  let cnt := getBits w 16 7
  let refuse := s.evt PORT_GCL_EVT.CMD_REFUSED (gclSrc n) n
  let listErr := s.evt PORT_GCL_EVT.LIST_ERR (gclSrc n) n
  if (s.role u).func = .idle then refuse
  else if getBits w 32 16 ≠ (s.role u).gen.toNat then
    s.stale.evt PORT_GCL_EVT.STALE (gclSrc n) n
  else if act = 0 ∨ act = 3 then refuse
  else if act = 2 then s.put PORT_GCL_STAT.PEND 0 n
  else if s.on PORT_GCL_STAT.PEND n then refuse
  else if s.on PORT_GCL_STAT.VALID n = true ∧ s.gclList n = l then refuse
  else if cnt = 0 ∨ 96 < cnt then listErr
  else if s.listBad n l cnt then listErr
  else
    let s := (s.put PORT_GCL_STAT.PEND 1 n).put PORT_GCL_STAT.PEND_LIST l n
    s.onPort n (fun p => { p with pendCount := cnt, pendAtSt := bitAt w 3, pendBell := s.get GLB_BELL_NUM.BELL })

/-- Is a write to entry `i` of list `l` refused (R145)? -/
def State.gclLocked (s : State) (n l : Nat) : Bool :=
  (s.on PORT_GCL_STAT.VALID n && s.gclList n == l) ||
    (s.on PORT_GCL_STAT.PEND n && s.get PORT_GCL_STAT.PEND_LIST n == l)

/-- A write to PORTn_GCL_CFG (R149, R155): refused, or stored with a change of EN that waits for its edge. -/
def State.gclCfgWrite (s : State) (n new : Nat) : State :=
  let old := s.rg (PORT_GCL_CFG.reg.key n 0)
  let enOld := bitAt old 0
  let enNew := bitAt new 0
  let changes := getBits old 1 1 != getBits new 1 1 || getBits old 16 9 != getBits new 16 9
  if (changes && (enOld || enNew)) || (bitAt new 1 && !bitAt old 1 && bitAt (s.pmWord n) 0) then
    s.evt PORT_GCL_EVT.CFG_REFUSED (gclSrc n) n
  else
    let s := s.setRg (PORT_GCL_CFG.reg.key n 0) new
    if enOld != enNew then
      s.put PORT_GCL_STAT.EN_PEND (b2n (enNew != s.gclRun n)) n
    else s

/-- A pending switch takes effect at its cycle start edge (R147). -/
def State.gclSwitch (s : State) (n : Nat) : State :=
  let s := s.put PORT_GCL_STAT.ACTIVE (s.get PORT_GCL_STAT.PEND_LIST n) n
  let s := (s.put PORT_GCL_STAT.VALID 1 n).put PORT_GCL_STAT.PEND 0 n
  let s := s.put PORT_GCL_STAT.HOLD 0 n
  let s := s.onPort n (fun p => { p with gclCount := p.pendCount })
  s.evt PORT_GCL_EVT.SWITCHED (gclSrc n) n

/-- Is the pending switch of port `n` due at a cycle start edge, the current one (R147)? -/
def State.switchDue (s : State) (n : Nat) : Bool :=
  s.on PORT_GCL_STAT.PEND n &&
    (if (s.port n).pendAtSt then
      s.on GLB_BELL_STAT.SRC && decide (0 ≤ wrapDiff 64 s.stNs (s.get PORT_GCL_SWITCH_AT.AT n))
    else decide (0 < wrapDiff 32 (s.get GLB_BELL_NUM.BELL) (s.port n).pendBell))

/-- The timetable advance of one port at a bell edge (R89, R140 to R143, R147, R149). DESIGN CHOICE (log entry 138): CYCLE_CUT is set
while the timetable runs only. The edge's grid index is `bell.k`;
`newGrid` says that the grid origin changed or re-phased at this edge. -/
def State.timetableEdgeNow (newGrid : Bool) (s : State) (n : Nat) : State :=
  let s := if s.on PORT_GCL_STAT.EN_PEND n = true ∧ s.on PORT_GCL_CFG.EN n = false then
      (s.put PORT_GCL_STAT.EN_PEND 0 n).gclStop n
    else s
  let start := s.bell.k % s.get PORT_GCL_CFG.CYCLE_BELLS n == 0
  let s := if newGrid && s.gclRun n then
      (s.put PORT_GCL_STAT.HOLD 0 n).evt PORT_GCL_EVT.CYCLE_CUT (gclSrc n) n
    else s
  if start then
    let s := s.put PORT_GCL_STAT.CYCLE_NUM (s.get PORT_GCL_STAT.CYCLE_NUM n + 1) n
    let s := if s.switchDue n then s.gclSwitch n else s
    let s := if s.on PORT_GCL_STAT.EN_PEND n = true ∧ s.on PORT_GCL_CFG.EN n = true ∧
        s.on PORT_GCL_STAT.VALID n = true then
        (s.put PORT_GCL_STAT.EN_PEND 0 n).put PORT_GCL_STAT.RUN 1 n
      else s
    let s := s.onPort n (fun p => { p with cycleAt := s.bell.edgeGrid })
    if s.gclRun n then (s.put PORT_GCL_STAT.CUT 0 n).applyEntry n 0 else s
  else if newGrid && s.gclRun n then
    let s := s.put PORT_GCL_STAT.CUT 1 n
    (s.put PORT_GCL_STAT.GATES (s.get PORT_GCL_CFG.CUT_GATES n) n).gateChanged n
  else s

/-- The timetable advance, with the idle time of R135. -/
def State.timetableEdge (newGrid : Bool) (s : State) (n : Nat) : State := s.heldNote (s.timetableEdgeNow newGrid n) n

end Sys2Proof.Machine
end

