-- ==== Sys2Proof/Machine/Wire.lean ====
section
/-! DEFINITION. The characters of the PCS stream (R105 to R108, R157, R159, R160): lanes, beats, packets, and what a receiver
reads from the lanes it is given (R109, R114). -/

namespace Sys2Proof.Machine

open Sys2Proof

/-- Lanes of the stream (R105): 16 on uplinks, 8 on LAN ports. -/
def lanes (n : Nat) : Nat := if n < 2 then 16 else 8

/-- One CE cycle in so many of the port's clock (R107). -/
def ceEvery (n code : Nat) : Nat :=
  if n < 2 then
    match code with
    | 2 => 50 | 3 => 20 | 4 => 10 | 5 => 5 | 6 => 2 | _ => 1
  else
    match code with
    | 0 => 1000 | 1 => 100 | 2 => 10 | 3 => 4 | 4 => 2 | _ => 1

/-- The control character of a lane value (R106): any other value is an invalid character. -/
def ctlChar (v : Nat) : Lane :=
  if v = 0x07 then .idle
  else if v = 0x06 then .lpi
  else if v = 0xFB then .start
  else if v = 0xFD then .terminate
  else if v = 0xFE then .error
  else if v = 0x9C then .sequence
  else .invalid v

/-- What a lane with control bit `ctl` and byte `v` carries (R105, R106). -/
def Lane.of (ctl : Bool) (v : Nat) : Lane := if ctl then ctlChar v else .data v

/-- The control bit of a lane, and its byte. -/
def Lane.ctl : Lane → Bool
  | .data _ => false
  | _ => true
def Lane.val : Lane → Nat
  | .idle => 0x07
  | .lpi => 0x06
  | .start => 0xFB
  | .terminate => 0xFD
  | .error => 0xFE
  | .sequence => 0x9C
  | .data v => v
  | .invalid v => v

/-- A lane read back is the lane that was sent. -/
theorem Lane.of_val (l : Lane) (h : ∀ v, l ≠ .invalid v) : Lane.of l.ctl l.val = l := by
  cases l with
  | invalid v => exact absurd rfl (h v)
  | _ => rfl

/-- One beat of `w` lanes, lane 0 first: its TXD and TXC. -/
def beat (w : Nat) (l : List Lane) : Nat × Nat :=
  let l := l ++ List.replicate (w - l.length) .idle
  (leNat (l.map Lane.val), (l.map (fun c => b2n c.ctl)).foldr (fun b v => b + 2 * v) 0)

/-- The ordered set of local fault (`v` 1) or remote fault (`v` 2). -/
def orderedSet (v : Nat) : List Lane := [.sequence, .data 0, .data 0, .data v]

/-! Packets. -/

/-- Start codes of R157. -/
def smdE : Nat := 0xD5
def smdV : Nat := 0x07
def smdR : Nat := 0x19
def smdS : List Nat := [0xE6, 0x4C, 0x7F, 0xB3]
def smdC : List Nat := [0x61, 0x52, 0x9E, 0x2A]

/-- Start, preamble bytes, the bytes from the delimiter on, and Terminate: eight bytes come before the frame (R108, R160). -/
def packet (preamble : Nat) (b : List Nat) : List Lane :=
  .start :: (List.replicate preamble (.data 0x55) ++ (b.map .data ++ [.terminate]))

/-- A frame, a mPacket or a first fragment: its delimiter follows six bytes of 0x55 (R108, R159, R160). -/
def framePacket (smd : Nat) (b : List Nat) : List Lane := packet 6 (smd :: b)

/-- A continuation fragment: five bytes of 0x55, SMD-Cx, the count byte (R160). -/
def contPacket (idx cnt : Nat) (b : List Nat) : List Lane := packet 5 (smdC.getD idx 0 :: smdS.getD cnt 0 :: b)

/-- A packet cut after `k` lanes: Error in the next lane, then Terminate (R122). -/
def cutPacket (k : Nat) (l : List Lane) : List Lane := l.take k ++ [.error, .terminate]

/-- The mCRC of a fragment or mPacket: the FCS with its final value XORed with 0x0000_FFFF (R159). -/
def mcrcBytes (bs : List Nat) : List Nat :=
  let c := (crc32 bs).xor 0xFFFF
  [c % 256, c / 256 % 256, c / 65536 % 256, c / 16777216 % 256]

/-! What a receiver reads. -/

/-- The data bytes up to the first control character, and that character. -/
def dataRun : List Lane → List Nat × Option Lane
  | [] => ([], none)
  | .data v :: l => let r := dataRun l; (v :: r.1, r.2)
  | c :: _ => ([], some c)

/-- The lanes after the next Start that the receiver takes, if there is one, and what it still discards otherwise: Idle, LPI and
an ordered set end the discarding of R109 and of R114, a Start only that of R109. -/
def nextStart : RxGate → List Lane → RxGate × Option (List Lane)
  | g, [] => (g, none)
  | .jabber, .start :: l => nextStart .jabber l
  | _, .start :: l => (.take, some l)
  | _, .idle :: l => nextStart .take l
  | _, .lpi :: l => nextStart .take l
  | _, .sequence :: l => nextStart .take l
  | g, _ :: l => nextStart g l

/-- What a stretch of lanes holds for the receiver: no Start it takes, a frame still open at its end, a frame with a code fault
(R109) and its bytes so far, a frame without Terminate 65,536 bytes after its Start (R114), or a packet with its delimiter and the bytes up to Terminate. -/
inductive RxSeen where
  | nothing (g : RxGate)
  | opened
  | jabber
  | fault (b : List Nat)
  | packet (smd : Nat) (b : List Nat)
  deriving DecidableEq, Repr

/-- The packet in the lanes after a Start. The delimiter is the seventh byte, or, with preemption enabled, an SMD-Cx in sixth
place with its count byte behind it (R108, R157, R160). A packet that ends before its delimiter, or at a control character other
than Terminate, has a code fault (R109). -/
def rxBody (pm : Bool) (l : List Lane) : RxSeen :=
  let r := dataRun l
  if 65536 ≤ r.1.length then .jabber
  else
    match r.1.drop 5, r.2 with
    | _, none => .opened
    | p :: smd :: rest, some .terminate => if pm && smdC.contains p then .packet p (smd :: rest) else .packet smd rest
    | rest, _ => .fault (rest.drop 2)

def rxRead (pm : Bool) (g : RxGate) (l : List Lane) : RxSeen :=
  match nextStart g l with
  | (g, none) => .nothing g
  | (_, some l) => rxBody pm l

theorem dataRun_map (b : List Nat) (c : Lane) (l : List Lane) (h : c.ctl = true) :
    dataRun (b.map Lane.data ++ c :: l) = (b, some c) := by
  induction b with
  | nil => cases c <;> simp_all [dataRun, Lane.ctl]
  | cons v b ih => simp [dataRun, ih]

/-- What is sent as a frame is read as that frame. -/
theorem rxRead_framePacket (pm : Bool) (smd : Nat) (b : List Nat) (g : RxGate) (h : g ≠ .jabber) (hb : b.length < 65529) :
    rxRead pm g (framePacket smd b) = .packet smd b := by
  have e : dataRun (List.replicate 6 (Lane.data 0x55) ++ ((smd :: b).map Lane.data ++ [Lane.terminate])) =
      (List.replicate 6 0x55 ++ smd :: b, some .terminate) := by
    have r := dataRun_map (List.replicate 6 0x55 ++ smd :: b) .terminate [] rfl
    rwa [List.map_append, List.map_replicate, List.append_assoc] at r
  have body : rxBody pm (List.replicate 6 (Lane.data 0x55) ++ ((smd :: b).map Lane.data ++ [Lane.terminate])) = .packet smd b := by
    have k : ¬ 65536 ≤ (List.replicate 6 0x55 ++ smd :: b).length := by simp; omega
    simp only [rxBody, e, if_neg k]
    cases pm <;> rfl
  cases g with
  | jabber => exact absurd rfl h
  | take => exact body
  | misaligned => exact body

/-- A continuation fragment is read as one. -/
theorem rxRead_contPacket (idx cnt : Nat) (b : List Nat) (h : idx < 4) (hb : b.length < 65529) :
    rxRead true .take (contPacket idx cnt b) = .packet (smdC.getD idx 0) (smdS.getD cnt 0 :: b) := by
  have e : dataRun (List.replicate 5 (Lane.data 0x55) ++ ((smdC.getD idx 0 :: smdS.getD cnt 0 :: b).map Lane.data ++ [Lane.terminate])) =
      (List.replicate 5 0x55 ++ smdC.getD idx 0 :: smdS.getD cnt 0 :: b, some .terminate) := by
    have r := dataRun_map (List.replicate 5 0x55 ++ smdC.getD idx 0 :: smdS.getD cnt 0 :: b) .terminate [] rfl
    rwa [List.map_append, List.map_replicate, List.append_assoc] at r
  have body : rxBody true (List.replicate 5 (Lane.data 0x55) ++
      ((smdC.getD idx 0 :: smdS.getD cnt 0 :: b).map Lane.data ++ [Lane.terminate])) =
      .packet (smdC.getD idx 0) (smdS.getD cnt 0 :: b) := by
    have k : ¬ 65536 ≤ (List.replicate 5 0x55 ++ smdC.getD idx 0 :: smdS.getD cnt 0 :: b).length := by simp; omega
    simp only [rxBody, e, if_neg k]
    match idx, h with
    | 0, _ => rfl
    | 1, _ => rfl
    | 2, _ => rfl
    | 3, _ => rfl
  exact body

/-! Ordered sets (R110). -/

/-- How many ordered sets of fault `v` a 64-bit word carries: Sequence in lane 0 or 4 and its three data lanes. -/
def setsIn (v : Nat) (l : List Lane) : Nat :=
  b2n (l.take 4 == orderedSet v) + b2n ((l.drop 4).take 4 == orderedSet v)

/-- One received word with `k` ordered sets: the last four, as far as they lie within 128 words. -/
def FaultSt.word (f : FaultSt) (k : Nat) : FaultSt :=
  ⟨(List.replicate k 0 ++ (f.seen.map (· + 1)).filter (fun a => decide (a < 128))).take 4, if k = 0 then min 128 (f.clean + 1) else 0⟩

/-- The status after a word: it comes with the fourth ordered set within 128 words and goes after 128 words without one. -/
def FaultSt.status (f : FaultSt) (old : Bool) : Bool :=
  if f.clean = 128 then false else old || f.seen.length == 4

/-- The lanes of a 64-bit word, lane 0 first. -/
def wordLanes (ctl data : Nat) : List Lane :=
  (List.range 8).map (fun i => Lane.of (bitAt ctl i) (getBits data (8 * i) 8))

end Sys2Proof.Machine
end

