-- ==== Sys2Proof/Machine/Mac.lean ====
section
/-! DEFINITION. The wired port MACs (R103 to R139) with preemption and launch time (R156 to R168): link state, receive,
transmit, flow control, recess, module signals. -/

namespace Sys2Proof.Machine

open Sys2Proof

/-- Counter slots of R138 and R168, as indices of PORTn_CNT. -/
def pcRxFrames : Nat := 0
def pcRxOctets : Nat := 1
def pcRxBcast : Nat := 2
def pcRxMcast : Nat := 3
def pcRxRunt : Nat := 4
def pcRxFcsErr : Nat := 5
def pcRxCodeErr : Nat := 6
def pcRxOversize : Nat := 7
def pcRxOversizeDrop : Nat := 8
def pcRxJabber : Nat := 9
def pcRxFifoOvf : Nat := 10
def pcRxPause : Nat := 11
def pcRxPfc : Nat := 12
def pcRxPauseIgnored : Nat := 13
def pcRxCtrlUnknown : Nat := 14
def pcTxFrames : Nat := 15
def pcTxOctets : Nat := 16
def pcTxPause : Nat := 17
def pcTxPad : Nat := 18
def pcTxOversizeDrop : Nat := 19
def pcTxLinkDrop : Nat := 20
def pcTxAbort : Nat := 21
def pcLinkDown : Nat := 25
def pcTxLateDrop : Nat := 26
def pcTxLateSent : Nat := 27
def pcTxPreempted : Nat := 29
def pcRxReassembled : Nat := 30
def pcRxAssyErr : Nat := 31

/-- Count one event of port `n`. -/
def State.pc (s : State) (n slot : Nat) : State := s.count PORT_CNT.COUNT n slot

/-- The port's event source (R126). -/
def portSrc (n : Nat) : Nat := 0x30 + n
def State.pevt (s : State) (f : Fld) (n : Nat) : State := s.evt f (portSrc n) n

/-- Bytes of a port FIFO, receive and transmit alike (R103). -/
def fifoBytes (n : Nat) : Nat := if n < 2 then 32768 else 16384

/-- Link state codes (R120). -/
def linkDisabled : Nat := 0
def linkDown : Nat := 1
def linkLocal : Nat := 2
def linkRemote : Nat := 3
def linkArming : Nat := 4
def linkUp : Nat := 5

def State.link (s : State) (n : Nat) : Nat := s.get PORT_MAC_STAT.LINK n
def State.isUp (s : State) (n : Nat) : Bool := s.link n == linkUp

/-- Transmit and receive clock domains of a port (R103). -/
def txClk (n : Nat) : Nat := if n < 2 then 6 else 9
def rxClk (n : Nat) : Nat := if n = 0 then 7 else if n = 1 then 8 else 9

/-- Is clock domain `d` present? -/
def State.clkOn (s : State) (d : Nat) : Bool := s.chip.clkUp.getLsbD d

/-- The first link state of R120 whose condition holds, UP_HOLD left aside. A unit whose function is IDLE counts as
DISABLED (R547); a cleared EN waits for the frame in transmission (R123). -/
def State.linkCond (s : State) (n : Nat) : Nat :=
  let loop := s.on PORT_MAC_CTRL.LOOP n
  let en := s.on PORT_MAC_CTRL.EN n || (s.port n).disabling
  if !en || (s.role n).func == .idle then linkDisabled
  else if !s.clkOn (txClk n) || (!loop && !s.clkOn (rxClk n)) || (!loop && !(s.port n).linkOk) ||
      (decide (n < 2) && s.on PORT_LINK_CFG.LOS_USE n && s.on PORT_MOD_CTRL.LOS n) ||
      s.mode == 0 || s.mode == 5 then linkDown
  else if s.on PORT_MAC_STAT.LF_RX n then linkLocal
  else if s.on PORT_MAC_STAT.RF_RX n then linkRemote
  else linkArming

/-- Clear the receive timers of port `n` (R122, R134). -/
def State.clearRxTimers (s : State) (n : Nat) : State :=
  s.onPort n (fun p => { p with pauseEnd := 0, pfcEnd := [0, 0, 0, 0, 0, 0, 0, 0] })

/-- A change of PORTn_PM_CFG took effect: clearing EN disables verification (R158), and the waiting copy is judged again. -/
def State.pmChanged (s : State) (n : Nat) : State :=
  (if s.on PORT_PM_CFG.EN n then s else (s.put PORT_PM_STAT.VSTATE 0 n).put PORT_PM_STAT.ATTEMPTS 0 n).copyRecheck n

/-- A waiting PORTn_PM_CFG word takes effect at a frame boundary with no preemptable frame between fragments. -/
def State.pmApply (s : State) (n : Nat) : State :=
  match (s.port n).pmNew with
  | none => s
  | some w =>
    if (s.port n).tx.isNone && (s.port n).split.isNone then
      ((s.onPort n (fun p => { p with pmNew := none })).setRg (PORT_PM_CFG.reg.key n 0) w).pmChanged n
    else s

/-- The flow-control mode in force (R133). -/
def State.fcMode (s : State) (n : Nat) : Nat := (s.port n).fcMode

/-- The pause quantum in 1/100 ns: 512 bit times (R128). -/
def State.quantum100 (s : State) (n : Nat) : Nat := 64 * byteTime (s.get PORT_MAC_CTRL.SPEED n)

/-- The multicast address of MAC control frames. -/
def ctrlMac : List Nat := [0x01, 0x80, 0xC2, 0x00, 0x00, 0x01]

/-- A generated pause frame: destination, source PORTn_MAC_ADDR, time, zero bytes up to byte 59 (R132). -/
def pauseFrame (addr time : Nat) : List Nat :=
  ctrlMac ++ beBytes addr 6 ++ [0x88, 0x08, 0x00, 0x01] ++ beBytes time 2 ++ List.replicate 42 0

/-- A generated PFC frame: vector bits of the priorities in `on` (time `quanta`) and in `off` (time 0) (R132). -/
def pfcFrame (addr off on quanta : Nat) : List Nat :=
  ctrlMac ++ beBytes addr 6 ++ [0x88, 0x08, 0x01, 0x01] ++ beBytes (off.lor on) 2 ++
    ((List.range 8).map (fun p => beBytes (if bitAt on p then quanta else 0) 2)).flatten ++ List.replicate 26 0

/-- A changed PORTn_FC_CTRL.MODE takes effect at a frame boundary (R133): where TX_EN was 1 when the mode was rewritten, the
frame that leaves XOFF under the old mode is generated first; receive timers clear and every XOFF state starts at XON. -/
def State.applyFcMode (s : State) (n : Nat) : State :=
  let new := s.get PORT_FC_CTRL.MODE n
  let p := s.port n
  if new = p.fcMode then s
  else
    let xoff := s.get PORT_FC_STAT.XOFF n
    let leave := if p.fcTx = true ∧ xoff ≠ 0 then
        if p.fcMode = 1 then [⟨CtrlKind.pause, pauseFrame (s.get PORT_MAC_ADDR.ADDR n) 0⟩]
        else if p.fcMode = 2 then [⟨CtrlKind.pfc, pfcFrame (s.get PORT_MAC_ADDR.ADDR n) xoff 0 0⟩]
        else []
      else []
    let s := s.setPort n { p with fcMode := new, ctrlQ := p.ctrlQ ++ leave, pfcSent := 0 }
    (s.clearRxTimers n).put PORT_FC_STAT.XOFF 0 n

/-- Lanes sent since FRC `t`. -/
def State.lanesSince (s : State) (n t : Nat) : Nat := (s.frc.toNat - t) * 100 / byteTime (s.get PORT_MAC_CTRL.SPEED n)

/-- What a port loses when it leaves UP (R122, R136, R158, R161, R163): the packet in transmission ends with Error and
Terminate. The frame boundary lets a rewritten flow-control mode take effect, with no XOFF state left to leave (R133). -/
def State.linkLost (s : State) (n : Nat) (disabled : Bool) : State :=
  let p := s.port n
  let s := s.setPort n { p with tx := none, wait := none, ctrlQ := [], assy := none, idleAt := s.frc.toNat, dic := 0,
                                gate := .take }
  let s := match p.tx with
    | some t =>
      let s := s.onPort n (fun q => { q with wire := cutPacket (s.lanesSince n t.startAt) q.wire })
      (s.pc n pcTxAbort).endCopy n t.e .abort t.ts
    | none => s
  let s := match p.split with
    | some t => ((s.onPort n (fun q => { q with split := none })).pc n pcTxAbort).endCopy n t.e .abort t.ts
    | none => s
  let s := match p.wait with
    | some t => (s.pc n pcTxLinkDrop).endCopy n t.e .linkDrop 0
    | none => s
  let s := if p.rxOpen && !disabled then s.pc n pcRxCodeErr else s
  let s := s.onPort n (fun q => { q with rxOpen := false })
  let s := if p.assy.isSome then s.pc n pcRxAssyErr else s
  let s := (s.clearRxTimers n).put PORT_FC_STAT.XOFF 0 n
  let s := s.onPort n (fun q => { q with pfcSent := 0 })
  let s := s.put PORT_LPI_STAT.TX_STATE 0 n
  let s := s.put PORT_PM_STAT.TX_SPLIT 0 n
  let s := s.put PORT_PM_STAT.RX_ASSY 0 n
  (((s.put PORT_PM_STAT.VSTATE 0 n).put PORT_PM_STAT.ATTEMPTS 0 n).pmApply n).applyFcMode n

/-- A verify mPacket is generated (R158, R159). -/
def State.sendVerify (s : State) (n : Nat) : State :=
  let s := s.put PORT_PM_STAT.ATTEMPTS (s.get PORT_PM_STAT.ATTEMPTS n + 1) n
  s.onPort n (fun p => { p with ctrlQ := p.ctrlQ ++ [⟨.verify, List.replicate 60 0⟩], verifyAt := s.frc.toNat })

/-- Move port `n` to link state `new` (R120, R121, R122). -/
def State.setLink (s : State) (n new : Nat) : State :=
  let old := s.link n
  if new = old then s
  else
    let s := s.put PORT_MAC_STAT.LINK new n
    let s := if old = linkUp then
        ((s.linkLost n (new == linkDisabled)).pc n pcLinkDown).pevt PORT_EVT.LINK_DOWN n
      else s
    let s := if new = linkLocal then s.pevt PORT_EVT.LOCAL_FAULT n
      else if new = linkRemote then s.pevt PORT_EVT.REMOTE_FAULT n
      else s
    let s := if new = linkArming then s.onPort n (fun p => { p with armAt := s.frc.toNat }) else s
    if new = linkUp then (s.onPort n (fun p => { p with idleAt := s.frc.toNat })).pevt PORT_EVT.LINK_UP n else s

/-- Bring the link state of port `n` up to date; with UP_HOLD at 0, ARMING becomes UP in the next cycle (R120). -/
def State.linkEval (s : State) (n : Nat) : State :=
  let s := s.put PORT_MAC_STAT.PCS_LINK_OK (b2n (s.port n).linkOk) n
  let s := s.put PORT_MAC_STAT.CLK_OK (b2n (s.clkOn (txClk n) && s.clkOn (rxClk n))) n
  let c := s.linkCond n
  if c = linkArming then
    let s := if s.isUp n || s.link n == linkArming then s else s.setLink n linkArming
    if s.link n = linkArming ∧ s.get PORT_LINK_CFG.UP_HOLD n = 0 then s.setLink n linkUp else s
  else s.setLink n c

/-- UP_HOLD_EXPIRY: UP_HOLD milliseconds have passed in ARMING (R120). -/
def State.upHoldExpiry (s : State) (n : Nat) : State :=
  if s.link n = linkArming then
    (s.advanceTo ((s.port n).armAt + s.get PORT_LINK_CFG.UP_HOLD n * 1000000)).setLink n linkUp
  else s

/-! Received pause and PFC. -/

/-- A pause frame's time is loaded (R128). -/
def State.loadPause (s : State) (n t : Nat) : State :=
  s.heldNote (s.onPort n (fun p => { p with pauseEnd := if t = 0 then 0 else s.frc.toNat * 100 + t * s.quantum100 n })) n

/-- A waiting copy of a class that is paused goes back to its queue (R129). -/
def State.pausedCopy (s : State) (n : Nat) : State :=
  match (s.port n).wait with
  | some t => if s.classPaused n t.e.cls then s.discardWait n else s
  | none => s

/-- A PFC frame's times are loaded for the priorities its vector enables (R129). -/
def State.loadPfc (s : State) (n vec : Nat) (times : List Nat) : State :=
  let q := s.quantum100 n
  let t := s.onPort n (fun p => { p with pfcEnd := (List.range 8).map (fun i =>
    if bitAt vec i then (if times.getD i 0 = 0 then 0 else s.frc.toNat * 100 + times.getD i 0 * q)
    else p.pfcEnd.getD i 0) })
  (s.heldNote t n).pausedCopy n

/-- PORTn_PFC_MAP is written: a class that becomes paused loses its waiting copy (R129). -/
def State.pfcMapWrite (s : State) (n new : Nat) : State :=
  (s.heldNote (s.setRg (PORT_PFC_MAP.reg.key n 0) new) n).pausedCopy n

/-- A MAC control frame that passed R112, in the first matching row of R127. -/
def State.macControl (s : State) (n : Nat) (b : List Nat) : State :=
  let dst := b.take 6
  let op := beNat ((b.drop 14).take 2)
  let own := beBytes (s.get PORT_MAC_ADDR.ADDR n) 6
  let isPause := op == 1 && (dst == ctrlMac || dst == own)
  let isPfc := op == 0x101 && dst == ctrlMac
  let rx := s.on PORT_FC_CTRL.RX_EN n
  if s.on PORT_FC_STAT.WDOG_ACTIVE n then s.pc n pcRxPauseIgnored
  else if isPause && s.fcMode n == 1 && rx then
    (s.loadPause n (beNat ((b.drop 16).take 2))).pc n pcRxPause
  else if isPfc && s.fcMode n == 2 && rx then
    (s.loadPfc n (beNat ((b.drop 16).take 2))
      ((List.range 8).map (fun i => beNat ((b.drop (18 + 2 * i)).take 2)))).pc n pcRxPfc
  else if isPause || isPfc then s.pc n pcRxPauseIgnored
  else s.pc n pcRxCtrlUnknown

/-- Bytes in the RX FIFO of port `n`. -/
def State.fifoFill (s : State) (n : Nat) : Nat := ((s.port n).rxFifo.map (fun r => r.bytes.length)).foldl (· + ·) 0

/-- The timestamp TSC of a receive event in units of 2^-16 ns: raw FRC `raw`, delimiter in lane `d` (R371). -/
def State.tscRx (s : State) (n raw d : Nat) : Nat :=
  ((s.st80At raw + ((d + 1) * byteTime (s.get PORT_MAC_CTRL.SPEED n) * 65536 / 100 : Nat)
    - s.get PORT_TS_LAT.RX_LAT n) % 2 ^ 80).toNat
def State.tscTx (s : State) (n raw d : Nat) : Nat :=
  ((s.st80At raw + ((d + 1) * byteTime (s.get PORT_MAC_CTRL.SPEED n) * 65536 / 100 : Nat)
    + s.get PORT_TS_LAT.TX_LAT n) % 2 ^ 80).toNat

/-- An accepted frame is a broadcast, a multicast, or neither (R116). -/
def isBcast (b : List Nat) : Bool := b.take 6 == [255, 255, 255, 255, 255, 255]
def isMcast (b : List Nat) : Bool := bitAt (b.headD 0) 0 && !isBcast b

/-- One CE beat at port `n`'s speed, in ns, rounded up (R107). -/
def State.beatNs (s : State) (n : Nat) : Nat := s.bytesNs n (lanes n)

/-- FRC at the Start of a frame whose delimiter came `age` cycles ago in lane `lane`: in the same beat, or in the one before. -/
def State.rxStartAt (s : State) (n age lane : Nat) : Nat := s.frc.toNat - age - (if lane < 7 then s.beatNs n else 0)

/-- MAX_FRAME as it stood at FRC `t` (R113). -/
def State.maxAt (s : State) (n t : Nat) : Nat :=
  match (s.port n).maxLog.find? (fun e => decide (t < e.1)) with
  | some e => e.2
  | none => s.get PORT_MAX_FRAME.MAX_FRAME n

/-- PORTn_MAX_FRAME is written (R13, R113): a frame in progress, at most 65,536 bytes old (R114), goes on under the old value. -/
def State.maxFrameWrite (s : State) (n new : Nat) : State :=
  let old := s.get PORT_MAX_FRAME.MAX_FRAME n
  let s := s.onPort n (fun p =>
    { p with maxLog := p.maxLog.filter (fun e => decide (s.frc.toNat ≤ e.1 + s.bytesNs n 65552)) ++ [(s.frc.toNat, old)] })
  s.setRg (PORT_MAX_FRAME.reg.key n 0) new

/-- A whole frame, destination address through FCS, is received without a coding fault (R112, R113, R115, R116, R127);
its Start came at FRC `startAt`. -/
def State.rxWhole (s : State) (n ts startAt : Nat) (b : List Nat) : State :=
  let len := b.length
  let max := s.maxAt n startAt
  let body := b.take (len - 4)
  let stored := body.take (max - 4)
  let good := b.drop (len - 4) == fcsBytes body
  let fits := decide (s.fifoFill n + stored.length ≤ fifoBytes n)
  let big := decide (max < len)
  let drop := big && s.on PORT_MAC_CTRL.OVS_DROP n
  let s := s.crcTapRx n (if fits then stored else []) (fits && decide (64 ≤ len) && good && !drop)
  if !fits then s.pc n pcRxFifoOvf
  else if len < 64 then s.pc n pcRxRunt
  else if !good then s.pc n pcRxFcsErr
  else
    let s := if big then s.pc n pcRxOversize else s
    if drop then s.pc n pcRxOversizeDrop
    else if (body.drop 12).take 2 == [0x88, 0x08] then s.macControl n body
    else
      let s := (s.pc n pcRxFrames).countN PORT_CNT.COUNT len n pcRxOctets
      let s := if isBcast body then s.pc n pcRxBcast else if isMcast body then s.pc n pcRxMcast else s
      s.onPort n (fun p => { p with act := true, rxFifo := p.rxFifo ++ [⟨stored, big, ts, none, s.get GLB_BELL_NUM.BELL⟩] })

/-- A frame with a code fault is discarded and counted (R109). -/
def State.rxFault (s : State) (n : Nat) (b : List Nat) : State := (s.crcTapRx n (b.take (b.length - 4)) false).pc n pcRxCodeErr

/-- Is a verify or respond mPacket valid: 60 zero bytes and a good mCRC (R159)? -/
def mpacketOk (b : List Nat) : Bool :=
  b.take 60 == List.replicate 60 0 && b.drop 60 == mcrcBytes (List.replicate 60 0)

/-- A verify mPacket arrives: a valid one is answered (R159). -/
def State.verifySeen (s : State) (n : Nat) (b : List Nat) : State :=
  if mpacketOk b then s.onPort n (fun p => { p with ctrlQ := p.ctrlQ ++ [⟨.respond, List.replicate 60 0⟩] }) else s

/-- A respond mPacket arrives: a valid one ends VERIFYING (R158). -/
def State.respondSeen (s : State) (n : Nat) (b : List Nat) : State :=
  if mpacketOk b && s.get PORT_PM_STAT.VSTATE n == 1 then
    (s.put PORT_PM_STAT.VSTATE 2 n).evt PORT_GCL_EVT.VERIFY_OK (gclSrc n) n
  else s

/-- Discard the assembly (R163). -/
def State.assyErr (s : State) (n : Nat) : State :=
  ((s.onPort n (fun p => { p with assy := none })).put PORT_PM_STAT.RX_ASSY 0 n).pc n pcRxAssyErr

/-- A first fragment of index `i` (R163): it opens an assembly, or is a whole frame where its check bytes are no mCRC. -/
def State.firstFragment (s : State) (n ts startAt i : Nat) (b : List Nat) : State :=
  let data := b.take (b.length - 4)
  let s := if (s.port n).assy.isSome then s.assyErr n else s
  if b.drop (b.length - 4) == mcrcBytes data then
    (s.onPort n (fun p => { p with assy := some ⟨i, 0, data, ts, startAt⟩ })).put PORT_PM_STAT.RX_ASSY 1 n
  else s.rxWhole n ts startAt b

/-- A continuation of index `i` with count byte `cnt` (R157, R163): it completes the frame with a good FCS of the whole of it, or
goes on with a good mCRC. -/
def State.nextFragment (s : State) (n i cnt : Nat) (b : List Nat) : State :=
  match (s.port n).assy with
  | none => s.assyErr n
  | some a =>
    if a.idx ≠ i ∨ smdS.getD a.next 0 ≠ cnt then s.assyErr n
    else
      let all := a.data ++ b.take (b.length - 4)
      let chk := b.drop (b.length - 4)
      if chk == fcsBytes all then
        let s := (s.onPort n (fun p => { p with assy := none })).put PORT_PM_STAT.RX_ASSY 0 n
        (s.pc n pcRxReassembled).rxWhole n a.ts a.startAt (all ++ chk)
      else if chk == mcrcBytes all then
        s.onPort n (fun p => { p with assy := some { a with next := (a.next + 1) % 4, data := all } })
      else s.assyErr n

/-- A packet without a code fault, by its delimiter (R109, R112, R157, R159, R163): `age` cycles since the CE cycle of the
delimiter, in lane `lane` (R111). With preemption disabled every delimiter but 0xD5 is a code fault, otherwise one that
R157 does not list. -/
def State.rxPacket (s : State) (n age lane smd : Nat) (b : List Nat) : State :=
  let ts := s.tscRx n (s.frc.toNat - age) lane
  let at_ := s.rxStartAt n age lane
  if smd = smdE then s.rxWhole n ts at_ b
  else if !s.on PORT_PM_CFG.EN n then s.rxFault n b
  else if smd = smdV then s.verifySeen n b
  else if smd = smdR then s.respondSeen n b
  else
    match smdS.findIdx? (· == smd), smdC.findIdx? (· == smd) with
    | some i, _ => s.firstFragment n ts at_ i b
    | none, some i => s.nextFragment n i (b.headD 0) b.tail
    | none, none => s.rxFault n b

/-- RX_JABBER: a frame is open 65,536 bytes after its Start (R114). -/
def State.rxJabber (s : State) (n : Nat) : State :=
  if s.isUp n = true ∧ (s.port n).gate ≠ .jabber then
    (s.onPort n (fun p => { p with rxOpen := false, gate := .jabber })).pc n pcRxJabber
  else s

/-- The lanes received since the last packet, up to the end of the next (R105, R109, R114). Outside UP the input is discarded
and not counted (R120). -/
def State.rxLanes (s : State) (n age lane : Nat) (l : List Lane) : State :=
  if s.isUp n then
    let clear := fun (o : Bool) (g : RxGate) => s.onPort n (fun p => { p with rxOpen := o, gate := g })
    match rxRead (s.on PORT_PM_CFG.EN n) (s.port n).gate l with
    | .nothing g => s.onPort n (fun p => { p with gate := g })
    | .opened => clear true .take
    | .jabber => s.rxJabber n
    | .fault b => (clear false .take).rxFault n b
    | .packet smd b => (clear false .take).rxPacket n age lane smd b
  else s

/-- A whole frame from destination address to FCS, after an Idle. -/
def State.rxFrame (s : State) (n age lane : Nat) (b : List Nat) : State :=
  s.rxLanes n age lane (.idle :: framePacket smdE b)

/-- What stands on the stream of the PCS: in loopback the port hears its own transmitter only (R120). -/
def State.fromPcs (s : State) (n : Nat) (f : State → State) : State := if s.on PORT_MAC_CTRL.LOOP n then s else f s

/-- The lanes of a fragment with start code `smd`; an SMD-Cx has its count byte `cnt` behind it (R157, R160). -/
def fragmentLanes (smd cnt : Nat) (b : List Nat) : List Lane :=
  if smdC.contains smd then packet 5 (smd :: cnt :: b) else framePacket smd b

/-- In loopback the packet just sent reaches the port's own receiver (R120); `raw` is the FRC of its delimiter. -/
def State.loopBack (s : State) (n raw : Nat) : State :=
  if s.on PORT_MAC_CTRL.LOOP n then
    s.rxLanes n (s.frc.toNat - raw) (((s.port n).startLane + 7) % lanes n) (s.port n).wire
  else s

/-- MISALIGNED_START: a Start in a lane not divisible by 4 while no frame is open: counted once until the receiver stops
discarding (R109). -/
def State.misalignedStart (s : State) (n : Nat) : State :=
  if s.isUp n = true ∧ (s.port n).rxOpen = false ∧ (s.port n).gate = .take then
    (s.onPort n (fun p => { p with gate := .misaligned })).pc n pcRxCodeErr
  else s

/-- The statuses of local and remote fault after a received word (R110). -/
def State.faultWord (n : Nat) (s : State) (l : List Lane) : State :=
  let p := s.port n
  let lf := p.lf.word (setsIn 1 l)
  let rf := p.rf.word (setsIn 2 l)
  let s := s.setPort n { p with lf := lf, rf := rf }
  (s.put PORT_MAC_STAT.LF_RX (b2n (lf.status (s.on PORT_MAC_STAT.LF_RX n))) n).put PORT_MAC_STAT.RF_RX
    (b2n (rf.status (s.on PORT_MAC_STAT.RF_RX n))) n

/-- LOCAL_FAULT: 64-bit words received between packets, first word first (R110): the fault statuses follow their ordered sets,
and the receiver looks for a Start that it takes. -/
def State.rxWords (s : State) (n : Nat) (ws : List (List Lane)) : State :=
  if s.clkOn (rxClk n) then ((s.forEach ws (State.faultWord n)).rxLanes n 0 0 ws.flatten).linkEval n else s

/-- LINK_STATE_CHANGE: the PCSn_LINK_OK input and whether a frame is open on the receive side; while the main domain is in
reset only the input is followed (R120). -/
def State.linkInput (s : State) (n : Nat) (linkOk rxOpen : Bool) : State :=
  let s := s.onPort n (fun p => { p with linkOk := linkOk })
  if s.chip.mainReset then s
  else (s.onPort n (fun p => { p with rxOpen := rxOpen && s.isUp n })).linkEval n

/-- RX_LPI: the receiver starts or stops seeing LPI (R137); outside UP its input is discarded (R120). -/
def State.rxLpi (s : State) (n : Nat) (lpi : Bool) : State := s.put PORT_LPI_STAT.RX_LPI (b2n (lpi && s.isUp n)) n

/-- In loopback the port sees its own recess (R120, R137). -/
def State.loopLpi (s : State) (n : Nat) (lpi : Bool) : State := if s.on PORT_MAC_CTRL.LOOP n then s.rxLpi n lpi else s

/-- A pause frame as the link partner sends it, with FCS: to the multicast address or to the port's own (R127, R128). -/
def State.pauseIn (s : State) (n : Nat) (own : Bool) (quanta : Nat) : List Nat :=
  let b := (if own then beBytes (s.get PORT_MAC_ADDR.ADDR n) 6 else ctrlMac) ++ List.replicate 6 0 ++
    [0x88, 0x08, 0x00, 0x01] ++ beBytes quanta 2 ++ List.replicate 42 0
  b ++ fcsBytes b

/-- A PFC frame as the link partner sends it, with FCS: the priority vector and its eight times (R127, R129). -/
def pfcIn (vec times : Nat) : List Nat :=
  let b := ctrlMac ++ List.replicate 6 0 ++ [0x88, 0x08, 0x01, 0x01] ++ beBytes vec 2 ++ beBytes times 16 ++
    List.replicate 26 0
  b ++ fcsBytes b

/-! Frames in transmission. -/

/-- Is anything ready to leave port `n` as a generated control frame (R130)? -/
def State.ctrlPending (s : State) (n : Nat) : Bool := !(s.port n).ctrlQ.isEmpty

/-- The gap of R108 before the next Start: `extra` further aligned starts pass when the frame became ready later. Answers
the gap and the new deficit; `pos` is the byte position after the last FCS byte. -/
def gapRule (a pos d extra : Nat) : Nat × Nat :=
  let long := 12 + (a - (pos + 12) % a) % a
  let short := long - a
  let g := if d + (12 - short) ≤ a - 1 ∧ a ≤ long then short else long
  let g := g + extra * a
  (g, if g < 12 then d + (12 - g) else d - (g - 12))

/-- The alignment a of R108. -/
def State.align (s : State) (n : Nat) : Nat := if 6 ≤ s.get PORT_MAC_CTRL.SPEED n then 8 else 4

/-- Place a Start after the gap rule (R108): the lane of the Start in its beat. -/
def State.placeStart (s : State) (n extra : Nat) : State × Nat :=
  let p := s.port n
  let r := gapRule (s.align n) p.txPos p.dic extra
  let start := p.txPos + r.1
  (s.setPort n { p with txPos := start % 16, dic := r.2 }, start % lanes n)

/-- The FRC of the CE cycle that carries the delimiter of a packet whose Start is in lane `start` at FRC `t`: the delimiter lies
seven lanes on, in the same beat or the next (R111). -/
def State.delimAt (s : State) (n start t : Nat) : Nat := t + (if start + 7 < lanes n then 0 else s.beatNs n)

/-- The transmit timestamp of a packet whose Start is in lane `start` at FRC `t` (R111, R371). -/
def State.startTs (s : State) (n start t : Nat) : Nat := s.tscTx n (s.delimAt n start t) ((start + 7) % lanes n)

/-- The timestamp, in ns, of a frame that starts `after` ns from now, `extra` aligned lanes after the gap rule. -/
def State.wouldBe (s : State) (n after extra : Nat) : Nat :=
  s.startTs n (s.placeStart n extra).2 (s.frc.toNat + after) / 65536

/-- Would that start give a timestamp at or after the launch time (R165)? -/
def State.launchStart (s : State) (n : Nat) (e : QEntry) (extra : Nat) : Bool :=
  match e.f.launch with
  | none => true
  | some lt => decide (0 ≤ wrapDiff 64 (s.wouldBe n 0 extra) lt)

/-- Would it give a timestamp later than LT + LATE_TOL (R167)? -/
def State.isLate (s : State) (n : Nat) (e : QEntry) (after extra : Nat) : Bool :=
  match e.f.launch with
  | none => false
  | some lt => decide ((s.get PORT_LAUNCH_CFG.LATE_TOL n : Int) < wrapDiff 64 (s.wouldBe n after extra) lt)

/-- Judge a launch-time frame where the transmitter could first start it (R167): dropped, marked late, or in time. Answers the
entry to go on with. -/
def State.judgeLate (s : State) (n : Nat) (e : QEntry) (extra : Nat) : State × Option (QEntry × Bool) :=
  if s.isLate n e 0 extra then
    let s := s.evt PORT_GCL_EVT.LATE (gclSrc n) n
    if s.on PORT_LAUNCH_CFG.LATE_SEND n then (s, some (e, true))
    else ((s.pc n pcTxLateDrop).endCopy n e .late 0, none)
  else (s, some (e, false))

/-- Judge the frames of class `c` as each reaches the head of its queue, against the earliest start the transmitter has (R167): a
late one is dropped, or stays where LATE_SEND is 1; at most `fuel` frames. -/
def State.judgeHeads (n c : Nat) : Nat → State → State
  | 0, s => s
  | fuel + 1, s =>
    match s.cq n c with
    | [] => s
    | e :: l =>
      if s.isUp n && s.isLate n e (s.startIn n) 0 then
        let s := s.evt PORT_GCL_EVT.LATE (gclSrc n) n
        if s.on PORT_LAUNCH_CFG.LATE_SEND n then s
        else State.judgeHeads n c fuel (((s.setCq n c l).pc n pcTxLateDrop).endCopy n e .late 0)
      else s

/-- A frame has reached the head of class `c`. -/
def State.headReached (s : State) (n c : Nat) : State := State.judgeHeads n c (s.cq n c).length s

/-- Bytes in the TX FIFO: every frame it holds stays until its Terminate (R119). -/
def State.txFill (s : State) (n : Nat) : Nat :=
  let p := s.port n
  ((p.tx.toList ++ p.split.toList ++ p.wait.toList).map (fun t => t.data.length)).foldl (· + ·) 0

/-- Has the TX FIFO room for the next frame of class `c` (R103, R119)? -/
def State.txRoom (s : State) (n c : Nat) : Bool :=
  match s.cq n c with
  | [] => true
  | e :: _ => decide (s.txFill n + (s.wireLen n e - 4) ≤ fifoBytes n)

/-- EGRESS_COPY on a wired port (R118 to R120, R292): while the link is not UP the head frame is dropped; otherwise, where
the TX FIFO has room for the whole frame, the scheduler's choice is read from buffer memory and copied in. -/
def State.macCopy (s : State) (n : Nat) : State :=
  if !s.isUp n then
    let r := s.schedule n (fun c => (s.cq n c).head?.map (s.wireLen n))
    match r.2 with
    | none => r.1
    | some c =>
      match r.1.popCq n c with
      | (s, some e) => (s.pc n pcTxLinkDrop).endCopy n e .linkDrop 0
      | (s, none) => s
  else if (s.port n).wait.isSome || ((s.port n).tx.isSome && (s.port n).split.isSome) then s
  else
    let r := s.schedule n (s.copyElig n)
    match r.2 with
    | none => r.1
    | some c =>
      if !s.txRoom n c then s
      else
        match r.1.popCq n c with
        | (s, none) => s
        | (s, some e) =>
          let s := s.headReached n c
          if s.get PORT_MAX_FRAME.MAX_FRAME n < s.wireLen n e then
            (s.pc n pcTxOversizeDrop).endCopy n e .oversize 0
          else
            match s.fetchFrame n e with
            | (s, none) => s.endCopy n e .memErr 0
            | (s, some payload) =>
              let data := s.copyBytes n e payload
              let s := s.crcTapRd e.f.src e.f.ptr payload
              let (s, marks) := s.crcTapTx n data
              let ok := s.gateElig n e.cls (s.wireLen n e) (s.startIn n)
              let t := TxFrame.mk e data (decide (s.editedLen n e < 60)) 0 0 0 false s.frc.toNat false 0 marks ok
              s.onPort n (fun p => { p with wait := some t })

/-- Is the transmitter free to start something: link UP, nothing in transmission, not in recess (R119, R136)? -/
def State.txFree (s : State) (n : Nat) : Bool :=
  s.isUp n && (s.port n).tx.isNone && s.get PORT_LPI_STAT.TX_STATE n == 0

/-- May the waiting frame start, `extra` aligned lanes after the gap rule, once the transmitter is free (R128, R151, R155, R161,
R162, R165)? -/
def State.mayStart (s : State) (n : Nat) (t : TxFrame) (extra : Nat) : Bool :=
  !s.pauseTimer n && !s.classPaused n t.e.cls && s.gateElig n t.e.cls (s.wireLen n t.e) 0 && s.launchStart n t.e extra &&
    (!s.isPreemptable n t.e.cls ||
      ((s.port n).split.isNone && !s.on PORT_PM_STAT.TX_SPLIT n && !s.on PORT_GCL_STAT.HOLD n))

/-- May the waiting frame start now (R119, R130)? -/
def State.startReady (s : State) (n : Nat) (t : TxFrame) (extra : Nat) : Bool :=
  s.txFree n && !s.ctrlPending n && s.mayStart n t extra

/-- The FCS of a transmitted frame: complemented for a frame with the OVERSIZE mark (R118). -/
def txFcs (e : QEntry) (data : List Nat) : List Nat :=
  if bitAt e.f.flags 0 then (fcsBytes data).map (fun b => 255 - b) else fcsBytes data

/-- The bytes of a frame from what has been sent on, FCS included. -/
def TxFrame.rest (t : TxFrame) : List Nat := (t.data ++ txFcs t.e t.data).drop t.sent

/-- The packet that carries the bytes `b` of a frame next: an express frame, a first fragment, or a continuation (R157, R160). -/
def TxFrame.packet (t : TxFrame) (b : List Nat) : List Lane :=
  if !t.preempt then framePacket smdE b
  else if t.frags = 0 then framePacket (smdS.getD t.smd 0) b
  else contPacket t.smd ((t.frags - 1) % 4) b

/-- TX_FRAME_START: the waiting frame's Start is sent (R108, R111, R119, R160, R167). -/
def State.txStart (s : State) (n extra : Nat) : State :=
  match (s.port n).wait with
  | none => s
  | some t =>
    if s.startReady n t extra then
      match s.judgeLate n t.e extra with
      | (s, none) => (s.onPort n (fun p => { p with wait := none })).idleFrom n
      | (s, some (e, late)) =>
        let pre := s.isPreemptable n e.cls
        let r := s.placeStart n extra
        let s := r.1
        let p := s.port n
        let t := { t with e := e, ts := s.startTs n r.2 s.frc.toNat, late := late, preempt := pre, startAt := s.frc.toNat,
                          smd := if pre then p.smd else 0 }
        let s := s.setPort n { p with wait := none, tx := some t, wire := t.packet t.rest, startLane := r.2,
                                      smd := if pre then (p.smd + 1) % 4 else p.smd }
        if late then s.pc n pcTxLateSent else s
    else s

/-- TERMINATE: the frame's Terminate is sent: it leaves the FIFO, counts, releases its buffer and completes (R117, R119,
R161, R327). In loopback it is received. A cleared EN and a new flow-control mode then take effect (R123, R133). -/
def State.txTerminate (s : State) (n : Nat) : State :=
  match (s.port n).tx with
  | none => s
  | some t =>
    let len := t.data.length + 4
    let s := s.onPort n (fun p => { p with tx := none, act := true, idleAt := s.frc.toNat,
                                           txPos := (p.txPos + 8 + (len - t.sent)) % 16 })
    let s := (s.pc n pcTxFrames).countN PORT_CNT.COUNT len n pcTxOctets
    let s := if t.padded then s.pc n pcTxPad else s
    let s := if 0 < t.frags then s.pc n pcTxPreempted else s
    let s := s.crcSent t.marks
    let s := s.endCopy n t.e (if t.late then .sentLate else .sent) t.ts
    let s := s.loopBack n (s.delimAt n (s.port n).startLane t.startAt)
    let s := (s.applyFcMode n).pmApply n
    if (s.port n).disabling then
      (s.onPort n (fun p => { p with disabling := false })).linkEval n
    else s

/-! Preemption. -/

/-- The first legal point at or after what has been sent (R160): data bytes in the fragment, if one exists. -/
def State.legalPoint (s : State) (n : Nat) (t : TxFrame) : Option Nat :=
  let cut := (s.minFrag n + 7) / 8 * 8
  let elapsed := (s.frc.toNat - t.startAt) * 100 / byteTime (s.get PORT_MAC_CTRL.SPEED n) - 8
  let at_ := max cut ((elapsed + 7) / 8 * 8)
  if at_ + 64 ≤ t.data.length + 4 - t.sent then some at_ else none

/-- Is there an event after which the frame in transmission is cut at its next legal point (R161): an express frame ready to
start, the hold, its gate closed? -/
def State.cutCause (s : State) (n : Nat) (t : TxFrame) : Bool :=
  s.on PORT_GCL_STAT.HOLD n || !s.gateOpen n t.e.cls ||
    (match (s.port n).wait with
      | some w => !s.isPreemptable n w.e.cls && s.mayStart n w 0
      | none => false)

/-- A frame whose rest would pass its close time is cut at the last legal point whose fragment ends by then (R164): is `k` that
point, the next one being too late or too near the frame's end? -/
def State.lastPoint (s : State) (n : Nat) (t : TxFrame) (k : Nat) : Bool :=
  s.gclRun n && (match s.closeIn n t.e.cls 0 with
    | some r => decide (r < s.startIn n - s.bytesNs n 12) &&
        (decide (s.frc.toNat - t.startAt + r < s.bytesNs n (8 + k + 8 + 4)) ||
          decide (t.data.length + 4 - t.sent < k + 8 + 64))
    | none => false)

/-- PREEMPT_CUT: the preemptable frame in transmission reaches a legal point after a cut event; its fragment ends with an
mCRC (R159, R160, R161). -/
def State.preemptCut (s : State) (n : Nat) : State :=
  match (s.port n).tx with
  | none => s
  | some t =>
    match s.legalPoint n t with
    | none => s
    | some k =>
      if t.preempt && (s.cutCause n t || s.lastPoint n t k) then
        let s := s.onPort n (fun p => { p with tx := none, split := some { t with sent := t.sent + k, frags := t.frags + 1 },
                                               txPos := (p.txPos + 8 + k + 4) % 16,
                                               wire := t.packet (t.rest.take k ++ mcrcBytes (t.data.take (t.sent + k))) })
        (s.put PORT_PM_STAT.TX_SPLIT 1 n).loopBack n (s.delimAt n (s.port n).startLane t.startAt)
      else s

/-- PREEMPT_CONTINUE: the cut frame continues with its next fragment when no express frame is ready, the hold is released
and its gate is open (R161). A pause does not hold it: its Start was sent before (R128). -/
def State.preemptContinue (s : State) (n extra : Nat) : State :=
  match (s.port n).split with
  | none => s
  | some t =>
    let express := match (s.port n).wait with
      | some w => !s.isPreemptable n w.e.cls && s.mayStart n w 0
      | none => false
    if s.txFree n && !express && !s.on PORT_GCL_STAT.HOLD n && s.gateOpen n t.e.cls && !s.ctrlPending n then
      let r := s.placeStart n extra
      let s := r.1
      let s := s.onPort n (fun p => { p with split := none, tx := some { t with startAt := s.frc.toNat },
                                             wire := t.packet t.rest, startLane := r.2 })
      s.put PORT_PM_STAT.TX_SPLIT 0 n
    else s

/-- VERIFY_START: PM EN is 1 and the link is UP (R158). -/
def State.verifyStart (s : State) (n : Nat) : State :=
  if s.on PORT_PM_CFG.EN n && s.isUp n && s.get PORT_PM_STAT.VSTATE n == 0 then
    if s.on PORT_PM_CFG.VERIFY_DIS n then s.put PORT_PM_STAT.VSTATE 2 n
    else ((s.put PORT_PM_STAT.VSTATE 1 n).put PORT_PM_STAT.ATTEMPTS 0 n).sendVerify n
  else s

/-- VERIFY_MS_EXPIRY: VERIFY_MS elapsed in VERIFYING (R158). -/
def State.verifyExpiry (s : State) (n : Nat) : State :=
  if s.get PORT_PM_STAT.VSTATE n = 1 then
    let s := s.advanceTo ((s.port n).verifyAt + s.get PORT_PM_CFG.VERIFY_MS n * 1000000)
    if s.get PORT_PM_STAT.ATTEMPTS n < 3 then s.sendVerify n
    else (s.put PORT_PM_STAT.VSTATE 3 n).evt PORT_GCL_EVT.VERIFY_FAIL (gclSrc n) n
  else s

/-! Flow control of the block's own traffic (R131, R132), the watchdog (R134). -/

/-- The XOFF condition of priority `p` (R131), and its XON condition; in pause mode priority 0 stands for the port. -/
def State.xoffWanted (s : State) (n p : Nat) : Bool :=
  let held := if s.fcMode n = 1 then mapGet (fun _ => 0) s.mem.srcBytes n else mapGet (fun _ => 0) s.mem.priBytes (n * 8 + p)
  let force := if s.fcMode n = 1 then s.get PORT_FC_CTRL.FORCE n != 0 else bitAt (s.get PORT_FC_CTRL.FORCE n) p
  decide (s.get PORT_FC_THRESH.XOFF_LVL n * 256 ≤ held) ||
    decide (s.get PORT_FC_THRESH.FIFO_XOFF n * 256 ≤ s.fifoFill n) || force

def State.xonWanted (s : State) (n p : Nat) : Bool :=
  let held := if s.fcMode n = 1 then mapGet (fun _ => 0) s.mem.srcBytes n else mapGet (fun _ => 0) s.mem.priBytes (n * 8 + p)
  let force := if s.fcMode n = 1 then s.get PORT_FC_CTRL.FORCE n != 0 else bitAt (s.get PORT_FC_CTRL.FORCE n) p
  decide (held ≤ s.get PORT_FC_THRESH.XON_LVL n * 256) &&
    decide (s.fifoFill n ≤ s.get PORT_FC_THRESH.FIFO_XON n * 256) && !force

/-- Generate the pause or PFC frame for XOFF states `new` (R132). -/
def State.fcFrame (s : State) (n new : Nat) : State :=
  let addr := s.get PORT_MAC_ADDR.ADDR n
  let q := s.get PORT_FC_CTRL.QUANTA n
  s.onPort n (fun p =>
    if p.fcMode = 1 then { p with ctrlQ := p.ctrlQ ++ [⟨.pause, pauseFrame addr (if new = 0 then 0 else q)⟩] }
    else { p with ctrlQ := p.ctrlQ ++ [⟨.pfc, pfcFrame addr (p.pfcSent - p.pfcSent.land new) new q⟩], pfcSent := new })

/-- XOFF: the XOFF states of port `n` are brought up to date, and a change generates its frame (R131, R132). DESIGN CHOICE (log
entry 136): none is kept while the link is not UP, and the bits stay as they are while TX_EN is 0. -/
def State.fcEval (s : State) (n : Nat) : State :=
  if s.on PORT_FC_CTRL.TX_EN n = true ∧ s.fcMode n ≠ 0 ∧ s.isUp n = true then
    let old := s.get PORT_FC_STAT.XOFF n
    let pris := if s.fcMode n = 1 then [0] else List.range 8
    let new := pris.foldl (fun m p =>
      if bitAt old p then (if s.xonWanted n p then m else m + 2 ^ p)
      else (if s.xoffWanted n p then m + 2 ^ p else m)) 0
    if new = old then s else (s.put PORT_FC_STAT.XOFF new n).fcFrame n new
  else s

/-- Is the port inside a granted slot long enough for a generated control frame (R155)? Outside slot mode always. -/
def State.ctrlSlot (s : State) (n : Nat) : Bool :=
  if s.gclRun n && s.on PORT_GCL_CFG.SLOT n then
    (List.range 8).any (fun c => s.gateElig n c 64 0)
  else true

/-- The packet of a generated control frame (R132, R159). -/
def CtrlFrame.packet (f : CtrlFrame) : List Lane :=
  match f.kind with
  | .pause => framePacket smdE (f.bytes ++ fcsBytes f.bytes)
  | .pfc => framePacket smdE (f.bytes ++ fcsBytes f.bytes)
  | .verify => framePacket smdV (f.bytes ++ mcrcBytes f.bytes)
  | .respond => framePacket smdR (f.bytes ++ mcrcBytes f.bytes)

/-- TX_PAUSE: the generated control frame at the front is sent at the frame boundary, `extra` aligned lanes after the gap rule
(R108, R130, R132, R159). -/
def State.txCtrl (s : State) (n extra : Nat) : State :=
  match (s.port n).ctrlQ with
  | [] => s
  | f :: rest =>
    if s.txFree n && s.ctrlSlot n then
      let r := s.placeStart n extra
      let s := r.1.onPort n (fun p => { p with ctrlQ := rest, wire := f.packet, startLane := r.2, idleAt := s.frc.toNat,
                                               txPos := (p.txPos + 72) % 16 })
      let s := match f.kind with
        | .pause => (s.onPort n (fun p => { p with fcSentAt := s.frc.toNat })).pc n pcTxPause
        | .pfc => (s.onPort n (fun p => { p with fcSentAt := s.frc.toNat })).pc n pcTxPause
        | _ => s
      s.loopBack n s.frc.toNat
    else s

/-- PAUSE_REFRESH: REFRESH quanta have passed since the last frame while XOFF lasts (R132). -/
def State.fcRefresh (s : State) (n : Nat) : State :=
  let x := s.get PORT_FC_STAT.XOFF n
  if s.on PORT_FC_CTRL.TX_EN n = true ∧ x ≠ 0 then
    (s.advanceTo ((s.port n).fcSentAt + (s.get PORT_FC_CTRL.REFRESH n * s.quantum100 n + 99) / 100)).fcFrame n x
  else s

/-- PAUSE_TIMER_EXPIRY: the pause timer reaches zero (R128). -/
def State.pauseExpiry (s : State) (n : Nat) : State :=
  let e := (s.port n).pauseEnd
  if e = 0 then s
  else (s.advanceTo ((e + 99) / 100)).onPort n (fun p => { p with pauseEnd := 0 })

/-- PFC_TIMER_EXPIRY: the timer of priority `p` reaches zero (R129). -/
def State.pfcExpiry (s : State) (n p : Nat) : State :=
  let e := (s.port n).pfcEnd.getD p 0
  if e = 0 then s
  else (s.advanceTo ((e + 99) / 100)).onPort n (fun q => { q with pfcEnd := q.pfcEnd.set p 0 })

/-- When the last running receive timer of port `n` ends, in TIME_CK cycles. -/
def State.rxTimersEnd (s : State) (n : Nat) : Nat := (((s.port n).pfcEnd.foldl max (s.port n).pauseEnd) + 99) / 100

/-- The watchdog trips (R134). -/
def State.wdogTrip (s : State) (n : Nat) : State :=
  let s := (s.put PORT_FC_STAT.WDOG_TRIP 1 n).put PORT_FC_STAT.WDOG_ACTIVE 1 n
  (s.clearRxTimers n).pevt PORT_EVT.PAUSE_WDOG n

/-- PAUSE_WDOG: paused time exceeds BUDGET (R134); time passes to that moment where the running timers last so long. DESIGN
CHOICE (log entry 135): the paused time is compared in ns, not in the whole microseconds that WDOG_USED shows. -/
def State.pauseWdog (s : State) (n : Nat) : State :=
  let budget := s.get PORT_FC_WDOG.BUDGET n * 1000
  if s.get PORT_FC_WDOG.BUDGET n = 0 ∨ s.on PORT_FC_STAT.WDOG_ACTIVE n = true then s
  else
    let t := s.frc.toNat + (budget + 1 - (s.port n).wdogNs)
    let s := if t ≤ s.rxTimersEnd n then s.advanceTo t else s
    if budget < (s.port n).wdogNs then s.wdogTrip n else s

/-- A write of 1 to WDOG_TRIP (R134). -/
def State.wdogClear (s : State) (n : Nat) : State :=
  let s := (s.put PORT_FC_STAT.WDOG_TRIP 0 n).put PORT_FC_STAT.WDOG_ACTIVE 0 n
  (s.put PORT_FC_STAT.WDOG_USED 0 n).onPort n (fun p => { p with wdogNs := 0 })

/-- The watchdog at a term boundary (R134). -/
def State.wdogTerm (s : State) (n : Nat) : State :=
  let s := (s.put PORT_FC_STAT.WDOG_USED 0 n).onPort n (fun p => { p with wdogNs := 0 })
  if s.on PORT_FC_WDOG.HOLD n then s else s.put PORT_FC_STAT.WDOG_ACTIVE 0 n

/-! Recess (R135 to R137, R154). -/

/-- The closed run that contains now, not continued across the cycle end, in ns (R154). -/
def State.closedRun (s : State) (n : Nat) : Nat :=
  (((s.gclAhead n).takeWhile (fun e => e.1 == 0)).map (fun e => e.2)).foldl (· + ·) 0

/-- Is the transmitter idle as R135 asks: EN 1, link UP, not at 10 Mbit/s, an empty TX FIFO, no frame ready, no control frame
pending? -/
def State.idleOk (s : State) (n : Nat) : Bool :=
  s.on PORT_LPI_CFG.EN n && s.isUp n && s.get PORT_MAC_CTRL.SPEED n != 0 &&
    (s.port n).tx.isNone && (s.port n).wait.isNone && (s.port n).split.isNone && !s.egressReady n && !s.ctrlPending n

/-- May the transmitter be in recess (R135, R154)? -/
def State.recessOk (s : State) (n : Nat) : Bool :=
  s.idleOk n &&
    (!s.gclRun n || decide ((s.get PORT_LPI_CFG.TX_WAKE n + s.get PORT_GCL_CFG.LPI_MIN n) * 1000 ≤ s.closedRun n))

/-- RECESS_ENTRY: the conditions have held for ENTRY_IDLE microseconds (R135) and hold at that moment, when the closed run is
long enough (R154). -/
def State.recessEntry (s : State) (n : Nat) : State :=
  if s.get PORT_LPI_STAT.TX_STATE n = 0 ∧ s.idleOk n = true then
    let t := s.advanceTo ((s.port n).idleAt + s.get PORT_LPI_CFG.ENTRY_IDLE n * 1000)
    if t.recessOk n then (t.put PORT_LPI_STAT.TX_STATE 1 n).loopLpi n true else s
  else s

/-- Leave recess: Idle is sent, and no Start for TX_WAKE microseconds (R136). -/
def State.wakePort (s : State) (n : Nat) : State :=
  ((s.put PORT_LPI_STAT.TX_STATE 2 n).onPort n (fun p =>
    { p with wakeAt := s.frc.toNat + s.get PORT_LPI_CFG.TX_WAKE n * 1000 })).loopLpi n false

/-- Is there a cause to leave recess (R136, R154)? -/
def State.wakeCause (s : State) (n : Nat) : Bool :=
  !s.on PORT_LPI_CFG.EN n || s.egressReady n || s.ctrlPending n || (s.port n).wait.isSome || (s.port n).split.isSome ||
    (s.gclRun n && decide (s.closedRun n ≤ s.get PORT_LPI_CFG.TX_WAKE n * 1000)) ||
    (List.range 8).any (fun c =>
      (s.cq n c).any (fun e => e.f.launch.isSome && s.launchReached e (s.get PORT_LPI_CFG.TX_WAKE n * 1000)))

/-- RECESS_EXIT (R136); in DOZE, WATCH and WAKING recess is forced (R510, R519). -/
def State.recessExit (s : State) (n : Nat) : State :=
  if s.get PORT_LPI_STAT.TX_STATE n = 1 ∧ s.wakeCause n = true ∧ s.get PWR_STAT.STATE < 2 then s.wakePort n else s

/-- WAKING_END: TX_WAKE has elapsed (R136); the deficit count of R108 restarts. -/
def State.wakingEnd (s : State) (n : Nat) : State :=
  if s.get PORT_LPI_STAT.TX_STATE n = 2 then
    let s := (s.advanceTo (s.port n).wakeAt).put PORT_LPI_STAT.TX_STATE 0 n
    s.onPort n (fun p => { p with dic := 0, idleAt := s.frc.toNat })
  else s

/-- PORTn_LPI_CFG was written: a cleared EN leaves recess (R136). -/
def State.lpiCfgChanged (s : State) (n : Nat) : State :=
  let s := s.onPort n (fun p => { p with idleAt := s.frc.toNat })
  if s.get PORT_LPI_STAT.TX_STATE n = 1 ∧ s.on PORT_LPI_CFG.EN n = false then s.wakePort n else s

/-- LAUNCH_AVAILABLE: a launch-time frame at the head of a class reaches LT − LOOKAHEAD (R165): time passes to the earliest
such moment, and the frame may be copied. -/
def State.launchAvailable (s : State) (n : Nat) : State :=
  let ts := (List.range 8).filterMap (fun c => match s.cq n c with
    | e :: _ => e.f.launch.map (fun lt => s.frcAtSt (lt - s.get PORT_LAUNCH_CFG.LOOKAHEAD n))
    | [] => none)
  match ts with
  | [] => s
  | t :: rest => s.advanceTo (rest.foldl min t)

/-- A write of PORTn_PM_CFG with new word `new` (R149, R155): setting EN in assigned-time-slot mode is refused; HOLD_ADV and
VERIFY_MS change at once, the other fields at their frame boundary. -/
def State.pmCfgWrite (s : State) (n new : Nat) : State :=
  if bitAt new 0 && !bitAt (s.pmWord n) 0 && s.on PORT_GCL_CFG.SLOT n then s.evt PORT_GCL_EVT.CFG_REFUSED (gclSrc n) n
  else
    let s := s.put PORT_PM_CFG.VERIFY_MS (getBits new PORT_PM_CFG.VERIFY_MS.lo PORT_PM_CFG.VERIFY_MS.w) n
    let s := s.put PORT_PM_CFG.HOLD_ADV (getBits new PORT_PM_CFG.HOLD_ADV.lo PORT_PM_CFG.HOLD_ADV.w) n
    (s.onPort n (fun p => { p with pmNew := some new })).pmApply n

/-! Module and PHY signals (R124). -/

/-- MOD_TXDIS follows TXDIS OR (AUTO_TXDIS AND (ABS OR TXFLT)) on an uplink. -/
def State.modDrive (s : State) (n : Nat) : State :=
  if n < 2 then
    s.put PORT_MOD_CTRL.TXDIS_OUT (b2n (s.on PORT_MOD_CTRL.TXDIS n ||
      (s.on PORT_MOD_CTRL.AUTO_TXDIS n && (s.on PORT_MOD_CTRL.ABS n || s.on PORT_MOD_CTRL.TXFLT n)))) n
  else s

/-- Has a pad held its level for 10 us, within main-domain operation (R124)? `held` counts the time up to now. -/
def State.filtered (s : State) (held : Nat) : Bool :=
  decide (10000 ≤ held) && decide (10000 ≤ s.frc.toNat - s.chip.start.enteredAt)

/-- LOS_CHG: MOD_LOS has been at a level for `held` ns; the filtered level follows (R124). -/
def State.losChange (s : State) (n : Nat) (level : Bool) (held : Nat) : State :=
  if n < 2 ∧ s.filtered held = true ∧ s.on PORT_MOD_CTRL.LOS n ≠ level then
    ((s.put PORT_MOD_CTRL.LOS (b2n level) n).pevt PORT_EVT.LOS_CHG n).linkEval n
  else s

/-- TXFLT and MOD_TXFLT_FALL: MOD_TXFLT has been at a level for `held` ns; the filtered level follows (R124). -/
def State.txfltChange (s : State) (n : Nat) (level : Bool) (held : Nat) : State :=
  if n < 2 ∧ s.filtered held = true ∧ s.on PORT_MOD_CTRL.TXFLT n ≠ level then
    let s := (s.put PORT_MOD_CTRL.TXFLT (b2n level) n).modDrive n
    if level then s.pevt PORT_EVT.TXFLT n else s
  else s

/-- The debounced MOD_ABS takes a new level (R124, R528). -/
def State.absChange (s : State) (n : Nat) (level : Bool) : State :=
  if n < 2 ∧ s.on PORT_MOD_CTRL.ABS n ≠ level then
    let s := (s.put PORT_MOD_CTRL.ABS (b2n level) n).modDrive n
    if level then s.pevt PORT_EVT.MOD_OUT n else s.pevt PORT_EVT.MOD_IN n
  else s

/-- The port hears its own Idle from now on. -/
def State.loopIdle (s : State) (n : Nat) : State :=
  let s := s.onPort n (fun p => { p with gate := .take, lf := ⟨[], 128⟩, rf := ⟨[], 128⟩, rxOpen := false })
  ((s.put PORT_MAC_STAT.LF_RX 0 n).put PORT_MAC_STAT.RF_RX 0 n).put PORT_LPI_STAT.RX_LPI 0 n

/-- Does port `n` support SPEED code `c` (R103)? -/
def speedOk (n c : Nat) : Bool := if n < 2 then decide (2 ≤ c) else decide (c ≤ 5)

/-- A PORTn_MAC_CTRL write with new word `new` (R13, R123): refused, or stored; a cleared EN waits for the frame in
transmission. DESIGN CHOICE (log entry 137): meanwhile EN reads 0, and a change of SPEED or LOOP is accepted. In loopback the
receiver hears Idle at once, which ends its fault statuses, LPI and discarding (R109, R110, R120). -/
def State.macCtrlWrite (s : State) (n new : Nat) : State :=
  let old := s.rg (PORT_MAC_CTRL.reg.key n 0)
  let enOld := bitAt old 0
  let enNew := bitAt new 0
  let loopNew := bitAt new 9
  if !speedOk n (getBits new 4 3) then s
  else if ((getBits old 4 3 != getBits new 4 3 || bitAt old 9 != loopNew) && (enOld || enNew)) ||
      (loopNew && (s.role n).func != .diag && (!bitAt old 9)) then
    s.put PORT_MAC_STAT.CFG_REFUSED 1 n
  else
    let s := s.setRg (PORT_MAC_CTRL.reg.key n 0) new
    let s := if loopNew && !bitAt old 9 then s.loopIdle n else s
    let s := if enOld && !enNew && (s.port n).tx.isSome then s.onPort n (fun p => { p with disabling := true })
      else if enNew then s.onPort n (fun p => { p with disabling := false })
      else s
    s.linkEval n

/-! The stream outputs (R105, R110, R120, R135). -/

/-- What every lane carries between packets: LPI in recess, remote-fault ordered sets in LOCAL_FAULT, Idle otherwise; to the
PCS it is Idle in loopback. -/
def State.fillLanes (s : State) (n : Nat) : List Lane :=
  if s.get PORT_LPI_STAT.TX_STATE n = 1 then List.replicate (lanes n) .lpi
  else if s.link n = linkLocal then (List.replicate (lanes n / 4) (orderedSet 2)).flatten
  else List.replicate (lanes n) .idle

/-- A beat of PCSn_TXD and PCSn_TXC between packets. -/
def State.pcsFill (s : State) (n : Nat) : Nat × Nat :=
  beat (lanes n) (if s.on PORT_MAC_CTRL.LOOP n then [] else s.fillLanes n)

/-- Beat `k` of PCSn_TXD and PCSn_TXC of the last packet, from the beat of its Start on. -/
def State.pcsBeat (s : State) (n k : Nat) : Nat × Nat :=
  let p := s.port n
  beat (lanes n) (if s.on PORT_MAC_CTRL.LOOP n then []
    else ((List.replicate p.startLane Lane.idle ++ p.wire).drop (k * lanes n)).take (lanes n))

/-- PCSn_SPEED (R105). -/
def State.pcsSpeed (s : State) (n : Nat) : Nat := s.get PORT_MAC_CTRL.SPEED n

end Sys2Proof.Machine
end

