-- ==== Sys2Proof/Machine/Parser.lean ====
section
/-! DEFINITION. The parse window, the header walk and the rule key (R244 to R252), and the ones'-complement sums of the checksums
(R270 to R272), as functions of a frame's bytes. -/

namespace Sys2Proof.Machine

open Sys2Proof

/-- Bytes of the parse window (R244). -/
def windowLen : Nat := 64

/-- The `n` bytes of a window from offset `i`, zero past its end. -/
def wSlice (w : List Nat) (i n : Nat) : List Nat := (List.range n).map (fun k => w.getD (i + k) 0)

/-- A big-endian field of the window. -/
def wBe (w : List Nat) (i n : Nat) : Nat := beNat (wSlice w i n)

/-- What the walk over one frame finds (R245 to R251). -/
structure Parse where
  tags : Nat
  otci : Nat
  itci : Nat
  etype : Nat
  l3off : Nat
  l3type : Nat
  l4off : Nat
  l4type : Nat
  deep : Bool
  mal : Bool
  frag : Bool
  valid : Bool
  /-- A routing header with Segments Left not zero was passed (R247). -/
  rh : Bool
  proto : Nat
  tos : Nat
  sip : List Nat
  dip : List Nat
  l4a : List Nat
  l4b : List Nat
  tcpFlags : Nat
  l5 : Nat
  /-- Ends of the IPv4 header and of the datagram, as offsets. -/
  hdrEnd : Nat
  dgEnd : Nat
  deriving DecidableEq, Repr

/-- L3 codes (R246). -/
def l3None : Nat := 0
def l3Other : Nat := 1
def l3Arp : Nat := 2
def l3Ipv4 : Nat := 3
def l3Ipv6 : Nat := 4
def l3Ptp : Nat := 5
def l3Roll : Nat := 6

/-- L4 codes (R246). -/
def l4None : Nat := 0
def l4Other : Nat := 1
def l4Icmp : Nat := 2
def l4Icmpv6 : Nat := 3
def l4Nd : Nat := 4
def l4Udp : Nat := 5
def l4Tcp : Nat := 6
def l4PtpEvent : Nat := 7
def l4PtpGeneral : Nat := 8

/-- Does a type field name an outer tag (R245)? `custom` is the additional TPID while it is enabled. -/
def isTpid (custom : Option Nat) (t : Nat) : Bool := t == 0x8100 || t == 0x88A8 || custom == some t

/-- Tags of a window: their number, the outer and inner TCI, the type field after them (R245). -/
def walkTags (custom : Option Nat) (w : List Nat) : Nat × Nat × Nat × Nat :=
  let t0 := wBe w 12 2
  if isTpid custom t0 && decide (18 ≤ w.length) then
    let t1 := wBe w 16 2
    if t1 == 0x8100 && decide (22 ≤ w.length) then (2, wBe w 14 2, wBe w 18 2, wBe w 20 2)
    else (1, wBe w 14 2, 0, t1)
  else (0, 0, 0, t0)

/-- The TCI of the outer tag of a frame, if it has one. -/
def outerTci (custom : Option Nat) (b : List Nat) : Option Nat :=
  let t := walkTags custom (b.take windowLen)
  if t.1 = 0 then none else some t.2.1

/-- L3 code of a type field (R245 step 4). -/
def l3Code (t : Nat) : Nat :=
  if t < 0x0600 then l3None
  else if t = 0x0806 then l3Arp
  else if t = 0x0800 then l3Ipv4
  else if t = 0x86DD then l3Ipv6
  else if t = 0x88F7 then l3Ptp
  else if t = 0x88B5 then l3Roll
  else l3Other

/-- The walk so far, after the L2 headers. -/
def walkL2 (custom : Option Nat) (w : List Nat) : Parse :=
  let t := walkTags custom w
  { tags := t.1, otci := t.2.1, itci := t.2.2.1, etype := t.2.2.2, l3off := 14 + 4 * t.1, l3type := l3Code t.2.2.2,
    l4off := 0, l4type := l4None, deep := false, mal := false, frag := false, valid := false, rh := false, proto := 0,
    tos := 0, sip := List.replicate 16 0, dip := List.replicate 16 0, l4a := [0, 0], l4b := [0, 0], tcpFlags := 0,
    l5 := 0, hdrEnd := 0, dgEnd := 0 }

/-- L4 code of a protocol whose header starts at `o` (R245 step 8). -/
def l4Code (w : List Nat) (o proto : Nat) : Nat :=
  if proto = 1 then l4Icmp
  else if proto = 58 then (if 133 ≤ w.getD o 0 ∧ w.getD o 0 ≤ 137 then l4Nd else l4Icmpv6)
  else if proto = 17 then
    (if wBe w (o + 2) 2 = 319 then l4PtpEvent else if wBe w (o + 2) 2 = 320 then l4PtpGeneral else l4Udp)
  else if proto = 6 then l4Tcp
  else l4Other

/-- Is an L4 code UDP or one of its PTP forms? -/
def isUdp (t : Nat) : Bool := t == l4Udp || t == l4PtpEvent || t == l4PtpGeneral

/-- Length of the fixed L4 header (R248). -/
def l4Fixed (t : Nat) : Nat := if isUdp t then 8 else if t = l4Tcp then 20 else if t = l4Other then 0 else 4

/-- The L4 step: valid fields, or DEEP where the fixed header ends past the window (R248, R249). -/
def walkL4 (w : List Nat) (p : Parse) : Parse :=
  let t := l4Code w p.l4off p.proto
  let o := p.l4off
  if o + l4Fixed t ≤ w.length then
    let ports := isUdp t || t == l4Tcp
    { p with
      valid := true, l4type := t,
      l4a := if t == l4Other then [0, 0] else wSlice w o 2,
      l4b := if ports then wSlice w (o + 2) 2 else [0, 0],
      tcpFlags := if t == l4Tcp then w.getD (o + 13) 0 else 0,
      l5 := if isUdp t then w.getD (o + 8) 0 else 0 }
  else { p with deep := true }

/-- ARP (R245 step 5, R250): the fixed header is 8 bytes, and 28 with addresses of 6 and 4 bytes; `len` is the stored length. -/
def walkArp (w : List Nat) (len : Nat) (p : Parse) : Parse :=
  let o := p.l3off
  if len < o + 8 then { p with mal := true }
  else if wBe w o 2 = 1 ∧ wBe w (o + 2) 2 = 0x0800 ∧ w.getD (o + 4) 0 = 6 ∧ w.getD (o + 5) 0 = 4 then
    let q := { p with sip := List.replicate 12 0 ++ wSlice w (o + 14) 4, dip := List.replicate 12 0 ++ wSlice w (o + 24) 4,
                      l4a := wSlice w (o + 6) 2 }
    if len < o + 28 then { p with mal := true } else q
  else { p with l3type := l3Other }

/-- IPv4 (R245 step 6, R249 to R251); `len` is the stored length. -/
def walkIpv4 (w : List Nat) (len : Nat) (p : Parse) : Parse :=
  let o := p.l3off
  let ihl := w.getD o 0 % 16
  let total := wBe w (o + 2) 2
  if len < o + 20 ∨ w.getD o 0 / 16 ≠ 4 ∨ ihl < 5 ∨ total < 4 * ihl ∨ len - o < total then { p with mal := true }
  else
    let p := { p with proto := w.getD (o + 9) 0, tos := w.getD (o + 1) 0, hdrEnd := o + 4 * ihl, dgEnd := o + total,
                      sip := List.replicate 12 0 ++ wSlice w (o + 12) 4, dip := List.replicate 12 0 ++ wSlice w (o + 16) 4,
                      frag := wBe w (o + 6) 2 % 0x4000 != 0 }
    if windowLen < p.hdrEnd ∨ w.length < p.hdrEnd then { p with deep := true }
    else
      let p := { p with l4off := p.hdrEnd }
      if p.frag then p else walkL4 w p

/-- Extension headers that the parser passes (R247). -/
def isExt (nh : Nat) : Bool := nh == 0 || nh == 43 || nh == 60 || nh == 44

/-- The extension headers from offset `o`, next header `nh`, `passed` of them passed (R247, R249 to R251): at most
`fuel`. -/
def walkExt (w : List Nat) (len : Nat) : Nat → Parse → Nat → Nat → Nat → Parse
  | 0, p, _, _, _ => p
  | fuel + 1, p, o, nh, passed =>
    let p := { p with l4off := o, proto := nh }
    if !isExt nh then walkL4 w p
    else if passed = 2 then { p with deep := true }
    else if nh = 44 then
      if len < o + 8 then { p with mal := true }
      else if w.length < o + 8 then { p with deep := true }
      else { p with l4off := o + 8, frag := true }
    else if w.length < o + 2 then { p with deep := true }
    else
      let e := o + (w.getD (o + 1) 0 + 1) * 8
      if len < e then { p with mal := true }
      else if w.length < e then { p with deep := true }
      else walkExt w len fuel { p with rh := p.rh || (nh == 43 && w.getD (o + 3) 0 != 0) } e (w.getD o 0) (passed + 1)

/-- IPv6 (R245 step 7). -/
def walkIpv6 (w : List Nat) (len : Nat) (p : Parse) : Parse :=
  let o := p.l3off
  let pl := wBe w (o + 4) 2
  if len < o + 40 ∨ w.getD o 0 / 16 ≠ 6 ∨ pl = 0 ∨ len - o < pl + 40 then { p with mal := true }
  else
    let p := { p with tos := wBe w o 2 / 16 % 256, sip := wSlice w (o + 8) 16, dip := wSlice w (o + 24) 16,
                      dgEnd := o + 40 + pl }
    walkExt w len 4 p (o + 40) (w.getD (o + 6) 0) 0

/-- A MALFORMED_L3 frame keeps its L2 fields and its L3_TYPE only (R250). -/
def malParse (p : Parse) : Parse :=
  { p with l4off := 0, l4type := l4None, deep := false, frag := false, valid := false, rh := false, proto := 0, tos := 0,
           sip := List.replicate 16 0, dip := List.replicate 16 0, l4a := [0, 0], l4b := [0, 0], tcpFlags := 0, l5 := 0,
           hdrEnd := 0, dgEnd := 0 }

/-- The walk over the stored bytes `b` of a frame (R244 to R251). -/
def parseFrame (custom : Option Nat) (b : List Nat) : Parse :=
  let w := b.take windowLen
  let p := walkL2 custom w
  let q :=
    if p.l3type = l3Arp then walkArp w b.length p
    else if p.l3type = l3Ipv4 then walkIpv4 w b.length p
    else if p.l3type = l3Ipv6 then walkIpv6 w b.length p
    else if p.l3type = l3Ptp ∨ p.l3type = l3Roll then { p with l5 := w.getD p.l3off 0 }
    else p
  if q.mal then malParse q else q

/-- The rule key as a number, byte i in bits [8i+7:8i] (R252); the flow bytes 62 and 63 are `flow`, in network byte order. -/
def ruleKey (src pass : Nat) (b : List Nat) (p : Parse) (flow : Nat) : Nat :=
  let info := pass % 4 + b2n (decide (1 ≤ p.tags)) * 4 + b2n (p.tags == 2) * 8 + b2n p.deep * 16 + b2n p.mal * 32
    + b2n p.frag * 64 + b2n p.valid * 128
  leNat ([src, info, p.l3type, p.l4type] ++ wSlice b 0 12 ++ beBytes p.otci 2 ++ beBytes p.itci 2 ++ beBytes p.etype 2 ++
    [p.proto, p.tos] ++ p.sip ++ p.dip ++ p.l4a ++ p.l4b ++ [p.tcpFlags, p.l5] ++ beBytes flow 2)

/-- The 40-byte flow key of a rule key, before the mask (R253): key byte 0, key byte 2, key bytes 22 to 59. -/
def flowKey (key : Nat) : Nat := getBits key 0 8 + getBits key 16 8 * 2 ^ 8 + getBits key 176 304 * 2 ^ 16

/-! Checksums. -/

/-- The sum of the 16-bit words of a byte string, a last odd byte padded with zero. -/
def sum16 : List Nat → Nat
  | [] => 0
  | [a] => a * 256
  | a :: b :: l => a * 256 + b + sum16 l

/-- A sum folded to 16 bits with end-around carry. -/
def fold16 (n : Nat) : Nat := if n = 0 then 0 else (n - 1) % 65535 + 1

/-- Is the IPv4 header checksum good? -/
def l3SumOk (b : List Nat) (p : Parse) : Bool := fold16 (sum16 ((b.take p.hdrEnd).drop p.l3off)) == 0xFFFF

/-- The pseudo-header sum of the L4 checksum (R270). -/
def pseudoSum (p : Parse) : Nat :=
  sum16 p.sip + sum16 p.dip + p.proto + (p.dgEnd - p.l4off) % 65536 + (p.dgEnd - p.l4off) / 65536

/-- The L4 sum of a frame: the pseudo-header and the datagram from the L4 header. -/
def l4Sum (b : List Nat) (p : Parse) : Nat := fold16 (pseudoSum p + sum16 ((b.take p.dgEnd).drop p.l4off))

/-- Is L4_TYPE one whose checksum R270 verifies? -/
def l4Summed (p : Parse) : Bool := isUdp p.l4type || p.l4type == l4Tcp

/-- The offset of the L4 checksum field. -/
def l4SumAt (p : Parse) : Nat := p.l4off + (if isUdp p.l4type then 6 else 16)

/-- The end condition of R271 with the routing-header rule of R247. -/
def l4SumUsable (b : List Nat) (p : Parse) : Bool := !p.rh && (p.dgEnd == b.length || decide (b.length ≤ windowLen))

/-- Two bytes of a frame replaced. -/
def put16 (b : List Nat) (o v : Nat) : List Nat := b.take o ++ beBytes v 2 ++ b.drop (o + 2)

/-- The frame with its IPv4 header checksum inserted (R272). -/
def insertL3 (b : List Nat) (p : Parse) : List Nat :=
  let z := put16 b (p.l3off + 10) 0
  put16 z (p.l3off + 10) (0xFFFF - fold16 (sum16 ((z.take p.hdrEnd).drop p.l3off)))

/-- The frame with its L4 checksum inserted (R272): 0 over IPv4 UDP is written as 0xFFFF. -/
def insertL4 (b : List Nat) (p : Parse) : List Nat :=
  let z := put16 b (l4SumAt p) 0
  let v := 0xFFFF - l4Sum z p
  put16 z (l4SumAt p) (if v = 0 ∧ isUdp p.l4type = true ∧ p.l3type = l3Ipv4 then 0xFFFF else v)

/-! Tag rewrites (R263). -/

/-- What VLAN_OP makes of a frame: the bytes, and false where the rewrite is not done. -/
def vlanOp (custom : Option Nat) (op tci : Nat) (b : List Nat) : List Nat × Bool :=
  let tags := (walkTags custom (b.take windowLen)).1
  let push : List Nat × Bool :=
    if tags = 2 ∨ 16320 < b.length + 4 then (b, false)
    else (b.take 12 ++ [0x81, 0x00] ++ beBytes tci 2 ++ b.drop 12, true)
  if op = 1 then (if tags = 0 then push else (put16 b 14 tci, true))
  else if op = 2 then push
  else if op = 3 then (if tags = 0 then (b, false) else (b.take 12 ++ b.drop 16, true))
  else (b, true)

end Sys2Proof.Machine
end

