-- ==== Sys2Proof/Machine/Classifier.lean ====
section
/-! DEFINITION. The classifier (R242 to R275): flow and rule lookup, meters, checksum verification and insertion, the actions of a
pass with strip, recirculation and rewrite, the rule banks and their commands, the flow table and its commands. -/

namespace Sys2Proof.Machine

open Sys2Proof

/-- Count one event in a slot of R274. -/
def State.cc (s : State) (slot : Nat) : State := s.count CLS_CNT.COUNT slot
def State.clsEvt (s : State) (f : Fld) : State := s.evt f 0x45

/-- Slots of R274, as indices of CLS_CNT. -/
def ccFirst : Nat := 0
def ccRecirc : Nat := 1
def ccMiss : Nat := 2
def ccFlowHit : Nat := 3
def ccFlowMiss : Nat := 4
def ccDeep : Nat := 5
def ccMal : Nat := 6
def ccFrag : Nat := 7
def ccDrop : Nat := 8
def ccNoDest : Nat := 9
def ccPassLimit : Nat := 10
def ccStripShort : Nat := 11
def ccVlanErr : Nat := 12
def ccL3Bad : Nat := 13
def ccL4Bad : Nat := 14
def ccSkip : Nat := 15
def ccIns : Nat := 16
def ccInsSkip : Nat := 17
def ccPinOld : Nat := 18
def ccFlowFull : Nat := 19

/-- The additional TPID while it is enabled (R245). -/
def State.customTpid (s : State) : Option Nat :=
  if s.on CLS_TPID.CUSTOM_EN then some (s.get CLS_TPID.CUSTOM) else none

/-! The action word pair (R258, R261; the layout of CLS_STG_ACT0 and CLS_STG_ACT1). -/

structure Act where
  a0 : Nat
  a1 : Nat
  deriving DecidableEq, Repr

def Act.ports (a : Act) : Nat := getBits a.a0 0 11
def Act.dest (a : Act) : Nat := getBits a.a0 11 2
def Act.parts (a : Act) : Nat := if bitAt a.a0 13 then 2 ^ getBits a.a0 14 3 else 0
def Act.roll (a : Act) : Bool := bitAt a.a0 17
def Act.cores (a : Act) : Nat := if bitAt a.a0 18 then 2 ^ getBits a.a0 19 1 else 0
def Act.drop (a : Act) : Bool := bitAt a.a0 20
def Act.mirror (a : Act) : Nat := if bitAt a.a0 21 then 2 ^ getBits a.a0 22 2 else 0
def Act.cls (a : Act) : Option Nat := if bitAt a.a0 24 then some (getBits a.a0 25 3) else none
def Act.meter (a : Act) : Option Nat := if bitAt a.a0 28 then some (getBits a.a0 29 6) else none
def Act.vlanOp (a : Act) : Nat := getBits a.a0 35 2
def Act.tci (a : Act) : Nat := getBits a.a0 38 16
def Act.cookie (a : Act) : Nat := getBits a.a1 0 32
def Act.recirc (a : Act) : Bool := bitAt a.a1 32
def Act.strip (a : Act) : Nat := getBits a.a1 33 8

/-- Conditions 2 and 3 of the commit checks (R259). -/
def ruleKeyErr (value mask : Nat) : Bool := value.lor mask != mask
def ruleActErr (a : Act) : Bool :=
  a.dest == 3 || (a.vlanOp != 0 && a.recirc) || decide (128 < a.strip) || bitAt a.a0 37 || getBits a.a0 54 10 != 0 ||
    getBits a.a1 41 23 != 0

/-! Rule banks (R257, R266). Rule i of bank b has key 4096·b + i. -/

def State.rule (s : State) (k : Nat) : Rule := mapGet (fun _ => Rule.empty) s.cls.rules k
def State.setRule (s : State) (k : Nat) (r : Rule) : State :=
  { s with cls.rules := mapSet (fun _ => Rule.empty) s.cls.rules k r }
/-- The action of the default slot; DEST BRIDGE with every other field zero at reset (R257). -/
def State.dfltRule (s : State) (b : Nat) : Nat × Nat := mapGet (fun _ => (0, 0)) s.cls.dflt b
def State.setDflt (s : State) (b : Nat) (a : Nat × Nat) : State :=
  { s with cls.dflt := mapSet (fun _ => (0, 0)) s.cls.dflt b a }

/-- State codes of a bank (R266). -/
def bankActive : Nat := 0
def bankStandby : Nat := 1
def bankDraining : Nat := 2
def bankMirroring : Nat := 3
def State.bankState (s : State) (b : Nat) : Nat :=
  if b = 0 then s.get CLS_BANK_STAT.STATE0 else s.get CLS_BANK_STAT.STATE1
def State.setBankState (s : State) (b v : Nat) : State :=
  if b = 0 then s.put CLS_BANK_STAT.STATE0 v else s.put CLS_BANK_STAT.STATE1 v
def State.activeBank (s : State) : Nat := s.get CLS_BANK_STAT.ACTIVE

/-- Does a rule match a key: every bit whose mask is 1 equal (R257)? -/
def Rule.hits (r : Rule) (key : Nat) : Bool := r.valid && (key.land r.mask == r.value.land r.mask)

/-- The lowest valid rule of bank `b` that matches, else the default slot with RULE 0xFFFF (R257). -/
def State.ruleLookup (s : State) (b key : Nat) : Nat × Act :=
  match s.cls.rules.find? (fun e => decide (e.1 / 4096 = b) && e.2.hits key) with
  | some e => (e.1 % 4096, ⟨e.2.act0, e.2.act1⟩)
  | none => (0xFFFF, ⟨(s.dfltRule b).1, (s.dfltRule b).2⟩)

/-! The flow table (R253 to R256). -/

/-- CLS_FLOW_MASK as one 40-byte number. -/
def State.flowMask (s : State) : Nat :=
  (List.range 5).foldl (fun v w => v + s.get CLS_FLOW_MASK.BYTES w * 2 ^ (64 * w)) 0

/-- The bucket of a masked flow key (R253). -/
def State.flowBucket (s : State) (k : Nat) : Nat :=
  ((crcRun 0x82F63B78 (s.get CLS_FLOW_CFG.SEED) (leBytes k 40)).xor 0xFFFFFFFF) % 16384

/-- The index of the valid entry that holds masked key `k`. -/
def State.flowFind (s : State) (k : Nat) : Option (Nat × Flow) :=
  let b := s.flowBucket k
  s.cls.flows.find? (fun e => decide (e.1 / 4 = b) && e.2.key == k)

def State.putFlow (s : State) (i : Nat) (f : Flow) : State :=
  { s with cls.flows := mapIns i f (mapDel i s.cls.flows) }
def State.delFlow (s : State) (i : Nat) : State := { s with cls.flows := mapDel i s.cls.flows }
/-- CLS_FLOW_STAT.COUNT shows the valid entries. -/
def State.countFlows (s : State) : State := s.put CLS_FLOW_STAT.COUNT s.cls.flows.length

/-- What the lookups of a pass give: the matched rule, the FLOW field of the card, the action. -/
structure Look where
  rule : Nat
  flow : Nat
  act : Act
  deriving DecidableEq, Repr

/-- The flow and rule lookup of a pass in bank `bank` (R252 to R257). -/
def State.lookup (s : State) (bank src pass : Nat) (b : List Nat) (p : Parse) : State × Look :=
  let key0 := ruleKey src pass b p 0
  let (s, key, flow) :=
    if s.on CLS_FLOW_CFG.EN then
      match s.flowFind ((flowKey key0).land s.flowMask) with
      | some e => ((s.putFlow e.1 { e.2 with hit := true }).cc ccFlowHit, ruleKey src pass b p (0x8000 + e.2.tag), e.1 + 2 ^ 31)
      | none => (s.cc ccFlowMiss, key0, 0)
    else (s, key0, 0)
  let r := s.ruleLookup bank key
  let s := if r.1 = 0xFFFF then s.cc ccMiss else s
  (s, ⟨r.1, flow, r.2⟩)

/-! Meters (R290, R291). -/

/-- Bring the tokens of meter `m` up to now: RATE / 125,000 bytes per ns, up to BURST. -/
def State.meterFill (s : State) (m : Nat) : State :=
  let dt := s.frc.toNat - mapGet (fun _ => 0) s.cls.meterAt m
  let acc := mapGet (fun _ => 0) s.cls.meterFrac m + s.get MTR_CFG.RATE m * dt
  let tok := s.get MTR_STAT.TOKENS m + acc / 125000
  let burst := s.get MTR_CFG.BURST m
  let full := decide (burst ≤ tok)
  let s := s.put MTR_STAT.TOKENS (if full then burst else tok) m
  { s with cls.meterFrac := mapSet (fun _ => 0) s.cls.meterFrac m (if full then 0 else acc % 125000),
           cls.meterAt := mapSet (fun _ => 0) s.cls.meterAt m s.frc.toNat }

/-- Meter a frame of length `len` under R8: green or not (R290, R295). -/
def State.meter (s : State) (m len : Nat) : State × Bool :=
  let s := s.meterFill m
  let tok := s.get MTR_STAT.TOKENS m
  if len ≤ tok then ((s.put MTR_STAT.TOKENS (tok - len) m).count MTR_CNT.COUNT m 0, true)
  else (s.count MTR_CNT.COUNT m 1, false)

/-- A MTR_CFGm write took effect: the bucket is filled to the new BURST (R291). -/
def State.meterCfg (s : State) (m : Nat) : State :=
  let s := s.put MTR_STAT.TOKENS (s.get MTR_CFG.BURST m) m
  { s with cls.meterFrac := mapSet (fun _ => 0) s.cls.meterFrac m 0,
           cls.meterAt := mapSet (fun _ => 0) s.cls.meterAt m s.frc.toNat }

/-! Checksums (R270 to R272). -/

/-- Verify the checksums of a port frame: whether the IPv4 header checksum and the L4 checksum are bad. A zero UDP checksum that is
not verified comes first, then the exclusions of R271 and R247, then the zero that is bad (R270, R271). -/
def State.verifySums (s : State) (b : List Nat) (p : Parse) : State × Bool × Bool :=
  let (s, bad3) :=
    if s.on CLS_CFG.L3_VERIFY && p.l3type == l3Ipv4 && !p.mal then
      if windowLen < p.hdrEnd then (s.cc ccSkip, false)
      else if l3SumOk b p then (s, false)
      else (s.cc ccL3Bad, true)
    else (s, false)
  if s.on CLS_CFG.L4_VERIFY && l4Summed p then
    let zero := isUdp p.l4type && beNat ((b.drop (l4SumAt p)).take 2) == 0
    if zero && !(p.l3type == l3Ipv6 && s.on CLS_CFG.UDP6_ZERO_BAD) then (s, bad3, false)
    else if !l4SumUsable b p then (s.cc ccSkip, bad3, false)
    else if !zero && l4Sum b p == 0xFFFF then (s, bad3, false)
    else (s.cc ccL4Bad, bad3, true)
  else (s, bad3, false)

/-- Insert the requested checksums (R272): the bytes, and whether a request did not qualify. -/
def State.insertSums (s : State) (l3 l4 : Bool) (b : List Nat) (p : Parse) : State × List Nat × Bool :=
  let ok3 := p.l3type == l3Ipv4 && !p.mal && decide (p.hdrEnd ≤ windowLen)
  let ok4 := l4Summed p && l4SumUsable b p
  let b := if l3 && ok3 then insertL3 b p else b
  let b := if l4 && ok4 then insertL4 b p else b
  let count (s : State) (want ok : Bool) : State := if want then (if ok then s.cc ccIns else s.cc ccInsSkip) else s
  (count (count s l3 ok3) l4 ok4, b, (l3 && !ok3) || (l4 && !ok4))

/-! Frames in the pipeline. -/

/-- The 64 bytes of a frame card (R234). -/
def Frame.card (f : Frame) : List Nat :=
  leBytes f.len 2 ++ [f.src, f.flags, f.pass + 4 * f.bank, f.tc] ++ leBytes f.tci 2 ++ leBytes (f.ts / 65536) 8 ++
    leBytes f.rule 2 ++ leBytes f.strip 2 ++ leBytes f.flow 4 ++ [f.l3off, f.l4off, f.l3type, f.l4type] ++
    leBytes f.cookie 4 ++ leBytes f.rmeta 16 ++ leBytes f.bell 4 ++ List.replicate 12 0

/-- A frame of source `src` with nothing decided yet. -/
def Frame.new (src ts bell : Nat) : Frame :=
  { ptr := 0, size := 0, len := 0, src := src, flags := 0x80, tc := 0, vlan := 0, tci := 0, tagged := false, ts := ts,
    launch := none, job := none, downlink := none, pass := 0, bank := 0, rule := 0xFFFF, flow := 0, l3off := 0, l4off := 0,
    l3type := 0, l4type := 0, cookie := 0, rmeta := 0, bell := bell, red := none, mirrored := 0, strip := 0, skip := 0, mac := 0 }

/-- Nothing but a stored frame. -/
def Fwd.of (f : Frame) : Fwd := ⟨f, false, 0, 0, false, 0, 0, false, false⟩

/-- Frames pinned to the non-active bank: those between two passes (R268). -/
def State.pinned (s : State) : Nat :=
  let other := 1 - s.activeBank
  (s.cls.recirc.filter (fun f => f.bank == other)).length +
    (s.cls.stored.filter (fun w => w.recirc && w.f.bank == other)).length
def State.showPinned (s : State) : State := s.put CLS_BANK_STAT.PINNED (min 0xFFFF s.pinned)

/-- A stored frame goes on to forwarding (R28 step 5). -/
def State.forward (s : State) (w : Fwd) : State := { s with cls.stored := s.cls.stored ++ [w] }

/-- Enabled mirror sessions of mask `m` that the frame has not used (R289). -/
def State.sessions (s : State) (f : Frame) (m : Nat) : Nat :=
  (List.range 4).foldl (fun v k =>
    if bitAt m k && !bitAt f.mirrored k && s.on MIR_SESS.EN k then v + 2 ^ k else v) 0

/-- The session that mirrors every frame received on the port the frame came from (R289). -/
def State.portMirror (s : State) (f : Frame) : Nat :=
  if f.src ≤ 0x0A ∧ s.on BR_PORT_CFG.MIR_EN f.src = true then s.sessions f (2 ^ s.get BR_PORT_CFG.MIR_SESS f.src) else 0

/-- Where a frame stands at its pass: in a port's RX FIFO, in a buffer and to be copied after the pass (R264), or in a buffer
that it keeps (R31). -/
inductive Place where
  | port | copy | keep
  deriving DecidableEq, Repr

/-- A frame ends at its pass: a stored one releases its buffer, a job completes (R230, R264, R327). -/
def State.passDrop (s : State) (pl : Place) (f : Frame) : State :=
  match pl with
  | .port => s
  | _ => (s.release f.ptr f.src).frameDropped f stDropped

/-- Store the bytes of a frame in a new buffer that `who` requests; the old buffer is released when the copy is complete. A
failed request drops the frame (R227, R230, R264). -/
def State.storeNew (s : State) (pl : Place) (who : Requester) (same : Bool) (w : Fwd) (pri : Nat) (b : List Nat) : State :=
  let f := w.f
  match s.alloc who same b.length f.src pri with
  | (s, p, none) => (s.count POOL_CNT.COUNT p 7).passDrop pl f
  | (s, p, some ptr) =>
    let s := (s.bufWrite (ptrAddr ptr + 64) b).crcTapWr f.src ptr b
    let s := if pl = .port then s else s.release f.ptr f.src
    s.forward { w with f := { f with ptr := ptr, size := bufBytes (s.pool p).size, len := b.length } }

/-- The first payload stripe of a stored frame is rewritten as a full stripe (R263, R273). -/
def State.rewriteFirst (s : State) (ptr : Nat) (b : List Nat) : State := s.bufWrite (ptrAddr ptr + 64) (b.take 64)

/-- Store what a pass leaves of a frame: `b` its bytes now, `moved` telling that a frame that keeps its buffer has to be copied
(R263, R264). -/
def State.passStore (s : State) (pl : Place) (same : Bool) (w : Fwd) (pri : Nat) (b : List Nat) (moved : Bool) : State :=
  match pl with
  | .port => s.storeNew pl .port same w pri b
  | .copy => s.storeNew pl .recirc same w pri b
  | .keep =>
    if moved then s.storeNew pl .recirc same w pri b else s.forward w

/-- The class that forwarding assigns to a frame from a port (R278). -/
def State.portClass (s : State) (u : Nat) (tci : Option Nat) : Nat :=
  let p := match tci with
    | some t => t / 8192
    | none => s.get BR_PORT_CFG.DEF_PRI u
  getBits (s.get BR_PORT_CFG.PCP_MAP u) (3 * p) 3

/-- The parser flags of the card (R234). -/
def parseFlags (old : Nat) (p : Parse) (bad3 bad4 : Bool) : Nat :=
  old % 2 + old / 64 * 64 + b2n p.deep * 2 + b2n p.mal * 4 + b2n p.frag * 8 + b2n bad3 * 16 + b2n bad4 * 32

/-- The last pass of a frame (R261 steps 3 to 6, R263): `red` is the class that a frame takes which was red in it or in an earlier
pass (R291). -/
def State.passFinal (s : State) (pl : Place) (same : Bool) (w : Fwd) (act : Act) (pri : Nat) (red : Option Nat)
    (b : List Nat) : State :=
  let f := w.f
  let op := vlanOp s.customTpid act.vlanOp act.tci b
  let s := if op.2 then s else s.cc ccVlanErr
  let tci := outerTci s.customTpid op.1
  let tc := match red, act.cls with
    | some c, _ => c
    | none, some c => c
    | none, none => if f.src ≤ 0x0A then s.portClass f.src tci else f.tc
  let shift (o : Nat) : Nat := o + op.1.length - b.length
  let f := { f with mac := beNat (op.1.take 12), tc := tc, tci := tci.getD 0, tagged := tci.isSome, l3off := shift f.l3off, len := op.1.length,
                    l4off := if f.l4off = 0 then 0 else shift f.l4off }
  let w := { w with f := f, bridge := act.dest == 0, ports := if act.dest = 1 then act.ports else 0, parts := act.parts,
                    roll := act.roll, cores := act.cores, edit := true }
  if !w.bridge && w.ports == 0 && w.parts == 0 && !w.roll && w.cores == 0 && w.mirrors == 0 then
    (s.cc ccNoDest).passDrop pl w.f
  else
    let s := if pl = .keep ∧ op.1 ≠ b ∧ op.1.length = b.length then s.rewriteFirst f.ptr op.1 else s
    s.passStore pl same w pri op.1 (op.1.length != b.length)

/-- What the action of a pass makes of a frame (R261, R262, R264, R265). `f` carries the pass, `b` its bytes. A red frame that goes on
keeps the class EXCEED_TC through its passes (R291). -/
def State.passAct (s : State) (pl : Place) (same : Bool) (f : Frame) (act : Act) (pri : Nat) (b : List Nat) : State :=
  let (s, green, red) := match act.meter with
    | none => (s, true, none)
    | some m =>
      let r := s.meter m (b.length + 4)
      if r.2 then (r.1, true, none)
      else (r.1, s.on MTR_CFG.MODE m, some (s.get MTR_CFG.EXCEED_TC m))
  let f := { f with cookie := act.cookie, red := red.or f.red }
  let mir := s.sessions f act.mirror
  let mirrorOnly (s : State) : State :=
    if mir = 0 then s.passDrop pl f
    else s.passStore pl same { Fwd.of { f with mirrored := f.mirrored + mir } with mirrors := mir } pri b false
  if !green then (if act.recirc && decide (3 ≤ f.pass) then mirrorOnly s else s.passDrop pl f)
  else
    if act.drop then mirrorOnly (s.cc ccDrop)
    else
      let both := if f.pass = 1 then mir.lor (s.portMirror f) else mir
      let g := { f with mirrored := f.mirrored + both }
      if act.recirc then
        if 3 ≤ f.pass then mirrorOnly ((s.cc ccPassLimit).clsEvt CLS_EVT.PASS_LIMIT)
        else if b.length < act.strip + 14 then mirrorOnly (s.cc ccStripShort)
        else
          s.passStore pl same { Fwd.of { g with skip := act.strip, strip := g.strip + act.strip } with
            mirrors := both, recirc := true } pri b false
      else s.passFinal pl same { Fwd.of g with mirrors := both } act pri g.red b

/-- Count what a pass finds (R268, R274). -/
def State.passCount (s : State) (pass bank : Nat) (p : Parse) : State :=
  let s := s.pmu evParserPass 1
  let s := if pass = 1 then s.cc ccFirst else s.cc ccRecirc
  let s := if p.deep then s.cc ccDeep else s
  let s := if p.mal then s.cc ccMal else s
  let s := if p.frag then s.cc ccFrag else s
  if pass ≠ 1 ∧ s.bankState bank = bankDraining then s.cc ccPinOld else s

/-- The card fields that a parse gives (R234). -/
def Frame.parsed (f : Frame) (pass bank : Nat) (p : Parse) (bad3 bad4 : Bool) : Frame :=
  { f with pass := pass, bank := bank, flags := parseFlags f.flags p bad3 bad4, l3off := p.l3off, l4off := p.l4off,
           l3type := p.l3type, l4type := p.l4type, tagged := decide (1 ≤ p.tags), tci := if 1 ≤ p.tags then p.otci else 0 }

/-- A requested insertion was not done: the job's completion says so (R272, R322). -/
def State.markInsSkip (s : State) (f : Frame) : State :=
  match f.job with
  | none => s
  | some id =>
    match s.job id with
    | some j => s.setJob id { j with insSkip := true }
    | none => s

/-- One classified pass over the bytes `b` of frame `f` (R242 to R265). -/
def State.onePass (s : State) (pl : Place) (same : Bool) (f : Frame) (pass bank pri : Nat) (b : List Nat) (l3 l4 : Bool) :
    State :=
  let p := parseFrame s.customTpid b
  let s := s.passCount pass bank p
  let r := s.lookup bank f.src pass b p
  let v := if f.src ≤ 0x0A then r.1.verifySums b p else (r.1, false, false)
  let i := v.1.insertSums l3 l4 b p
  let s := if i.2.1 = b then i.1 else i.1.rewriteFirst f.ptr i.2.1
  let s := if i.2.2 then s.markInsSkip f else s
  s.passAct pl same { f.parsed pass bank p v.2.1 v.2.2 with rule := r.2.rule, flow := r.2.flow } r.2.act pri i.2.1

/-- A pass for insertion only (R243, R272). -/
def State.insertPass (s : State) (w : Work) (b : List Nat) : State :=
  let p := parseFrame s.customTpid b
  let s := s.passCount 1 s.activeBank p
  let i := s.insertSums w.l3 w.l4 b p
  let s := if i.2.1 = b then i.1 else i.1.rewriteFirst w.fwd.f.ptr i.2.1
  let s := if i.2.2 then s.markInsSkip w.fwd.f else s
  let f := w.fwd.f.parsed 1 s.activeBank p false false
  s.forward { w.fwd with f := { f with rule := 0xFFFF, flow := 0 } }

/-- The bytes of a stored frame, without those to strip; an uncorrectable stripe drops the frame (R195). -/
def State.passBytes (s : State) (f : Frame) : State × Option (List Nat) :=
  match s.fetchPayload f.ptr f.len with
  | (s, some b) => (s, some (b.drop f.skip))
  | (s, none) => (((s.mc mcUncorrDrop).release f.ptr f.src).frameDropped f stMemUncorr, none)

/-- The first pass of a host or core frame that is stored already (R31, R243). -/
def State.workPass (s : State) (same : Bool) (w : Work) : State :=
  match s.passBytes w.fwd.f with
  | (s, none) => s
  | (s, some b) =>
    if w.classify then s.onePass .keep same w.fwd.f 1 s.activeBank (s.buf w.fwd.f.ptr).pri b w.l3 w.l4
    else s.insertPass w b

/-- The pass of a recirculated frame: on its pinned bank, with the copy that follows (R264, R268). -/
def State.recircPass (s : State) (same : Bool) (f : Frame) : State :=
  match s.passBytes f with
  | (s, none) => s
  | (s, some b) =>
    s.onePass .copy same { f with skip := 0 } (f.pass + 1) f.bank (s.buf f.ptr).pri b false false

/-- The receive FIFO of port unit `u`. -/
def State.rxFifoOf (s : State) (u : Nat) : List RxFrame := if u < 8 then (s.port u).rxFifo else (s.rad (u - 8)).rxFifo
def State.setRxFifo (s : State) (u : Nat) (l : List RxFrame) : State :=
  if u < 8 then s.onPort u (fun p => { p with rxFifo := l }) else s.onRad (u - 8) (fun r => { r with rxFifo := l })

/-- The priority that a frame's bytes count against (R131). -/
def State.ingressPri (s : State) (u : Nat) (b : List Nat) : Nat :=
  match outerTci s.customTpid b with
  | some t => t / 8192
  | none => if u < 8 then s.get PORT_FC_CTRL.DEF_PRI u else 0

/-- The first pass of the oldest frame of port unit `u`. -/
def State.portPass (s : State) (same : Bool) (u : Nat) (r : RxFrame) (rest : List RxFrame) : State :=
  let s := { s.setRxFifo u rest with cls.lastPort := u + 1 }
  let f := Frame.new u r.ts r.bell
  let f := { f with flags := 0x80 + b2n r.oversize + (if r.md.isSome then 0x40 else 0), rmeta := r.md.getD 0, len := r.bytes.length }
  s.onePass .port same f 1 s.activeBank (s.ingressPri u r.bytes) r.bytes false false

/-- Ports with a frame in their RX FIFO, from the one after the port served last (R242, R546). -/
def State.nextPort (s : State) : Option Nat :=
  ((List.range 11).map (fun d => (s.cls.lastPort + d) % 11)).find? (fun u => !(s.rxFifoOf u).isEmpty)

/-- PARSER_PASS: the next waiting frame takes its pass, in the order of R242; `same` tells that its allocation is reached in
the CORE_CK cycle of the request before it. -/
def State.parserPass (s : State) (same : Bool) : State :=
  if !s.forwards then s
  else
    let go : State := match s.cls.recirc with
      | f :: rest => { s with cls.recirc := rest }.recircPass same f
      | [] =>
        match s.nextPort with
        | some u =>
          match s.rxFifoOf u with
          | r :: rest => s.portPass same u r rest
          | [] => s
        | none =>
          match s.cls.jobs, s.cls.subs with
          | w :: rest, _ => { s with cls.jobs := rest }.workPass same w
          | [], w :: rest => { s with cls.subs := rest }.workPass same w
          | [], [] => s
    go.showPinned

/-! Rule commands (R259, R260, R269). -/

/-- The result of a rule command in the copy of initiator copy `c`. -/
def State.ruleRes (s : State) (c v : Nat) : State := s.setRg ((CLS_RULE_RES.reg.of c).key 0 0) v

/-- A rule written or cleared in bank `b`, and where `b` is active and the other bank mirrors it, there too (R269). -/
def State.inBanks (s : State) (b : Nat) (f : State → Nat → State) : State :=
  let s := f s b
  if s.activeBank = b ∧ s.bankState (1 - b) = bankMirroring then f s (1 - b) else s

/-- A CLS_RULE_CMD with word `w` of the initiator of copy `c`; `stg` are the captured staging words: VALUE 0 to 7, MASK 0 to 7,
ACT0, ACT1 (R258, R259). -/
def State.ruleCmd (s : State) (c w : Nat) (stg : List Nat) : State :=
  let act := getBits w 0 2
  let b := getBits w 2 1
  let dflt := bitAt w 3
  let k := 4096 * b + getBits w 4 12
  let num (i n : Nat) : Nat := ((stg.drop i).take n).reverse.foldl (fun v x => v * 2 ^ 64 + x) 0
  let value := num 0 8
  let mask := num 8 8
  let a : Act := ⟨stg.getD 16 0, stg.getD 17 0⟩
  let locked := s.bankState b == bankDraining || s.bankState b == bankMirroring
  let refuse (reason : Nat) : State := s.ruleRes c (3 + reason * 4)
  if act = 1 then
    if locked then refuse 1
    else if ruleKeyErr value mask then refuse 2
    else if ruleActErr a then refuse 3
    else
      (s.inBanks b (fun s b =>
        if dflt then s.setDflt b (a.a0, a.a1)
        else s.setRule (4096 * b + k % 4096) ⟨true, value, mask, a.a0, a.a1⟩)).ruleRes c 1
  else if act = 2 then
    if locked then refuse 1
    else if dflt then s.ruleRes c 1
    else
      (s.inBanks b (fun s b => s.setRule (4096 * b + k % 4096) { s.rule (4096 * b + k % 4096) with valid := false })).ruleRes c 1
  else if act = 3 then
    let r : Rule := if dflt then ⟨true, 0, 0, (s.dfltRule b).1, (s.dfltRule b).2⟩ else s.rule k
    let s := s.forEach (List.range 8) (fun s i =>
      (s.setRg ((CLS_STG_VAL.reg.of c).key i 0) (getBits r.value (64 * i) 64)).setRg ((CLS_STG_MASK.reg.of c).key i 0)
        (getBits r.mask (64 * i) 64))
    let s := (s.setRg ((CLS_STG_ACT0.reg.of c).key 0 0) r.act0).setRg ((CLS_STG_ACT1.reg.of c).key 0 0) r.act1
    s.ruleRes c (1 + b2n r.valid * 2 ^ 5)
  else s

/-! Bank swap (R266 to R269). -/

/-- A CLS_BANK_CMD write (R267). -/
def State.bankSwapCmd (s : State) (w : Nat) : State :=
  if getBits w 0 2 ≠ 1 ∨ s.on CLS_BANK_STAT.PEND = true ∨ s.bankState (1 - s.activeBank) ≠ bankStandby then
    s.clsEvt CLS_EVT.CMD_REFUSED
  else (s.put CLS_BANK_STAT.PEND 1).put CLS_BANK_STAT.MIRROR_PEND (b2n (bitAt w 2))

/-- The swap at a bell edge (R267). -/
def State.swapEdge (s : State) : State :=
  if s.on CLS_BANK_STAT.PEND then
    let old := s.activeBank
    let s := (s.put CLS_BANK_STAT.PEND 0).put CLS_BANK_STAT.ACTIVE (1 - old)
    let s := (s.setBankState (1 - old) bankActive).setBankState old bankDraining
    let s := s.put CLS_BANK_STAT.SWAP_NUM (s.get CLS_BANK_STAT.SWAP_NUM + 1)
    (s.clsEvt CLS_EVT.SWAPPED).showPinned
  else s

/-- DRAIN_END: no frame is pinned to the draining bank (R266). -/
def State.drainEnd (s : State) : State :=
  let b := 1 - s.activeBank
  if s.bankState b = bankDraining ∧ s.pinned = 0 then
    if s.on CLS_BANK_STAT.MIRROR_PEND then
      ((s.setBankState b bankMirroring).put CLS_BANK_STAT.STEPS_LEFT 16).put CLS_BANK_STAT.MIRROR_PEND 0
    else (s.setBankState b bankStandby).clsEvt CLS_EVT.STANDBY_READY
  else s

/-- Copy rules `lo` to `lo + 255` of bank `a` to bank `b`. -/
def State.copyRules (s : State) (a b lo : Nat) : State :=
  let inside (k bank : Nat) : Bool := decide (4096 * bank + lo ≤ k) && decide (k < 4096 * bank + lo + 256)
  let src := (s.cls.rules.filter (fun e => inside e.1 a)).map (fun e => (e.1 % 4096, e.2))
  let s := { s with cls.rules := s.cls.rules.filter (fun e => !inside e.1 b) }
  s.forEach src (fun s e => s.setRule (4096 * b + e.1) e.2)

/-- RULE_BANK_SWAP_STEP: one copy step (R269). -/
def State.mirrorStep (s : State) : State :=
  let a := s.activeBank
  let b := 1 - a
  let left := s.get CLS_BANK_STAT.STEPS_LEFT
  if s.bankState b = bankMirroring ∧ 0 < left then
    let s := (s.copyRules a b (256 * (16 - left))).put CLS_BANK_STAT.STEPS_LEFT (left - 1)
    if left = 1 then ((s.setDflt b (s.dfltRule a)).setBankState b bankStandby).clsEvt CLS_EVT.STANDBY_READY else s
  else s

/-! Flow commands (R255, R256). -/

/-- The result of a flow command in copy `c`. -/
def State.flowRes (s : State) (c v : Nat) : State := s.setRg ((CLS_FLOW_RES.reg.of c).key 0 0) v

/-- A CLS_FLOW_CMD with word `w` of copy `c`; `stg` holds the captured key words 0 to 4 and the data word (R255). -/
def State.flowCmd (s : State) (c w : Nat) (stg : List Nat) : State :=
  let act := getBits w 0 2
  let idx := getBits w 16 16
  let key := ((stg.take 5).reverse.foldl (fun v x => v * 2 ^ 64 + x) 0).land s.flowMask
  let tag := getBits (stg.getD 5 0) 0 15
  if act = 1 then
    match s.flowFind key with
    | some e => (s.putFlow e.1 { e.2 with tag := tag }).flowRes c (1 + 2 ^ 4 + e.1 * 2 ^ 16)
    | none =>
      let b := s.flowBucket key
      match ([0, 1, 2, 3].map (· + 4 * b)).find? (fun i => !s.cls.flows.any (fun e => e.1 == i)) with
      | some i => (s.putFlow i ⟨key, tag, false⟩).countFlows.flowRes c (1 + i * 2 ^ 16)
      | none => ((s.cc ccFlowFull).clsEvt CLS_EVT.FLOW_FULL).flowRes c (3 + 1 * 4)
  else if act = 2 then
    match s.flowFind key with
    | some e => (s.delFlow e.1).countFlows.flowRes c (1 + e.1 * 2 ^ 16)
    | none => s.flowRes c (3 + 2 * 4)
  else if act = 3 then
    match s.cls.flows.find? (fun e => e.1 == idx) with
    | some e =>
      let s := if bitAt w 2 then s.putFlow idx { e.2 with hit := false } else s
      let s := s.forEach (List.range 5) (fun s i => s.setRg ((CLS_FLOW_KEY.reg.of c).key i 0) (getBits e.2.key (64 * i) 64))
      (s.setRg ((CLS_FLOW_DATA.reg.of c).key 0 0) e.2.tag).flowRes c (1 + 2 ^ 5 + b2n e.2.hit * 2 ^ 6 + idx * 2 ^ 16)
    | none =>
      let s := s.forEach (List.range 5) (fun s i => s.setRg ((CLS_FLOW_KEY.reg.of c).key i 0) 0)
      (s.setRg ((CLS_FLOW_DATA.reg.of c).key 0 0) 0).flowRes c (1 + idx * 2 ^ 16)
  else s

/-- Is a CLS_FLOW_MASK or SEED write refused: the table holds entries (R256)? -/
def State.flowCfgLocked (s : State) : Bool := s.on CLS_FLOW_STAT.COUNT
def State.flowCfgRefuse (s : State) : State := s.put CLS_FLOW_STAT.CFG_REFUSED 1

end Sys2Proof.Machine
end

