-- ==== Sys2Proof/Machine/Radio.lean ====
section
/-! DEFINITION. The radio ports (R170 to R186): states and beacon supervision, receive with metadata, transmit, credit. -/

namespace Sys2Proof.Machine

open Sys2Proof

/-- Counter slots of R185, as indices of RADn_CNT. -/
def rcRxFrames : Nat := 0
def rcRxOctets : Nat := 1
def rcRxRunt : Nat := 2
def rcRxFcsErr : Nat := 3
def rcRxOversize : Nat := 4
def rcRxOversizeDrop : Nat := 5
def rcRxAbort : Nat := 6
def rcRxProtoErr : Nat := 7
def rcRxRetry : Nat := 8
def rcRxTimeInvalid : Nat := 9
def rcRxTimeAhead : Nat := 10
def rcRxHoldNs : Nat := 11
def rcTxFrames : Nat := 12
def rcTxOctets : Nat := 13
def rcTxPad : Nat := 14
def rcTxOversizeDrop : Nat := 15
def rcTxSilentDrop : Nat := 16
def rcTxFlushDrop : Nat := 17
def rcTxLaunchDrop : Nat := 18
def rcTxAbort : Nat := 19
def rcTxStallNs : Nat := 20
def rcBcnReports : Nat := 21
def rcBcnMissed : Nat := 22
def rcBcnSeqGap : Nat := 23
def rcBcnSeqErr : Nat := 24
def rcSilentEvents : Nat := 25

def State.rc (s : State) (n slot : Nat) : State := s.count RAD_CNT.COUNT n slot
def State.revt (s : State) (f : Fld) (n : Nat) : State := s.evt f (0x40 + n) n

/-- State codes of R180. -/
def radDisabled : Nat := 0
def radDown : Nat := 1
def radWaiting : Nat := 2
def radUp : Nat := 3
def radSilent : Nat := 4
def State.radState (s : State) (n : Nat) : Nat := s.get RAD_STAT.STATE n

/-- The unit number of radio port `n` (R170). -/
def radUnit (n : Nat) : Nat := 8 + n

/-- Is egress of radio port `n` held (R182)? -/
def State.radHeld (s : State) (n : Nat) : Bool := s.radState n != radUp || s.on RAD_STAT.TX_HOLD n

/-- Is the SOP beat of the waiting frame on the stream, VALID at 1 (R172)? -/
def State.sopOffered (s : State) (n : Nat) : Bool :=
  match (s.rad n).offer with
  | some f => (s.rad n).tx.isNone && decide (f ≤ s.frc.toNat)
  | none => false

/-- A waiting copy is taken back: it goes to the head of its class queue. -/
def State.radWithdraw (s : State) (n : Nat) : State :=
  match (s.rad n).wait with
  | some t => (s.onRad n (fun r => { r with wait := none, offer := none })).pushFront (radUnit n) t.e
  | none => s

/-- Egress is held: a waiting copy whose SOP beat is not on the stream yet goes back (R172, R182). -/
def State.radDiscard (s : State) (n : Nat) : State := if s.sopOffered n then s else s.radWithdraw n

/-- VALID rises for the waiting frame as soon as egress is not held, no frame is in transfer and the credit is at least 0 (R173,
R175). -/
def State.radOffer (s : State) (n : Nat) : State :=
  let r := s.rad n
  if r.wait.isSome && r.tx.isNone && r.offer.isNone && !s.radHeld n then
    let from_ := max s.frc.toNat r.txCreditAt
    s.setRad n { r with offer := some (from_ + 2 * creditWait (s.txCreditAt n from_) (s.get RAD_CTRL.TX_INC n)) }
  else s

/-- Drop every queued frame of radio port `n`, each counted in TX_FLUSH_DROP (R182, R184). -/
def State.radFlush (s : State) (n : Nat) : State :=
  let s := s.radDiscard n
  s.forEach (List.range 8) (fun s c =>
    let q := s.cq (radUnit n) c
    (s.setCq (radUnit n) c []).forEach q (fun s e => (s.rc n rcTxFlushDrop).endCopy (radUnit n) e .flush 0))

/-- The port becomes DISABLED or DOWN: a frame partly transferred is cut with a pulse of TX_ABORT, an open receive frame is
discarded, and the stream offers nothing any more (R184). -/
def State.radAbort (s : State) (n : Nat) : State :=
  let s := (s.radWithdraw n).onRad n (fun r => { r with rxOpen := none, rxSkip := false })
  match (s.rad n).tx with
  | some t =>
    let s := s.onRad n (fun r => { r with tx := none, abortAt := some s.frc.toNat, txCreditAt := min r.txCreditAt s.frc.toNat })
    (s.rc n rcTxAbort).endCopy (radUnit n) t.e .abort 0
  | none => s

/-- The FRC of a deadline `us` microseconds after `f`. -/
def dueAt (f us : Nat) : Nat := f + us * 1000

/-- Enter WAITING: a deadline is armed at entry + I + s, and the next report is not compared (R181, R183). -/
def State.radWait (s : State) (n : Nat) : State :=
  let s := (s.put RAD_STAT.STATE radWaiting n).put RAD_STAT.MISSES 0 n
  let s := s.put RAD_STAT.RESUME_CNT 0 n
  s.onRad n (fun r => { r with lastSeq := none, due := dueAt s.frc.toNat (s.get RAD_BCN_CFG.INTERVAL_US n + s.get RAD_BCN_CFG.SLACK_US n) })

/-- Bring the state of radio port `n` up to date with EN, the clock, the mode and the unit's function (R180, R547). -/
def State.radEval (s : State) (n : Nat) : State :=
  let clk := s.clkOn 10
  let s := s.put RAD_STAT.CLK_OK (b2n clk) n
  let old := s.radState n
  if s.on RAD_CTRL.EN n = false ∨ (s.role (radUnit n)).func = .idle then
    if old = radDisabled then s
    else ((s.put RAD_STAT.STATE radDisabled n).radAbort n).radFlush n |>.onRad n (fun r => { r with due := 0, rxValid := false })
  else if clk = false ∨ s.mode = 0 ∨ s.mode = 5 then
    if old = radDown then s
    else ((s.put RAD_STAT.STATE radDown n).radAbort n).onRad n (fun r => { r with due := 0 })
  else if old = radDisabled ∨ old = radDown then s.radWait n
  else s

/-- Enter SILENT (R181, R182). -/
def State.radSilence (s : State) (n : Nat) : State :=
  let s := ((s.put RAD_STAT.STATE radSilent n).put RAD_STAT.RESUME_CNT 0 n).radDiscard n
  let s := (s.revt RAD_EVT.SILENT_ENTER n).rc n rcSilentEvents
  if s.on RAD_SILENT_CFG.FLUSH n then s.radFlush n else s

/-- The effects of a report with content `info` (R179, R181, R183). -/
def State.bcnReport (s : State) (n info : Nat) : State :=
  let s := s.rc n rcBcnReports
  let hold := bitAt info 24
  let was := s.on RAD_STAT.TX_HOLD n
  let s := s.put RAD_BCN_LAST.INFO info n
  let s := s.onRad n (fun r => { r with bcnAt := s.frc.toNat })
  let s := s.put RAD_STAT.TX_HOLD (b2n hold) n
  let s := if hold != was then s.revt RAD_EVT.HOLD_CHG n else s
  let s := if hold then s.radDiscard n else s
  let st := s.radState n
  if st = radDisabled ∨ st = radDown then s
  else
    let seq := getBits info 0 16
    let s := match (s.rad n).lastSeq with
      | none => s
      | some q =>
        let d := wrapDiff 16 seq q
        if 1 < d then s.countN RAD_CNT.COUNT (d - 1).toNat n rcBcnSeqGap
        else if d ≤ 0 then (s.rc n rcBcnSeqErr).revt RAD_EVT.BCN_SEQ n
        else s
    let s := s.onRad n (fun r => { r with lastSeq := some seq, due := dueAt s.frc.toNat (s.get RAD_BCN_CFG.INTERVAL_US n + s.get RAD_BCN_CFG.SLACK_US n) })
    let s := s.put RAD_STAT.MISSES 0 n
    if st = radWaiting then (s.put RAD_STAT.STATE radUp n).revt RAD_EVT.UP n
    else if st = radSilent then
      let c := s.get RAD_STAT.RESUME_CNT n + 1
      if s.get RAD_BCN_CFG.RESUME n ≤ c then
        ((s.put RAD_STAT.STATE radUp n).put RAD_STAT.RESUME_CNT c n).revt RAD_EVT.SILENT_EXIT n
      else s.put RAD_STAT.RESUME_CNT c n
    else s

/-- BEACON_REPORT: after it, a waiting frame may be offered (R182). -/
def State.beacon (s : State) (n info : Nat) : State := (s.bcnReport n info).radOffer n

/-- BCN_MISSED: a deadline passes without a report (R181). -/
def State.bcnMissed (s : State) (n : Nat) : State :=
  let due := (s.rad n).due
  if due = 0 then s
  else
    let s := s.advanceTo due
    let s := s.rc n rcBcnMissed
    let s := s.onRad n (fun r => { r with due := dueAt due (s.get RAD_BCN_CFG.INTERVAL_US n) })
    let m := min 3 (s.get RAD_STAT.MISSES n + 1)
    let s := s.put RAD_STAT.MISSES m n
    if s.radState n = radSilent then s.put RAD_STAT.RESUME_CNT 0 n
    else if m = 3 then s.radSilence n
    else s

/-- The credit cost of each beat of `len` bytes, the first with 16 bytes of metadata where it is an SOP beat (R172, R173). -/
def beatCosts (len : Nat) (sop : Bool) : List Nat :=
  (List.range ((len + 31) / 32)).map (fun i => min 32 (len - 32 * i) + (if sop && i == 0 then 16 else 0))

/-- Beats go in the first cycle in which the credit is at least 0; each cycle subtracts the cost and then adds the increment, up to
512 (R173). The RAD_CK cycles in which they go from cycle `o` on, the cycle after the last, and the credit then. -/
def beatRun (inc : Nat) : List Nat → Int → Nat → List Nat × Nat × Int
  | [], c, o => ([], o, c)
  | k :: ks, c, o =>
    let w := creditWait c inc
    let r := beatRun inc ks (min 512 (creditUp c inc w - k + inc)) (o + w + 1)
    ((o + w) :: r.1, r.2)

/-! Receive. -/

/-- What an SOP beat brings (R177, R186): S is read when it transfers, `ago` ns ago. -/
def State.radPart (s : State) (n md ago : Nat) : RadPart :=
  let f := s.frc.toNat - ago
  let d := wrapDiff 32 (getBits md 64 32) (s.stNsAt f % 2 ^ 32)
  let ns : Int := if bitAt md 126 && decide (d ≤ 0) then (s.stNsAt f : Int) + d else s.stNsAt f
  RadPart.mk md (ns * 65536 % 2 ^ 80).toNat (decide (0 < d)) (s.get RAD_MAX_FRAME.MAX_FRAME n) []

/-- A frame has ended with its EOP beat (R113, R116, R174, R177); `ab` is RADn_RX_ERR. -/
def State.radFrame (s : State) (n : Nat) (p : RadPart) (ab : Bool) : State :=
  let b := p.bytes
  let len := b.length
  let body := b.take (len - 4)
  let stored := body.take (p.max - 4)
  let big := decide (p.max < len)
  let good := b.drop (len - 4) == fcsBytes body
  let drop := big && s.on RAD_CTRL.OVS_DROP n
  let s := s.crcTapRx (radUnit n) stored (!ab && decide (64 ≤ len) && good && !drop)
  if ab then s.rc n rcRxAbort
  else if len < 64 then s.rc n rcRxRunt
  else if !good then s.rc n rcRxFcsErr
  else
    let s := if big then s.rc n rcRxOversize else s
    if drop then s.rc n rcRxOversizeDrop
    else
      let s := (s.rc n rcRxFrames).countN RAD_CNT.COUNT len n rcRxOctets
      let s := if bitAt p.md 125 then s.rc n rcRxRetry else s
      let s := if !bitAt p.md 126 then s.rc n rcRxTimeInvalid else if p.ahead then s.rc n rcRxTimeAhead else s
      s.onRad n (fun r => { r with rxFifo := r.rxFifo ++ [⟨stored, big, p.ts, some p.md, s.get GLB_BELL_NUM.BELL⟩] })

/-- A receive framing fault (R174). -/
def State.radProto (s : State) (n : Nat) : State := (s.rc n rcRxProtoErr).revt RAD_EVT.PROTO_ERR n

/-- A beat without SOP while no frame is open is discarded, counted once per run (R174). -/
def State.radStrayBeat (s : State) (n : Nat) : State :=
  if (s.rad n).rxSkip then s else (s.onRad n (fun r => { r with rxSkip := true })).radProto n

/-- A frame still open 65,536 bytes after its SOP is discarded, with the beats that follow (R174). -/
def State.radTooLong (s : State) (n : Nat) : State := (s.onRad n (fun r => { r with rxOpen := none, rxSkip := true })).radProto n

/-- Bytes `b` join the open frame `p`, the last of them in an EOP beat where `eop`, with RADn_RX_ERR where `err` (R174). -/
def State.radGrow (s : State) (n : Nat) (p : RadPart) (eop err : Bool) (b : List Nat) : State :=
  let p := { p with bytes := p.bytes ++ b }
  let s := s.onRad n (fun r => { r with rxOpen := if eop then none else some p, rxSkip := false })
  if decide (65536 < p.bytes.length) || (decide (p.bytes.length = 65536) && !eop) then s.radTooLong n
  else if eop then s.radFrame n p err
  else s

/-- The cycles that receive beats of `len` bytes take, the first offered `ago` ns ago, and the credit after the last. -/
def State.rxRun (s : State) (n ago len : Nat) (sop : Bool) : Nat × Int :=
  (beatRun (s.get RAD_CTRL.RX_INC n) (beatCosts len sop) (s.rxCreditAt n (s.frc.toNat - ago)) 0).2

/-- Has READY let these beats through by now (R173)? The credit and the earlier beats leave them the cycles, and the RX FIFO has 32
bytes free at the last of them. -/
def State.radTakes (s : State) (n ago len : Nat) (sop : Bool) : Bool :=
  let part := match (s.rad n).rxOpen with
    | some p => if sop then RadPart.mk 0 0 false (s.get RAD_MAX_FRAME.MAX_FRAME n) [] else p
    | none => RadPart.mk 0 0 false (s.get RAD_MAX_FRAME.MAX_FRAME n) []
  let before := min (part.bytes.length + 32 * ((len + 31) / 32 - 1)) (part.max - 4)
  let other := match (s.rad n).rxOpen with
    | some p => p.held
    | none => 0
  s.radState n != radDown && decide ((s.rad n).rxCreditAt ≤ s.frc.toNat - ago) &&
    decide (2 * ((s.rxRun n ago len sop).1 - 1) ≤ ago) && decide (s.radFill n - other + before + 32 ≤ radFifo)

/-- The beats have gone: the credit follows, and the cycles READY stood at 0 between them count (R173, R185). -/
def State.rxBeats (s : State) (n ago len : Nat) (sop : Bool) : State :=
  let r := s.rxRun n ago len sop
  let s := s.onRad n (fun q => { q with rxCredit := r.2, rxCreditAt := s.frc.toNat - ago + 2 * r.1, rxValid := false })
  s.countN RAD_CNT.COUNT (2 * (r.1 - (len + 31) / 32)) n rcRxHoldNs

/-- RADIO_RX_FRAME: receive beats with the bytes `b`, the first `ago` ns ago (R172 to R177). In DISABLED they are discarded; beats
that READY does not let through stay on the stream (R173, R180). -/
def State.radRx (s : State) (n md ago : Nat) (sop eop err : Bool) (b : List Nat) : State :=
  if s.radState n = radDisabled then s
  else if !s.radTakes n ago b.length sop then s.onRad n (fun r => { r with rxValid := true })
  else
    let s := s.rxBeats n ago b.length sop
    match sop, (s.rad n).rxOpen with
    | true, none => s.radGrow n (s.radPart n md ago) eop err b
    | true, some _ => (s.radProto n).radGrow n (s.radPart n md ago) eop err b
    | false, some p => s.radGrow n p eop err b
    | false, none => s.radStrayBeat n

/-- Does the receive stream of port `n` take beats that count (R173, R180)? -/
def State.radRxOn (s : State) (n : Nat) : Bool := decide (radWaiting ≤ s.radState n)

/-- RADIO_STRAY_BEAT: a beat without SOP while no frame is open (R174). -/
def State.radStray (s : State) (n : Nat) : State :=
  if s.radRxOn n = true ∧ (s.rad n).rxOpen = none then s.radStrayBeat n else s

/-- RADIO_RX_OVERLONG: a frame still open 65,536 bytes after its SOP (R174). -/
def State.radOverlong (s : State) (n : Nat) : State := if s.radRxOn n then s.radTooLong n else s

/-! Transmit. -/

/-- May the head of class `c` of radio port `n` be copied (R182)? -/
def State.radElig (s : State) (n c : Nat) : Option Nat :=
  if s.radHeld n then none
  else (s.cq (radUnit n) c).head?.map (s.wireLen (radUnit n))

/-- EGRESS_COPY on a radio port (R118, R175, R182, R286, R292). In DISABLED the queued frames are dropped (R184). -/
def State.radCopy (s : State) (n : Nat) : State :=
  let u := radUnit n
  if s.radState n = radDisabled then s.radFlush n
  else if (s.rad n).wait.isSome then s
  else
    let r := s.schedule u (s.radElig n)
    match r.2 with
    | none => r.1
    | some c =>
      match r.1.popCq u c with
      | (s, none) => s
      | (s, some e) =>
        if s.get RAD_MAX_FRAME.MAX_FRAME n < s.wireLen u e then (s.rc n rcTxOversizeDrop).endCopy u e .oversize 0
        else
          match s.fetchFrame u e with
          | (s, none) => s.endCopy u e .memErr 0
          | (s, some payload) =>
            let data := s.copyBytes u e payload
            let s := s.crcTapRd e.f.src e.f.ptr payload
            let (s, marks) := s.crcTapTx u data
            let t := TxFrame.mk e data (decide (s.editedLen u e < 60)) 0 0 0 false s.frc.toNat false 0 marks true
            (s.onRad n (fun r => { r with wait := some t })).radOffer n

/-- The transmit metadata word (R178): of a bridged frame, or of a held downlink. -/
def txMeta (e : QEntry) (tag : Nat) : Nat :=
  match e.f.downlink with
  | some (nbr, link) => nbr + link % 8 * 2 ^ 64 + e.cls * 2 ^ 72 + 2 ^ 75 + tag % 65536 * 2 ^ 80
  | none => (2 ^ 64 - 1) + 2 ^ 67 + e.cls * 2 ^ 72 + tag % 65536 * 2 ^ 80

/-- The frame with its FCS, as the stream carries it (R172, R175). -/
def TxFrame.stream (t : TxFrame) : List Nat := t.data ++ txFcs t.e t.data

/-- RADIO_TX_SOP: the SOP beat on the stream transfers (R173, R175). DESIGN CHOICE (log entry 143): the beats that follow it go as
the credit allows, and READY holds the EOP beat alone. -/
def State.radSop (s : State) (n : Nat) : State :=
  match (s.rad n).wait with
  | none => s
  | some t =>
    if s.sopOffered n then
      let inc := s.get RAD_CTRL.TX_INC n
      let run := beatRun inc ((beatCosts (t.data.length + 4) true).dropLast) (s.txCreditAt n s.frc.toNat) 0
      let w := creditWait run.2.2 inc
      s.onRad n (fun r => { r with wait := none, offer := none, tx := some { t with startAt := s.frc.toNat },
                                   txBeats := run.1.map (fun o => s.frc.toNat + 2 * o),
                                   txCredit := creditUp run.2.2 inc w, txCreditAt := s.frc.toNat + 2 * (run.2.1 + w),
                                   wire := t.stream, metaOut := txMeta t.e r.tag, tag := (r.tag + 1) % 65536 })
    else s

/-- The cost of the EOP beat of `len` bytes. -/
def eopCost (len : Nat) : Nat := (len - 1) % 32 + 1

/-- EOP: the EOP beat transfers: the frame leaves the FIFO, counts, releases its buffer and completes (R175, R373). -/
def State.radEop (s : State) (n : Nat) : State :=
  match (s.rad n).tx with
  | none => s
  | some t =>
    if (s.rad n).txCreditAt ≤ s.frc.toNat then
      let len := t.data.length + 4
      let c := s.txCreditAt n s.frc.toNat - eopCost len + s.get RAD_CTRL.TX_INC n
      let s := s.onRad n (fun r => { r with tx := none, txCredit := min 512 c, txCreditAt := s.frc.toNat + 2 })
      let s := (s.rc n rcTxFrames).countN RAD_CNT.COUNT len n rcTxOctets
      let s := if t.padded then s.rc n rcTxPad else s
      ((s.crcSent t.marks).endCopy (radUnit n) t.e .sent (s.stNs * 65536)).radOffer n
    else s

/-! The stream outputs (R171, R172). -/

/-- RADn_TX_VALID: a beat is on the stream: the SOP beat of the waiting frame, or a beat of the frame in transfer in its cycle,
the EOP beat from its cycle on. -/
def State.radTxValid (s : State) (n : Nat) : Bool :=
  let r := s.rad n
  if r.tx.isSome then
    decide (r.txCreditAt ≤ s.frc.toNat) || r.txBeats.any (fun f => decide (f ≤ s.frc.toNat) && decide (s.frc.toNat < f + 2))
  else s.sopOffered n

/-- RADn_TX_ABORT: high for one RAD_CK cycle (R184). -/
def State.radTxAbort (s : State) (n : Nat) : Bool :=
  match (s.rad n).abortAt with
  | some f => decide (f ≤ s.frc.toNat) && decide (s.frc.toNat < f + 2)
  | none => false

/-- Beat `k` of the frame on the transmit stream: DATA, SOP, EOP, BYTES. -/
def State.radBeat (s : State) (n k : Nat) : Nat × Bool × Bool × Nat :=
  let w := (s.rad n).wire
  let last := (w.length + 31) / 32 - 1
  (leNat ((w.drop (32 * k)).take 32), k == 0, k == last, if k = last then w.length % 32 else 0)

/-- The credits brought up to now, before an increment changes (R173). -/
def State.radSettle (s : State) (n : Nat) : State :=
  let f := s.frc.toNat
  let a := s.rxCreditAt n f
  let b := s.txCreditAt n f
  s.onRad n (fun r => { r with rxCredit := a, rxCreditAt := max r.rxCreditAt f, txCredit := b, txCreditAt := max r.txCreditAt f })

/-- RADn_CTRL was written: EN is set or cleared (R178, R184). -/
def State.radCtrlChanged (s : State) (n old : Nat) : State :=
  let s := if s.on RAD_CTRL.EN n && !bitAt old 0 then
      s.onRad n (fun r => { r with tag := 0 })
    else s
  s.radEval n

end Sys2Proof.Machine
end

