-- ==== Sys2Proof/Machine/Bridge.lean ====
section
/-! DEFINITION. The bridge and the enqueue engine (R276 to R289): VLANs, the forwarding database with learning and aging, the
checks of a frame's destinations, and their queues. -/

namespace Sys2Proof.Machine

open Sys2Proof

/-- Slots of R295, as indices of EGR_CNT. -/
def ecEnq (c : Nat) : Nat := 2 * c
def ecQuota (c : Nat) : Nat := 2 * c + 1
def ecFlood : Nat := 16
def ecVlan : Nat := 17
def ecFiltered : Nat := 18
def ecLl : Nat := 19
def ecLearned : Nat := 20
def ecMoves : Nat := 21
def ecLearnFull : Nat := 22
def ecLearnSkip : Nat := 23
def ecEnqFull : Nat := 24

/-- The slot of a radio port's section that holds an egress counter (R281, R295). -/
def radSlot (slot : Nat) : Option Nat :=
  if slot < 16 then (if slot % 2 = 1 then some 27 else none)
  else if slot = ecVlan then some 28
  else if slot = ecFlood ∨ slot = ecFiltered ∨ slot = ecLl then some 29
  else if slot = ecLearned then some 30
  else if slot = ecMoves then some 31
  else none

/-- Count in the egress section of port unit `u` (R295). -/
def State.ec (s : State) (u slot : Nat) : State :=
  if u < 8 then s.count EGR_CNT.COUNT u slot
  else
    match radSlot slot with
    | some k => if u ≤ 0x0A then s.rc (u - 8) k else s
    | none => s

def State.brEvt (s : State) (f : Fld) : State := s.evt f 0x46

/-! The forwarding database (R279 to R285). -/

/-- The fields of an entry's data word. -/
def FdbEntry.ports (e : FdbEntry) : Nat := getBits e.data 0 11
def FdbEntry.parts (e : FdbEntry) : Nat := getBits e.data 11 8
def FdbEntry.dest (e : FdbEntry) : Nat := getBits e.data 0 19
def FdbEntry.static (e : FdbEntry) : Bool := bitAt e.data 19
def FdbEntry.drop (e : FdbEntry) : Bool := bitAt e.data 20
def FdbEntry.age (e : FdbEntry) : Nat := getBits e.data 24 8
def FdbEntry.setAge (e : FdbEntry) (a : Nat) : FdbEntry := { e with data := setBits e.data 24 8 a }

/-- The bucket of a key (R279). -/
def fdbBucket (mac vid : Nat) : Nat := crc32c (beBytes (mac * 65536 + vid) 8) % 4096

/-- The valid entry of a key, with its index. -/
def State.fdbFind (s : State) (mac vid : Nat) : Option (Nat × FdbEntry) :=
  s.cls.fdb.find? (fun e => e.2.mac == mac && e.2.vid == vid)

/-- The lowest free way of a key's bucket, as an entry index. -/
def State.fdbFree (s : State) (mac vid : Nat) : Option Nat :=
  ([0, 1, 2, 3].map (· + 4 * fdbBucket mac vid)).find? (fun i => !s.cls.fdb.any (fun e => e.1 == i))

/-- BR_FDB_STAT.COUNT shows the valid entries. -/
def State.showFdb (s : State) : State := s.put BR_FDB_STAT.COUNT s.cls.fdb.length
def State.putFdb (s : State) (i : Nat) (e : FdbEntry) : State :=
  { s with cls.fdb := mapIns i e (mapDel i s.cls.fdb) }.showFdb
def State.delFdb (s : State) (i : Nat) : State := { s with cls.fdb := mapDel i s.cls.fdb }.showFdb

/-- The data word of a dynamic entry for port `u`. -/
def State.dynData (s : State) (u : Nat) : Nat := 2 ^ u + s.get BR_CFG.AGE_TERMS * 2 ^ 24

/-- A learn write is queued; a full queue discards it (R283). -/
def State.queueLearn (s : State) (l : Learn) : State :=
  if s.cls.learn.length < 64 then { s with cls.learn := s.cls.learn ++ [l] } else s.ec l.u ecLearnSkip

/-- A learn insert finds no free way (R282, R283). -/
def State.learnFull (s : State) (u : Nat) : State := (s.ec u ecLearnFull).brEvt BR_EVT.LEARN_FULL

/-- Learn the source address of a frame from port `u` in VLAN `v` (R282). -/
def State.learn (s : State) (u v smac : Nat) : State :=
  if s.on BR_PORT_CFG.LEARN u && s.on BR_CFG.LEARN_EN && s.on BR_VLAN.LEARN v && !bitAt smac 40 then
    match s.fdbFind smac v with
    | some e =>
      if e.2.static then s
      else if e.2.dest = 2 ^ u then s.putFdb e.1 (e.2.setAge (s.get BR_CFG.AGE_TERMS))
      else s.queueLearn ⟨smac, v, u, true⟩
    | none => if (s.fdbFree smac v).isSome then s.queueLearn ⟨smac, v, u, false⟩ else s.learnFull u
  else s

/-- LEARN_WRITE: the learning engine performs the oldest queued write (R282, R283). -/
def State.learnWrite (s : State) : State :=
  match s.cls.learn with
  | [] => s
  | l :: rest =>
    let s := { s with cls.learn := rest }
    let e : FdbEntry := ⟨l.mac, l.vid, s.dynData l.u⟩
    let slot := if l.move then ecMoves else ecLearned
    match s.fdbFind l.mac l.vid with
    | some old => if old.2.static then s else (s.putFdb old.1 e).ec l.u slot
    | none =>
      match s.fdbFree l.mac l.vid with
      | some i => (s.putFdb i e).ec l.u slot
      | none => s.learnFull l.u

/-- One sweep over every bucket (R284). -/
def State.ageAll (s : State) : State :=
  if s.get BR_CFG.AGE_TERMS = 0 then s
  else
    let keep := s.cls.fdb.filter (fun e => e.2.static || e.2.age != 0)
    { s with cls.fdb := keep.map (fun (e : Nat × FdbEntry) => (e.1, if e.2.static then e.2 else e.2.setAge (e.2.age - 1))) }.showFdb

/-- The age sweep of a term boundary starts, or is skipped (R284). -/
def State.ageSweep (s : State) : State :=
  if s.on BR_FDB_STAT.SWEEP then s.brEvt BR_EVT.SWEEP_SKIP
  else { s.ageAll.put BR_FDB_STAT.SWEEP 1 with cls.flushing := false }

/-- AGE_SWEEP_END (R284). -/
def State.ageSweepEnd (s : State) : State :=
  if s.on BR_FDB_STAT.SWEEP && !s.cls.flushing then s.put BR_FDB_STAT.SWEEP 0 else s

/-- FLUSH_DONE (R285). -/
def State.flushEnd (s : State) : State :=
  if s.on BR_FDB_STAT.SWEEP && s.cls.flushing then
    { s.put BR_FDB_STAT.SWEEP 0 with cls.flushing := false }.brEvt BR_EVT.FLUSH_DONE
  else s

/-- The result of a forwarding-database command in copy `c`. -/
def State.fdbRes (s : State) (c v : Nat) : State := s.setRg ((BR_FDB_RES.reg.of c).key 0 0) v

/-- A BR_FDB_CMD with word `w` of copy `c`; `stg` holds the captured key and data words (R285). -/
def State.fdbCmd (s : State) (c w : Nat) (stg : List Nat) : State :=
  let act := getBits w 0 3
  let idx := getBits w 16 14
  let k := stg.getD 0 0
  let d := stg.getD 1 0
  let mac := getBits k 0 48
  let vid := getBits k 48 12
  if act = 1 then
    let e : FdbEntry := ⟨mac, vid, getBits d 0 21 + getBits d 24 8 * 2 ^ 24⟩
    match s.fdbFind mac vid, s.fdbFree mac vid with
    | some old, _ => (s.putFdb old.1 e).fdbRes c (1 + old.1 * 2 ^ 16)
    | none, some i => (s.putFdb i e).fdbRes c (1 + i * 2 ^ 16)
    | none, none => s.fdbRes c (3 + 1 * 4)
  else if act = 2 then
    match s.fdbFind mac vid with
    | some old => (s.delFdb old.1).fdbRes c (1 + old.1 * 2 ^ 16)
    | none => s.fdbRes c (3 + 2 * 4)
  else if act = 3 then
    match s.cls.fdb.find? (fun e => e.1 == idx) with
    | some e =>
      ((s.setRg ((BR_FDB_KEY.reg.of c).key 0 0) (e.2.mac + e.2.vid * 2 ^ 48)).setRg ((BR_FDB_DATA.reg.of c).key 0 0) e.2.data).fdbRes c
        (1 + 2 ^ 4 + idx * 2 ^ 16)
    | none =>
      ((s.setRg ((BR_FDB_KEY.reg.of c).key 0 0) 0).setRg ((BR_FDB_DATA.reg.of c).key 0 0) 0).fdbRes c (1 + idx * 2 ^ 16)
  else if act = 4 then
    if s.on BR_FDB_STAT.SWEEP then s.fdbRes c (3 + 3 * 4)
    else
      let goes (e : FdbEntry) : Bool :=
        !e.static && e.dest.land (getBits d 0 19) != 0 && (!bitAt k 60 || e.vid == vid)
      let s := { s with cls.fdb := s.cls.fdb.filter (fun e => !goes e.2), cls.flushing := true }.showFdb
      (s.put BR_FDB_STAT.SWEEP 1).fdbRes c 1
  else s

/-! The bridge decision (R276, R277, R281). -/

/-- Mask `m` without bit `u`. -/
def maskMinus (m u : Nat) : Nat := if bitAt m u then m - 2 ^ u else m

/-- VLAN v of a frame (R276): that of a frame from a port is decided here. -/
def State.vlanOf (s : State) (f : Frame) : Nat :=
  if f.src ≤ 0x0A then
    (if f.tagged && f.tci % 4096 != 0 then f.tci % 4096 else s.get BR_PORT_CFG.PVID f.src)
  else f.vlan

/-- Is address `m` one of 01-80-C2-00-00-00 to -0F? -/
def isLinkLocal (m : Nat) : Bool := m / 16 == 0x180C200000

/-- Does R277 remove the bridge destinations of a frame from `src` in VLAN `v`? -/
def State.vlanBars (s : State) (src v : Nat) : Bool :=
  v == 4095 || !s.on BR_VLAN.VALID v ||
    (decide (src ≤ 0x0A) && s.on BR_PORT_CFG.IN_FILTER src && !bitAt (s.get BR_VLAN.MEMBERS v) src)

/-- The destinations that the bridge adds to a frame (R277, R281), with learning. -/
def State.bridge (s : State) (w : Fwd) : State × Fwd :=
  let f := w.f
  let v := f.vlan
  if s.vlanBars f.src v then (s.ec f.src ecVlan, w)
  else
    let dmac := f.mac / 2 ^ 48
    let m := s.get BR_VLAN.MEMBERS v
    let parts := s.get BR_VLAN.PARTS v
    let r : State × Fwd :=
      if isLinkLocal dmac then
        if s.on BR_CFG.LL_TO_SC then (s, { w with cores := w.cores.lor 1 }) else (s.ec f.src ecLl, w)
      else
        match s.fdbFind dmac v with
        | some e =>
          if e.2.drop then (s.ec f.src ecFiltered, w)
          else
            let dp := maskMinus (e.2.ports.land m) f.src
            let dq := e.2.parts.land parts
            if dp = 0 ∧ dq = 0 then (s.ec f.src ecFiltered, w)
            else (s, { w with ports := w.ports.lor dp, parts := w.parts.lor dq })
        | none =>
          (s.ec f.src ecFlood, { w with ports := w.ports.lor (maskMinus m f.src), parts := w.parts.lor parts })
    if f.src ≤ 0x0A then (r.1.learn f.src v (f.mac % 2 ^ 48), r.2) else r

/-! Enqueue (R287 to R289). -/

/-- The quota of class `c` of port `u` in bytes (R287). -/
def State.classQuota (s : State) (u c : Nat) : Nat :=
  getBits (if c < 4 then s.get EGR_PORT_QUOTA0.QUOTA u else s.get EGR_PORT_QUOTA1.QUOTA u) (16 * (c % 4)) 16 * 1024

/-- How a destination fares. -/
inductive Placed where
  | passed | removed | far
  deriving DecidableEq, Repr

/-- Check 4 (R287): no queue entry is left for a destination of a frame from `src`. -/
def State.noEntry (s : State) (src : Nat) : State := (s.ec src ecEnqFull).brEvt BR_EVT.ENQ_FULL
def State.entryLeft (s : State) : Bool := s.on BR_FDB_STAT.QFREE

/-- Does a launch time lie more than FAR_MS ahead (R166)? -/
def State.launchFar (s : State) (u : Nat) (f : Frame) : Bool :=
  match f.launch with
  | some lt => decide ((s.get PORT_LAUNCH_CFG.FAR_MS u : Int) * 1000000 < wrapDiff 64 lt (s.stNs % 2 ^ 64))
  | none => false

/-- Place a frame on class queue `e.cls` of port unit `u` (R166, R178, R180, R182, R287, R288): nothing is queued to a radio port in
DISABLED. -/
def State.enqPort (s : State) (u : Nat) (e : QEntry) : State × Placed :=
  let f := e.f
  if decide (8 ≤ u) && f.launch.isSome then (s.rc (u - 8) rcTxLaunchDrop, .removed)
  else if 8 ≤ u ∧ s.radState (u - 8) = radDisabled then (s.rc (u - 8) rcTxFlushDrop, .removed)
  else if s.launchFar u f then (s.pc u 28, .far)
  else if s.classQuota u e.cls < s.cqBytes u e.cls + f.size then (s.ec u (ecQuota e.cls), .removed)
  else if 8 ≤ u ∧ s.radHeld (u - 8) = true ∧ s.get RAD_SILENT_CFG.QUOTA (u - 8) * 1024 < s.portBytes u + f.size then
    (s.rc (u - 8) rcTxSilentDrop, .removed)
  else if !s.entryLeft then (s.noEntry f.src, .removed)
  else (((s.takeEntry.addCqBytes u e.cls f.size).setCq u e.cls (s.cq u e.cls ++ [e])).ec u (ecEnq e.cls), .passed)

/-- A frame for partition `p` is removed or lost outside its queue (R301, R332, R335). -/
def State.rxDropOther (s : State) (p : Nat) : State := s.count PART_STAT.RX_DROP_OTHER p

/-- Place a frame on the RX ring of partition `p` (R287, R299, R332). -/
def State.enqPart (s : State) (p : Nat) (f : Frame) : State × Placed :=
  if s.partState p ≠ partActive ∧ s.partState p ≠ partRecovery then (s.rxDropOther p, .removed)
  else if s.get EGR_PART_QUOTA.QUOTA p * 1024 < s.partBytes p + f.size then
    (s.count PART_CNT.COUNT p (if s.on PART_STAT.RXC_STALL p then 5 else 6), .removed)
  else if !s.entryLeft then (s.noEntry f.src, .removed)
  else ((s.takeEntry.setPartBytes p (s.partBytes p + f.size)).onPart p (fun q => { q with rxq := q.rxq ++ [f] }), .passed)

/-- A partition destination is done with its frame. -/
def State.partRelease (s : State) (p : Nat) (f : Frame) : State :=
  ((s.setPartBytes p (s.partBytes p - f.size)).giveEntry).release f.ptr f.src

/-- Place a frame on the intake queue of the roll-call engine (R287, R386). -/
def State.enqRoll (s : State) (f : Frame) : State × Placed :=
  if !s.entryLeft then (s.noEntry f.src, .removed)
  else if 1024 ≤ s.roll.intake.length then (s.count ROLL_CNT.COUNT 10, .removed)
  else ({ s with roll.intake := s.roll.intake ++ [f] }, .passed)

/-- Place a buffer pointer on the receive queue of core `c` (R418). -/
def State.coreRx (s : State) (c ptr : Nat) : State × Placed :=
  if 256 ≤ (s.core c).rxq.length then (s.count SC_CNT.COUNT 6, .removed)
  else ((s.onCore c (fun q => { q with rxq := q.rxq ++ [ptr] })).count SC_CNT.COUNT 5, .passed)
def State.enqCore (s : State) (c : Nat) (f : Frame) : State × Placed :=
  if !s.entryLeft then (s.noEntry f.src, .removed) else s.coreRx c f.ptr

/-- The copy of mirror session `k` (R289). -/
def State.enqMirror (s : State) (k : Nat) (f : Frame) : State × Placed :=
  let f := { f with job := none, launch := none }
  if s.on MIR_SESS.TO_PART k then s.enqPart (s.get MIR_SESS.DEST k) f
  else s.enqPort (s.get MIR_SESS.DEST k) ⟨f, false, s.get MIR_SESS.TC k, false⟩

/-- Set bits of a mask below `n`, ascending. -/
def bitsOf (n m : Nat) : List Nat := (List.range n).filter (bitAt m)

/-- Place a list of destinations in order; answers how many passed and whether one was too far ahead. -/
def State.placeAll (s : State) (place : State → Nat → State × Placed) (l : List Nat) : State × Nat × Bool :=
  l.foldl (fun r d =>
    match place r.1 d with
    | (s, .passed) => (s, r.2.1 + 1, r.2.2)
    | (s, .removed) => (s, r.2)
    | (s, .far) => (s, r.2.1, true)) (s, 0, false)

/-- The card as it is written for this frame: a frame that a service core receives from a wired port shows its timestamp less
PORTn_TS_ASYM (R30, R372). -/
def State.cardFrame (s : State) (w : Fwd) : Frame :=
  if w.cores ≠ 0 ∧ w.f.src < 8 then
    { w.f with ts := (((w.f.ts : Int) - sext 32 (s.get PORT_TS_ASYM.ASYM w.f.src)) % 2 ^ 80).toNat }
  else w.f

/-- A launch-time frame that stands alone in its class queue has reached the head (R167). -/
def State.newHeads (s : State) (w : Fwd) : State :=
  if w.f.launch.isNone then s
  else s.forEach (bitsOf 8 w.ports) (fun s u => if (s.cq u w.f.tc).length = 1 then s.headReached u w.f.tc else s)

/-- Place a frame with its destinations decided (R287 to R289): ports, partitions, the roll-call engine, the cores, the mirror
sessions, and another pass. -/
def State.enqueue (s : State) (w : Fwd) : State :=
  let f := w.f
  let toMem := w.parts != 0 || w.roll || w.cores != 0 || w.recirc ||
    (bitsOf 4 w.mirrors).any (fun k => s.on MIR_SESS.TO_PART k)
  let s := if toMem then s.bufWrite (ptrAddr f.ptr) (s.cardFrame w).card else s
  let ports := s.placeAll (fun s u => s.enqPort u ⟨f, w.edit, f.tc, f.job.isSome⟩) (bitsOf 11 w.ports)
  let parts := ports.1.placeAll (fun s p => s.enqPart p f) (bitsOf 8 w.parts)
  let roll := parts.1.placeAll (fun s _ => s.enqRoll f) (if w.roll then [0] else [])
  let cores := roll.1.placeAll (fun s c => s.enqCore c f) (bitsOf 2 w.cores)
  let mirs := cores.1.placeAll (fun s k => s.enqMirror k f) (bitsOf 4 w.mirrors)
  let passed := ports.2.1 + parts.2.1 + roll.2.1 + cores.2.1
  let refs := passed + mirs.2.1 + b2n w.recirc
  let s := mirs.1
  let s := s.setRefs f.ptr refs f.src
  let s := if w.recirc then { s with cls.recirc := s.cls.recirc ++ [f] }
    else s.jobPlaced f ports.2.1 (passed + mirs.2.1 != 0) (if ports.2.2 then stLaunchFar else stDropped)
  s.newHeads w

/-- STORE_COMPLETE: the oldest stored frame is forwarded (R28 step 5). -/
def State.storeComplete (s : State) : State :=
  if !s.forwards then s
  else
    match s.cls.stored with
    | [] => s
    | w :: rest =>
      let s := { s with cls.stored := rest }
      let w := { w with f := { w.f with vlan := s.vlanOf w.f } }
      let r := if w.bridge then s.bridge w else (s, w)
      let w := r.2
      let s := r.1
      let s :=
        if w.ports = 0 ∧ w.parts = 0 ∧ w.roll = false ∧ w.cores = 0 ∧ w.mirrors = 0 ∧ w.recirc = false then
          ((s.cc ccNoDest).release w.f.ptr w.f.src).frameDropped w.f stDropped
        else s.enqueue w
      s.showPinned

end Sys2Proof.Machine
end

