-- ==== Sys2Proof/Machine/HostQ.lean ====
section
/-! DEFINITION. The host queue engine (R297 to R338): submission rings, push windows, TX jobs, RX buffers and deliveries,
malformed entries, partition states, and the responses of the host memory port. -/

namespace Sys2Proof.Machine

open Sys2Proof

/-! Submission rings (R304 to R312). `rx` selects RXQ. -/

def subRing (rx : Bool) : Nat := if rx then 1 else 0
def PartSt.slots (q : PartSt) (rx : Bool) : List (Nat × Slot) := if rx then q.rxSlots else q.txSlots
def PartSt.pushes (q : PartSt) (rx : Bool) : List (Nat × List Nat) := if rx then q.rxPush else q.txPush
def PartSt.withSlots (q : PartSt) (rx : Bool) (l : List (Nat × Slot)) : PartSt :=
  if rx then { q with rxSlots := l } else { q with txSlots := l }
def PartSt.withPushes (q : PartSt) (rx : Bool) (l : List (Nat × List Nat)) : PartSt :=
  if rx then { q with rxPush := l } else { q with txPush := l }

/-- Ring-pair unit of a submission ring (R298). -/
def pairUnit (p : Nat) (rx : Bool) : Nat := if rx then rxUnit p else txUnit p

/-- Does a request fetch slots of this ring, and which? -/
def HostOp.fetches (o : HostOp) (rx : Bool) : Option (Nat × Nat) :=
  match o with
  | .ring r ptr n => if r = rx then some (ptr, n) else none
  | _ => none

/-- Is slot pointer `q` among `k` slots from `a`, modulo 2N? -/
def covers (n a k q : Nat) : Bool := decide (ringDist n a q < k)

/-- Is slot `q` fetched, pushed, or asked for already? -/
def State.slotKnown (s : State) (p : Nat) (rx : Bool) (q : Nat) : Bool :=
  let n := s.ringN p (subRing rx)
  let st := s.part p
  (st.slots rx).any (fun e => e.1 == q) || (st.pushes rx).any (fun e => covers n e.1 e.2.length q) ||
    (st.wantR ++ (ofPart p s.host.reads).map (·.2)).any (fun r => match r.op.fetches rx with
      | some f => covers n f.1 f.2 q
      | none => false)

/-- Join consecutive pointers of one read beat: four slots. -/
def groupSlots : List Nat → List (Nat × Nat)
  | [] => []
  | q :: l =>
    match groupSlots l with
    | (a, k) :: g => if a = q + 1 ∧ a / 4 = q / 4 then (q, k + 1) :: g else (q, 1) :: (a, k) :: g
    | [] => [(q, 1)]

/-- Want the ring slots from head to tail, at most 64 ahead (R307). -/
def State.ringFetch (s : State) (p : Nat) (rx : Bool) : State :=
  if s.partServed p && s.pairServed p (pairUnit p rx) then
    let ring := subRing rx
    let n := s.ringN p ring
    let want := ((List.range (min 64 (s.ringUsed p ring))).map (fun i => (s.ringHead p ring + i) % (2 * n))).filter
      (fun q => !s.slotKnown p rx q)
    let reqs := (groupSlots want).map (fun g => HostReq.mk p (.ring rx g.1 g.2) (s.ringBase p ring + 64 * (g.1 % n / 4)) 0 [] 0 false)
    s.onPart p (fun q => { q with wantR := q.wantR ++ reqs })
  else s

/-- The engine fetches what it may, and the port issues what it can. -/
def State.hostKick (s : State) (p : Nat) : State := ((s.ringFetch p false).ringFetch p true).hostPump

/-- Slot `q` as the engine holds it: the pushed copy before the read one (R311). -/
def State.slotAt (s : State) (p : Nat) (rx : Bool) (q : Nat) : Option Slot :=
  let n := s.ringN p (subRing rx)
  match ((s.part p).pushes rx).find? (fun e => covers n e.1 e.2.length q) with
  | some e => some (.data (e.2.getD (ringDist n e.1 q) 0))
  | none => (((s.part p).slots rx).find? (fun e => e.1 == q)).map (·.2)

/-- Move the head of a submission ring to `q`: what lies before it is forgotten. -/
def State.moveHead (s : State) (p : Nat) (rx : Bool) (q : Nat) : State :=
  let ring := subRing rx
  let n := s.ringN p ring
  let q := q % (2 * n)
  let left := ringDist n q (s.ringTail p ring)
  let s := if rx then s.put PART_RXQ_HEAD.HEAD q p else s.put PART_TXQ_HEAD.HEAD q p
  s.onPart p (fun v => (v.withSlots rx ((v.slots rx).filter (fun e => covers n q left e.1))).withPushes rx
    ((v.pushes rx).filter (fun e => covers n q left e.1)))

/-- Requests that nothing waits for any more (R301). -/
def State.disown (s : State) (p : Nat) (which : HostOp → Bool) : State :=
  let f (r : HostReq) : HostReq := if r.part = p ∧ which r.op = true then { r with op := .gone } else r
  { s.onPart p (fun q => { q with wantR := q.wantR.filter (fun r => !which r.op), wantW := q.wantW.filter (fun r => !which r.op) }) with
    host.reads := s.host.reads.map (fun e => (e.1, f e.2)), host.writes := s.host.writes.map (fun e => (e.1, f e.2)) }

/-- Skip to the doorbell tail (R334). -/
def State.skipToTail (s : State) (p : Nat) (rx : Bool) : State :=
  (s.moveHead p rx (s.ringTail p (subRing rx))).disown p (fun o => (o.fetches rx).isSome)

/-- Is `tail` a valid new tail (R306)? -/
def State.tailOk (s : State) (p : Nat) (rx : Bool) (tail : Nat) : Bool :=
  let ring := subRing rx
  let n := s.ringN p ring
  let cur := s.ringTail p ring
  decide (tail < 2 * n) && decide (ringDist n cur tail ≤ n - s.ringUsed p ring) && tail != cur

def State.setTail (s : State) (p : Nat) (rx : Bool) (tail : Nat) : State :=
  if rx then s.put PART_RXQ_DB.TAIL tail p else s.put PART_TXQ_DB.TAIL tail p

/-- A doorbell write (R306). -/
def State.doorbell (s : State) (p : Nat) (rx : Bool) (tail : Nat) : State :=
  if tail = s.ringTail p (subRing rx) then s
  else if s.tailOk p rx tail then (s.setTail p rx tail).hostKick p
  else s.partEvt PART_EVT.DB_ERR p

/-- A completion head write (R308). -/
def State.headWrite (s : State) (p : Nat) (rx : Bool) (head : Nat) : State :=
  let ring := cplRing rx
  let n := s.ringN p ring
  if decide (head < 2 * n) && decide (ringDist n (s.ringHead p ring) head ≤ s.ringUsed p ring) then
    let s := if rx then s.put PART_RXC_HEAD.HEAD head p else s.put PART_TXC_HEAD.HEAD head p
    (State.cplDrain p rx 64 s).hostKick p
  else s.partEvt PART_EVT.DB_ERR p

/-- A push burst with data `d` (R310 to R312). -/
def State.push (s : State) (p : Nat) (rx : Bool) (d : Nat) : State :=
  let tail := getBits d 0 17
  let cnt := getBits d 32 8
  let cur := s.ringTail p (subRing rx)
  if getBits d 17 15 ≠ 0 ∨ getBits d 40 88 ≠ 0 ∨ s.tailOk p rx tail = false ∨ 3 < cnt ∨
      ringDist (s.ringN p (subRing rx)) cur tail < cnt then
    s.partEvt PART_EVT.DB_ERR p
  else
    let s := s.setTail p rx tail
    let s :=
      if cnt = 0 then s
      else if 4 ≤ ((s.part p).pushes rx).length then s.partEvt PART_EVT.PUSH_DISCARD p
      else s.onPart p (fun v => v.withPushes rx (v.pushes rx ++ [(cur, (List.range cnt).map (fun k => getBits d (128 * (k + 1)) 128))]))
    s.hostKick p

/-! Fencing and reset (R299 to R302). -/

/-- Drop what a partition has in work (R301): nothing of it is completed any more. -/
def State.partDiscard (s : State) (p : Nat) : State :=
  let q := s.part p
  let s := s.disown p (fun _ => true)
  let s := s.forEach q.reading (fun s j => match j.buf with
    | some ptr => s.release ptr (0x10 + p)
    | none => s)
  let s := s.forEach (q.deliv.map (·.f) ++ q.rxq) (fun s f => (s.partRelease p f).rxDropOther p)
  let s := { s with host.jobs := s.host.jobs.filter (fun j => j.2.who != p) }
  let s := (((s.put PART_STAT.TX_INPROG 0 p).put PART_STAT.TXC_HELD 0 p).put PART_STAT.RXC_HELD 0 p).put PART_STAT.ALLOC_WAIT 0 p
  let s := (s.put PART_STAT.TXC_STALL 0 p).put PART_STAT.RXC_STALL 0 p
  s.setPart p { PartSt.init with rxBufs := q.rxBufs }

/-- Load PART_ERR_LOG. -/
def State.partLog (s : State) (p ring ptr code tag : Nat) (fence : Bool) : State :=
  s.setRg (PART_ERR_LOG.reg.key p 0) (ptr % 2 ^ 17 + ring * 2 ^ 17 + code * 2 ^ 24 + tag % 65536 * 2 ^ 32 + b2n fence * 2 ^ 48 + 2 ^ 49)

/-- The partition enters FENCED (R301). -/
def State.fence (s : State) (p ring ptr code tag : Nat) : State :=
  ((s.partDiscard p).put PART_STAT.STATE partFenced p |>.partLog p ring ptr code tag true).partEvt PART_EVT.FENCED p

/-- The partition enters RESETTING (R302). -/
def State.partResetStart (s : State) (p : Nat) (toOff : Bool) : State :=
  ((s.partDiscard p).put PART_STAT.STATE partResetting p).onPart p (fun q => { q with resetToOff := toOff })

/-- A PART_CTRL write with new word `w` (R299, R338). -/
def State.partCtrlWrite (s : State) (p w : Nat) : State :=
  let st := s.partState p
  let en := bitAt w 0
  let old := s.on PART_CTRL.EN p
  if st ≠ partOff ∧ bitAt w 1 ≠ s.on PART_CTRL.RX_LONG p then s.partEvt PART_EVT.CFG_REFUSED p
  else if en && !old && !(st == partOff && s.mode != 0 && s.mode != 5 && s.pairServed p (txUnit p) && s.pairServed p (rxUnit p)) then
    s.partEvt PART_EVT.CMD_REFUSED p
  else
    let s := s.setRg (PART_CTRL.reg.key p 0) (getBits w 0 2 + getBits w 4 12 * 16)
    if en && !old then s.onPart p (fun q => { q with pend := .activate })
    else if old && !en then
      if st = partOff then s.onPart p (fun q => { q with pend := .none })
      else if st = partResetting then s.onPart p (fun q => { q with resetToOff := true })
      else s.partResetStart p true
    else s

/-- A PART_CMD write (R299). -/
def State.partCmd (s : State) (p w : Nat) : State :=
  let act := getBits w 0 2
  let st := s.partState p
  if act = 1 then
    if st = partActive ∨ st = partRecovery ∨ st = partFenced then s.partResetStart p false
    else s.partEvt PART_EVT.CMD_REFUSED p
  else if act = 2 then
    if st = partRecovery then s.onPart p (fun q => { q with pend := .run })
    else s.partEvt PART_EVT.CMD_REFUSED p
  else s

/-- A ring base write with new word `w` (R13, R304). -/
def State.ringBaseWrite (s : State) (p ring w : Nat) : State :=
  if s.partState p ≠ partOff then s.partEvt PART_EVT.CFG_REFUSED p
  else if getBits w 0 10 ≠ 0 ∨ getBits w 48 4 < 6 then s
  else
    let f := if ring = 0 then PART_TXQ_BASE.reg else if ring = 1 then PART_RXQ_BASE.reg
      else if ring = 2 then PART_TXC_BASE.reg else PART_RXC_BASE.reg
    s.setRg (f.key p 0) (getBits w 0 52)

/-- Has every host request of the partition answered or timed out (R302)? -/
def State.partQuiet (s : State) (p : Nat) : Bool :=
  (ofPart p s.host.reads).all (·.2.dead) && (ofPart p s.host.writes).all (·.2.dead)

/-- RESETTING ends (R302): pointers, buffer list, generations, state. -/
def State.partResetEnd (s : State) (p : Nat) : State :=
  let s := s.forEach [PART_TXQ_DB.reg, PART_RXQ_DB.reg, PART_TXQ_HEAD.reg, PART_RXQ_HEAD.reg, PART_TXC_HEAD.reg, PART_RXC_HEAD.reg,
    PART_TXC_TAIL.reg, PART_RXC_TAIL.reg] (fun s f => s.setRg (f.key p 0) 0)
  let bump (s : State) (u : Nat) : State := s.setRole u { s.role u with gen := (s.role u).gen + 1 }
  let toOff := (s.part p).resetToOff
  let s := bump (bump s (txUnit p)) (rxUnit p)
  let s := (s.setPart p PartSt.init).put PART_STAT.RX_BUFS 0 p
  let s := if toOff then (s.put PART_STAT.STATE partOff p).put PART_CTRL.EN 0 p else s.put PART_STAT.STATE partRecovery p
  s.partEvt PART_EVT.RESET_DONE p

/-! Malformed entries (R300, R333, R334). -/

/-- Does a malformed entry fence (R300)? -/
def State.fences (s : State) (p : Nat) : Bool := (s.mode == 2 || s.mode == 4) && s.partState p == partActive

/-- An RX_SUPPLY_ERR for the entry at `ptr` (R321). -/
def State.supplyErr (s : State) (p ptr code : Nat) : State :=
  s.complete_ p true [cplHeader 1 0x31 (s.role (rxUnit p)).gen.toNat + code * 2 ^ 32 + ptr * 2 ^ 48] false 0

/-- The generation of the ring pair of a submission ring now. -/
def State.pairGen (s : State) (p : Nat) (rx : Bool) : Nat := (s.role (pairUnit p rx)).gen.toNat

/-- A malformed entry at `ptr` whose head moves have been made: fence, or error completion (R300, R334, R337). `gen` is the
generation under which the work of a job completes (R24, R313). -/
def State.malformed (s : State) (p : Nat) (rx : Bool) (ptr code tag flags gen : Nat) : State :=
  let s := s.count PART_CNT.COUNT p 7
  if s.fences p then s.fence p (subRing rx) ptr code tag
  else
    let s := (s.partLog p (subRing rx) ptr code tag false).partEvt PART_EVT.MALFORMED p
    if rx then s.supplyErr p ptr code
    else s.txDone p gen (code + flags) tag 0 0

/-- What stands at the head of a submission ring: nothing whole yet, an entry that rows 1 to 5 of R333 refuse, with the TAG of its
first slot where that was read, or an entry. -/
inductive Entry where
  | wait
  | bad (code len tag : Nat)
  | whole (len : Nat) (ws : List Nat)
  deriving DecidableEq, Repr

/-- The LEN range of a type (R314). -/
def lenOk (type len : Nat) : Bool := decide (len ≤ 16) && decide ((if type = 1 ∨ type = 2 then 2 else 1) ≤ len)

/-- Read the entry at the head; `types` are those the ring takes there. -/
def State.entryAt (s : State) (p : Nat) (rx : Bool) (types : List Nat) : Entry :=
  let ring := subRing rx
  let n := s.ringN p ring
  let h := s.ringHead p ring
  let used := s.ringUsed p ring
  if used = 0 then .wait
  else
    match s.slotAt p rx h with
    | none => .wait
    | some .timeout => .bad stHostTimeout 1 0
    | some .fault => .bad stHostFault 1 0
    | some (.data v) =>
      let len := getBits v 1 5
      let tag := getBits v 32 16
      let span := max 1 (min len used)
      let got := (List.range span).map (fun i => s.slotAt p rx ((h + i) % (2 * n)))
      if got.any (· == some .timeout) then .bad stHostTimeout span tag
      else if got.any (· == some .fault) then .bad stHostFault span tag
      else if getBits v 0 1 ≠ phaseOf n h then .bad stBadPhase span tag
      else if types.contains (getBits v 8 8) = false then .bad stBadType span tag
      else if lenOk (getBits v 8 8) len = false ∨ n < h % n + len then .bad stBadLen span tag
      else if used < len ∨ got.any Option.isNone = true then .wait
      else .whole len (got.map (fun o => match o with
        | some (.data w) => w
        | _ => 0))

/-- Rows 1 to 5 refuse the entry at the head: the head moves (R334), then the error acts. -/
def State.badEntry (s : State) (p : Nat) (rx : Bool) (code len tag flags gen : Nat) : State :=
  let ptr := s.ringHead p (subRing rx)
  let s := if code = stBadPhase ∨ code = stBadLen then s.skipToTail p rx else s.moveHead p rx (ptr + len)
  s.malformed p rx ptr code tag flags gen

/-! Transmit (R323 to R328). -/

/-- Fields of a TX_JOB's first slot (R315). -/
def jobTag (w : Nat) : Nat := getBits w 32 16
def jobLen (w : Nat) : Nat := getBits w 48 14
def jobNseg (w : Nat) : Nat := getBits w 64 4
def jobCont (w : Nat) : Bool := bitAt w 68
def jobClassify (w : Nat) : Bool := bitAt w 69
def jobL3 (w : Nat) : Bool := bitAt w 70
def jobL4 (w : Nat) : Bool := bitAt w 71
def jobTs (w : Nat) : Bool := bitAt w 72
def jobLaunch (w : Nat) : Bool := bitAt w 73
def jobBridge (w : Nat) : Bool := bitAt w 74
def jobDest (w : Nat) : Nat := getBits w 76 4
def jobTc (w : Nat) : Nat := getBits w 80 3
def jobVid (w : Nat) : Nat := getBits w 84 12

/-- A segment slot: address and length, and whether row 6 refuses it (R316). -/
def segOf (w : Nat) : Nat × Nat := (getBits w 0 48, getBits w 64 16)
def segBad (w : Nat) : Bool := getBits w 48 16 != 0 || getBits w 64 16 == 0 || getBits w 80 48 != 0

/-- Row 6 for a TX_JOB and for a TX_CONT whose job has tag `tag` (R315 to R317, R323 rule 5). -/
def jobFieldBad (len w : Nat) (segs : List Nat) : Bool :=
  getBits w 6 2 != 0 || getBits w 62 2 != 0 || bitAt w 75 || bitAt w 83 || jobNseg w != len - 1 || decide (0xA < jobDest w) ||
    (jobLaunch w && (jobBridge w || jobClassify w)) || segs.any segBad
def contFieldBad (tag len w : Nat) (segs : List Nat) : Bool :=
  getBits w 6 2 != 0 || getBits w 48 16 != 0 || getBits w 69 59 != 0 || jobNseg w != len - 1 || jobTag w != tag || segs.any segBad

/-- MAX_FRAME of port unit `u`. -/
def State.maxFrame (s : State) (u : Nat) : Nat := if u < 8 then s.get PORT_MAX_FRAME.MAX_FRAME u else s.get RAD_MAX_FRAME.MAX_FRAME (u - 8)

/-- Row 7 as far as a job's first slot shows it: FRAME_LEN (R315, R333). -/
def jobLenBad (w : Nat) : Bool := decide (jobLen w < 14) || decide (16320 < jobLen w)

/-- Rules 3 and 4 of R323, over the whole chain: the lengths of the segments, and the MAX_FRAME of the port. -/
def State.jobBound (s : State) (j : HostJob) : Bool :=
  (j.segs.map (·.2)).foldl (· + ·) 0 != jobLen j.w ||
    (!jobBridge j.w && !jobClassify j.w && decide (s.maxFrame (jobDest j.w) < jobLen j.w + 4))

/-- The reads of a segment: address of the beat, first byte in it, bytes, offset in the frame. -/
def segPieces : Nat → Nat → Nat → Nat → List (Nat × Nat × Nat × Nat)
  | 0, _, _, _ => []
  | fuel + 1, a, n, off =>
    if n = 0 then []
    else
      let m := min n (64 - a % 64)
      (a / 64 * 64, a % 64, m, off) :: segPieces fuel (a + m) (n - m) (off + m)

/-- The reads of all segments, joined in order. -/
def allPieces : List (Nat × Nat) → Nat → List (Nat × Nat × Nat × Nat)
  | [], _ => []
  | g :: gs, off => segPieces (g.2 / 64 + 2) g.1 g.2 off ++ allPieces gs (off + g.2)

/-- The job has its buffer: its segments are read (R325). -/
def State.txRead (s : State) (p : Nat) (j : HostJob) (ptr : Nat) : State :=
  let pieces := allPieces j.segs 0
  let j := { j with buf := some ptr, left := pieces.length }
  let reqs := pieces.map (fun x => HostReq.mk p (.seg j.id x.2.2.2 x.2.1 x.2.2.1) x.1 0 [] 0 false)
  (s.onPart p (fun q => { q with reading := q.reading ++ [j], wantR := q.wantR ++ reqs })).hostPump

/-- Request the buffer of a checked job; without one the job is held (R325). -/
def State.txAlloc (s : State) (p : Nat) (same : Bool) (j : HostJob) : State :=
  match s.alloc .host same (jobLen j.w) (0x10 + p) 0 with
  | (s, _, some ptr) => ((s.onPart p (fun q => { q with held := none })).put PART_STAT.ALLOC_WAIT 0 p).txRead p j ptr
  | (s, _, none) => (s.onPart p (fun q => { q with held := some j })).put PART_STAT.ALLOC_WAIT 1 p

/-- A job whose entries are all read (R323, R324). -/
def State.txChecked (s : State) (p : Nat) (same : Bool) (j : HostJob) : State :=
  let chained := decide (1 < j.entries)
  let tag := jobTag j.w
  if j.stale then
    s.stale.txDone p (s.pairGen p false) (stStale + (if chained then flChained else 0)) tag 0 0
  else if s.jobBound j then s.malformed p false j.ptr stBound tag (if chained then flChained else 0) j.gen
  else
    let r := s.fresh
    let s := r.1.setJob r.2 ⟨p, tag, j.gen, jobTs j.w, jobLaunch j.w, !jobBridge j.w && !jobClassify j.w, jobLen j.w, chained, false, 0⟩
    let s := s.put PART_STAT.TX_INPROG (s.get PART_STAT.TX_INPROG p + 1) p
    s.txAlloc p same { j with id := r.2, takenSt := s.st80.toNat }

/-- Is work of a ring pair in progress that was accepted under an earlier generation (R24)? -/
def State.oldWork (s : State) (p : Nat) (rx : Bool) : Bool :=
  if rx then (s.part p).deliv.any (fun d => d.gen != s.pairGen p true)
  else s.host.jobs.any (fun e => e.2.who == p && e.2.gen != s.pairGen p false)

/-- May a new job be taken (R24, R325, R328)? -/
def State.mayTake (s : State) (p : Nat) : Bool :=
  (s.part p).held.isNone && !s.on PART_STAT.TXC_STALL p && s.cplRoom p false 1 && !s.oldWork p false &&
    decide (s.get PART_STAT.TX_INPROG p + s.get PART_STAT.TXC_HELD p < 64)

/-- Take entries of TXQ until a job is whole, an entry is refused, or more slots are needed; `fuel` bounds the entries. The generation
check of each entry is made when the entry is read and is not repeated when the chain is whole (DESIGN CHOICE, log entry 130). -/
def State.txGather (p : Nat) (same : Bool) : Nat → State → State
  | 0, s => s
  | fuel + 1, s =>
    let g := (s.part p).gather
    let tag := match g with
      | some j => jobTag j.w
      | none => 0
    let fl := if g.isSome then flChained else 0
    let gen := s.pairGen p false
    let at_ := match g with
      | some j => j.gen
      | none => gen
    let done (s : State) : State := s.onPart p (fun q => { q with gather := none })
    match s.entryAt p false [0x0F, if g.isSome then 2 else 1] with
    | .wait => s
    | .bad code len own => (done s).badEntry p false code len (if g.isSome then tag else own) fl at_
    | .whole len ws =>
      let w := ws.headD 0
      let ptr := s.ringHead p 0
      let s := s.moveHead p false (ptr + len)
      if getBits w 8 8 = 0x0F then
        if getBits w 6 2 ≠ 0 then (done s).malformed p false ptr stBadField tag fl at_ else State.txGather p same fuel s
      else
        let stale := getBits w 16 16 != gen
        match g with
        | none =>
          if !stale && jobFieldBad len w ws.tail then s.malformed p false ptr stBadField (jobTag w) 0 gen
          else if !stale && jobLenBad w then s.malformed p false ptr stBound (jobTag w) 0 gen
          else
            let j : HostJob := ⟨0, ptr, w, gen, ws.tail.map segOf, 1, jobCont w, stale, 0, none, [], 0, []⟩
            if j.more then State.txGather p same fuel (s.onPart p (fun q => { q with gather := some j }))
            else s.txChecked p same j
        | some j =>
          let stale := j.stale || stale
          if !stale && contFieldBad tag len w ws.tail then (done s).malformed p false ptr stBadField tag fl at_
          else if jobCont w && j.entries == 3 then (done s).malformed p false ptr stBound tag fl at_
          else
            let j := { j with segs := j.segs ++ ws.tail.map segOf, entries := j.entries + 1, more := jobCont w, stale := stale }
            if j.more then State.txGather p same fuel (s.onPart p (fun q => { q with gather := some j }))
            else (done s).txChecked p same j

/-- Does the engine take entries of a ring of partition `p` now? -/
def State.takesEntries (s : State) (p : Nat) (rx : Bool) : Bool :=
  s.takesWork && s.partServed p && s.pairServed p (pairUnit p rx)

/-- TX_JOB: the queue engine takes the next job of partition `p` (R323). -/
def State.txJob (s : State) (p : Nat) (same : Bool) : State :=
  if s.takesEntries p false && ((s.part p).gather.isSome || s.mayTake p) then (State.txGather p same 64 s).hostKick p
  else s

/-- A held job at a bell edge (R25, R325). The partitions that retry at one edge are reached two in a cycle (R227). -/
def State.txRetry (s : State) (p : Nat) : State :=
  match (s.part p).held with
  | none => s
  | some j =>
    if s.takesEntries p false then
      if (s.role (txUnit p)).gen.toNat ≠ j.gen then
        ((s.onPart p (fun q => { q with held := none })).put PART_STAT.ALLOC_WAIT 0 p).stale.jobFinish j.id stStale none
      else s.txAlloc p true j
    else s

/-- The bytes of a job from its reads, in the order of their offsets. -/
def chunkBytes : List (Nat × List Nat) → List Nat
  | [] => []
  | c :: cs => c.2 ++ chunkBytes cs

/-- Every segment has been read: the frame is stored and goes on (R325, R326, R31). -/
def State.txStore (s : State) (p : Nat) (j : HostJob) (ptr : Nat) : State :=
  let b := chunkBytes j.chunks
  let w := j.w
  let tci := outerTci s.customTpid b
  let vid := if jobVid w = 0 then s.get PART_CTRL.PVID p else jobVid w
  let now := j.takenSt / 65536
  let f := Frame.new (0x10 + p) j.takenSt (s.get GLB_BELL_NUM.BELL)
  let f := { f with
    ptr := ptr, size := bufBytes (s.pool (ptrPool ptr)).size, len := b.length, tc := jobTc w, vlan := vid, tci := tci.getD 0,
    tagged := tci.isSome, job := some j.id, mac := beNat (b.take 12),
    launch := if jobLaunch w then some (((now : Int) + wrapDiff 32 (getBits w 96 32) (now % 2 ^ 32)) % 2 ^ 64).toNat else none }
  let s := (s.bufWrite (ptrAddr ptr + 64) b).crcTapWr f.src ptr b
  let s := s.crcHostEnd p j.marks b
  let direct := !jobClassify w && !jobBridge w
  let fwd : Fwd := { Fwd.of f with bridge := !jobClassify w && jobBridge w, ports := if direct then 2 ^ jobDest w else 0, edit := !direct }
  if jobClassify w || jobL3 w || jobL4 w then
    { s with cls.jobs := s.cls.jobs ++ [⟨fwd, jobClassify w, jobL3 w, jobL4 w⟩] }
  else s.forward fwd

/-- A job whose segment read failed (R333, R335): its buffer goes back, and the job is malformed. -/
def State.txReadFail (s : State) (p id code : Nat) : State :=
  match (s.part p).reading.find? (fun j => j.id == id) with
  | none => s
  | some j =>
    let s := s.disown p (fun o => match o with
      | .seg k _ _ _ => k == id
      | _ => false)
    let s := s.onPart p (fun q => { q with reading := q.reading.filter (fun k => k.id != id) })
    let s := match j.buf with
      | some ptr => s.release ptr (0x10 + p)
      | none => s
    let s := (s.dropJob id).jobLess p
    s.malformed p false j.ptr code (jobTag j.w) (if 1 < j.entries then flChained else 0) j.gen

/-- Bytes of segment data arrive for offset `off`. -/
def State.txChunk (s : State) (p id off : Nat) (bs : List Nat) : State :=
  match (s.part p).reading.find? (fun j => j.id == id) with
  | none => s
  | some j =>
    let busy := ((s.part p).reading.filter (fun k => k.id != id)).flatMap HostJob.marks
    let r := if j.chunks.isEmpty then s.crcHostBegin p (j.segs.headD (0, 0)).1 busy else (s, j.marks)
    let s := r.1
    let j := { j with chunks := mapIns off bs j.chunks, left := j.left - 1, marks := r.2 }
    if j.left = 0 then
      (s.onPart p (fun q => { q with reading := q.reading.filter (fun k => k.id != id) })).txStore p j (j.buf.getD 0)
    else s.onPart p (fun q => { q with reading := q.reading.map (fun k => if k.id == id then j else k) })

/-! Receive (R329 to R332). -/

/-- The addresses of an RX_BUF's slots (R318): ADDR0 in the upper half of the first, two in each further slot. -/
def rxAddrs (ws : List Nat) : List Nat :=
  getBits (ws.headD 0) 64 64 :: ws.tail.flatMap (fun w => [getBits w 0 64, getBits w 64 64])

/-- Row 6 for an RX_BUF (R318). -/
def rxBufBad (ws : List Nat) : Bool :=
  let w := ws.headD 0
  let size := getBits w 32 16
  getBits w 6 2 != 0 || getBits w 48 16 != 0 || size % 64 != 0 || size == 0 || decide (16384 < size) ||
    (rxAddrs ws).any (fun a => a % 64 != 0 || decide (2 ^ 48 ≤ a))

/-- Must an entry that RX_SUPPLY_ERR answers wait: with it, the RX completions held could come to more than 64 (R331, R338)? -/
def State.supplyFull (s : State) (p : Nat) : Bool := decide (64 ≤ (s.part p).deliv.length + (s.part p).rxHeld.length)

/-- Take the RXQ entry at the head (R329); SKIP entries before it are passed. `fuel` bounds them. An entry that is answered with
RX_SUPPLY_ERR waits while there is no place to hold it; one that fences does not. -/
def State.rxTake (p : Nat) : Nat → State → State
  | 0, s => s
  | fuel + 1, s =>
    let gen := s.pairGen p true
    let full := s.supplyFull p
    let refused (t : State) : State := if full && !s.fences p then s else t
    match s.entryAt p true [0x0F, 0x10] with
    | .wait => s
    | .bad code len _ => refused (s.badEntry p true code len 0 0 gen)
    | .whole len ws =>
      let w := ws.headD 0
      let ptr := s.ringHead p 1
      let bufs := (rxAddrs ws).map (fun a => (a, getBits w 32 16))
      if getBits w 8 8 = 0x0F then
        let t := s.moveHead p true (ptr + len)
        if getBits w 6 2 ≠ 0 then refused (t.malformed p true ptr stBadField 0 0 gen) else State.rxTake p fuel t
      else if getBits w 16 16 ≠ gen then
        if full then s else ((s.moveHead p true (ptr + len)).stale).supplyErr p ptr stStale
      else if rxBufBad ws then refused ((s.moveHead p true (ptr + len)).malformed p true ptr stBadField 0 0 gen)
      else if 65535 < (s.part p).rxBufs.length + bufs.length then s
      else
        let s := (s.moveHead p true (ptr + len)).onPart p (fun q => { q with rxBufs := q.rxBufs ++ bufs })
        s.put PART_STAT.RX_BUFS (s.part p).rxBufs.length p

/-- RX_BUF (R329). -/
def State.rxBuf (s : State) (p : Nat) : State :=
  if s.takesEntries p true && !s.oldWork p true then (State.rxTake p 64 s).hostKick p else s

/-- The buffers a frame of `len` bytes takes from the head of the list: their addresses with the bytes each holds, and the
rest of the list; none where they are too few (R330). -/
def takeBufs : List (Nat × Nat) → Nat → Option (List (Nat × Nat) × List (Nat × Nat))
  | [], n => if n = 0 then some ([], []) else none
  | (a, z) :: l, n =>
    if n = 0 then some ([], (a, z) :: l)
    else
      match takeBufs l (n - z) with
      | some (u, r) => some ((a, min z n) :: u, r)
      | none => none

/-- The RX_DONE of a frame with card bytes `card` (R320). -/
def rxDoneSlots (long : Bool) (gen status len addr cnt : Nat) (card : List Nat) : List Nat :=
  let c (i n : Nat) : Nat := leNat ((card.drop i).take n)
  let s0 := cplHeader (if long then 4 else 2) 0x30 gen + status * 2 ^ 32 + len * 2 ^ 48 + addr % 2 ^ 48 * 2 ^ 64 + cnt * 2 ^ 112 +
    c 2 1 * 2 ^ 120
  let s1 := c 8 8 + c 3 1 * 2 ^ 64 + c 5 1 * 2 ^ 72 + c 6 2 * 2 ^ 80 + c 28 4 * 2 ^ 96
  let s2 := c 16 8 + c 24 4 * 2 ^ 64 + c 48 4 * 2 ^ 96
  if long then [s0, s1, s2, c 32 16] else [s0, s1]

/-- A delivery ends with `status` (R330, R335). -/
def State.rxFinish (s : State) (p : Nat) (d : Deliv) (status : Nat) : State :=
  let s := (s.onPart p (fun q => { q with deliv := q.deliv.filter (fun e => e.id != d.id) })).partRelease p d.f
  let s := if status = stOk then s else s.rxDropOther p
  s.complete_ p true (rxDoneSlots (s.on PART_CTRL.RX_LONG p) d.gen status d.f.len d.addr d.bufs d.card) (status == stOk) d.f.len

/-- The write bursts of a frame's bytes over its buffers. -/
def spreadBufs : List (Nat × Nat) → List Nat → List (Nat × List Nat)
  | [], _ => []
  | u :: us, b => (u.1, b.take u.2) :: spreadBufs us (b.drop u.2)

/-- Want the writes of byte strings at their addresses, in order. Answers how many. -/
def State.wantAll (s : State) (p : Nat) (op : HostOp) (l : List (Nat × List Nat)) : State × Nat :=
  l.foldl (fun r u =>
    let x := r.1.wantBytes p op u.1 u.2
    (x.1, r.2 + x.2)) (s, 0)

/-- The data writes of frame `f` start, into the buffers `use` that it has taken (R330); a frame whose buffer memory cannot be read
ends at once (R195). -/
def State.rxStart (s : State) (p : Nat) (f : Frame) (use : List (Nat × Nat)) : State :=
  let c := s.bufRead .mover (ptrAddr f.ptr) 64
  let r := c.1.fetchPayload f.ptr f.len
  let n := r.1.fresh
  let addr := (use.headD (0, 0)).1
  let d : Deliv := ⟨n.2, f, 0, addr, use.length, (r.1.role (rxUnit p)).gen.toNat, c.2.bytes⟩
  match r.2, c.2.ok with
  | some b, true =>
    let w := ((n.1.crcTapRd f.src f.ptr b).crcTapHostRx p addr b).wantAll p (.data d.id) (spreadBufs use b)
    (w.1.onPart p (fun q => { q with deliv := q.deliv ++ [{ d with left := w.2 }] })).hostPump
  | _, _ => n.1.rxFinish p d stMemUncorr

/-- RX_DELIVERY: the next queued frame takes its buffers from the head of the list, and its data writes start (R330, R331). -/
def State.rxDelivery (s : State) (p : Nat) : State :=
  let q := s.part p
  if s.takesEntries p true && !s.oldWork p true && !s.on PART_STAT.RXC_STALL p && decide (q.deliv.length + q.rxHeld.length < 64) then
    match q.rxq with
    | [] => s
    | f :: rest =>
      match takeBufs q.rxBufs f.len with
      | none => s.partEvt PART_EVT.RX_NO_BUF p
      | some (use, left) =>
        ((s.onPart p (fun q => { q with rxq := rest, rxBufs := left })).put PART_STAT.RX_BUFS left.length p).rxStart p f use
  else s

/-- RX_DONE: the first delivery whose data writes have all returned OKAY completes (R330). -/
def State.rxDone (s : State) (p : Nat) : State :=
  match (s.part p).deliv.find? (fun d => d.left == 0) with
  | some d => (s.rxFinish p d stOk).hostKick p
  | none => s

/-! Responses (R71, R72, R335). -/

/-- Nanoseconds to a host timeout (R335). -/
def hostTmo : Nat := 16000

/-- A read of request `r` failed: a slot is marked, a segment's job is malformed. -/
def State.readFail (s : State) (r : HostReq) (timeout : Bool) : State :=
  match r.op with
  | .ring rx ptr n =>
    let m := s.ringN r.part (subRing rx)
    s.onPart r.part (fun q => q.withSlots rx (q.slots rx ++ (List.range n).map (fun k =>
      ((ptr + k) % (2 * m), if timeout then Slot.timeout else Slot.fault))))
  | .seg id _ _ _ => s.txReadFail r.part id (if timeout then stHostTimeout else stHostFault)
  | _ => s

/-- A write of request `r` failed: DATA_FAULT for a frame, a fence for a completion (R335). -/
def State.writeFail (s : State) (r : HostReq) : State :=
  match r.op with
  | .data id =>
    match (s.part r.part).deliv.find? (fun d => d.id == id) with
    | some d =>
      (s.disown r.part (fun o => o == .data id)).rxFinish r.part d stDataFault
    | none => s
  | .cpl rx id =>
    let ptr := match (s.part r.part).cpls.find? (fun c => c.rx == rx && c.id == id) with
      | some c => c.ptr
      | none => 0
    s.fence r.part (cplRing rx) ptr stHostFault 0
  | _ => s

/-- Read data for a request (R307, R325). -/
def State.readData (s : State) (r : HostReq) (d : Nat) : State :=
  match r.op with
  | .ring rx ptr n =>
    let m := s.ringN r.part (subRing rx)
    s.onPart r.part (fun q => q.withSlots rx (q.slots rx ++ (List.range n).map (fun k =>
      ((ptr + k) % (2 * m), Slot.data (getBits d (128 * ((ptr + k) % 4)) 128)))))
  | .seg id off lo n => s.txChunk r.part id off (leBytes (d / 2 ^ (8 * lo)) n)
  | _ => s

/-- An OKAY write response for a request (R309, R330). -/
def State.writeOk (s : State) (r : HostReq) : State :=
  match r.op with
  | .data id =>
    s.onPart r.part (fun q => { q with deliv := q.deliv.map (fun d => if d.id == id then { d with left := d.left - 1 } else d) })
  | .cpl rx id => s.cplAck r.part rx id
  | _ => s

/-- HOST_READ_RESPONSE (R71): a response after its timeout is discarded, and its tag is free again. -/
def State.hostRead (s : State) (tag : Nat) (bad : Bool) (d : Nat) : State :=
  match s.host.reads.find? (fun e => e.1 == tag) with
  | none => s
  | some (_, r) =>
    let s := { s with host.reads := mapDel tag s.host.reads }
    let late := decide (r.at_ + hostTmo < s.frc.toNat)
    let s := if r.dead then s
      else if late then s.readFail r true
      else if bad then s.readFail r false
      else s.readData r d
    s.hostKick r.part

/-- HOST_WRITE_RESPONSE (R72). -/
def State.hostWrite (s : State) (tag : Nat) (bad : Bool) : State :=
  match s.host.writes.find? (fun e => e.1 == tag) with
  | none => s
  | some (_, r) =>
    let s := { s with host.writes := mapDel tag s.host.writes }
    let late := decide (r.at_ + hostTmo < s.frc.toNat)
    let s := if r.dead then s else if late || bad then s.writeFail r else s.writeOk r
    s.hostKick r.part

/-- The earliest time of issue among requests that wait for their response. -/
def State.oldestAt (s : State) : Option Nat :=
  ((s.host.reads ++ s.host.writes).filter (fun e => !e.2.dead)).foldl (fun m e => match m with
    | none => some e.2.at_
    | some t => some (min t e.2.at_)) none

/-- HOST_TIMEOUT: the oldest request without a response times out (R335): reads before writes, the lowest tag first. -/
def State.hostTimeout (s : State) : State :=
  match s.oldestAt with
  | none => s
  | some t =>
    let s := s.advanceTo (t + hostTmo + 1)
    match s.host.reads.find? (fun e => !e.2.dead && e.2.at_ == t) with
    | some (tag, r) =>
      ({ s with host.reads := mapIns tag { r with dead := true, op := .gone } (mapDel tag s.host.reads) }.readFail r true).hostKick r.part
    | none =>
      match s.host.writes.find? (fun e => !e.2.dead && e.2.at_ == t) with
      | some (tag, r) =>
        ({ s with host.writes := mapIns tag { r with dead := true, op := .gone } (mapDel tag s.host.writes) }.writeFail r).hostKick r.part
      | none => s

/-- The partitions at a bell edge (R299, R302, R325): `changed` are the units whose role changes at this edge. -/
def State.partEdge (changed : List Nat) (s : State) (p : Nat) : State :=
  let st := s.partState p
  let lost := !s.pairServed p (txUnit p) || !s.pairServed p (rxUnit p)
  let s :=
    if (st = partActive ∨ st = partRecovery) ∧ lost = true then s.partResetStart p true
    else if st = partResetting then
      if s.partQuiet p && !changed.contains (txUnit p) && !changed.contains (rxUnit p) then s.partResetEnd p else s
    else
      match (s.part p).pend with
      | .none => s
      | .activate =>
        let s := s.onPart p (fun q => { q with pend := .none })
        if st = partOff ∧ lost = false then s.put PART_STAT.STATE partActive p else s
      | .run =>
        let s := s.onPart p (fun q => { q with pend := .none })
        if st = partRecovery then s.put PART_STAT.STATE partActive p else s
  (s.txRetry p).hostKick p

end Sys2Proof.Machine
end

