-- ==== Sys2Proof/Machine/Staff.lean ====
section
/-! DEFINITION. The staff room (R217 to R221): words with the inner code, the two sides and their collisions, and the wipes of the
secure region (R496, R499). -/

namespace Sys2Proof.Machine

open Sys2Proof

/-- The data lanes and the check bits of staff-room word `w`. -/
def State.staffRaw (s : State) (w : Nat) : Nat × Nat :=
  (leNat (memBytes s.mem.staff (9 * w) 8), (memByte s.mem.staff (9 * w + 8)).toNat)

/-- Write a word with its check bits (R189, R217). -/
def State.staffPut (s : State) (w d : Nat) : State :=
  { s with mem.staff := memWrite s.mem.staff (9 * w) (leBytes d 8 ++ [innerCheck d]) }

/-- A word as the code gives it, without counting. -/
def State.staffPeek (s : State) (w : Nat) : Nat := (innerDecode (s.staffRaw w).1 (s.staffRaw w).2).1

/-- Read a word: corrected errors count in STAFF_CE, uncorrectable ones in STAFF_UE with its event (R217). -/
def State.staffRead (s : State) (w : Nat) : State × Option Nat :=
  match innerDecode (s.staffRaw w).1 (s.staffRaw w).2 with
  | (d, .good) => (s, some d)
  | (d, .corrected) => (s.mc mcStaffCe, some d)
  | (_, .bad) => ((s.mc mcStaffUe).mevt MEM_EVT.STAFF_UE, none)

/-- Words `w .. w + n - 1` read by a block engine, uncorrectable ones as zero. -/
def State.staffWords (s : State) (w : Nat) : Nat → State × List Nat
  | 0 => (s, [])
  | n + 1 =>
    let r := s.staffRead w
    let q := r.1.staffWords (w + 1) n
    (q.1, r.2.getD 0 :: q.2)

/-- Write words from word `w` on: a block writer. -/
def State.staffFill (s : State) (w : Nat) : List Nat → State
  | [] => s
  | d :: ds => (s.staffPut w d).staffFill (w + 1) ds

/-- A block writer writes words from word `w` on, and the words it wrote are noted (R218, R220). -/
def State.staffRun (s : State) (w : Nat) (ds : List Nat) : State := { s.staffFill w ds with mem.staffRun := (w, ds.length) }

/-- The word `old` with bytes `off .. off + len - 1` replaced by the low bytes of `d`. -/
def mergeWord (old off len d : Nat) : Nat :=
  let n := min len (8 - off)
  setBits old (8 * off) (8 * n) d

def srWord (r : StaffReq) : Nat := r.addr.toNat / 8
def srOff (r : StaffReq) : Nat := r.addr.toNat % 8

/-- The bytes of a read request within its word. -/
def srPick (r : StaffReq) (d : Nat) : Nat := getBits d (8 * (srOff r)) (8 * min r.len.val (8 - (srOff r)))

/-- The word a write request makes of `old`. -/
def srMerge (r : StaffReq) (old : Nat) : Nat := mergeWord old (srOff r) r.len.val r.data.toNat

/-- May service core `c` reach staff-room byte address `a` on the SC side (R496)? -/
def State.scReaches (s : State) (c a : Nat) : Bool :=
  decide (a < 0x30000) || bitAt (s.get PROT_SECPAGE.SC_MASK ((a - 0x30000) / 0x1000)) c

/-- Does host write `h` put the same bytes that SC write `c` puts, in the same word (R219)? -/
def sameBytes (c h : StaffReq) : Bool :=
  decide ((srOff c) ≤ (srOff h)) && decide ((srOff h) + h.len.val ≤ (srOff c) + c.len.val) &&
    srPick h (srMerge h 0) == srPick h (srMerge c 0)

/-- An SC-side access of core `c`: a read returns data or a bus error (R195, R217). -/
def State.staffSc (s : State) (c : Nat) (r : StaffReq) : State :=
  let s := s.pmuOn evStaff (2 ^ c) 1
  if s.scReaches c r.addr.toNat then
    if r.wr then s.staffPut (srWord r) (srMerge r (s.staffPeek (srWord r)))
    else
      match s.staffRead (srWord r) with
      | (s, some d) => s.onCore c (fun q => { q with ld := srPick r d, err := false })
      | (s, none) => s.onCore c (fun q => { q with ld := 0, err := true })
  else s.onCore c (fun q => { q with ld := 0, err := true })

/-- A host-side access that was granted: a read returns data, zero where the word is uncorrectable (R217). -/
def State.staffHost (s : State) (r : StaffReq) : State × Nat :=
  if r.wr then (s.staffPut (srWord r) (srMerge r (s.staffPeek (srWord r))), 0)
  else
    match s.staffRead (srWord r) with
    | (s, some d) => (s, srPick r d)
    | (s, none) => (s, 0)

/-- The host write of a collision is not done (R219, R220). -/
def State.staffCollide (s : State) (c h : StaffReq) : State :=
  let same := sameBytes c h
  let s := s.mc (if same then mcCollidedSame else mcCollided)
  s.setRg (STAFF_COLL.reg.key 0 0) ((srWord h) + b2n same * 2 ^ 15 + 2 ^ 16)

/-- A service core's write in the cycle in which the block writer wrote the same word last (R219, R220): the SC write is done, and
the block writer, whose write was COLLIDED, repeats it; where the word already holds its data, it got COLLIDED_SAME. -/
def State.staffBlock (s : State) (c : Nat) (a : StaffReq) : State :=
  let w := srWord a
  let d := s.staffPeek w
  let h : StaffReq := ⟨true, BitVec.ofNat 18 (8 * w), 8, BitVec.ofNat 64 d⟩
  ((s.staffSc c a).mc (if sameBytes a h then mcCollidedSame else mcCollided)).staffPut w d

/-- Did the block writer write the word of request `a` last? -/
def State.blockWrote (s : State) (a : StaffReq) : Bool :=
  decide (s.mem.staffRun.1 ≤ srWord a) && decide (srWord a < s.mem.staffRun.1 + s.mem.staffRun.2)

/-- Both sides in one MEM_CK cycle (R219): reads return the word before a write. -/
def State.staffBoth (s : State) (c : Nat) (a h : StaffReq) : State × Nat :=
  if (srWord a) = (srWord h) ∧ s.scReaches c a.addr.toNat = true then
    match a.wr, h.wr with
    | true, true => ((s.staffSc c a).staffCollide a h, 0)
    | true, false =>
      let r := s.staffHost h
      (r.1.staffSc c a, r.2)
    | false, _ => (s.staffSc c a).staffHost h
  else (s.staffSc c a).staffHost h

/-! The secure region (R496 to R499). -/

/-- Zero page `k`. -/
def State.zeroPage (s : State) (k : Nat) : State :=
  let lo := 9 * (0x30000 + 0x1000 * k) / 8
  { s with mem.staff := s.mem.staff.filter (fun c => !(decide (lo ≤ c.1) && decide (c.1 < lo + 4608))) }

/-- A wipe of the pages of mask `m` is ordered, with its cause code (R499). -/
def State.wipeStart (s : State) (cause m : Nat) : State :=
  let s := (s.put PROT_SEC_STAT.WIPING 1).put PROT_SEC_STAT.CAUSE cause
  s.put PROT_SEC_STAT.PENDING ((s.get PROT_SEC_STAT.PENDING).lor m)

/-- A wipe ends (R499). -/
def State.wipeEnd (s : State) : State :=
  let s := s.setRg (PROT_SEC_STAT.reg.key 0 0) 0
  (s.evt PROT_EVT.WIPE_DONE 0xD0).raise 0xD3

/-- The wipe of a tamper detection or of R80: S3's own clear path. -/
def State.wipeAll (s : State) : State := (s.forEach (List.range 16) State.zeroPage).wipeStart 3 0xFFFF

/-- SECURE_ZERO_STEP: 1,024 words, two pages (R499). -/
def State.wipeStep (s : State) : State :=
  if s.on PROT_SEC_STAT.WIPING && s.get PROT_SEC_STAT.CAUSE != 3 then
    let two := ((List.range 16).filter (bitAt (s.get PROT_SEC_STAT.PENDING))).take 2
    let s := s.forEach two (fun s k => (s.zeroPage k).put PROT_SEC_STAT.PENDING (s.get PROT_SEC_STAT.PENDING - 2 ^ k))
    if s.get PROT_SEC_STAT.PENDING = 0 then s.wipeEnd else s
  else s

/-- WIPE_DONE: a wipe that needs no step ends. -/
def State.wipeDone (s : State) : State :=
  if s.on PROT_SEC_STAT.WIPING && (s.get PROT_SEC_STAT.CAUSE == 3 || s.get PROT_SEC_STAT.PENDING == 0) then s.wipeEnd else s

end Sys2Proof.Machine
end

