-- ==== Sys2Proof/Machine/Cores.lean ====
section
/-! DEFINITION. The service cores (R412 to R418) and the mailboxes (R425 to R427): states, watchdogs, submissions, receive queues,
doorbells and answers. -/

namespace Sys2Proof.Machine

open Sys2Proof

/-- Core states (R412). -/
def coreHeld : Nat := 0
def coreRunning : Nat := 1
def coreDebug : Nat := 2
def coreFaulted : Nat := 3
def coreStopped : Nat := 4
def State.coreState (s : State) (c : Nat) : Nat := s.get SC_STAT.STATE c
def State.scEvt (s : State) (f : Fld) : State := s.evt f 0xB0

/-- The core starts to run, in RECOVERY on the ROM fallback firmware (R412): its watchdog begins a full period (R414). -/
def State.coreGo (s : State) (c : Nat) : State :=
  ((s.put SC_STAT.STATE coreRunning c).put SC_STAT.ROM (b2n (s.mode == 3)) c).put SC_STAT.WDOG_LEFT (s.get SC_CTRL.WDOG_BELLS c) c

/-- A core reset (R412, R413): receive queue and completions are discarded, private memory stays. -/
def State.coreReset (s : State) (c cause : Nat) : State :=
  let q := s.core c
  let s := s.setCore c { q with done := [], rxq := [], epoch := q.epoch + 1 }
  let s := s.forEach q.rxq (fun s ptr => s.release ptr (0x20 + c))
  (((s.coreGo c).put SC_STAT.CAUSE cause c).count SC_CNT.COUNT 7).scEvt SC_EVT.RESTART

/-- The core enters FAULTED (R412, R413). -/
def State.coreFault (s : State) (c : Nat) : State :=
  (((s.put SC_STAT.STATE coreFaulted c).put SC_STAT.CAUSE 1 c).count SC_CNT.COUNT 7).scEvt SC_EVT.FAULT

/-- The watchdog expires (R412, R414). -/
def State.wdogExpire (s : State) (c : Nat) : State :=
  let n := (s.core c).restarts
  if s.on SC_CTRL.AUTO_RESTART c && decide (n < s.get SC_CTRL.RESTART_MAX c) then
    (s.onCore c (fun q => { q with restarts := n + 1 })).coreReset c 1
  else s.coreFault c

/-- The watchdog of core `c` at a bell edge (R414). -/
def State.wdogEdge (s : State) (c : Nat) : State :=
  let left := s.get SC_STAT.WDOG_LEFT c
  if s.coreState c = coreRunning ∧ s.get SC_CTRL.WDOG_BELLS c ≠ 0 ∧ 0 < left then
    let s := s.put SC_STAT.WDOG_LEFT (left - 1) c
    if left = 1 then s.wdogExpire c else s
  else s

/-- SCn_CTRL was written with word `w`, which may hold the WO bits RESTART and KICK (R412, R414). -/
def State.scCtrlWritten (s : State) (c w : Nat) : State :=
  let st := s.coreState c
  let s :=
    if st = coreRunning ∧ bitAt w 0 = false then (s.put SC_STAT.STATE coreHeld c).put SC_STAT.ROM 0 c
    else if st = coreHeld ∧ bitAt w 0 = true ∧ s.mode ≠ 0 ∧ s.mode ≠ 5 ∧ ((s.core c).fw = true ∨ s.mode = 3) then s.coreReset c 2
    else s
  let s := if st = coreFaulted ∧ bitAt w 2 = true then s.coreReset c 2 else s
  if bitAt w 3 then s.put SC_STAT.WDOG_LEFT (s.get SC_CTRL.WDOG_BELLS c) c else s

/-- A core leaves HELD at the end of START (R412). -/
def State.coreStart (s : State) (rom : Bool) (c : Nat) : State :=
  if s.coreState c = coreHeld ∧ s.on SC_CTRL.RUN c = true ∧ (rom = true ∨ (s.core c).fw = true) then
    (s.coreGo c).put SC_STAT.ROM (b2n rom) c
  else s

/-- HALT stops a core (R412). -/
def State.coreHalt (s : State) (c : Nat) : State := s.put SC_STAT.STATE coreStopped c

/-- DEBUG_HALT and DEBUG_RESUME (R412): through SCDBG, which only some life-cycle states permit (R77). -/
def State.scdbgOk (s : State) : Bool :=
  let lc := s.get LDG_STAT.LC
  lc == 0 || lc == 1 || lc == 3
def State.debugHalt (s : State) (c : Nat) : State :=
  if s.scdbgOk && s.coreState c == coreRunning then s.put SC_STAT.STATE coreDebug c else s
def State.debugResume (s : State) (c : Nat) : State :=
  if s.coreState c = coreDebug then s.put SC_STAT.STATE coreRunning c else s

/-! Submissions (R415 to R417). -/

/-- A write of SC_TX_DESC1 with word `w` by core `c` (R415, R416). -/
def State.submit (s : State) (c w : Nat) : State :=
  let d0 := s.rg ((SC_TX_DESC0.reg.of c).key 0 0)
  let ptr := getBits d0 0 32
  let len := getBits d0 32 14
  let tag := getBits d0 46 16
  let bridge := bitAt w 4
  let cls := bitAt w 5
  let l3 := bitAt w 6
  let l4 := bitAt w 7
  let launch := bitAt w 9
  let dest := getBits w 0 4
  let q := s.core c
  if 32 ≤ q.inprog + q.done.length then s.scEvt SC_EVT.TXQ_FULL
  else if (s.ptrCheck ptr).isSome ∨ (s.buf ptr).refs ≠ 1 then s.coreDone c stBadField tag 0
  else if len < 14 ∨ 16320 < len ∨ bufBytes (s.pool (ptrPool ptr)).size < len + 64 then s.coreDone c stBound tag 0
  else if (launch && (bridge || cls)) || (!bridge && !cls && decide (0xA < dest)) then s.coreDone c stBadField tag 0
  else
    let r := s.fresh
    let id := r.2
    let s := r.1.setJob id ⟨8 + c, tag, q.epoch, bitAt w 8, launch, !bridge && !cls, len, false, false, 0⟩
    let s := s.onCore c (fun q => { q with inprog := q.inprog + 1 })
    let head : State × Option (List Nat) := if bridge && !cls then s.fetchPayload ptr (min len 64) else (s, some [])
    let s := head.1
    let f := Frame.new (0x20 + c) s.st80.toNat (s.get GLB_BELL_NUM.BELL)
    match head.2 with
    | none => (s.release ptr (0x20 + c)).jobFinish id stMemUncorr none
    | some b =>
      let tci := outerTci s.customTpid b
      let f := { f with
        ptr := ptr, size := bufBytes (s.pool (ptrPool ptr)).size, len := len, tc := getBits w 10 3,
        vlan := if getBits w 16 12 = 0 then 1 else getBits w 16 12, tci := tci.getD 0, tagged := tci.isSome, job := some id,
        mac := beNat (b.take 12), launch := if launch then some (s.rg ((SC_TX_LAUNCH.reg.of c).key 0 0)) else none }
      let direct := !cls && !bridge
      let fwd : Fwd := { Fwd.of f with bridge := !cls && bridge, ports := if direct then 2 ^ dest else 0, edit := !direct }
      if cls || l3 || l4 then { s with cls.subs := s.cls.subs ++ [⟨fwd, cls, l3, l4⟩] } else s.forward fwd

/-- A read of SC_TX_DONE removes the oldest completion (R417). -/
def State.scTxDone (s : State) (c : Nat) : State × Nat :=
  match (s.core c).done with
  | [] => (s, 0)
  | e :: l => (s.onCore c (fun q => { q with done := l }), e.1)
def State.scTxDoneTs (s : State) (c : Nat) : Nat :=
  match (s.core c).done with
  | [] => 0
  | e :: _ => e.2

/-- A read of SC_RX_POP removes the oldest frame pointer (R418). -/
def State.scRxPop (s : State) (c : Nat) : State × Nat :=
  match (s.core c).rxq with
  | [] => (s, 0)
  | e :: l => (s.onCore c (fun q => { q with rxq := l }), e % 2 ^ 32 + 2 ^ 32 + l.length * 2 ^ 33)

/-- PROC_ACCESS: a core's read or write of up to 8 bytes of buffer memory (R195, R200, R431). -/
def State.procAccess (s : State) (c : Nat) (wr : Bool) (addr len d : Nat) : State :=
  let s := s.pmuOn evBufAccess (2 ^ c) 1
  let slow (t : State) : State :=
    if s.get MEM_CNT.COUNT mcRecon < t.get MEM_CNT.COUNT mcRecon then t.pmuOn evBufSlow (2 ^ c) 1 else t
  if wr then
    let r := s.procWrite addr (leBytes d len)
    slow (r.1.onCore c (fun q => { q with err := r.2 }))
  else
    let r := s.procRead addr len
    slow (r.1.onCore c (fun q => { q with ld := leNat r.2.1, err := r.2.2 }))

/-! Mailboxes (R424 to R427). Mailbox `m` is unit 0x30 + m. -/

def State.mbxOf (s : State) (m : Nat) : MbxSt := mapGet (fun _ => MbxSt.init) s.mbx m
def State.setMbx (s : State) (m : Nat) (v : MbxSt) : State := { s with mbx := mapSet (fun _ => MbxSt.init) s.mbx m v }
def mbxUnit (m : Nat) : Nat := 0x30 + m
/-- First staff-room word of the request and of the response area. -/
def reqWord (m : Nat) : Nat := 128 * m
def rspWord (m : Nat) : Nat := 128 * m + 64

/-- A doorbell with word `w` of the initiator of copy `c` (R425). -/
def State.mbxDoorbell (s : State) (c w : Nat) : State :=
  let m := getBits w 0 4
  let seq := getBits w 16 16
  let role := s.role (mbxUnit m)
  let res (s : State) (v : Nat) : State := s.setRg ((MBX_DB_RES.reg.of c).key 0 0) (1 + v * 2)
  if role.func ≠ .firmware ∨ role.owner = none then res s 1
  else if getBits w 32 16 ≠ role.gen.toNat then res (s.stale.count SC_CNT.COUNT 2) 2
  else if s.get MBX_STAT.STATE m = 1 then res s 3
  else
    let r := s.staffWords (reqWord m) 2
    let w0 := r.2.getD 0 0
    let s := r.1
    if getBits w0 32 16 ≠ seq then res s 4
    else
      let s := s.setMbx m ⟨getBits w0 0 8, getBits w0 8 8, getBits (r.2.getD 1 0) 0 32, role.gen.toNat, s.get GLB_BELL_NUM.BELL⟩
      let s := (s.put MBX_STAT.STATE 1 m).put MBX_STAT.SEQ seq m
      res (s.count SC_CNT.COUNT 0) 0

/-- The mailbox engine writes a response header, bytes 8 to 15 first, and the mailbox is ANSWERED (R424, R426). -/
def State.mbxAnswer (s : State) (m status len : Nat) : State :=
  let b := s.mbxOf m
  let w0 := b.service + b.op * 2 ^ 8 + len * 2 ^ 16 + s.get MBX_STAT.SEQ m * 2 ^ 32 + status * 2 ^ 48
  let s := s.staffRun (rspWord m) [w0, b.tag + b.gen * 2 ^ 32]
  (s.put MBX_STAT.STATE 2 m).raise (0xA0 + m)

/-- A write of MBX_DONE with word `w` (R426). -/
def State.mbxDoneWrite (s : State) (w : Nat) : State :=
  let m := getBits w 0 4
  if s.get MBX_STAT.STATE m ≠ 1 ∨ getBits w 16 16 ≠ s.get MBX_STAT.SEQ m then s.scEvt SC_EVT.MBX_LATE
  else (s.mbxAnswer m (getBits w 32 16) (getBits w 48 9)).count SC_CNT.COUNT 1

/-- Mailbox `m` at a bell edge (R427): a role change answers ABANDONED, else the timeout answers TIMEOUT. -/
def State.mbxEdge (changed : List Nat) (s : State) (m : Nat) : State :=
  if s.get MBX_STAT.STATE m ≠ 1 then s
  else if changed.contains (mbxUnit m) then s.mbxAnswer m 0x11 0
  else if s.get SC_SVC_CFG.MBX_TMO_BELLS ≤ (s.get GLB_BELL_NUM.BELL + 2 ^ 32 - (s.mbxOf m).bell) % 2 ^ 32 then
    (s.mbxAnswer m 0x10 0).count SC_CNT.COUNT 3
  else s

end Sys2Proof.Machine
end

