-- ==== Sys2Proof/Machine/March.lean ====
section
/-! DEFINITION. The march engine and scrub (R206 to R216): the preserving march of one slice, spare-row repair, the start-up
march, and the scrub passes, with the processor writes accepted while a step holds a stripe (R198). -/

namespace Sys2Proof.Machine

open Sys2Proof

/-! Processor writes while a step holds a stripe (R198). -/

/-- Does processor write `w` touch stripe `st`? -/
def hitsStripe (st : Nat) (w : ProcWrite) : Bool :=
  decide (w.addr.toNat / 64 ≤ st) && decide (st ≤ (w.addr.toNat + w.len.val - 1) / 64)

/-- The processor writes `l` are done, in the order in which the codec accepts them. -/
def State.procWrites (s : State) (l : List ProcWrite) : State :=
  s.forEach l (fun s w => s.procAccess w.core.val true w.addr.toNat w.len.val w.data.toNat)

/-- The writes of `l` that touch stripe `st`, and the others. -/
def splitWrites (st : Nat) (l : List ProcWrite) : List ProcWrite × List ProcWrite := l.partition (hitsStripe st)

/-! Spare rows (R212, R213). -/

/-- Repair entry number of spare `k` of a column and sub-array (R212). -/
def repairIdx (col sub k : Nat) : Nat := 16 * col + 8 * sub + k

/-- The spares of a column and sub-array that are FREE, lowest first. -/
def State.freeSpares (s : State) (col sub : Nat) : List Nat :=
  (List.range 8).filter (fun k => s.get MEM_REPAIR.KIND (repairIdx col sub k) == 0)

/-- The records of changed repair entries are requested from the ledger, as long as its queue has room; the others wait (R213). -/
def State.repairFlush (s : State) : State :=
  let n := 16 - s.ledger.queue.length
  { s with mem.repairDue := s.mem.repairDue.drop n }.forEach (s.mem.repairDue.take n) (fun s i =>
    (s.ldgRequest (.repair i (s.get MEM_REPAIR.KIND i) (s.get MEM_REPAIR.ROW i))).1)

/-- Change one repair entry, whose record is due (R212, R213). -/
def State.setRepair (s : State) (i kind row : Nat) : State :=
  let s := s.put MEM_REPAIR.KIND kind i
  let s := s.put MEM_REPAIR.ROW row i
  let s := (s.put MEM_REPAIR.LEDGER 0 i).mevt MEM_EVT.REPAIRED
  { s with mem.repairDue := if s.mem.repairDue.contains i then s.mem.repairDue else s.mem.repairDue ++ [i] }

/-- Remap failing row `row` of a column and sub-array (R212): the spare that held it retires, and the next FREE spare takes
it. Answers the spare used, if there was one. -/
def State.repairRow (s : State) (col sub row : Nat) : State × Option Nat :=
  let old := (List.range 8).find? (fun k => s.get MEM_REPAIR.KIND (repairIdx col sub k) == 1 &&
    s.get MEM_REPAIR.ROW (repairIdx col sub k) == row)
  let s := match old with
    | some k => s.setRepair (repairIdx col sub k) 2 row
    | none => s
  match s.freeSpares col sub with
  | [] => (s, none)
  | k :: _ => ((s.setRepair (repairIdx col sub k) 1 row).mc mcRepairs, some k)

/-! Preserving march (R206 to R211). -/

/-- A served MEM_MARCH_CMD (R207, R209). -/
def State.marchCmd (s : State) (w : Nat) : State :=
  let act := getBits w 0 2
  let b := getBits w 4 4
  let c := getBits w 8 4
  let st := s.get MEM_MARCH_STAT.STATE
  if act = 1 then
    if st ≠ 0 ∨ s.get MEM_BANK_STAT.POWER b ≠ 0 ∨ s.mode = 0 ∨ s.mode = 4 ∨ s.mode = 5 ∨ 9 < c ∨
        (s.erasedCols b).any (fun d => d != c) = true then
      (s.put MEM_MARCH_STAT.REFUSED 1).memRefuse
    else
      let s := s.put MEM_MARCH_STAT.STATE 1
      let s := s.put MEM_MARCH_STAT.BANK b
      let s := s.put MEM_MARCH_STAT.COLUMN c
      let s := (s.put MEM_MARCH_STAT.ELEMENT 0).put MEM_MARCH_STAT.PROGRESS 0
      let s := (s.put MEM_MARCH_STAT.FAIL_ROWS0 0).put MEM_MARCH_STAT.FAIL_ROWS1 0
      let s := s.put MEM_BANK_STAT.MARCH 1 b
      { s with mem.marchErase := false, mem.marchOp := 0, mem.marchPos := 0, mem.marchFails := [], mem.marchAbort := false }
  else if act = 2 then
    if st = 1 ∨ st = 2 then
      { (s.put MEM_MARCH_STAT.STATE 3).put MEM_MARCH_STAT.PROGRESS 0 with mem.marchPos := 0, mem.marchAbort := true }
    else s
  else s.memRefuse

/-- The march reaches IDLE (R209). -/
def State.marchEnd (s : State) (result : Nat) : State :=
  let b := s.get MEM_MARCH_STAT.BANK
  let s := s.put MEM_MARCH_STAT.STATE 0
  let s := s.put MEM_MARCH_STAT.RESULT result
  let s := s.put MEM_BANK_STAT.MARCH 0 b
  { s with mem.marchErase := false }.mevt MEM_EVT.MARCH_DONE

/-- The march fails: the column becomes ERASED (R205, R209). -/
def State.marchFail (s : State) : State :=
  let b := s.get MEM_MARCH_STAT.BANK
  (s.marchEnd 2).eraseCol b (s.get MEM_MARCH_STAT.COLUMN) (b * 8192) .rebuild

/-- First operation of March element `e` within the 40,960 operations per sub-array, and operations per word (R206). -/
def elementStart (e : Nat) : Nat := if e = 0 then 0 else 4096 + 8192 * (e - 1)
def elementOf (op : Nat) : Nat := if op < 4096 then 0 else min 5 ((op - 4096) / 8192 + 1)

/-- One word operation of the march: its slice word address, whether it reads, and the background (R206). -/
def marchOpOf (op : Nat) : Nat × Bool × Bool :=
  let e := elementOf op
  let k := op - elementStart e
  if e = 0 then (k, false, false)
  else if e = 5 then (k, true, false)
  else
    let addr := if e ≤ 2 then k / 2 else 4095 - k / 2
    let one := e == 2 || e == 4
    if k % 2 = 0 then (addr, true, one) else (addr, false, !one)

/-- A failing read of word `addr` of sub-array `sub` is recorded by its row. -/
def State.noteMarchFail (s : State) (sub addr : Nat) : State :=
  let row := s.get MEM_MARCH_STAT.BANK * 64 + addr / 64
  let s := s.mc mcMarchFail
  if s.mem.marchFails.contains (sub, row) then s else { s with mem.marchFails := s.mem.marchFails ++ [(sub, row)] }

/-- One operation of the march in one sub-array. `defects` lists the (sub-array, word) pairs whose cells do not hold what is
written to them: a read there returns a bit that differs. -/
def State.marchWordOp (defects : List (Nat × Nat)) (op : Nat) (s : State) (sub : Nat) : State :=
  let b := s.get MEM_MARCH_STAT.BANK
  let c := s.get MEM_MARCH_STAT.COLUMN
  let (addr, isRead, one) := marchOpOf op
  let st := b * 8192 + 2 * addr + sub
  let s := s.mc mcMarchOps
  let want := if one then (2 ^ 64 - 1, 255) else (0, 0)
  if isRead then
    if s.rawWord st c ≠ want ∨ defects.contains (sub, addr) = true then s.noteMarchFail sub addr else s
  else s.putRaw st c want.1 want.2

/-- Rows of sub-array `sub` that failed in this run. -/
def State.failRows (s : State) (sub : Nat) : List Nat :=
  s.mem.marchFails.filterMap (fun p => if p.1 = sub then some p.2 else none)

/-- Show the failing rows, each up to 15. -/
def State.showFails (s : State) : State :=
  (s.put MEM_MARCH_STAT.FAIL_ROWS0 (min 15 (s.failRows 0).length)).put MEM_MARCH_STAT.FAIL_ROWS1
    (min 15 (s.failRows 1).length)

/-- Restart the test of the slice after a remap. -/
def State.marchRestart (s : State) (st : Nat) : State :=
  let s := (s.put MEM_MARCH_STAT.STATE st).put MEM_MARCH_STAT.PROGRESS 0
  { s.put MEM_MARCH_STAT.ELEMENT 0 with mem.marchOp := 0, mem.marchPos := 0, mem.marchFails := [] }

/-- Element 5 of TESTING has ended (R209). -/
def State.marchTested (s : State) : State :=
  let c := s.get MEM_MARCH_STAT.COLUMN
  if s.mem.marchFails.isEmpty then s.marchRestart 3
  else if (s.freeSpares c 0).length < (s.failRows 0).length ∨ (s.freeSpares c 1).length < (s.failRows 1).length then
    s.marchFail
  else
    let l := s.mem.marchFails
    (s.forEach l (fun s p => (s.repairRow c p.1 p.2).1)).repairFlush.marchRestart 2

/-- Up to 32 word operations in each sub-array (R210). -/
def State.marchTestStep (s : State) (defects : List (Nat × Nat)) : State :=
  let op := s.mem.marchOp
  let s := s.forEach (List.range 32) (fun s i =>
    s.forEach [0, 1] (fun s sub => if op + i < 40960 then s.marchWordOp defects (op + i) sub else s))
  let nxt := op + 32
  let s := { s with mem.marchOp := nxt }
  let s := s.put MEM_MARCH_STAT.ELEMENT (elementOf (min 40959 nxt))
  let s := s.put MEM_MARCH_STAT.PROGRESS (marchOpOf (min 40959 nxt)).1
  let s := s.showFails
  if s.get MEM_MARCH_STAT.STATE = 2 ∧ s.mem.marchFails ≠ [] then s.marchFail
  else if nxt < 40960 then s
  else if s.get MEM_MARCH_STAT.STATE = 1 then s.marchTested
  else s.marchRestart 3

/-- The rebuild read of stripe `st` (R210): the word solved for the slice from the nine other columns. -/
def State.rebuildRead (s : State) (st : Nat) : State × Nat :=
  let c := s.get MEM_MARCH_STAT.COLUMN
  let r := s.slowRead .rebuild st []
  if r.2.ok then (r.1, wordAt r.2.words c)
  else
    let ws := r.2.words.set c 0
    (r.1.noteUncorr .rebuild st r.2, wordAt (solveOne ws c).1 c)

/-- Rebuild the slice word of stripe `st`. -/
def State.rebuildStripe (s : State) (st : Nat) : State :=
  let r := s.rebuildRead st
  r.1.putWord st (s.get MEM_MARCH_STAT.COLUMN) r.2

/-- The stripes `sts` of a rebuild step, in order, with the processor writes `l` accepted meanwhile: a write accepted between the
read and the write of a stripe discards the rebuild write. Answers the stripes whose write was discarded, and the writes that met
no stripe (R198, R210). -/
def State.rebuildRun (s : State) (l : List ProcWrite) : List Nat → State × List Nat × List ProcWrite
  | [] => (s, [], l)
  | st :: sts =>
    let w := splitWrites st l
    if w.1.isEmpty then (s.rebuildStripe st).rebuildRun l sts
    else
      let q := ((s.rebuildRead st).1.procWrites w.1).rebuildRun w.2 sts
      (q.1, st :: q.2.1, q.2.2)

/-- Up to 8 stripes of the rebuild, in ascending order, then once more those whose rebuild write was discarded (R210). -/
def State.marchRebuildStep (s : State) (writes : List ProcWrite) : State :=
  let b := s.get MEM_MARCH_STAT.BANK
  let pos := s.mem.marchPos
  let hi := min 8192 (pos + 8)
  let r := s.rebuildRun writes ((List.range (hi - pos)).map (b * 8192 + pos + ·))
  let s := r.1.forEach r.2.1 (fun s st => (s.rebuildStripe st).mc mcRedo)
  let s := { s with mem.marchPos := hi }.procWrites r.2.2
  let s := s.put MEM_MARCH_STAT.PROGRESS s.mem.marchPos
  if s.mem.marchPos < 8192 then s
  else if s.mem.marchAbort then s.marchEnd 3
  else (s.marchEnd 1).healCol b (s.get MEM_MARCH_STAT.COLUMN)

/-- PRESERVING_MARCH_STEP (R210): from the bell edge after START was served. -/
def State.marchStep (s : State) (defects : List (Nat × Nat)) (writes : List ProcWrite) : State :=
  if s.mem.marchErase then
    let st := s.get MEM_MARCH_STAT.STATE
    if st = 1 ∨ st = 2 then (s.marchTestStep defects).procWrites writes
    else if st = 3 then s.marchRebuildStep writes
    else s.procWrites writes
  else s.procWrites writes

/-! Start-up march (R214). -/

/-- Replay the repair map from the ledger, in word order (R471). -/
def State.loadRepairs (s : State) : State :=
  s.forEach (s.ldgRecords 0xB00 1 512 (fun ws => repairValid (ws.getD 0 0))) (fun s r =>
    let w := r.2.getD 0 0
    let e := getBits w 0 8
    if e < 160 then
      ((s.put MEM_REPAIR.KIND (getBits w 8 2) e).put MEM_REPAIR.ROW (getBits w 10 10) e).put MEM_REPAIR.LEDGER 1 e
    else s)

/-- `n` more events of a counter slot. -/
def State.mcN (s : State) (slot n : Nat) : State := s.countN MEM_CNT.COUNT slot n

/-- A row that the start-up march cannot repair (R214): its column becomes ERASED, or its bank FAILED where that would be the third
(R205). -/
def State.rowLost (s : State) (col sub row : Nat) : State :=
  let b := row / 64
  let third := decide (2 ≤ (s.erasedCols b).length) && !(s.erasedCols b).contains col
  let s := s.eraseCol b col (128 * row + sub) .startup
  if third then s.put MEM_BANK_STAT.HEALTH 3 b else s

/-- The destructive march of one column and sub-array. `rows` are the failing rows (0 to 1,023) and `spares` the failing
spare rows (0 to 7) that the test finds there. -/
def State.marchColumn (s : State) (col sub : Nat) (rows spares : List Nat) : State :=
  let usable := (List.range 8).filter (fun k => s.get MEM_REPAIR.KIND (repairIdx col sub k) != 2)
  let s := s.mcN mcMarchOps (10 * (65536 + 64 * usable.length))
  -- rows whose spare fails need another one
  let lost := spares.filterMap (fun k =>
    if s.get MEM_REPAIR.KIND (repairIdx col sub k) = 1 then some (s.get MEM_REPAIR.ROW (repairIdx col sub k)) else none)
  let s := s.forEach spares (fun s k =>
    if usable.contains k then s.setRepair (repairIdx col sub k) 2 (s.get MEM_REPAIR.ROW (repairIdx col sub k)) else s)
  let held := (List.range 8).filterMap (fun k =>
    if s.get MEM_REPAIR.KIND (repairIdx col sub k) = 1 then some (s.get MEM_REPAIR.ROW (repairIdx col sub k)) else none)
  let need := (lost ++ rows.filter (fun r => !held.contains r && !lost.contains r)).filter (fun r => decide (r < 1024))
  s.forEach need (fun s row =>
    match s.repairRow col sub row with
    | (s, some _) => s.mcN mcMarchOps 640
    | (s, none) => s.rowLost col sub row)

/-- A row that fails in the start-up march: its column, sub-array and physical row, 1,024 + k for spare row k, and how many word
reads fail in it. -/
structure Defect where
  col : Nat
  sub : Nat
  row : Nat
  reads : Nat
  deriving DecidableEq, Repr

/-- START_MARCH (R214): the repair map is loaded, every column is tested and repaired, every word ends at zero, and the roster
leaves out FAILED banks. A RETIRED spare is not tested, nor is a row that a spare replaces. -/
def State.startMarch (s : State) (defects : List Defect) : State :=
  let s := s.loadRepairs
  let s := { s with mem.cells := [] }
  let s := s.forEach ((List.range 10).flatMap (fun c => [(c, 0), (c, 1)])) (fun s p =>
    let kinds := (List.range 8).map (fun k => s.get MEM_REPAIR.KIND (repairIdx p.1 p.2 k))
    let replaced := (List.range 8).filterMap (fun k =>
      if kinds.getD k 0 = 1 then some (s.get MEM_REPAIR.ROW (repairIdx p.1 p.2 k)) else none)
    let here := defects.filter (fun d => d.col == p.1 && d.sub == p.2 && d.reads != 0 &&
      !replaced.contains d.row && kinds.getD (d.row - 1024) 0 != 2)
    let s := s.mcN mcMarchFail ((here.map (·.reads)).foldl (· + ·) 0)
    let rows := here.map (·.row)
    s.marchColumn p.1 p.2 (rows.filter (fun r => decide (r < 1024))) ((rows.filter (fun r => decide (1024 ≤ r))).map (· - 1024)))
  s.forEach (List.range 4) (fun s i =>
    if s.get MEM_BANK_STAT.HEALTH (12 + i) = 3 then s.put ROLL_CFG.BANKS (setBits (s.get ROLL_CFG.BANKS) i 1 0) else s)

/-! Scrub (R215, R216). -/

/-- The next stripe at or after `st` that scrub visits: in an ON bank not under a preserving march. -/
def State.scrubFrom (s : State) (st : Nat) : Nat :=
  if s.stripeOn st && !s.marchIn (stripeBank st) then st
  else
    match ((List.range 16).filter (fun b => decide (stripeBank st < b))).find? (fun b =>
        s.get MEM_BANK_STAT.POWER b == 0 && !s.marchIn b) with
    | some b => b * 8192
    | none => 131072

/-- A pass starts at stripe 0 (R216). -/
def State.scrubBegin (s : State) : State :=
  { ((s.put MEM_SCRUB_STAT.NEXT 0).put MEM_SCRUB_STAT.ACTIVE 1) with
    mem.scrubTerm := some (s.get GLB_TERM_NUM.TERM), mem.scrubWant := false }

/-- The pass ends (R216). -/
def State.scrubEnd (s : State) : State :=
  let s := (s.put MEM_SCRUB_STAT.ACTIVE 0).put MEM_SCRUB_STAT.NEXT 0
  let s := (s.put MEM_SCRUB_STAT.LAST_TERM (s.get GLB_TERM_NUM.TERM)).mc mcScrubPasses
  if s.get MEM_CFG.SCRUB_PASS_TERMS = 0 then
    (if s.on MEM_CFG.SCRUB_EN then s.scrubBegin else { s with mem.scrubWant := true })
  else s

/-- Pass starts at a bell edge outside START and HALT: the first pass after START, a start that waited for SCRUB_EN, and at
a term boundary the one that is due (R215, R216). -/
def State.scrubEdge (s : State) (term : Bool) : State :=
  if s.on MEM_SCRUB_STAT.ACTIVE || s.mode == 0 then s
  else
    let due := match s.mem.scrubTerm with
      | none => true
      | some t => term && decide ((s.get MEM_CFG.SCRUB_PASS_TERMS : Int) ≤ wrapDiff 32 (s.get GLB_TERM_NUM.TERM) t)
    if due || s.mem.scrubWant then
      if s.on MEM_CFG.SCRUB_EN then s.scrubBegin else { s with mem.scrubWant := true }
    else s

/-- Read one stripe in full, decode it, and write it back where it was corrected (R215). The processor writes `mid` are accepted
between the read and the write-back, which they discard (R198). Answers whether the step ends with this stripe. -/
def State.scrubStripe (s : State) (st : Nat) (mid : List ProcWrite) : State × Bool :=
  let s := s.mc mcScrubStripes
  let clean := (List.range 10).all (fun c => s.erasedAt st c ||
    (innerDecode (s.rawWord st c).1 (s.rawWord st c).2).2 == .good)
  let r := s.slowRead .scrub st []
  if r.2.ok then
    if clean && !r.2.fixed then (r.1.procWrites mid, false)
    else if mid.isEmpty then ((r.1.writeWords st r.2.words (List.range 10)).mc mcScrubWb, true)
    else (r.1.procWrites mid, true)
  else ((r.1.noteUncorr .scrub st r.2).procWrites mid, false)

/-- Up to `n` stripes of a scrub step, ending after one write-back; `l` are the processor writes accepted meanwhile, of which those
that meet no stripe of the step are done at its end. -/
def State.scrubRun : Nat → List ProcWrite → State → State
  | 0, l, s => s.procWrites l
  | n + 1, l, s =>
    let st := s.scrubFrom (s.get MEM_SCRUB_STAT.NEXT)
    if 131072 ≤ st then s.scrubEnd.procWrites l
    else
      let w := splitWrites st l
      let r := s.scrubStripe st w.1
      let nxt := r.1.scrubFrom (st + 1)
      let s := r.1.put MEM_SCRUB_STAT.NEXT (nxt % 131072)
      if 131072 ≤ nxt then s.scrubEnd.procWrites w.2
      else if r.2 then s.procWrites w.2
      else State.scrubRun n w.2 s

/-- SCRUB_STEP (R215): fill steps go first (R203). -/
def State.scrubStep (writes : List ProcWrite) (s : State) : State :=
  if s.on MEM_CFG.SCRUB_EN && s.on MEM_SCRUB_STAT.ACTIVE &&
      !(List.range 16).any (fun b => s.get MEM_BANK_STAT.POWER b == 3) then
    State.scrubRun 8 writes s
  else s.procWrites writes

end Sys2Proof.Machine
end

