-- ==== Sys2Proof/Machine/Prot.lean ====
section
/-! DEFINITION. Protected settings (R480 to R504): proposals, the hall pass, application, tamper detection. The proposal
slot is PROT_PROP_STAT, PROT_PROP_INFO, PROT_PROP_VAL and PROT_PROP_DIGEST. -/

namespace Sys2Proof.Machine

open Sys2Proof

def State.protEvt (s : State) (f : Fld) : State := s.evt f 0xD0
def State.protCount (s : State) (slot : Nat) : State := s.count PROT_CNT.COUNT slot

/-! Counter slots of R503. -/
def prDenied : Nat := 0
def prCommits : Nat := 1
def prApplied : Nat := 2
def prRefused : Nat := 3
def prTamper : Nat := 4

/-- Is a tamper lockout in force (R501)? -/
def State.lockedOut (s : State) : Bool := s.on TAMPER_STAT.LOCKED_OUT

/-- The identifiers a lockout silences. -/
def portInit (i : Nat) : Bool := decide (i < 0x100)

/-- Does initiator `i` hold PROPOSE, APPROVE (R481, R501)? -/
def State.mayPropose (s : State) (i : Nat) : Bool := s.on PROT_INIT.PROPOSE i && !(s.lockedOut && portInit i)
def State.mayApprove (s : State) (i : Nat) : Bool := s.on PROT_INIT.APPROVE i && !(s.lockedOut && portInit i)

/-! Proposal kinds (R486). -/
def pkInitMap : Nat := 1
def pkSecurePage : Nat := 2
def pkUnitOwner : Nat := 3
def pkDigest : Nat := 4
def pkLifeCycle : Nat := 5
def pkRollback : Nat := 6

/-- The life-cycle transitions of R476. -/
def lcMoves : List (Nat × Nat) := [(0, 1), (0, 2), (0, 4), (1, 2), (1, 4), (2, 3), (2, 4), (3, 4)]

def State.lifeCycle (s : State) : Nat := s.get LDG_STAT.LC

/-- Is a trusted digest zero, that is unset (R468)? -/
def unsetDigest (td : List Nat) : Bool := td.all (· == 0)

/-- Would the map with word `v` for initiator `t` leave a proposer with a different approver (R489)? -/
def State.mapStands (s : State) (t v : Nat) : Bool :=
  let s := s.setRg (PROT_INIT.reg.key t 0) v
  let ps := (List.range 0x102).filter s.mayPropose
  let as := (List.range 0x102).filter s.mayApprove
  ps.any (fun p => as.any (fun a => a != p))

/-- The COMMIT checks of R489: kind, target, reserved bits, and the conditions of each kind. -/
def State.propBad (s : State) (kind target : Nat) (v : List Nat) : Bool :=
  let v0 := v.getD 0 0
  let tail := (v.drop 1).any (· != 0)
  if kind = pkInitMap then decide (0x101 < target) || decide (v0 / 2 ^ 54 ≠ 0) || tail || !s.mapStands target v0
  else if kind = pkSecurePage then decide (15 < target) || decide (v0 / 2 ^ 6 ≠ 0) || tail
  else if kind = pkUnitOwner then
    !unitValid target || decide (3 < getBits v0 4 4) || (decide (7 < getBits v0 0 4) && getBits v0 0 4 != 0xF) ||
      getBits v0 8 8 != 0 || decide (v0 / 2 ^ 32 ≠ 0) || tail
  else if kind = pkDigest then
    decide (1 < target) || (v.drop 4).any (· != 0) ||
      (s.lifeCycle == 2 && unsetDigest (v.take 4) && unsetDigest (if target = 0 then s.ledger.td1 else s.ledger.td0))
  else if kind = pkLifeCycle then
    target != 0 || decide (v0 / 2 ^ 3 ≠ 0) || tail || !lcMoves.contains (s.lifeCycle, v0) ||
      (v0 == 2 && unsetDigest s.ledger.td0 && unsetDigest s.ledger.td1)
  else if kind = pkRollback then
    target != 0 || decide (v0 / 2 ^ 33 ≠ 0) || tail ||
      (s.on LDG_STAT.MIN_EN && bitAt v0 32 && decide (wrapDiff 32 (getBits v0 0 32) s.ledger.genMin < 0)) ||
      (s.lifeCycle == 2 && s.on LDG_STAT.MIN_EN && !bitAt v0 32)
  else true

/-- The proposal record (R490). -/
def propRecord (kind target num proposer boot : Nat) (v : List Nat) : List Nat :=
  [1, kind] ++ beBytes target 2 ++ beBytes num 4 ++ beBytes proposer 2 ++ [0, 0] ++ beBytes boot 4 ++
    (List.range 6).flatMap (fun i => beBytes (v.getD i 0) 8)

/-- The result of a served PROT_CMD in the writer's PROT_CMD_RES (R488). -/
def State.protRes (s : State) (c reason num : Nat) : State :=
  s.setRg ((PROT_CMD_RES.reg.of c).key 0 0) (1 + 2 * b2n (reason != 0) + reason * 4 + num % 2 ^ 32 * 2 ^ 32)

/-- A refused PROT_CMD (R488, R503). -/
def State.protRefuse (s : State) (c reason num : Nat) : State :=
  ((s.protRes c reason num).protEvt PROT_EVT.REFUSED).protCount prRefused

def State.propState (s : State) : Nat := s.get PROT_PROP_STAT.STATE
def State.propNum (s : State) : Nat := s.get PROT_PROP_STAT.PROP_NUM

/-- The slot becomes NONE; the number stays for the next COMMIT (R487, R489). -/
def State.propNone (s : State) : State := s.put PROT_PROP_STAT.STATE 0

/-- An accepted COMMIT of initiator `c` (R489, R490). -/
def State.stage (s : State) (c kind target : Nat) (v : List Nat) : State :=
  let num := if s.propNum + 1 = 2 ^ 32 then 1 else s.propNum + 1
  let dg := sha256 (propRecord kind target num c (s.get LDG_STAT.BOOT_COUNT) v)
  let s := s.setRg (PROT_PROP_STAT.reg.key 0 0) (1 + kind * 2 ^ 2 + target * 2 ^ 6 + c * 2 ^ 16 + num * 2 ^ 32)
  let s := s.setRg (PROT_PROP_INFO.reg.key 0 0) ((s.get GLB_TERM_NUM.TERM + s.get PROT_CFG.EXPIRY_TERMS) % 2 ^ 32 * 2 ^ 32)
  let s := s.forEach (List.range 6) (fun s i => s.put PROT_PROP_VAL.VAL (v.getD i 0) i)
  let s := s.forEach (List.range 4) (fun s i => s.put PROT_PROP_DIGEST.DIGEST (beNat ((dg.drop (8 * i)).take 8)) i)
  let s := ((s.protRes c 0 num).protCount prCommits).protEvt PROT_EVT.STAGED
  s.raise 0xD1

/-- A served COMMIT (R489); `stg` is the captured PROT_STG_CTRL and PROT_STG_VAL. -/
def State.propCommit (s : State) (c num : Nat) (stg : List Nat) : State :=
  let kind := getBits (stg.getD 0 0) 0 4
  let target := getBits (stg.getD 0 0) 16 10
  let v := (stg.drop 1).take 6
  if s.propState = 2 then s.protRefuse c 2 num
  else if s.propBad kind target v then s.protRefuse c 1 num
  else s.stage c kind target v

/-- A served APPROVE (R491); `dg` is the captured PROT_APPROVE_DG. -/
def State.propApprove (s : State) (c num dg : Nat) : State :=
  if s.propState ≠ 1 then s.protRefuse c 3 num
  else if num ≠ s.propNum then s.protRefuse c 4 num
  else if c = s.get PROT_PROP_STAT.PROPOSER then s.protRefuse c 5 num
  else if dg ≠ s.get PROT_PROP_DIGEST.DIGEST 3 then s.protRefuse c 6 num
  else ((s.put PROT_PROP_STAT.STATE 2).put PROT_PROP_INFO.APPROVER c |>.protRes c 0 num).protEvt PROT_EVT.APPROVED

/-- A served CANCEL (R491). -/
def State.propCancel (s : State) (c num : Nat) : State :=
  if s.propState = 0 then s.protRefuse c 3 num
  else if num ≠ s.propNum then s.protRefuse c 4 num
  else s.propNone.protRes c 0 num

/-- A served PROT_CMD word of initiator `c` (R488): `stg` is PROT_STG_CTRL, PROT_STG_VAL[0] to [5], PROT_APPROVE_DG. -/
def State.protCmd (s : State) (c w : Nat) (stg : List Nat) : State :=
  let act := getBits w 0 2
  let num := getBits w 32 32
  if s.mode = 0 ∨ 3 < s.mode then s.protRefuse c 7 num
  else if act = 1 then s.propCommit c num stg
  else if act = 2 then s.propApprove c num (stg.getD 7 0)
  else if act = 3 then s.propCancel c num
  else s

/-- A STAGED proposal expires at the start of the term EXPIRE_TERM names (R487). -/
def State.propExpire (s : State) : State :=
  if s.propState = 1 ∧ s.get PROT_PROP_INFO.EXPIRE_TERM = s.get GLB_TERM_NUM.TERM then
    s.propNone.protEvt PROT_EVT.EXPIRED
  else s

/-! Application (R492, R493). -/

/-- The slot's kind, target and first value. -/
def State.propKind (s : State) : Nat := s.get PROT_PROP_STAT.KIND
def State.propTarget (s : State) : Nat := s.get PROT_PROP_STAT.TARGET
def State.propVal (s : State) (i : Nat) : Nat := s.get PROT_PROP_VAL.VAL i

/-- How many ledger requests the change in the slot makes (R492). -/
def State.propRequests (s : State) : Nat := if pkDigest ≤ s.propKind then 2 else 1

/-- May the approved change apply at this edge (R492)? -/
def State.propDue (s : State) : Bool :=
  s.propState == 2 && s.on GLB_RAIL_STAT.LEDGER_AVAIL && decide (s.ledger.queue.length + s.propRequests ≤ 16)

/-- Show the configuration in force in LDG_STAT. -/
def State.showConfig (s : State) (lc en : Nat) : State :=
  let s := (s.put LDG_STAT.LC lc).put LDG_STAT.MIN_EN en
  (s.put LDG_STAT.TD0_SET (b2n (!unsetDigest s.ledger.td0))).put LDG_STAT.TD1_SET (b2n (!unsetDigest s.ledger.td1))

/-- Request the configuration block that holds the settings now in force (R468). -/
def State.requestConfig (s : State) : State :=
  (s.ldgRequest (.config s.lifeCycle s.ledger.td0 s.ledger.td1 s.ledger.genMin (s.get LDG_STAT.MIN_EN))).1

/-- The log record of an applied change (R494). -/
def State.logChange (s : State) : State :=
  (s.ldgRequest (.log 1 (s.propKind + s.propTarget * 2 ^ 8)
    (s.get PROT_PROP_STAT.PROPOSER + s.get PROT_PROP_INFO.APPROVER * 2 ^ 16 + s.propNum * 2 ^ 32)
    (s.get PROT_PROP_DIGEST.DIGEST 3))).1

/-- The effect of the change in the slot, UNIT_OWNER apart (R486, R493). -/
def State.propEffect (s : State) : State :=
  let k := s.propKind
  let t := s.propTarget
  let v := s.propVal 0
  let lc := s.lifeCycle
  let en := s.get LDG_STAT.MIN_EN
  if k = pkInitMap then s.setRg (PROT_INIT.reg.key t 0) v
  else if k = pkSecurePage then
    (s.setRg (PROT_SECPAGE.reg.key t 0) (v % 2 ^ 32)).wipeStart 2 (2 ^ t)
  else if k = pkDigest then
    let d := (List.range 4).map s.propVal
    let s := if t = 0 then { s with ledger.td0 := d } else { s with ledger.td1 := d }
    (s.showConfig lc en).requestConfig
  else if k = pkLifeCycle then ((s.showConfig v en).requestConfig).wipeStart 1 0xFFFF
  else if k = pkRollback then
    ({ s with ledger.genMin := v % 2 ^ 32 }.showConfig lc (getBits v 32 1)).requestConfig
  else s

/-- What follows an applied change (R493): its log record, APPLIED, the counter and the source. -/
def State.propApplied (s : State) : State :=
  ((s.logChange.propNone.protEvt PROT_EVT.APPLIED).protCount prApplied).raise 0xD2

/-! Tamper (R494, R495, R500, R501). -/

/-- Is ST valid, for a log record: restored from a checkpoint, or set through the sync states? -/
def State.stValid (s : State) : Bool := s.on TIME_STAT.RESTORED || s.on TIME_STAT.STATE

/-- Payload word 2 of a TAMPER record (R494). -/
def State.tamperWord (s : State) : Nat := s.get PWR_AON_CNT.COUNT + s.get LDG_STAT.BOOT_COUNT % 2 ^ 16 * 2 ^ 48

/-- One detection on the tamper inputs of mask `m`, found in one AON_CK cycle (R500, R501). While the main domain is in reset they
are only seen and their records deferred (R495). -/
def State.tamper (s : State) (m : Nat) : State :=
  let s := s.put TAMPER_STAT.SEEN ((s.get TAMPER_STAT.SEEN).lor m)
  if s.chip.mainReset then s.put TAMPER_STAT.LOG_PEND ((s.get TAMPER_STAT.LOG_PEND).lor m)
  else
    let lock := (s.get TAMPER_CFG.LOCKOUT).land m != 0
    let s := s.wipeAll.propNone
    let s := (s.protEvt PROT_EVT.TAMPER).protCount prTamper
    let s := if lock then s.put TAMPER_STAT.LOCKED_OUT 1 else s
    (s.ldgRequest (.log 2 (m + b2n lock * 2 ^ 8) (if s.stValid then s.stNs else 0) s.tamperWord)).1

/-- The log records of the detections deferred under R495, one for each input, with word 1 zero. -/
def State.deferredTampers (s : State) : List LdgBody :=
  ((List.range 8).filter (bitAt (s.get TAMPER_STAT.LOG_PEND))).map (fun j => LdgBody.log 2 (2 ^ j) 0 s.tamperWord)

end Sys2Proof.Machine
end

