-- ==== Sys2Proof/Machine/Power.lean ====
section
/-! DEFINITION. The power controller (R506 to R526): commands, entry to DOZE and WATCH, wake decisions, reception while
asleep, the always-on count and its alarm. -/

namespace Sys2Proof.Machine

open Sys2Proof

/-! State codes of R506 and cause codes of R516. -/
def pwActive : Nat := 0
def pwEntering : Nat := 1
def pwDoze : Nat := 2
def pwWatch : Nat := 3
def pwWaking : Nat := 4
def wkCmd : Nat := 1
def wkAccess : Nat := 2
def wkPattern : Nat := 3
def wkMagic : Nat := 4
def wkKeep : Nat := 5
def wkLink : Nat := 6
def wkAon : Nat := 7
def wkAbort : Nat := 8

def State.pwrState (s : State) : Nat := s.get PWR_STAT.STATE
def State.pwrEvt (s : State) (f : Fld) : State := s.evt f 0xE0

/-- Do the gated parts of the block stand still: DOZE or WATCH (R506, R511)? -/
def State.dozing (s : State) : Bool := s.pwrState == pwDoze || s.pwrState == pwWatch

/-- Is the block asleep for reception: from E0 to the wake decision (R523)? -/
def State.asleep (s : State) : Bool := s.mode == 4 && (s.dozing || s.pwrState == pwEntering)

/-- Is port unit `u` released in WATCH (R514)? -/
def State.portReleased (s : State) (u : Nat) : Bool := bitAt s.pwr.released.toNat u

/-! Commands (R509). -/

def State.pwrRefuse (s : State) : State := s.pwrEvt PWR_STAT.REFUSED

/-- An entry is pending: PEND and TARGET are set (R509). -/
def State.pwrPend (s : State) (act : Nat) : State := (s.put PWR_STAT.PEND 1).put PWR_STAT.TARGET act

/-- Accept a command for an entry: WAKE_OUT falls (R509, R522). -/
def State.pwrAccept (s : State) (act : Nat) : State := (s.pwrPend act).put PWR_STAT.WAKE_OUT 0

/-- Start an entry from ACTIVE (R510). -/
def State.pwrEnter (s : State) (act : Nat) : State :=
  let s := (s.pwrPend act).put PWR_STAT.STATE pwEntering
  { s with pwr.e0 := false, pwr.e1 := false, pwr.deepWait := none, pwr.watchNext := false, pwr.inWatch := false }

/-- Step 1 of R515: the checkpoint of an entry to DEEP is requested, and the wait of step 2 begins. -/
def State.deepDrain (s : State) : State :=
  let s := s.checkpoint s.stNs true
  { s with pwr.deepWait := some s.frc.toNat }

/-- Retained memories return to ON (R201, R519). -/
def State.unretain (s : State) : State :=
  s.forEach (List.range 16) (fun s b => if s.get MEM_BANK_STAT.POWER b = 1 then s.put MEM_BANK_STAT.POWER 0 b else s)

/-- Banks that are ON enter RET (R201, R506). -/
def State.retain (s : State) : State :=
  s.forEach (List.range 16) (fun s b => if s.get MEM_BANK_STAT.POWER b = 0 then s.put MEM_BANK_STAT.POWER 1 b else s)

/-- Enter DEEP from DOZE or WATCH: no E0, the mode stays SLEEP (R515). -/
def State.deepFromSleep (s : State) : State :=
  let s := (s.pwrAccept 3).put PWR_STAT.STATE pwEntering
  ({ s with pwr.e0 := true, pwr.e1 := true, pwr.watchNext := false }.unretain).deepDrain

/-! Wake (R516 to R522). -/

/-- What every wake decision does: CAUSE, DETAIL and FROM are loaded, WAKE_OUT rises, every PWR_REQ_PORT bit rises. -/
def State.wakeNote (s : State) (cause detail src : Nat) : State :=
  let s := (s.put PWR_STAT.CAUSE cause).put PWR_STAT.DETAIL detail
  let s := (s.put PWR_STAT.FROM src).put PWR_STAT.WAKE_OUT 1
  { s with pwr.reqPort := 0x7FF }

/-- The wake of R519: WAKING, the PWR_WAKE latch, retained memories ON. -/
def State.wakeStart (s : State) : State :=
  let s := (s.put PWR_STAT.STATE pwWaking).put PWR_STAT.PEND 0
  let s := { s with pwr.wakeAt := s.frc.toNat, pwr.watchNext := false, pwr.deepWait := none }
  ((s.count PWR_CNT.COUNT 0).latch 0x15).unretain

/-- A wake cause arises (R516, R517, R519, R520). -/
def State.wake (s : State) (cause detail : Nat) : State :=
  if s.chip.reqMain = false then
    if cause = wkAon then
      let s := (s.wakeNote cause detail 5).put GLB_RST_CAUSE.DEEP_WAKE 1
      { s with chip.reqMain := true, chip.reqLedger := true, chip.wakeCause := true }
    else s
  else if s.chip.mainReset then s
  else
    let st := s.pwrState
    if st = pwEntering then
      if cause = wkAccess ∨ cause = wkKeep ∨ cause = wkLink then s
      else
        let s := (s.pwrEvt PWR_STAT.ENTRY_ABORT).wakeNote cause detail pwEntering
        if s.pwr.e0 then s.wakeStart
        else
          let s := (s.put PWR_STAT.STATE pwActive).put PWR_STAT.PEND 0
          { s with pwr.deepWait := none }.count PWR_CNT.COUNT 0
    else if st = pwDoze ∨ st = pwWatch then
      let s := { s with pwr.keepLeft := none }
      let s := if cause = wkKeep then { s with pwr.keepLeft := some (s.get PWR_WATCH.RETURN_BELLS) } else s
      (s.wakeNote cause detail st).wakeStart
    else { s with pwr.keepLeft := none }

/-- An always-on source that may wake the block has its wake event (R516, R518). -/
def State.wakeAonSrc (s : State) (src : Nat) : State :=
  if bitAt (s.get PWR_WAKE_EN.EN) src then s.wake wkAon src else s

/-- A PWR_CMD word (R509): decided in the cycle of the write. -/
def State.pwrCmd (s : State) (w : Nat) : State :=
  let act := getBits w 0 3
  let st := s.pwrState
  let s := { s with pwr.keepLeft := none }
  let idle := st == pwActive && s.mode == 2
  let pend := s.on PWR_STAT.PEND
  if act = 1 then if idle && !pend then (s.pwrAccept 1).pwrEnter 1 else s.pwrRefuse
  else if act = 2 then
    if pend || (s.on PWR_WATCH.KEEP_EN && !bitAt (s.get PWR_WATCH.WATCH_PORTS) (s.get PWR_WATCH.KEEP_PORT)) then s.pwrRefuse
    else if idle then (s.pwrAccept 2).pwrEnter 2
    else if st = pwDoze then { s.pwrAccept 2 with pwr.watchNext := true }
    else s.pwrRefuse
  else if act = 3 then
    if pend || !s.clkOn 12 then s.pwrRefuse
    else if idle then (s.pwrAccept 3).pwrEnter 3
    else if s.dozing then s.deepFromSleep
    else s.pwrRefuse
  else if act = 4 then
    if st = pwEntering ∨ st = pwDoze ∨ st = pwWatch then s.wake wkCmd 0 else s.pwrRefuse
  else if act = 5 then s.put PWR_STAT.WAKE_OUT 0
  else s

/-! Entry (R510, R514). -/

/-- The units of a mask of port units. -/
def unitsOf (m : Nat) : List Nat := (List.range 11).filter (bitAt m)

/-- WATCH takes effect: every port outside WATCH_PORTS is released (R514). -/
def State.watchOn (s : State) : State :=
  let keep := s.get PWR_WATCH.WATCH_PORTS
  let out := 0x7FF - keep
  let s := s.forEach ((unitsOf out).filter (fun u => decide (u < 8))) (fun s n => s.put PORT_LPI_STAT.TX_STATE 0 n)
  let s := (s.put PWR_STAT.STATE pwWatch).put PWR_STAT.PEND 0
  { s with pwr.reqPort := BitVec.ofNat 11 keep, pwr.released := BitVec.ofNat 11 out, pwr.watchNext := false,
           pwr.inWatch := true }

/-- STATE_REACHED: 6 µs after E1 the ports enter recess, memories are retained, and the state is DOZE or WATCH (R510). -/
def State.stateReached (s : State) : State :=
  if s.pwrState = pwEntering ∧ s.pwr.e1 = true ∧ s.pwr.deepWait = none then
    let s := s.advanceTo (s.pwr.e1At + 6000)
    let s := s.forEach ((List.range 8).filter s.isUp) (fun s n => s.put PORT_LPI_STAT.TX_STATE 1 n)
    let s := s.retain
    if s.get PWR_STAT.TARGET = 2 then s.watchOn
    else (s.put PWR_STAT.STATE pwDoze).put PWR_STAT.PEND 0
  else s

/-- DEEP_FAIL: DEEP_TMO_MS have passed in step 2 of R515. -/
def State.deepFail (s : State) : State :=
  match s.pwr.deepWait with
  | some t =>
    if s.pwrState = pwEntering then
      ((s.advanceTo (t + s.get PWR_CFG.DEEP_TMO_MS * 1000000)).pwrEvt PWR_STAT.DEEP_FAIL).wake wkAbort 0
    else s
  | none => s

/-- E0: the mode becomes SLEEP with cause POWER_DOWN; a pending mode request is discarded with REQ_ERR (R37, R510). -/
def State.sleepMode (s : State) : State :=
  let s := if s.on GLB_MODE.REQ_PEND then (s.put GLB_MODE.REQ_PEND 0).put GLB_MODE.REQ_ERR 1 else s
  let s := (s.put GLB_MODE.MODE 4).put GLB_MODE.CAUSE 6
  { s with pwr.e0 := true }

/-- Ports come back at the return to SERVICE: released ones through ARMING or WAITING, others leave forced recess where
R136 has a cause (R519). -/
def State.portReturn (s : State) (u : Nat) : State :=
  if s.portReleased u then
    if u < 8 then if s.isUp u then s.setLink u linkArming else s
    else if radWaiting ≤ s.radState (u - 8) then (s.radWait (u - 8)).radDiscard (u - 8) else s
  else if u < 8 then
    if s.get PORT_LPI_STAT.TX_STATE u = 1 ∧ (s.wakeCause u = true ∨ s.recessOk u = false) then s.wakePort u else s
  else s

/-- The return to SERVICE (R519). -/
def State.serviceReturn (s : State) : State :=
  let s := (s.put GLB_MODE.MODE 2).put GLB_MODE.CAUSE 5
  let s := s.put PWR_STAT.STATE pwActive
  let s := s.forEach (List.range 11) State.portReturn
  { s with pwr.released := 0, pwr.e0 := false, pwr.e1 := false, pwr.inWatch := false }

/-- A KEEP wake ends: one more bell of RETURN_BELLS has passed, and at the last one WATCH is entered again (R521),
with WAKE_OUT as it is: no command was accepted (R522). -/
def State.keepEdge (s : State) : State :=
  match s.pwr.keepLeft with
  | none => s
  | some 0 => { s with pwr.keepLeft := none }
  | some (n + 1) =>
    if s.pwrState = pwActive ∧ s.mode = 2 then
      if n = 0 then { s with pwr.keepLeft := none }.pwrEnter 2 else { s with pwr.keepLeft := some n }
    else s

/-- Does this edge return the block to SERVICE: the first edge at least 2 µs after the wake decision (R519)? -/
def State.wakeDue (s : State) : Bool := s.pwrState == pwWaking && decide (s.pwr.wakeAt + 2000 ≤ s.frc.toNat)

/-! Reception while asleep (R521, R523 to R525). -/

/-- The filtering set (R523). -/
def State.filters (s : State) (u : Nat) : Bool :=
  bitAt (if s.pwr.inWatch then s.get PWR_WATCH.WATCH_PORTS else s.get PWR_CFG.WAKE_PORTS) u

/-- Does wake pattern `k` match stored frame `b` of port unit `u` (R524)? -/
def State.patternHit (s : State) (u : Nat) (b : List Nat) (k : Nat) : Bool :=
  let m := s.get WAKE_PAT_MASK0.MASK k + s.get WAKE_PAT_MASK1.MASK k * 2 ^ 64
  s.on WAKE_PAT_CFG.EN k && bitAt (s.get WAKE_PAT_CFG.PORTS k) u && m != 0 && decide (m < 2 ^ b.length) &&
    crc32c (((List.range 128).filter (bitAt m)).map (fun j => b.getD j 0)) == s.get WAKE_PAT_CFG.CRC k

/-- The 102 bytes of a magic packet for address `a` (R525). -/
def magicBytes (a : Nat) : List Nat := List.replicate 6 255 ++ (List.replicate 16 (beBytes a 6)).flatten

/-- Does `b` hold `p` at some offset? -/
def holdsAt (p : List Nat) : List Nat → Bool
  | [] => p.isEmpty
  | x :: b => (x :: b).take p.length == p || holdsAt p b

/-- Is a frame accepted on port unit `u` a keeper frame (R521)? -/
def State.keeper (s : State) (u : Nat) (b : List Nat) : Bool :=
  let t0 := beNat ((b.drop 12).take 2)
  let tagged := isTpid s.customTpid t0
  let t := if tagged then beNat ((b.drop 16).take 2) else t0
  let l := b.drop (if tagged then 18 else 14)
  let port := fun (o : Nat) => beNat ((l.drop o).take 2) == 319 || beNat ((l.drop o).take 2) == 320
  let ptp := t == 0x88F7 || (t == 0x0800 && l.headD 0 == 0x45 && l.getD 9 0 == 17 && port 22) ||
    (t == 0x86DD && l.headD 0 / 16 == 6 && l.getD 6 0 == 17 && port 42)
  let roll := decide (8 ≤ u) && (t0 == 0x88B5 || beNat ((b.drop 16).take 2) == 0x88B5)
  s.on PWR_WATCH.KEEP_EN && s.pwrState == pwWatch && s.get PWR_WATCH.KEEP_PORT == u &&
    ((s.on PWR_WATCH.KEEP_PTP && ptp) || (s.on PWR_WATCH.KEEP_ROLL && roll))

/-- A frame accepted on port unit `u` while asleep stands last in its RX FIFO: it wakes the block and stays where KEEP_FRAME
is 1, or it is discarded and counted (R523). -/
def State.sleepFrame (s : State) (u : Nat) : State :=
  let fifo := s.rxFifoOf u
  match fifo.getLast? with
  | none => s
  | some r =>
    let pats := (List.range 16).filter (s.patternHit u r.bytes)
    let magic := s.on PWR_CFG.MAGIC_EN && holdsAt (magicBytes (s.get WAKE_MAGIC.ADDR)) r.bytes
    let keep := s.keeper u r.bytes
    let hit := s.filters u && (!pats.isEmpty || magic || keep)
    if hit then
      let s := s.forEach pats (fun s _ => s.latch 0x16)
      let s := if magic then s.latch 0x17 else s
      let s := if s.on PWR_CFG.KEEP_FRAME then s else s.setRxFifo u fifo.dropLast
      match pats with
      | k :: _ => s.wake wkPattern k
      | [] => if magic then s.wake wkMagic u else s.wake wkKeep u
    else (s.setRxFifo u fifo.dropLast).count PWR_CNT.COUNT 1

/-- Reception `rx` on port unit `u`: a released receiver discards without counting (R514), and a frame accepted while asleep
is filtered (R523). -/
def State.receive (s : State) (u : Nat) (rx : State → State) : State :=
  if s.portReleased u then s
  else
    let t := rx s
    if s.asleep && decide ((s.rxFifoOf u).length < (t.rxFifoOf u).length) then t.sleepFrame u else t

/-- LINK wake: after `f`, the lowest wired port of the filtering set whose link state changed wakes the block in DOZE and
WATCH (R516). -/
def State.linkWatch (s : State) (f : State → State) : State :=
  let t := f s
  if s.dozing && s.on PWR_CFG.LINK_WAKE then
    match (List.range 8).find? (fun n => s.filters n && s.link n != t.link n) with
    | some n => t.wake wkLink n
    | none => t
  else t

/-! Always-on inputs and the always-on count (R353, R518, R526). -/

/-- Time passes until the always-on count reaches `c`. -/
def State.advanceAon (s : State) (c : Nat) : State :=
  let need := (c - s.get PWR_AON_CNT.COUNT) * 1000000000 - s.chip.aonRem
  s.advance ((need + 32767) / 32768)

/-- AON_TIMER: the count reaches ALARM (R526). -/
def State.aonAlarm (s : State) : State :=
  if s.on PWR_AON_ALARM.EN = true ∧ s.clkOn 12 = true ∧ s.get PWR_AON_CNT.COUNT ≤ s.get PWR_AON_ALARM.ALARM then
    (((s.advanceAon (s.get PWR_AON_ALARM.ALARM)).put PWR_AON_ALARM.EN 0).latch 0x12).wakeAonSrc 0x12
  else s

/-- Is an edge of always-on input `l` configured to set its latch (R353)? -/
def State.latchEdge (s : State) (l : Nat) (rising : Bool) : Bool :=
  if l ≤ 0x11 then bitAt (s.get INT_AON_CFG.EDGE) (2 * l + (if rising then 0 else 1))
  else rising && decide (l ≤ 0x18)

/-- LATCH_SET: an edge on an always-on input (R353); a PHY latch wakes the block (R518), and the level of a tamper input is
shown (R502). -/
def State.latchSet (s : State) (l : Nat) (rising : Bool) : State :=
  let s :=
    if 2 ≤ l ∧ l ≤ 9 then
      let v := s.get TAMPER_STAT.LEVEL
      s.put TAMPER_STAT.LEVEL (if rising then v.lor (2 ^ (l - 2)) else v - v.land (2 ^ (l - 2)))
    else s
  if s.latchEdge l rising then
    let s := s.latch l
    if 0x0A ≤ l ∧ l ≤ 0x0F then s.wakeAonSrc l else s
  else s

/-- The levels of the tamper inputs once those of mask `m` are at their active levels (R500, R502). -/
def State.tamperLevel (s : State) (m : Nat) : Nat :=
  let high := m.land (s.get TAMPER_CFG.POL)
  let v := (s.get TAMPER_STAT.LEVEL).lor high
  v - v.land (m - high)

/-- The lowest tamper input of mask `m` that may wake the block does (R516, R518). -/
def State.wakeTamper (s : State) (m : Nat) : State :=
  match (List.range 8).find? (fun j => bitAt m j && bitAt (s.get PWR_WAKE_EN.EN) (2 + j)) with
  | some j => s.wake wkAon (2 + j)
  | none => s

/-- TAMPER: the inputs of mask `i` are found active in one AON_CK cycle; those that are enabled make one detection (R500, R518). -/
def State.tamperIn (s : State) (i : Nat) : State :=
  let m := i.land (s.get TAMPER_CFG.EN)
  if m = 0 then s else ((s.put TAMPER_STAT.LEVEL (s.tamperLevel m)).tamper m).wakeTamper m

end Sys2Proof.Machine
end

