-- ==== Sys2Proof/Machine/Panel.lean ====
section
/-! DEFINITION. The front panel (R527 to R531): debounced inputs, their states and reports, and the port LEDs. -/

namespace Sys2Proof.Machine

open Sys2Proof

/-! State codes of R528. -/
def pnInactive : Nat := 0
def pnActive : Nat := 1
def pnStuck : Nat := 2
def pnChatter : Nat := 3

/-- The fields of PANEL_STAT of input `k`: state, LONG flag, debounced level. -/
def panelStateF (k : Nat) : Fld := ⟨PANEL_STAT.reg.base, 0, 0, 4 * k, 2⟩
def panelLongF (k : Nat) : Fld := ⟨PANEL_STAT.reg.base, 0, 0, 4 * k + 2, 1⟩
def panelLevelF (k : Nat) : Fld := ⟨PANEL_STAT.reg.base, 0, 0, 4 * k + 3, 1⟩

/-! Reports in the order of the bits of PANEL_EVT. -/
def rpPress : Nat := 0
def rpRelease : Nat := 1
def rpLong : Nat := 2
def rpStuck : Nat := 3
def rpChatter : Nat := 4
def rpClear : Nat := 5

/-- What input `k` holds beside PANEL_STAT. -/
def State.panelIn (s : State) (k : Nat) : PanelIn := mapGet (fun _ => PanelIn.init) s.panel k
def State.setPanelIn (s : State) (k : Nat) (p : PanelIn) : State :=
  { s with panel := mapSet (fun _ => PanelIn.init) s.panel k p }

def State.aonCount (s : State) : Nat := s.get PWR_AON_CNT.COUNT
def State.panelState (s : State) (k : Nat) : Nat := s.get (panelStateF k)
def State.panelLevel (s : State) (k : Nat) : Bool := s.on (panelLevelF k)

/-- One report of input `k` (R518, R529): its bit, the PANEL_EVT latch, the count while the main domain runs, the module
events of an uplink, and the wake event. -/
def State.panelReport (s : State) (k kind : Nat) : State :=
  let s := s.put ⟨PANEL_EVT.reg.base, 0, 0, 6 * k + kind, 1⟩ 1
  let s := s.latch 0x18
  let s := if s.chip.mainReset then s else s.count PWR_CNT.COUNT 2
  let s :=
    if 2 ≤ k ∧ kind ≤ 1 ∧ s.chip.mainReset = false then
      let n := k - 2
      let s := (s.put PORT_MOD_CTRL.ABS kind n).modDrive n
      if kind = rpRelease then s.pevt PORT_EVT.MOD_OUT n else s.pevt PORT_EVT.MOD_IN n
    else s
  if k < 2 then if kind = rpPress then s.wakeAonSrc k else s
  else if kind ≤ 1 then s.wakeAonSrc (0x0E + k)
  else s

/-- Input `k` enters INACTIVE: the LONG flag clears. -/
def State.panelOff (s : State) (k : Nat) : State := (s.put (panelStateF k) pnInactive).put (panelLongF k) 0

/-- Input `k` enters ACTIVE: its LONG_S and STUCK_S times restart. -/
def State.panelOn (s : State) (k : Nat) : State :=
  (s.put (panelStateF k) pnActive).setPanelIn k { s.panelIn k with since := s.aonCount, longDone := false }

/-- The debounced level of input `k` becomes `level` (R528). -/
def State.panelChange (s : State) (k : Nat) (level : Bool) : State :=
  let st := s.panelState k
  let s := s.put (panelLevelF k) (b2n level)
  if st = pnInactive ∧ level = false then (s.panelOn k).panelReport k rpPress
  else if st = pnActive ∧ level = true then (s.panelOff k).panelReport k rpRelease
  else if st = pnStuck ∧ level = true then (s.panelOff k).panelReport k rpClear
  else s

/-- PANEL_RAW_CHANGE: the raw level changes; change CHATTER_CNT + 1 of a window enters CHATTER (R527, R528). The logic stops
while AON_CK is absent (R57). -/
def State.panelRaw (s : State) (k : Nat) (level : Bool) : State :=
  let p := s.panelIn k
  if p.raw = level then s
  else if s.clkOn 12 then
    let c := s.aonCount
    let n := if c / 32768 = p.window then p.changes + 1 else 1
    let p := { p with raw := level, changeAt := c, changes := n, window := c / 32768 }
    if n = s.get PANEL_CFG.CHATTER_CNT k + 1 ∧ s.panelState k ≠ pnChatter then
      let s := s.setPanelIn k { p with since := c, chatLevel := s.panelLevel k }
      (s.put (panelStateF k) pnChatter).panelReport k rpChatter
    else s.setPanelIn k p
  else s.setPanelIn k { p with raw := level, changeAt := s.aonCount }

/-- AON_CK cycles of the debounce time (R527). -/
def State.debounce (s : State) (k : Nat) : Nat := (s.get PANEL_CFG.DEBOUNCE_MS k * 32768 + 999) / 1000

/-- PRESS: the debounce time of input `k` elapses with the raw level unchanged (R527, R528). -/
def State.panelDebounced (s : State) (k : Nat) : State :=
  let p := s.panelIn k
  if p.raw = s.panelLevel k ∨ s.clkOn 12 = false then s
  else (s.advanceAon (p.changeAt + s.debounce k)).panelChange k p.raw

/-- LONG: input `k` has been ACTIVE for LONG_S seconds (R528). -/
def State.panelLong (s : State) (k : Nat) : State :=
  let p := s.panelIn k
  let t := s.get PANEL_CFG.LONG_S k
  if s.panelState k = pnActive ∧ t ≠ 0 ∧ p.longDone = false ∧ s.clkOn 12 = true then
    let s := s.advanceAon (p.since + t * 32768)
    let s := s.setPanelIn k { p with longDone := true }
    (s.put (panelLongF k) 1).panelReport k rpLong
  else s

/-- STUCK: input `k` has been ACTIVE for STUCK_S seconds; a LONG due by then is reported first (R528). -/
def State.panelStuck (s : State) (k : Nat) : State :=
  let p := s.panelIn k
  let t := s.get PANEL_CFG.STUCK_S k
  if s.panelState k = pnActive ∧ t ≠ 0 ∧ s.clkOn 12 = true then
    let s := if s.get PANEL_CFG.LONG_S k ≤ t then s.panelLong k else s
    let s := s.advanceAon (p.since + t * 32768)
    (s.put (panelStateF k) pnStuck).panelReport k rpStuck
  else s

/-- QUARANTINE_END: QUAR_S seconds after entry to CHATTER (R528). -/
def State.panelQuiet (s : State) (k : Nat) : State :=
  let p := s.panelIn k
  if s.panelState k = pnChatter ∧ s.clkOn 12 = true then
    let s := s.advanceAon (p.since + s.get PANEL_CFG.QUAR_S k * 32768)
    let level := s.panelLevel k
    let s := if level then s.panelOff k else s.panelOn k
    let s := s.panelReport k rpClear
    if level = p.chatLevel then s else s.panelReport k (if level then rpRelease else rpPress)
  else s

/-! Port LEDs (R530, R531). -/

/-- Is LED `i` of port `n` lit by its mode, in an even or odd half-period? -/
def State.ledLit (s : State) (h n i : Nat) : Bool :=
  let w := s.rg (LED_CFG.reg.key n 0)
  let even := h % 2 == 0
  let act := bitAt s.led.sampled n
  match getBits w (4 * i) 4 with
  | 1 => true
  | 2 => s.isUp n
  | 3 => even && act
  | 4 => s.isUp n && !(!even && act)
  | 5 => s.isUp n && bitAt (getBits w (16 + 8 * i) 8) (s.get PORT_MAC_CTRL.SPEED n)
  | 6 => s.link n == linkLocal || s.link n == linkRemote || s.on PORT_MOD_CTRL.TXFLT n || s.on PORT_FC_STAT.WDOG_ACTIVE n
  | 7 => even
  | 8 => s.on PORT_LPI_STAT.TX_STATE n
  | _ => false

/-- The LEDs at a bell edge of grid index `k` (R140, R530): at a new half-period the activity flags are sampled and
cleared. -/
def State.ledEdge (s : State) (k : Nat) : State :=
  let h := k / s.get LED_BLINK.HALF_BELLS
  let s :=
    if s.led.half = some h then s
    else
      let m := ((List.range 8).filter (fun n => (s.port n).act)).foldl (fun m n => m + 2 ^ n) 0
      let s := s.forEach (List.range 8) (fun s n => s.onPort n (fun p => { p with act := false }))
      { s with led.sampled := m, led.half := some h }
  let dark := s.pwrState != pwActive && !s.on PWR_CFG.LED_SLEEP
  let lit := if dark then 0
    else ((List.range 24).filter (fun j => s.ledLit h (j / 3) (j % 3))).foldl (fun m j => m + 2 ^ j) 0
  { s with led.lit := lit }

end Sys2Proof.Machine
end

