-- ==== Sys2Proof/Machine/Reset.lean ====
section
/-! DEFINITION. The chip around the block (R43 to R80): resets, rails, clocks, test access, and steps 1 to 3 of START
(R451). -/

namespace Sys2Proof.Machine

open Sys2Proof

/-! Reset (R58 to R63). -/

/-- The registers that main-domain reset keeps: the always-on ones (R538), with what it clears in them (R501, R520). -/
def State.aonRegs (s : State) : List (Nat × BitVec 64) := s.regs.filter (fun e => isAon e.1)

/-- The state of the ports that reset does not reach: the level of the PCS link input. -/
def portInputs (l : List (Nat × PortSt)) : List (Nat × PortSt) :=
  l.filterMap (fun e => if e.2.linkOk then some (e.1, { PortSt.init with linkOk := true }) else none)

/-- Main-domain reset asserts (R47, R49, R58): everything but the always-on island, the ledger's cells and the levels of
inputs takes its reset value. The model's own counters of free values and the waiting commands are no part of it. -/
def State.mainReset (s : State) : State :=
  let r : State := { State.reset with
    pending := s.pending, regs := s.aonRegs, free := s.free, latchMerged := s.latchMerged,
    ports := portInputs s.ports, ledger := { LedgerSt.init with cells := s.ledger.cells },
    panel := s.panel,
    pwr := { PwrSt.init with reqPort := s.pwr.reqPort },
    chip := { s.chip with mainReset := true, rstPend := false, start := .init, tap := .init } }
  let r := r.put TAMPER_STAT.LOCKED_OUT 0
  (r.put PWR_STAT.STATE 0).put PWR_STAT.PEND 0

/-- A cause bit of GLB_RST_CAUSE, set by a condition that begins after the always-on power-on reset (R62). -/
def State.resetBy (s : State) (f : Fld) : State := (s.put f 1).mainReset

/-- AON_POR: the always-on power-on reset resets the whole block (R58, R62). It ends once AON_CK toggles. What lies outside the
block stays: clocks, levels of inputs, the ledger's cells. -/
def State.aonPor (s : State) : State :=
  { State.reset with
    pending := s.pending, free := s.free, ports := portInputs s.ports,
    ledger := { LedgerSt.init with cells := s.ledger.cells },
    panel := s.panel.filterMap (fun e => if e.2.raw then none else some (e.1, { PanelIn.init with raw := false })),
    chip := { ChipSt.init with
      clkUp := s.chip.clkUp ||| (1#13 <<< 12), pgLedger := s.chip.pgLedger, porst := s.chip.porst, pgCore := s.chip.pgCore,
      pgSram := s.chip.pgSram, gpio := s.chip.gpio } }

/-- VDD_AON_FALL: the whole block resets, and the clamps are unpowered (R47, R51). -/
def State.aonFall (s : State) : State := { s.aonPor with chip.aonOn := false }

/-- Is a low pulse of `low` ns recognized: not below `a`, certainly from `b` on, and between as the chip happens to (R45,
R59)? The state has used a free value in the last case. -/
def State.pulseSeen (s : State) (low a b : Nat) : State × Bool :=
  if low < a then (s, false)
  else if b ≤ low then (s, true)
  else ({ s with free := s.free + 1 }, Config.pulse s.free)

/-- PORST# is recognized low: the block resets, the always-on registers apart, and manufacturing test ends (R58, R62, R80). -/
def State.porstReset (s : State) : State :=
  let s := { s with chip.reqMain := true, chip.reqLedger := true, chip.mfgTest := false, chip.mfgMbist := false,
                    chip.wakeCause := false, pwr.reqPort := 0x7FF }
  s.resetBy GLB_RST_CAUSE.PORST

/-- PORST: PORST# is low for `low` ns, and then high again where `back` (R58, R59, R62). -/
def State.porst (s : State) (low : Nat) (back : Bool) : State :=
  let r := if s.chip.porst then s.pulseSeen low 100 1000 else (s, false)
  let s := if r.2 then { r.1.porstReset with chip.porst := false } else r.1
  let s := s.advance low
  if back then { s with chip.porst := true } else s

/-- The level of PG_SRAM, or of PG_CORE. -/
def State.railLevel (s : State) (sram : Bool) : Bool := if sram then s.chip.pgSram else s.chip.pgCore

/-- PG_SRAM, or PG_CORE, takes a level. -/
def State.setRail (s : State) (sram level : Bool) : State :=
  if sram then { s with chip.pgSram := level } else { s with chip.pgCore := level }

/-- PG_SRAM, or PG_CORE, is recognized low: main-domain reset, unless its request is 0 (R47, R58). -/
def State.railReset (s : State) (sram : Bool) : State :=
  if s.chip.reqMain then s.resetBy (if sram then GLB_RST_CAUSE.SRAM_RAIL else GLB_RST_CAUSE.CORE_RAIL) else s

/-- CORE_RAIL: PG_CORE or PG_SRAM is low for `low` ns, and then high again where `back` (R45, R47, R58). -/
def State.railFall (s : State) (sram : Bool) (low : Nat) (back : Bool) : State :=
  let r := if s.railLevel sram then s.pulseSeen low 50 100 else (s, false)
  let s := if r.2 then (r.1.railReset sram).setRail sram false else r.1
  let s := s.advance low
  if back then s.setRail sram true else s

/-- LEDGER_RAIL: PG_LEDGER deasserts and stays low (R45, R47). -/
def State.ledgerFall (s : State) (low : Nat) : State :=
  let r := s.pulseSeen low 50 100
  let s := r.1
  if r.2 && s.chip.pgLedger then
    let s := { s with chip.pgLedger := false }
    if s.chip.reqLedger then
      let s := s.put GLB_RST_CAUSE.LEDGER_RAIL 1
      let s := if s.chip.mainReset then s else s.put GLB_RAIL_STAT.LEDGER_AVAIL 0
      s.latch 0x14
    else s
  else s

/-- LEDGER_RAIL_RETURN: PG_LEDGER reasserts; START performs its held words (R47, R451), and where no request is held
LEDGER_AVAIL is set. -/
def State.ledgerReturn (s : State) : State :=
  let s := { s with chip.pgLedger := true }
  if s.chip.mainReset then s
  else
    let s := s.forEach s.chip.start.held (fun s e => s.ldgPut e.1 e.2)
    let s := { s with chip.start.held := [] }
    if s.ledger.queue.isEmpty then s.put GLB_RAIL_STAT.LEDGER_AVAIL 1 else s

/-- SW_RESET: the reset that a GLB_RST_CMD write scheduled (R63). -/
def State.swReset (s : State) : State := if s.chip.rstPend then s.resetBy GLB_RST_CAUSE.SW_RESET else s

/-- DEEP_RESET: the ledger queue has emptied and no write is held; reset asserts before the requests fall (R515). -/
def State.deepReset (s : State) : State :=
  match s.pwr.deepWait with
  | some _ =>
    if s.pwrState = pwEntering ∧ s.ledger.queue = [] ∧ (s.on GLB_RAIL_STAT.LEDGER_AVAIL = true ∨ s.chip.start.held = []) then
      let s := s.mainReset
      { s with chip.reqMain := false, chip.reqLedger := false, pwr.reqPort := 0 }
    else s
  | none => s

/-! Clocks (R52 to R57, R507). -/

/-- The word GLB_CLK_STAT reads as: PRESENT is the monitors' view. -/
def State.clkStatWord (s : State) : Nat :=
  let lost := s.rg (GLB_CLK_STAT.reg.key 0 0)
  let up := s.chip.clkUp.toNat
  (lost / 2 ^ 32) * 2 ^ 32 + getBits up 0 11 + getBits up 12 1 * 2 ^ 12

/-- Port units whose clock is domain `d`. -/
def clkPorts (d : Nat) : List Nat :=
  if d = 6 then [0, 1] else if d = 7 then [0] else if d = 8 then [1] else if d = 9 then [2, 3, 4, 5, 6, 7] else []

/-- Bring the ports on clock domain `d` up to date. -/
def State.clkEval (s : State) (d : Nat) : State :=
  let s := s.forEach (clkPorts d) State.linkEval
  if d = 10 then s.forEach (List.range 3) State.radEval else s

/-- Is the loss of domain `d` expected, so that nothing records it (R507)? -/
def State.lossExpected (s : State) (d : Nat) : Bool :=
  (d == 3 && s.dozing) ||
    (!(clkPorts d).isEmpty && (clkPorts d).all (fun n => !bitAt s.pwr.reqPort.toNat n)) ||
    (d == 10 && getBits s.pwr.reqPort.toNat 8 3 == 0)

/-- CLOCK_LOSS: domain `d` is found absent; `rxOpen` are the wired ports with a frame open on the receive side (R57). -/
def State.clockLoss (s : State) (d rxOpen : Nat) : State :=
  if d = 11 ∨ s.clkOn d = false then s
  else
    let s := { s with chip.clkUp := s.chip.clkUp &&& ~~~(1#13 <<< d) }
    if s.chip.mainReset then s
    else if d = 0 ∨ d = 1 ∨ d = 2 ∨ d = 5 then
      (s.put GLB_RST_CAUSE.LOST_CLK d).resetBy GLB_RST_CAUSE.CLOCK_LOSS
    else
      let quiet := s.lossExpected d
      let s := if quiet then s
        else if d = 12 then (s.put GLB_CLK_STAT.AON_LOST 1).latch 0x13
        else s.put GLB_CLK_STAT.LOST ((s.get GLB_CLK_STAT.LOST).lor (2 ^ d))
      let s := s.forEach (clkPorts d) (fun s n =>
        let s := if bitAt rxOpen n then s.onPort n (fun p => { p with rxOpen := true }) else s
        if quiet then s else s.pevt PORT_EVT.CLK_LOST n)
      let s := if d = 10 ∧ quiet = false then s.forEach (List.range 3) (fun s n => s.revt RAD_EVT.CLK_LOST n) else s
      s.clkEval d

/-- CLOCK_RETURN: domain `d` is found present again (R56). -/
def State.clockReturn (s : State) (d : Nat) : State :=
  if d = 11 then s
  else
    let s := { s with chip.clkUp := s.chip.clkUp ||| (1#13 <<< d) }
    if s.chip.mainReset then s
    else
      let s := s.clkEval d
      if d = 3 then s.forEach (List.range 8) State.hostKick else s

/-! Modes (R33 to R37). -/

/-- The ports follow a change into or out of START and HALT. -/
def State.portsEval (s : State) : State := (s.forEach (List.range 8) State.linkEval).forEach (List.range 3) State.radEval

/-- Enter HALT with a cause (R32 to R34, R412): ports stop, cores stop, no request stays pending. -/
def State.enterHalt (s : State) (cause : Nat) : State :=
  let s := ((s.put GLB_MODE.MODE 5).put GLB_MODE.CAUSE cause).put GLB_MODE.REQ_PEND 0
  (s.forEach [0, 1] State.coreHalt).portsEval

/-- An event-driven entry to HALT discards a pending request with REQ_ERR (R37). -/
def State.haltEvent (s : State) (cause : Nat) : State :=
  (if s.on GLB_MODE.REQ_PEND then s.put GLB_MODE.REQ_ERR 1 else s).enterHalt cause

/-- Do the release conditions of main-domain reset hold (R60)? -/
def State.mayRelease (s : State) : Bool :=
  s.chip.porst && s.chip.pgCore && s.chip.pgSram && s.chip.pgLedger && s.chip.reqMain && (List.range 6).all s.clkOn

/-- MAIN_RESET_END: the release conditions hold; FRC has counted `after` cycles from zero since the release of the TIME_CK
domain, and the block is in START (R60). -/
def State.resetEnd (s : State) (after : Nat) : State :=
  if s.chip.mainReset && s.mayRelease then
    let s := { s with chip.mainReset := false, frc := BitVec.ofNat 64 after, chip.start.enteredAt := after }
    let s := s.put GLB_MODE.CAUSE (if s.chip.wakeCause then 5 else 0)
    s.portsEval
  else s

/-! The ledger read of START (R451 step 1). -/

/-- Time is restored from the best checkpoint (R379). -/
def State.restoreTime (s : State) : State :=
  let s := s.keepPar.put TIME_ANCHOR.VALUE s.frc.toNat
  match s.bestCheckpoint with
  | none => ((s.setOffset 0).put TIME_RATE.RATE 0).put TIME_STAT.RESTORED 0
  | some (_, ws) =>
    let w1 := ws.getD 1 0
    let ticks := (s.get PWR_AON_CNT.COUNT + 2 ^ 48 - getBits (ws.getD 2 0) 0 48) % 2 ^ 48
    let slept := if s.chip.wakeCause && bitAt w1 43 then ticks * 1000000000 / 32768 else 0
    let s := s.setOffset (((ws.getD 0 0 + slept : Nat) : Int) * 2 ^ 16)
    let s := s.put TIME_RATE.RATE (getBits w1 0 40)
    let s := s.setRg (TIME_UTC.reg.key 0 0) (getBits w1 48 16)
    let s := s.put TIME_CKPT_LAST.ST_NS (ws.getD 0 0)
    s.put TIME_STAT.RESTORED 1

/-- Every ledger word is read and decoded: corrections and uncorrectable words are noted (R467). -/
def State.ldgScan (s : State) : State := s.forEach ((s.ledger.cells.map (fun c => c.1 / 9)).eraseDups) State.ldgNote

/-- Take the configuration block in force (R468), or a blank ledger's settings. -/
def State.loadConfig (s : State) : State :=
  match s.ldgConfig with
  | none => { s with ledger.td0 := [0, 0, 0, 0], ledger.td1 := [0, 0, 0, 0], ledger.genMin := 0 }.showConfig 0 0
  | some (_, ws) =>
    let s := { s with ledger.td0 := (ws.drop 2).take 4, ledger.td1 := (ws.drop 6).take 4, ledger.genMin := getBits (ws.getD 10 0) 0 32 }
    s.showConfig (getBits (ws.getD 1 0) 0 3) (getBits (ws.getD 10 0) 32 1)

/-- The ledger read: HALT where it cannot be read or the life-cycle state is RETIRED, else time is restored. -/
def State.ledgerRead (s : State) : State :=
  let s := { s with chip.start.ledgerDone := true }.ldgScan
  if s.ldgReadable then
    let s := s.loadConfig
    if s.lifeCycle = 4 then s.haltEvent 8 else s.restoreTime
  else s.haltEvent 7

/-- 8,192 words at 20 ns (R451). -/
def ledgerReadNs : Nat := 163840

/-- When the ledger read of this START ends. -/
def State.ledgerReadEnd (s : State) : Nat := s.chip.start.enteredAt + ledgerReadNs

/-- Is the ledger read of START still running? -/
def State.reading (s : State) : Bool := s.mode == 0 && !s.chip.mainReset && !s.chip.start.ledgerDone

/-- `dt` ns pass; where the ledger read of START ends within them, it ends in its own cycle. -/
def State.elapse (s : State) (dt : Nat) : State :=
  if s.reading && decide (s.ledgerReadEnd ≤ s.frc.toNat + dt) then
    let d := s.ledgerReadEnd - s.frc.toNat
    ((s.advance d).ledgerRead).advance (dt - d)
  else s.advance dt

/-- The ledger read has ended: time passes to its end where it has not. -/
def State.afterRead (s : State) : State := if s.reading then s.elapse (s.ledgerReadEnd - s.frc.toNat) else s

/-- BOOT_COUNTER_WRITE: step 2 of START (R451, R469, R495): the incremented count, then the deferred tamper records, held
while PG_LEDGER is deasserted. -/
def State.bootCounter (s : State) : State :=
  let s := s.afterRead
  if s.mode = 0 ∧ s.chip.start.ledgerDone = true ∧ s.chip.start.countDone = false then
    let c := (s.bootCount + 1) % 2 ^ 48
    let s := { s with chip.start.countDone := true }.put LDG_STAT.BOOT_COUNT c
    let recs := s.deferredTampers
    let s := s.put TAMPER_STAT.LOG_PEND 0
    let first := (s.ldgPut (0x100 + c % 512) (bootWord c), [(0x100 + c % 512, bootWord c)])
    let all := recs.foldl (fun (a : State × List (Nat × Nat)) b =>
      let ws := a.1.ldgPlace b
      (a.1.forEach ws (fun s e => s.ldgPut e.1 e.2), a.2 ++ ws)) first
    if s.chip.pgLedger then all.1 else { s with chip.start.held := all.2 }
  else s

/-- START_MARCH: step 3 of START (R214, R451). -/
def State.marchStart (s : State) (defects : List Defect) : State :=
  let s := s.afterRead
  if s.mode = 0 ∧ s.chip.start.ledgerDone = true ∧ s.chip.start.marchDone = false then
    { s.startMarch defects with chip.start.marchDone := true }
  else s

/-! Test access (R77, R80). -/

/-- May the present life-cycle state use REGACC, SCDBG and MBIST (R77, R78)? -/
def State.testAllowed (s : State) : Bool := s.lifeCycle == 0 || s.lifeCycle == 1 || s.lifeCycle == 3

/-- TM_SCAN: a rising TM_SCAN, or TM_MBIST, wipes the secure region and enters the manufacturing test it names, where permitted
(R80). -/
def State.tmScan (s : State) (mbist : Bool) : State :=
  if s.testAllowed then { s.wipeAll with chip.mfgTest := true, chip.mfgMbist := mbist } else s

/-! GPIO (R66). -/

/-- GPIO_INPUT: the level at an input pin changes. -/
def State.gpioInput (s : State) (pin : Nat) (level : Bool) : State :=
  { s with chip.gpio := if level then s.chip.gpio ||| (1#32 <<< pin) else s.chip.gpio &&& ~~~(1#32 <<< pin) }

/-- The word GLB_GPIO_IN reads as: a pin that drives shows what it drives. -/
def State.gpioWord (s : State) : Nat :=
  let oe := s.get GLB_GPIO_OE.OE
  ((s.get GLB_GPIO_OUT.OUT).land oe).lor (s.chip.gpio.toNat.land (0xFFFFFFFF - oe))

end Sys2Proof.Machine
end

