-- ==== Sys2Proof/Machine/Access.lean ====
section
/-! DEFINITION. The access decision (R480 to R485, R498, R505) and the response of the register port (R67, R68, R513). -/

namespace Sys2Proof.Machine

open Sys2Proof

/-- The slot of a byte address (R536). -/
def slotOf (a : Nat) : Nat := a / 8 * 8

/-- The range bit of an address (R481). -/
def rangeBit (a : Nat) : Nat := if a < 0x80000 then a / 0x10000 else 8 + (a - 0x80000) / 0x8000

/-- The unit whose register range holds address `a` (R484). -/
def unitOfAddr (a : Nat) : Option Nat :=
  let w := (a - 0x90000) / 0x1000
  let o := a % 0x1000
  if 0x90000 ≤ a ∧ a < 0x98000 then
    if o < 0x100 ∨ (0x800 ≤ o ∧ o < 0x900) then some w
    else if 0x100 ≤ o ∧ o < 0x800 then some (0x20 + w)
    else none
  else if 0x98000 ≤ a ∧ a < 0x9B000 then some w
  else if 0xD8000 ≤ a ∧ a < 0xD8400 then if a % 0x100 < 0x68 then some (0x18 + (a - 0xD8000) / 0x100) else none
  else if 0xB1800 ≤ a ∧ a < 0xB1C00 then some (0xC0 + (a - 0xB1800) / 0x10)
  else if 0xB3000 ≤ a ∧ a < 0xB3400 then some (0xC0 + (a - 0xB3000) / 0x10)
  else none

/-- Does the register at `a` hold an RC field (R9)? -/
def holdsRc (a : Nat) : Bool :=
  match findReg (slotOf a) with
  | some r => r.rc != 0
  | none => false

/-- Is `a` in the staff-room aperture (R221, R535)? -/
def inAperture (a : Nat) : Bool := decide (0xF0000 ≤ a)

/-- The staff-room byte offset an aperture address of initiator `i` reaches (R221). -/
def State.apertureOffset (s : State) (i a : Nat) : Nat := s.get (STAFF_PAGE.PAGE.of i) * 0x10000 + (a - 0xF0000)

/-- Is initiator `i` an initiator of partition `p` (R481)? -/
def State.initOf (s : State) (i p : Nat) : Bool := s.on PROT_INIT.PART_EN i && s.get PROT_INIT.PART i == p

/-- Is unit `u` owned by the partition of initiator `i`? -/
def State.ownsUnit (s : State) (i u : Nat) : Bool :=
  s.on PROT_INIT.PART_EN i && ownerCode (s.role u).owner == s.get PROT_INIT.PART i

/-- The secure-page rule for page `k` (R498). -/
def State.securePage (s : State) (i k : Nat) : Bool :=
  s.on PROT_SECPAGE.PART_EN k && s.initOf i (s.get PROT_SECPAGE.PART k) && !bitAt (s.get PROT_SEC_STAT.PENDING) k

/-- The registers of R505 with one copy per initiator. -/
def protCopy (k : Nat) : Bool := decide (0xE1010 ≤ k) && decide (k < 0xE1070)

/-- The right that a write of ACTION `x` to PROT_CMD requires (R488). -/
def State.protCmdRight (s : State) (i x : Nat) : Bool :=
  if x = 1 then s.mayPropose i else if x = 2 then s.mayApprove i else s.mayPropose i || s.mayApprove i

/-- The rule of R505 for offsets 0x1000 to 0x3FFF of 0xE_0000; `v` is the write data. -/
def State.protRule (s : State) (i : Nat) (wr : Bool) (a v : Nat) : Bool :=
  let k := slotOf a
  if wr then
    if k = PROT_STG_CTRL.reg.base ∨ (PROT_STG_VAL.reg.base ≤ k ∧ k < PROT_STG_VAL.reg.base + 48) then s.mayPropose i
    else if k = PROT_APPROVE_DG.reg.base then s.mayApprove i
    else if k = PROT_CMD.reg.base then s.protCmdRight i (if a % 8 < 4 then getBits v 0 2 else 0)
    else if k = PROT_CFG.reg.base ∨ k = PROT_EVT.reg.base ∨ k = TAMPER_CFG.reg.base then bitAt (s.get PROT_INIT.WR i) 20
    else false
  else protCopy k || bitAt (s.get PROT_INIT.RD i) 20 || s.mayPropose i || s.mayApprove i

/-- Rows 5 and 6 of R483. -/
def State.unitRows (s : State) (i : Nat) (wr : Bool) (a : Nat) : Bool :=
  match unitOfAddr a with
  | none => false
  | some u =>
    let f := (s.role u).func
    (s.ownsUnit i u && (f == .owned || f == .shared || f == .diag)) ||
      (!wr && s.on PROT_INIT.PART_EN i && (f == .shared || f == .firmware) && !holdsRc a)

/-- Row 7 of R483: a write whose data names a unit or a mailbox. -/
def State.namingRow (s : State) (i : Nat) (wr : Bool) (a v : Nat) : Bool :=
  wr && ((a == GLB_ROLE_CMD.reg.base && s.ownsUnit i (getBits v 0 10)) ||
    (a == MBX_DB.reg.base && s.ownsUnit i (mbxUnit (getBits v 0 4))))

/-- Row 8 of R483. -/
def State.targetRow (s : State) (i a : Nat) : Bool :=
  decide (0xCC000 ≤ a) && decide (a < 0xCC800) && decide (a % 0x100 < 0x20) && s.initOf i ((a - 0xCC000) / 0x100)

/-- Row 9 of R483: request and response areas of a mailbox, and proxy tables (R423). -/
def State.staffRow (s : State) (i : Nat) (wr : Bool) (a : Nat) : Bool :=
  inAperture a &&
    (let o := s.apertureOffset i a
     if o < 0x4000 then s.ownsUnit i (mbxUnit (o / 0x400)) && (!wr || decide (o % 0x400 < 0x200))
     else decide (o < 0x8000) && s.initOf i ((o - 0x4000) / 0x800))

/-- A register that exists once per service core (R436). -/
def coreOnly (a : Nat) : Bool := (decide (0xD9200 ≤ a) && decide (a < 0xD9230)) || slotOf a == MBX_DONE.reg.base

/-- Does a rule of another chapter refuse the access before R483: the reader of ROLL_ABSENT (R422), the registers of the
service cores (R436)? -/
def State.refusedFirst (s : State) (i : Nat) (wr : Bool) (a : Nat) : Bool :=
  (!wr && slotOf a == ROLL_ABSENT.reg.base && s.on SC_SVC_CFG.ROLL_POL && i != 0x101) ||
    (coreOnly a && i != 0x100 && i != 0x101)

/-- Is the access granted: the first row of R483 that applies? `v` is the write data. -/
def State.granted (s : State) (i : Nat) (wr : Bool) (a v : Nat) : Bool :=
  if s.refusedFirst i wr a then false
  else if s.lockedOut && portInit i then false
  else if inAperture a && s.get (STAFF_PAGE.PAGE.of i) == 3 then s.securePage i ((a - 0xF0000) / 0x1000)
  else if 0xE1000 ≤ a ∧ a < 0xE4000 then s.protRule i wr a v
  else if slotOf a == STAFF_PAGE.reg.base && (getBits (s.get PROT_INIT.RD i) 22 2 != 0 || s.on PROT_INIT.PART_EN i) then true
  else if s.unitRows i wr a then true
  else if s.namingRow i wr a v then true
  else if s.targetRow i a then true
  else if s.staffRow i wr a then true
  else bitAt (if wr then s.get PROT_INIT.WR i else s.get PROT_INIT.RD i) (rangeBit a)

/-- The effect of a refusal (R483, R503, R505): it counts, is logged, and a service core takes a bus error (R195). -/
def State.denied (s : State) (i : Nat) (wr : Bool) (a : Nat) : State :=
  let s := s.protCount prDenied
  let s := s.setRg (PROT_DENY_LOG.reg.key 0 0)
    (a % 2 ^ 20 + b2n wr * 2 ^ 20 + i * 2 ^ 21 + 2 ^ 30 + s.get GLB_BELL_NUM.BELL * 2 ^ 32)
  let s := s.protEvt PROT_EVT.DENIED
  if i < 0x100 then s else s.onCore (i - 0x100) (fun q => { q with err := true })

/-- Registers that answer in DOZE and WATCH (R513). -/
def sleepReg (a : Nat) : Bool :=
  let k := slotOf a
  k == GLB_ID.reg.base || k == GLB_MODE.reg.base || k == GLB_RST_CAUSE.reg.base || k == GLB_RAIL_STAT.reg.base ||
    k == GLB_CLK_STAT.reg.base || (decide (0x80400 ≤ a) && decide (a < 0x80A00))

/-- Push windows of the partitions (R297). -/
def inPush (a : Nat) : Bool := decide (a < 0x80000) && decide (0xF000 ≤ a % 0x10000)

/-- Does a 32-bit write of the register at `a` break R68: 64 bits and a WO field? CRCu_DATA takes 4 bytes under R446. -/
def wideWo (a : Nat) : Bool :=
  match findReg (slotOf a) with
  | some r => r.wide && r.wo != 0 && r.base != CRC_DATA.reg.base
  | none => false

/-- The form rules of R68: an access that breaks one returns DECODE. -/
def badForm (wr : Bool) (a size : Nat) : Bool :=
  if size = 0 then a % 4 != 0 || (wr && wideWo a)
  else if size = 1 then a % 8 != 0
  else if size = 2 then a % 64 != 0 || !inPush a
  else true

/-- How the block answers an access (R68, R513), with what refusal, denial or wake leaves. -/
def State.respond (s : State) (i : Nat) (wr : Bool) (a size v : Nat) : State × RspCode :=
  if s.granted i wr a v then
    if s.dozing && !sleepReg a then (if s.on PWR_CFG.ACC_WAKE then s.wake wkAccess 0 else s, .decode)
    else (s, if badForm wr a size then .decode else .okay)
  else (s.denied i wr a, .denied)

/-- The response that the initiator sees: code and read data. -/
def State.setRsp (s : State) (c : RspCode) (d : Nat) : State := { s with rsp := ⟨c, BitVec.ofNat 64 d⟩ }

/-- The byte address of an access to the register at `k` (R68). -/
def accAddr (k : Nat) (up : Bool) : Nat := k + if up then 4 else 0

/-- The bits an access of size code `size` at byte address `a` reaches in its register (R68, R536). -/
def reachMask (wide : Bool) (a size : Nat) : Nat :=
  if size = 0 then
    if a % 8 < 4 then 2 ^ 32 - 1 else if wide then (2 ^ 32 - 1) * 2 ^ 32 else 0
  else if wide then 2 ^ 64 - 1 else 2 ^ 32 - 1

/-- `old` with the bits of mask `m` taken from `new`. -/
def mix (old new m : Nat) : Nat := (old - old.land m) + new.land m

end Sys2Proof.Machine
end

