-- ==== Sys2Proof/Machine/Roll.lean ====
section
/-! DEFINITION. The roll-call engine (R386 to R411): intake, roster, sequence acceptance, roll frames, supervision, downlinks, and
the roster commands. -/

namespace Sys2Proof.Machine

open Sys2Proof

def State.rollEvt (s : State) (f : Fld) : State := s.evt f 0x80
def State.rollCount (s : State) (slot : Nat) : State := s.count ROLL_CNT.COUNT slot

/-- Slots of R409. -/
def rlIntake : Nat := 0
def rlAccepted : Nat := 1
def rlDuplicate : Nat := 2
def rlStale : Nat := 3
def rlMissed : Nat := 4
def rlFirst : Nat := 5
def rlUnknown : Nat := 6
def rlNoRoom : Nat := 7
def rlRejected : Nat := 8
def rlAllocFail : Nat := 9
def rlAbsent : Nat := 11
def rlFrames : Nat := 12
def rlDrop : Nat := 13
def rlDlSent : Nat := 14
def rlDlDropped : Nat := 15

/-! The roster (R388 to R392). -/

/-- A roster entry as the number of its 32 little-endian bytes (R389), by fields. -/
structure Nbr where
  id : Nat
  seq : Nat
  st : Nat
  dest : Nat
  pend : Bool
  link : Nat
  bell : Nat
  interval : Nat
  missed : Nat
  dup : Nat
  ptr : Nat
  deriving DecidableEq, Repr

def Nbr.ofNat (v : Nat) : Nbr :=
  ⟨getBits v 0 64, getBits v 64 16, getBits v 80 3, getBits v 83 3, bitAt v 86, getBits v 88 8, getBits v 96 32, getBits v 128 28,
   getBits v 160 16, getBits v 176 16, getBits v 192 32⟩
def Nbr.toNat (e : Nbr) : Nat :=
  e.id + e.seq * 2 ^ 64 + e.st * 2 ^ 80 + e.dest * 2 ^ 83 + b2n e.pend * 2 ^ 86 + e.link * 2 ^ 88 + e.bell * 2 ^ 96 +
    e.interval * 2 ^ 128 + e.missed * 2 ^ 160 + e.dup * 2 ^ 176 + e.ptr * 2 ^ 192

/-- Neighbour states (R392). -/
def nbUnused : Nat := 0
def nbExpected : Nat := 1
def nbPresent : Nat := 2
def nbLate : Nat := 3
def nbAbsent : Nat := 4
def nbIdle : Nat := 5

def nbrAddr (i : Nat) : Nat := 0x600000 + 32 * i
def nbrBank (i : Nat) : Nat := 12 + i / 16384
def nbrBucket (id : Nat) : Nat := crc32c (beBytes id 8) % 16384

/-- Is the bank of entry `i` usable (R390)? -/
def State.nbrUsable (s : State) (i : Nat) : Bool :=
  bitAt (s.get ROLL_CFG.BANKS) (i / 16384) && s.get MEM_BANK_STAT.POWER (nbrBank i) == 0

/-- Read entry `i` through the codec. -/
def State.nbrRead (s : State) (i : Nat) : State × Nbr :=
  let r := s.bufRead .roll (nbrAddr i) 32
  (r.1, Nbr.ofNat (leNat r.2.bytes))

/-- ROLL_STAT.ENTRIES and the count of a bank follow an entry's change between UNUSED and used. -/
def State.nbrUsed (s : State) (i : Nat) (up : Bool) : State :=
  let b := nbrBank i
  let n := mapGet (fun _ => 0) s.roll.used b
  let s := { s with roll.used := mapSet (fun _ => 0) s.roll.used b (if up then n + 1 else n - 1) }
  s.put ROLL_STAT.ENTRIES (if up then s.get ROLL_STAT.ENTRIES + 1 else s.get ROLL_STAT.ENTRIES - 1)

/-- Write entry `i` over one in state `old`. -/
def State.nbrWrite (s : State) (i old : Nat) (e : Nbr) : State :=
  let s := (State.writeBytes .roll 2 s (nbrAddr i) (leBytes e.toNat 32)).1
  if old = nbUnused ∧ e.st ≠ nbUnused then s.nbrUsed i true
  else if old ≠ nbUnused ∧ e.st = nbUnused then s.nbrUsed i false
  else s

/-- What a bucket holds for a neighbour: its entry, else the lowest UNUSED way, else nothing; a bank that is not usable. -/
inductive Found where
  | entry (i : Nat) (e : Nbr)
  | way (i : Nat)
  | full
  | bankOff
  deriving DecidableEq, Repr

/-- Look a neighbour up: the whole bucket is read (R388). -/
def State.nbrFind (s : State) (id : Nat) : State × Found :=
  let b := 4 * nbrBucket id
  if s.nbrUsable b then
    let r := s.bufRead .roll (nbrAddr b) 128
    let es := [0, 1, 2, 3].map (fun k => (b + k, Nbr.ofNat (leNat ((r.2.bytes.drop (32 * k)).take 32))))
    match es.find? (fun e => e.2.st != nbUnused && e.2.id == id), es.find? (fun e => e.2.st == nbUnused) with
    | some e, _ => (r.1, .entry e.1 e.2)
    | none, some e => (r.1, .way e.1)
    | none, none => (r.1, .full)
  else (s, .bankOff)

/-! Downlinks (R405, R406). -/

/-- A downlink is released (R405). -/
def State.dlRelease (s : State) (f : Frame) : State :=
  ((s.release f.ptr 0x30).rollCount rlDlDropped).rollEvt ROLL_EVT.DL_DROP

/-- Entry `i` gives up its held downlink; answers the frame. -/
def State.dlTake (s : State) (i : Nat) : State × Option Frame :=
  match s.roll.held.find? (fun h => h.1 == i) with
  | none => (s, none)
  | some h =>
    ({ s with roll.held := mapDel i s.roll.held }.put ROLL_STAT.DL_HELD (s.get ROLL_STAT.DL_HELD - 1), some h.2)

/-- Drop the held downlink of entry `i`. -/
def State.dlDrop (s : State) (i : Nat) : State :=
  match s.dlTake i with
  | (s, some f) => s.dlRelease f
  | (s, none) => s

/-- Send the held downlink of entry `i` to the radio port `u` that received the report (R406). -/
def State.dlSend (s : State) (i id u link : Nat) : State :=
  match s.dlTake i with
  | (s, none) => s
  | (s, some f) =>
    match s.enqPort u ⟨{ f with downlink := some (id, link), job := none, launch := none }, false, s.get ROLL_CFG.DL_TC, false⟩ with
    | (s, .passed) => s.rollCount rlDlSent
    | (s, _) => s.dlRelease f

/-- A downlink frame arrives (R405): `h` is its header from offset T. -/
def State.downlink (s : State) (f : Frame) (h : List Nat) : State :=
  if decide (2 ≤ h.getD 1 0) || h.getD 10 0 != 0 || h.getD 11 0 != 0 then s.dlRelease f
  else
    match s.nbrFind (beNat ((h.drop 2).take 8)) with
    | (s, .entry i e) =>
      let hold (s : State) : State :=
        { s.nbrWrite i e.st { e with pend := true, ptr := f.ptr } with
          roll.held := mapIns i f (mapDel i s.roll.held) }.put ROLL_STAT.DL_HELD (s.get ROLL_STAT.DL_HELD + 1)
      if e.pend then
        if h.getD 1 0 = 0 then s.dlRelease f else hold (s.dlDrop i)
      else if s.get ROLL_STAT.DL_HELD = s.get ROLL_LIM.DL_MAX then s.dlRelease f
      else hold s
    | (s, _) => s.dlRelease f

/-! Roll frames (R398 to R404). -/

/-- Configuration and address of destination `d` in force. -/
def State.rollCfg (s : State) (d : Nat) : Nat × Nat := mapGet (fun _ => (0x05EA0000, 0)) s.roll.cfg d
def rcEn (c : Nat) : Bool := bitAt c 0
def rcKind (c : Nat) : Nat := getBits c 1 2
def rcTarget (c : Nat) : Nat := getBits c 3 4
def rcTc (c : Nat) : Nat := getBits c 7 3
def rcTagEn (c : Nat) : Bool := bitAt c 10
def rcMax (c : Nat) : Nat := getBits c 16 14
def rcTci (c : Nat) : Nat := getBits c 32 16

/-- The frame of an open roll frame, closed with `flags` (R399, R400, R402). -/
def State.rollBytes (s : State) (d : Nat) (o : OpenRoll) (flags : Nat) : List Nat :=
  let c := s.rollCfg d
  let body := [1, flags] ++ beBytes o.records 2 ++ beBytes (s.get ROLL_STATION.STATION) 8 ++ beBytes o.bell 4 ++ beBytes o.term 4 ++
    beBytes o.seq 4 ++ o.bytes
  let crc := (crcRun 0x82F63B78 (Nat.xor 0xFFFFFFFF o.seq) body).xor 0xFFFFFFFF
  beBytes c.2 6 ++ beBytes (s.get ROLL_SMAC.SMAC) 6 ++ (if rcTagEn c.1 then [0x81, 0x00] ++ beBytes (rcTci c.1) 2 else []) ++ [0x88, 0xB5] ++
    body ++ beBytes crc 4

/-- Queue a closed roll frame to its one destination (R398). -/
def State.rollQueue (s : State) (c : Nat) (f : Frame) : State :=
  let r := if rcKind c = 0 then s.enqPort (rcTarget c) ⟨f, false, rcTc c, false⟩
    else if rcKind c = 1 then (s.bufWrite (ptrAddr f.ptr) f.card).enqPart (rcTarget c) f
    else (s.bufWrite (ptrAddr f.ptr) f.card).enqCore (rcTarget c) f
  match r with
  | (s, .passed) => s
  | (s, _) => ((s.release f.ptr 0x30).rollCount rlDrop).rollEvt ROLL_EVT.ROLL_DROP

/-- Close the open frame of destination `d` (R403). -/
def State.rollClose (full : Bool) (s : State) (d : Nat) : State :=
  match s.roll.opened.find? (fun o => o.1 == d) with
  | none => s
  | some (_, o) =>
    let c := s.rollCfg d
    let flags := b2n o.aligned + b2n full * 2 + b2n (bitAt s.roll.lost d) * 4 + b2n (!bitAt s.roll.begun d) * 8
    let b := s.rollBytes d o flags
    let s := { s with roll.opened := mapDel d s.roll.opened, roll.lost := setBits s.roll.lost d 1 0, roll.begun := setBits s.roll.begun d 1 1 }
    let s := (s.stripesWrite (ptrAddr o.ptr + 64) b).crcTapWr 0x30 o.ptr b
    let f := Frame.new 0x30 (s.stNs * 65536) o.bell
    let f := { f with ptr := o.ptr, size := o.size, len := b.length, tc := rcTc c.1, tci := if rcTagEn c.1 then rcTci c.1 else 0,
                      tagged := rcTagEn c.1 }
    (s.rollCount rlFrames).rollQueue c.1 f

/-- Open a frame for destination `d` (R401, R404). -/
def State.rollOpen (s : State) (d : Nat) : State × Bool :=
  match s.alloc .roll false (rcMax (s.rollCfg d).1) 0x30 0 with
  | (s, _, none) =>
    ({ (s.rollCount rlAllocFail).rollEvt ROLL_EVT.ALLOC_FAIL with roll.lost := setBits s.roll.lost d 1 1 }, false)
  | (s, _, some ptr) =>
    let o : OpenRoll := ⟨ptr, bufBytes (s.pool (ptrPool ptr)).size, s.get ROLL_DEST_SEQ.NEXT d, s.get GLB_BELL_NUM.BELL,
      s.get GLB_TERM_NUM.TERM, s.roll.edgeAligned, 0, []⟩
    ({ s with roll.opened := mapIns d o s.roll.opened }.put ROLL_DEST_SEQ.NEXT (o.seq + 1) d, true)

/-- Stored length of an open frame with a record of `n` payload bytes and the trailer added (R401). -/
def State.rollLen (s : State) (d n : Nat) (o : OpenRoll) : Nat :=
  (if rcTagEn (s.rollCfg d).1 then 18 else 14) + 24 + o.bytes.length + 16 + n + 4

/-- Room for a record of `n` payload bytes at destination `d` (R395 step 2). -/
def State.rollRoom (s : State) (d n : Nat) : State × Bool :=
  match s.roll.opened.find? (fun o => o.1 == d) with
  | none => s.rollOpen d
  | some (_, o) => if s.rollLen d n o ≤ rcMax (s.rollCfg d).1 then (s, true) else (s.rollClose true d).rollOpen d

/-- Append a record to the open frame of destination `d` (R395 step 4, R401). -/
def State.rollAppend (s : State) (d : Nat) (rec : List Nat) : State :=
  match s.roll.opened.find? (fun o => o.1 == d) with
  | none => s
  | some (_, o) =>
    { s with roll.opened := mapIns d { o with records := o.records + 1, bytes := o.bytes ++ rec } (mapDel d s.roll.opened) }

/-- A record header and payload (R401). -/
def rollRecord (id seq kind link rssi off : Nat) (pay : List Nat) : List Nat :=
  beBytes id 8 ++ beBytes seq 2 ++ [kind, link, rssi, pay.length] ++ beBytes off 2 ++ pay

/-- RX_OFF of a report with timestamp `ts` in ns (R401). -/
def State.rxOff (s : State) (ts : Nat) : Nat :=
  let d := Int.fdiv (wrapDiff 64 ts (s.roll.edgeSt % 2 ^ 64)) 32
  ((max (-32768) (min 32767 d)) % 65536).toNat

/-! Reports (R391 to R395). -/

def State.reject (s : State) (f : Frame) : State := (s.release f.ptr 0x30).rollCount rlRejected

/-- Fields of the receive metadata word (R176). -/
def mdSeq (md : Nat) : Nat := getBits md 96 16
def mdLink (md : Nat) : Nat := getBits md 120 3
def mdBand (md : Nat) : Nat := getBits md 123 2

/-- The entry after an accepted or duplicate report. -/
def State.heard (s : State) (f : Frame) (e : Nbr) : Nbr :=
  { e with st := nbPresent, bell := s.get ROLL_BELL.BELL, link := (f.src - 8) + mdLink f.rmeta * 4 + mdBand f.rmeta * 32, pend := false, ptr := 0 }

/-- Steps 1 to 6 of R395 for an accepted report: `e` is the entry at `i` in state `old`, `missed` the reports missed. -/
def State.accept (s : State) (f : Frame) (pay : List Nat) (i old : Nat) (e : Nbr) (first : Bool) (missed : Nat) : State :=
  let md := f.rmeta
  if !rcEn (s.rollCfg e.dest).1 then s.reject f
  else
    match s.rollRoom e.dest pay.length with
    | (s, false) => s.release f.ptr 0x30
    | (s, true) =>
      let s := s.nbrWrite i old { s.heard f e with seq := mdSeq md, missed := min 0xFFFF (e.missed + missed) }
      let s := (s.rollCount rlAccepted).countN ROLL_CNT.COUNT missed rlMissed
      let s := if first then s.rollCount rlFirst else s
      let kind := b2n first * 4 + b2n (bitAt md 125) * 8 + b2n (bitAt md 126) * 16
      let s := s.rollAppend e.dest (rollRecord e.id (mdSeq md) kind (mdLink md + mdBand md * 8) (getBits md 112 8) (s.rxOff (f.ts / 65536)) pay)
      let s := if e.pend then s.dlSend i e.id f.src (mdLink md) else s
      s.release f.ptr 0x30

/-- A report with payload `pay` (R391, R393). -/
def State.report (s : State) (f : Frame) (pay : List Nat) : State :=
  let id := f.rmeta % 2 ^ 64
  match s.nbrFind id with
  | (s, .entry i e) =>
    if e.st = nbPresent ∨ e.st = nbLate then
      let d := wrapDiff 16 (mdSeq f.rmeta) e.seq
      if d = 0 then
        let s := (s.nbrWrite i e.st { s.heard f e with dup := min 0xFFFF (e.dup + 1) }).rollCount rlDuplicate
        let s := if e.pend then s.dlSend i e.id f.src (mdLink f.rmeta) else s
        s.release f.ptr 0x30
      else if d < 0 then (s.release f.ptr 0x30).rollCount rlStale
      else s.accept f pay i e.st e false (d - 1).toNat
    else s.accept f pay i e.st e true 0
  | (s, .way i) =>
    if s.on ROLL_CFG.LEARN then
      s.accept f pay i nbUnused ⟨id, 0, nbUnused, s.get ROLL_CFG.DEF_DEST, false, 0, 0, s.get ROLL_CFG.DEF_INTERVAL, 0, 0, 0⟩ true 0
    else (s.release f.ptr 0x30).rollCount rlUnknown
  | (s, _) =>
    if s.on ROLL_CFG.LEARN then ((s.release f.ptr 0x30).rollCount rlNoRoom).rollEvt ROLL_EVT.NO_ROOM
    else (s.release f.ptr 0x30).rollCount rlUnknown

/-- An intake frame is sorted by the first matching row of R387. -/
def State.rollSort (s : State) (f : Frame) : State :=
  if !s.on ROLL_CFG.EN || (s.role 0x40).func == .idle || f.l3type != l3Roll then s.reject f
  else if 8 ≤ f.src ∧ f.src ≤ 0x0A then
    if s.get ROLL_CFG.MAX_PAYLOAD < f.len - f.l3off then s.reject f
    else
      let r := s.bufRead .roll (ptrAddr f.ptr + 64 + f.l3off) (f.len - f.l3off)
      r.1.report f r.2.bytes
  else if f.len < f.l3off + 12 then s.reject f
  else
    let r := s.bufRead .roll (ptrAddr f.ptr + 64 + f.l3off) 12
    if r.2.bytes.getD 0 0 = 0x81 then r.1.downlink f r.2.bytes else r.1.reject f

/-- ROLL_INTAKE: the engine takes the oldest intake frame (R386, R387). -/
def State.rollIntake (s : State) : State :=
  if !s.forwards then s
  else
    match s.roll.intake with
    | [] => s
    | f :: rest => (State.rollCount { s with roll.intake := rest } rlIntake).rollSort f

/-! Supervision (R396, R397). -/

/-- Entry `i` enters ABSENT (R397). -/
def State.nbrAbsentNow (s : State) (i : Nat) (e : Nbr) : State :=
  let drop := e.pend && !s.on ROLL_CFG.DL_KEEP
  let s := s.nbrWrite i e.st { e with st := nbAbsent, pend := e.pend && !drop, ptr := if drop then 0 else e.ptr }
  let s := (s.rollCount rlAbsent).rollEvt ROLL_EVT.ABSENT
  let s := if s.roll.absent.length < 32 then { s with roll.absent := s.roll.absent ++ [i] }.raise 0x81 else s.rollEvt ROLL_EVT.ABSENT_OVF
  let s :=
    if s.on ROLL_CFG.ABSENT_REC && rcEn (s.rollCfg e.dest).1 then
      match s.rollRoom e.dest 0 with
      | (s, true) => s.rollAppend e.dest (rollRecord e.id e.seq 1 (getBits e.link 2 3 + getBits e.link 5 2 * 8) 0x80 0 [])
      | (s, false) => s
    else s
  if drop then s.dlDrop i else s

/-- The sweep visits entry `i` (R396). -/
def State.sweepVisit (s : State) (i : Nat) : State :=
  if s.nbrUsable i then
    let r := s.nbrRead i
    let e := r.2
    let s := r.1
    if e.st = nbExpected ∨ e.st = nbPresent ∨ e.st = nbLate then
      let d := wrapDiff 32 (s.get ROLL_BELL.BELL) e.bell
      let g := s.get ROLL_LIM.GRACE
      if e.interval ≠ 0 ∧ (3 * e.interval + g : Int) ≤ d then s.nbrAbsentNow i e
      else if e.interval ≠ 0 ∧ (e.interval + g : Int) ≤ d ∧ e.st = nbPresent then s.nbrWrite i e.st { e with st := nbLate }
      else if e.interval = 0 ∧ (2 ^ 30 : Int) ≤ d ∧ e.st ≠ nbLate then s.nbrWrite i e.st { e with st := nbIdle }
      else s
    else s
  else s

/-- Entries of one sweep (R396). -/
def State.sweepLen (s : State) : Nat := min 64 (s.bell.period / 1000)

/-- SWEEP: the visits of this bell (R396). -/
def State.sweep (s : State) : State :=
  if s.roll.swept ∨ s.mode = 0 ∨ s.mode = 4 ∨ s.mode = 5 then s
  else
    let n := s.sweepLen
    let at_ := s.roll.next
    let s := s.forEach ((List.range n).map (fun k => (at_ + k) % 65536)) State.sweepVisit
    { s with roll.swept := true, roll.next := (at_ + n) % 65536 }

/-- The roll-call flush of a bell edge (R89, R403), and the settings that take effect after it (R398). -/
def State.rollFlush (s : State) : State :=
  let s := s.forEach (List.range 8) (State.rollClose false)
  s.forEach (List.range 8) (fun s d =>
    { s with roll.cfg := mapSet (fun _ => (0x05EA0000, 0)) s.roll.cfg d (s.rg (ROLL_DEST_CFG.reg.key d 0), s.get ROLL_DEST_DMAC.DMAC d) })

/-- The roster bell and the samples of a bell edge (R396, R401); synchronized time is `st` there. -/
def State.rollEdge (s : State) (st : Nat) (aligned : Bool) : State :=
  let run := s.mode == 1 || s.mode == 2 || s.mode == 3
  let s := if run then s.put ROLL_BELL.BELL (s.get ROLL_BELL.BELL + 1) else s
  { s with roll.edgeSt := st, roll.edgeAligned := aligned, roll.swept := !run }

/-- A read of ROLL_ABSENT removes the oldest index (R397, R411). -/
def State.absentPop (s : State) : State × Nat :=
  match s.roll.absent with
  | [] => (s, 0)
  | i :: l => ({ s with roll.absent := l }, i + 2 ^ 16 + l.length * 2 ^ 17)

/-- A ROLL_CFG write with new word `w` (R13, R390). -/
def State.rollCfgWrite (s : State) (w : Nat) : State :=
  let old := s.get ROLL_CFG.BANKS
  let want := getBits w 4 4
  let failed (b : Nat) : Bool := s.get MEM_BANK_STAT.HEALTH (12 + b) == 3
  let clears := (List.range 4).any (fun b => bitAt old b && !bitAt want b && mapGet (fun _ => 0) s.roll.used (12 + b) != 0)
  if 240 < getBits w 16 8 then s
  else if clears then s.rollEvt ROLL_EVT.CFG_REFUSED
  else
    let banks := (List.range 4).foldl (fun m b => if bitAt want b && !failed b then m + 2 ^ b else m) 0
    s.setRg (ROLL_CFG.reg.key 0 0) (setBits w 4 4 banks)

/-! Roster commands (R407). -/

/-- The result of a roster command in copy `c`. -/
def State.nbrRes (s : State) (c v : Nat) : State := s.setRg ((ROLL_NBR_RES.reg.of c).key 0 0) v

/-- A refusal of a roster command. -/
def State.nbrRefuse (s : State) (c reason : Nat) : State := (s.nbrRes c (3 + reason * 4)).rollEvt ROLL_EVT.CMD_REFUSED

/-- A ROLL_NBR_CMD with word `w` of copy `c`; `stg` holds the captured key and data (R407). -/
def State.nbrCmd (s : State) (c w : Nat) (stg : List Nat) : State :=
  let act := getBits w 0 3
  let idx := getBits w 16 16
  let id := stg.getD 0 0
  let interval := getBits (stg.getD 1 0) 0 28
  let dest := getBits (stg.getD 1 0) 28 3
  if act = 0 ∨ 4 < act then s
  else if (s.role 0x40).func = .idle then s.nbrRefuse c 5
  else if getBits w 32 16 ≠ (s.role 0x40).gen.toNat then s.stale.nbrRefuse c 4
  else if act = 1 then
    match s.nbrFind id with
    | (s, .entry i e) =>
      (s.nbrWrite i e.st { e with interval := interval, dest := dest, st := if e.st = nbLate then nbPresent else e.st }).nbrRes c
        (1 + 2 ^ 5 + i * 2 ^ 16)
    | (s, .way i) =>
      (s.nbrWrite i nbUnused ⟨id, 0, nbExpected, dest, false, 0, s.get ROLL_BELL.BELL, interval, 0, 0, 0⟩).nbrRes c (1 + i * 2 ^ 16)
    | (s, .full) => s.nbrRefuse c 1
    | (s, .bankOff) => s.nbrRefuse c 3
  else if act = 2 then
    match s.nbrFind id with
    | (s, .entry i e) => ((s.dlDrop i).nbrWrite i e.st (Nbr.ofNat 0)).nbrRes c (1 + i * 2 ^ 16)
    | (s, _) => s.nbrRefuse c 2
  else if act = 3 then
    let r := if s.nbrUsable idx then s.nbrRead idx else (s, Nbr.ofNat 0)
    let e := r.2
    let s := r.1.setRg ((ROLL_NBR_KEY.reg.of c).key 0 0) e.id
    let s := s.setRg ((ROLL_NBR_DATA.reg.of c).key 0 0)
      (e.interval + e.dest * 2 ^ 28 + e.st * 2 ^ 32 + b2n e.pend * 2 ^ 35 + e.seq * 2 ^ 48)
    let s := s.setRg ((ROLL_NBR_INFO.reg.of c).key 0 0) (e.bell + e.missed * 2 ^ 32 + e.dup * 2 ^ 48)
    s.nbrRes c (1 + idx * 2 ^ 16)
  else
    match s.nbrFind id with
    | (s, .entry i e) =>
      if e.pend then ((s.dlDrop i).nbrWrite i e.st { e with pend := false, ptr := 0 }).nbrRes c (1 + i * 2 ^ 16)
      else s.nbrRefuse c 2
    | (s, _) => s.nbrRefuse c 2

end Sys2Proof.Machine
end

