-- ==== Sys2Proof/Machine/Engine.lean ====
section
/-! DEFINITION. The command engine (R94): queued commands, what is captured with them, how each is served; flash commands as
they are accepted (R465, R466); buffer requests and releases through registers (R239). -/

namespace Sys2Proof.Machine

open Sys2Proof

/-! Flash commands (R465, R466). -/

def State.ldrEvt (s : State) (f : Fld) : State := s.evt f 0xC8

/-- Does R466 refuse the NVM_CMD word `w`? -/
def State.nvmBad (s : State) (w : Nat) : Bool :=
  let act := getBits w 0 2
  let addr := getBits w 8 24
  s.nvm.isSome || s.mode == 0 || s.mode == 4 || s.mode == 5 || act == 0 ||
    (act == 2 && addr % 65536 != 0) || (act == 3 && addr % 256 != 0) ||
    (decide (2 ≤ act) && s.on LDR_STAT.LOADED && s.get LDR_STAT.SLOT == getBits w 2 1)

/-- Address bytes of the present flash settings. -/
def State.nvmAddrBytes (s : State) : Nat := if s.on NVM_CFG.ADDR4 then 4 else 3

/-- The header read: opcode 0x03, 3 address bytes, 64 bytes on one line at NVM_DIV 48 (R454). -/
def headerJob (w : Nat) : NvmJob := NvmJob.mk w .header [] 0 544 32 1 48 0

/-- ERASE and PROGRAM: write enable, opcode and address, and for PROGRAM 256 bytes, on one line (R465). -/
def State.writeJob (s : State) (w : Nat) (page : List Nat) : NvmJob :=
  NvmJob.mk w .send page 0 (8 + 8 * (1 + s.nvmAddrBytes) + 8 * page.length) 0 1 (s.get NVM_CFG.NVM_DIV) 0

/-- A served NVM_CMD with word `w`; `stg` are the captured words of NVM_BUF (R465, R466). -/
def State.nvmCmd (s : State) (w : Nat) (stg : List Nat) : State :=
  if s.nvmBad w then s.ldrEvt LDR_EVT.NVM_REFUSED
  else
    let act := getBits w 0 2
    let s := (s.put NVM_STAT.BUSY 1).put NVM_STAT.ACTION act
    { s with nvm := some (if act = 1 then headerJob w else s.writeJob w (if act = 3 then stg.flatMap (fun v => leBytes v 8) else [])) }

/-! The command queue (R94). -/

/-- Registers whose writes are queued commands. -/
def queuedRegs : List Nat :=
  [GLB_ROLE_CMD.reg.base, PORT_GCL_CMD.reg.base, MEM_BANK_CMD.reg.base, MEM_COL_CMD.reg.base, MEM_MARCH_CMD.reg.base,
   POOL_CMD.reg.base, CLS_RULE_CMD.reg.base, CLS_FLOW_CMD.reg.base, BR_FDB_CMD.reg.base, ROLL_NBR_CMD.reg.base,
   NVM_CMD.reg.base, PROT_CMD.reg.base]

/-- Elements `0 .. n - 1` of initiator `c`'s copy of a register. -/
def State.copyWords (s : State) (f : Fld) (c n : Nat) : List Nat := (List.range n).map (fun i => s.rg ((f.of c).key i 0))

/-- The staging words captured when a command is accepted. -/
def State.staged (s : State) (base c : Nat) : List Nat :=
  if base = CLS_RULE_CMD.reg.base then
    s.copyWords CLS_STG_VAL.reg c 8 ++ s.copyWords CLS_STG_MASK.reg c 8 ++ s.copyWords CLS_STG_ACT0.reg c 1 ++
      s.copyWords CLS_STG_ACT1.reg c 1
  else if base = CLS_FLOW_CMD.reg.base then s.copyWords CLS_FLOW_KEY.reg c 5 ++ s.copyWords CLS_FLOW_DATA.reg c 1
  else if base = BR_FDB_CMD.reg.base then s.copyWords BR_FDB_KEY.reg c 1 ++ s.copyWords BR_FDB_DATA.reg c 1
  else if base = ROLL_NBR_CMD.reg.base then s.copyWords ROLL_NBR_KEY.reg c 1 ++ s.copyWords ROLL_NBR_DATA.reg c 1
  else if base = NVM_CMD.reg.base then (List.range 32).map (fun i => s.get NVM_BUF.BYTES i)
  else if base = PROT_CMD.reg.base then
    s.copyWords PROT_STG_CTRL.reg c 1 ++ s.copyWords PROT_STG_VAL.reg c 6 ++ s.copyWords PROT_APPROVE_DG.reg c 1
  else []

/-- The effect of a served command, by its register. -/
def State.cmdEffect (s : State) (q : QCmd) : State :=
  if q.base = GLB_ROLE_CMD.reg.base then s.roleCmd q.word
  else if q.base = PORT_GCL_CMD.reg.base then s.gclCmd q.idx q.word
  else if q.base = MEM_BANK_CMD.reg.base then s.bankCmd q.word
  else if q.base = MEM_COL_CMD.reg.base then s.colCmd q.word
  else if q.base = MEM_MARCH_CMD.reg.base then s.marchCmd q.word
  else if q.base = POOL_CMD.reg.base then s.poolCmd q.word
  else if q.base = CLS_RULE_CMD.reg.base then s.ruleCmd q.init q.word q.stg
  else if q.base = CLS_FLOW_CMD.reg.base then s.flowCmd q.init q.word q.stg
  else if q.base = BR_FDB_CMD.reg.base then s.fdbCmd q.init q.word q.stg
  else if q.base = ROLL_NBR_CMD.reg.base then s.nbrCmd q.init q.word q.stg
  else if q.base = NVM_CMD.reg.base then s.nvmCmd q.word q.stg
  else if q.base = PROT_CMD.reg.base then s.protCmd q.init q.word q.stg
  else s

/-- The engine serves a command. -/
def State.serve (s : State) (q : QCmd) : State := (s.cmdEffect q).pmu evCmdServed 1

/-- A command that finds 16 commands queued is refused (R94). -/
def State.cmdOverflow (s : State) : State :=
  { s.put GLB_CMDQ_STAT.OVERFLOW 1 with bell.cmdRefused := s.bell.cmdRefused + 1 }.raise 0x2A

/-- Does the engine serve commands: not during the fixed work of a bell, and not in SLEEP (R94, R510)? -/
def State.serving (s : State) : Bool := s.mode != 4 && decide (s.bell.fixedEnd ≤ s.frc.toNat)

/-- DONE of the writer's result register falls: its last command is not served yet. -/
def State.doneClear (s : State) (q : QCmd) : State :=
  if q.base = CLS_RULE_CMD.reg.base then s.put (CLS_RULE_RES.DONE.of q.init) 0
  else if q.base = CLS_FLOW_CMD.reg.base then s.put (CLS_FLOW_RES.DONE.of q.init) 0
  else if q.base = BR_FDB_CMD.reg.base then s.put (BR_FDB_RES.DONE.of q.init) 0
  else if q.base = ROLL_NBR_CMD.reg.base then s.put (ROLL_NBR_RES.DONE.of q.init) 0
  else if q.base = PROT_CMD.reg.base then s.put (PROT_CMD_RES.DONE.of q.init) 0
  else s

/-- A queued command is written (R94, R510): the engine serves it, or it waits, or the queue is full. -/
def State.issue (s : State) (q : QCmd) : State :=
  if 16 ≤ s.cmdq.length then s.cmdOverflow
  else if s.serving && s.cmdq.isEmpty then s.serve q
  else { s.doneClear q with cmdq := s.cmdq ++ [q] }

/-- The write of word `w` to the queued command register at `base`, element `i`, by initiator `c`. -/
def State.command (s : State) (base i c w : Nat) : State := s.issue (QCmd.mk base i c w (s.staged base c))

/-- The commands that waited are served in queue order. -/
def State.drainQueue (s : State) : State := ({ s with cmdq := [] }).forEach s.cmdq State.serve

/-! Buffers through registers (R239). -/

/-- A write of POOL_ALLOC with stored length `n` by initiator `c`. The block keeps the length with the writer's copy. -/
def State.poolAlloc (s : State) (c n : Nat) : State :=
  if s.on (POOL_ALLOC_RES.PENDING.of c) then s
  else (s.setRg ((POOL_ALLOC.reg.of c).key 0 0) n).put (POOL_ALLOC_RES.PENDING.of c) 1

/-- The allocator decides initiator `c`'s request. -/
def State.poolAllocResult (s : State) (c : Nat) (same : Bool) : State :=
  if s.on (POOL_ALLOC_RES.PENDING.of c) then
    let r := s.alloc .core same (s.rg ((POOL_ALLOC.reg.of c).key 0 0)) 0x40 0
    r.1.setRg ((POOL_ALLOC_RES.reg.of c).key 0 0) (match r.2.2 with
      | some ptr => ptr % 2 ^ 32 + 2 ^ 33
      | none => 2 ^ 32 + 2 ^ 33)
  else s

end Sys2Proof.Machine
end

