-- ==== Sys2Proof/Machine/Bus.lean ====
section
/-! DEFINITION. Register writes and reads (R9, R12, R13, R68, R221, R535 to R537): what each register does when it is written
or read beside storing and giving its word, and the staff-room aperture. -/

namespace Sys2Proof.Machine

open Sys2Proof

/-! Masks and ranges. -/

/-- The bits of the RW fields of a field's register. -/
def rwOf (f : Fld) : Nat :=
  match regRows.find? (fun r => r.base == f.base % copyStride) with
  | some r => r.rw
  | none => 0

/-- The word of a register after a write of `v` under the reach mask `m`: only RW fields store (R9, R68). -/
def State.merged (s : State) (f : Fld) (m v : Nat) (i : Nat := 0) (j : Nat := 0) : Nat :=
  mix (s.rg (f.key i j)) v (m.land (rwOf f))

/-- Is field `f` of word `v` between `lo` and `hi`? -/
def within (f : Fld) (lo hi v : Nat) : Bool := decide (lo ≤ getBits v f.lo f.w) && decide (getBits v f.lo f.w ≤ hi)

/-- Is field `f` of word `v` at least 1? -/
def nonzero (f : Fld) (v : Nat) : Bool := getBits v f.lo f.w != 0

/-- The value ranges that the spec states for fields (R13), by register. -/
def fieldRanges : List (Nat × (Nat → Bool)) := [
  (PORT_MAX_FRAME.reg.base, within PORT_MAX_FRAME.MAX_FRAME 64 16324),
  (PORT_FC_THRESH.reg.base, fun v =>
    decide (getBits v 16 16 < getBits v 0 16) && decide (getBits v 40 8 < getBits v 32 8)),
  (PORT_LPI_CFG.reg.base, fun v => nonzero PORT_LPI_CFG.ENTRY_IDLE v && nonzero PORT_LPI_CFG.TX_WAKE v),
  (PORT_LAUNCH_CFG.reg.base, fun v => within PORT_LAUNCH_CFG.LOOKAHEAD 64 65535 v && within PORT_LAUNCH_CFG.FAR_MS 1 2000 v),
  (RAD_MAX_FRAME.reg.base, within RAD_MAX_FRAME.MAX_FRAME 64 16324),
  (RAD_BCN_CFG.reg.base, fun v => within RAD_BCN_CFG.INTERVAL_US 1000 16777215 v && nonzero RAD_BCN_CFG.RESUME v),
  (MEM_CFG.reg.base, fun v => nonzero MEM_CFG.CE_WATCH v && nonzero MEM_CFG.UE_ERASE v),
  (MEM_COL_CMD.reg.base, within MEM_COL_CMD.COLUMN 0 9),
  (POOL_CMD.reg.base, within POOL_CMD.POOL 0 4),
  (CLS_STG_ACT1.reg.base, within CLS_STG_ACT1.STRIP 0 128),
  (MBX_DONE.reg.base, within MBX_DONE.LEN 0 496),
  (POOL_CFG.reg.base, within POOL_CFG.BANKS 0 12),
  (EGR_PORT_QUANTUM.reg.base, fun v => (leBytes v 8).all (· != 0)),
  (MIR_SESS.reg.base, fun v => within MIR_SESS.DEST 0 (if bitAt v 1 then 7 else 10) v),
  (INT_SRC_CFG.reg.base, nonzero INT_SRC_CFG.COAL_CNT),
  (INT_BTMR.reg.base, nonzero INT_BTMR.PERIOD),
  (TIME_REF.reg.base, within TIME_REF.WIN_MS 1 1000),
  (TIME_SVC_CFG.reg.base, fun v => within TIME_SVC_CFG.PROFILE 0 2 v && nonzero TIME_SVC_CFG.LOCK_CNT v),
  (TIME_OUT_PERIOD.reg.base, within TIME_OUT_PERIOD.PERIOD 16 (2 ^ 48)),
  (ROLL_DEST_CFG.reg.base, fun v =>
    within ROLL_DEST_CFG.MAX_BYTES 320 16320 v && within ROLL_DEST_CFG.KIND 0 2 v &&
      within ROLL_DEST_CFG.TARGET 0 (match getBits v 1 2 with | 0 => 10 | 1 => 7 | _ => 1) v),
  (SC_SVC_CFG.reg.base, fun v => within SC_SVC_CFG.MDC_DIV 48 255 v && nonzero SC_SVC_CFG.MBX_TMO_BELLS v),
  (PROT_CFG.reg.base, nonzero PROT_CFG.EXPIRY_TERMS),
  (PWR_CFG.reg.base, nonzero PWR_CFG.DEEP_TMO_MS),
  (PWR_WATCH.reg.base, within PWR_WATCH.KEEP_PORT 0 10),
  (PANEL_CFG.reg.base, fun v =>
    nonzero PANEL_CFG.DEBOUNCE_MS v && nonzero PANEL_CFG.CHATTER_CNT v && nonzero PANEL_CFG.QUAR_S v),
  (LED_BLINK.reg.base, nonzero LED_BLINK.HALF_BELLS),
  (LED_CFG.reg.base, fun v => within LED_CFG.MODE0 0 8 v && within LED_CFG.MODE1 0 8 v && within LED_CFG.MODE2 0 8 v)]

/-- Is word `v` of the register at `base` within the stated ranges (R13)? -/
def rangeOk (base v : Nat) : Bool :=
  match fieldRanges.find? (fun e => e.1 == base) with
  | some e => e.2 v
  | none => true

/-- The level sources whose register is the one under key `k` are evaluated again. -/
def State.evalSources (s : State) (k : Nat) : State :=
  s.forEach (levelSources.filter (fun n => match srcKind n with | .level q _ => q == k | _ => false)) State.intEval

/-! Writes. An effect takes the copy or initiator `c`, the element (i, j), the mask of the bits that the access reaches, and
the data. -/

/-- What a register write does. -/
abbrev WrEff := Nat → Nat → Nat → Nat → Nat → State → State

/-- Bits of W1C fields written 1 clear (R9). -/
def State.clearBits (s : State) (k bits : Nat) : State := s.setRg k (s.rg k - (s.rg k).land bits)

/-- RW fields of element (i, j) of a register take the written bits, and W1C bits of mask `w1c` written 1 clear, unless a
value lies outside its range. -/
def State.storeWord (s : State) (r : RegRow) (k m v : Nat) : State :=
  let new := mix (s.rg k) v (m.land r.rw)
  if rangeOk r.base new then ((s.setRg k new).clearBits k ((v.land m).land r.w1c)).evalSources k else s

/-- The key of the register of row `r` at slot address `a` in the copy of `c`. -/
def copyKey (r : RegRow) (c a : Nat) : Nat := if r.bank = .one then a else a + (c + 1) * copyStride

/-- A mode request (R33, R34, R36, R37). -/
def State.modeReq (s : State) (t : Nat) : State :=
  let m := s.mode
  if t = 4 then s.put GLB_MODE.REQ_ERR 1
  else if t = m then s
  else if t = 5 ∧ m ≤ 3 then s.enterHalt 9
  else if (m = 1 ∧ t = 2) ∨ (m = 2 ∧ t = 1 ∧ s.lifeCycle ≤ 1) ∨ (m = 3 ∧ t ≤ 1) then
    (s.put GLB_MODE.REQ_PEND 1).put GLB_MODE.REQ_TARGET t
  else s.put GLB_MODE.REQ_ERR 1

/-- A GLB_RST_CMD write (R63). -/
def State.rstCmd (s : State) (v : Nat) : State := if getBits v 0 16 = 0xB10C then { s with chip.rstPend := true } else s

/-- A GLB_BELL_CFG write with new word `new` (R13, R83, R88). -/
def State.bellCfgWrite (s : State) (new : Nat) : State :=
  let old := s.rg (GLB_BELL_CFG.reg.key 0 0)
  let changes := getBits old 0 21 != getBits new 0 21 || getBits old 32 16 != getBits new 32 16
  if !within GLB_BELL_CFG.PERIOD 8000 1048576 new || !nonzero GLB_BELL_CFG.TERM_BELLS new then s
  else if changes && (s.on GLB_BELL_STAT.ARMED || s.on GLB_BELL_STAT.SRC) then s.put GLB_BELL_STAT.CFG_REFUSED 1
  else
    let s := s.setRg (GLB_BELL_CFG.reg.key 0 0) new
    let s := if changes then s.put GLB_BELL_STAT.CFG_PEND 1 else s
    if bitAt old 48 && !bitAt new 48 then
      if s.on GLB_BELL_STAT.ARMED then s.disarm
      else if s.on GLB_BELL_STAT.SRC then { s with bell.unalign := true }
      else s
    else s

/-- A PORTn_FC_CTRL write with new word `new` (R13, R133). -/
def State.fcCtrlWrite (s : State) (n new : Nat) : State :=
  if within PORT_FC_CTRL.MODE 0 2 new && decide (getBits new 32 16 < getBits new 16 16) then
    let old := s.rg (PORT_FC_CTRL.reg.key n 0)
    let s := if getBits old 0 2 = getBits new 0 2 then s else s.onPort n (fun p => { p with fcTx := bitAt old 3 })
    let s := s.setRg (PORT_FC_CTRL.reg.key n 0) new
    if (s.port n).tx.isNone then s.applyFcMode n else s
  else s

/-- A write to an entry of a gate control list (R145). -/
def State.gclEntryWrite (s : State) (n l i new : Nat) : State :=
  if s.gclLocked n l then s.evt PORT_GCL_EVT.WR_REFUSED (gclSrc n) n
  else if l = 0 then s.setRg (PORT_GCL0_E.reg.key n i) new
  else s.setRg (PORT_GCL1_E.reg.key n i) new

/-- A RADn_CTRL write with new word `new` (R13, R184). -/
def State.radCtrlWrite (s : State) (n new : Nat) : State :=
  if within RAD_CTRL.RX_INC 1 8 new && within RAD_CTRL.TX_INC 1 8 new then
    ((s.radSettle n).setRg (RAD_CTRL.reg.key n 0) new).radCtrlChanged n (s.rg (RAD_CTRL.reg.key n 0))
  else s

/-- An INT_BTMRi write with new word `new` (R13, R355). -/
def State.btmrWrite (s : State) (i new : Nat) : State :=
  if nonzero INT_BTMR.PERIOD new then
    let was := s.on INT_BTMR.EN i
    let s := s.setRg (INT_BTMR.reg.key i 0) new
    if bitAt new 0 && !was then s.put INT_BTMR.LEFT (s.get INT_BTMR.PERIOD i) i else s
  else s

/-- A write of a TIME_OUTj_CFG (o 0 to 3) or TIME_PPSj_CFG (o 4, 5) with new word `new` (R13, R375). -/
def State.outCfgWrite (s : State) (o new : Nat) : State :=
  let top := if o < 4 then s.outPeriod o - 1 else 999999999
  if within TIME_OUT_CFG.MODE 0 2 new && within TIME_OUT_CFG.WIDTH_NS 1 top new then
    let old := s.outCfg o
    (s.setRg (if o < 4 then TIME_OUT_CFG.reg.key o 0 else TIME_PPS_CFG.reg.key (o - 4) 0) new).outCfgWritten o old
  else s

/-- A TIME_REF write with new word `new` (R13, R377): setting EN starts the first window. -/
def State.timeRefWrite (s : State) (new : Nat) : State :=
  if within TIME_REF.WIN_MS 1 1000 new then
    let was := s.on TIME_REF.EN
    let s := s.setRg (TIME_REF.reg.key 0 0) new
    if bitAt new 0 && !was then { s with time.refStart := s.frc.toNat } else s
  else s

/-- A PMU_SAMP_CFG write with new word `new` (R13, R433). -/
def State.pmuSampWrite (s : State) (new : Nat) : State :=
  if within PMU_SAMP_CFG.EVENT 2 0xA new && nonzero PMU_SAMP_CFG.PERIOD new then
    (s.setRg (PMU_SAMP_CFG.reg.key 0 0) new).pmuSampCfg (s.rg (PMU_SAMP_CFG.reg.key 0 0))
  else s

/-- A CLS_FLOW_CFG write under mask `m` (R256). -/
def State.flowCfgWrite (s : State) (m new : Nat) : State :=
  if m / 2 ^ 32 ≠ 0 ∧ s.flowCfgLocked = true then s.flowCfgRefuse else s.setRg (CLS_FLOW_CFG.reg.key 0 0) new

/-- A CLS_FLOW_MASK write (R256). -/
def State.flowMaskWrite (s : State) (i new : Nat) : State :=
  if s.flowCfgLocked then s.flowCfgRefuse else s.setRg (CLS_FLOW_MASK.reg.key i 0) new

/-- A CRCu_CMD write (R438, R450). -/
def State.crcCmd (s : State) (u v : Nat) : State :=
  let s := if bitAt v 0 then s.crcRestart u else s
  if bitAt v 1 then s.crcFlush u else s

/-- Is a frame of unit `u` in progress (R443, R444): copied to a TX FIFO and not sent yet, or a TX job that it follows? -/
def State.crcInFrame (s : State) (u : Nat) : Bool :=
  let frames := (s.ports.flatMap (fun e => e.2.tx.toList ++ e.2.wait.toList ++ e.2.split.toList)) ++
    s.rads.flatMap (fun e => e.2.tx.toList ++ e.2.wait.toList)
  let jobs := s.host.parts.flatMap (fun e => e.2.reading)
  s.on CRC_CFG.EN u && (frames.any (fun t => s.crcFollows u t.marks) || jobs.any (fun j => s.crcFollows u j.marks))

/-- The word CRCu_STAT reads as. -/
def State.crcStatWord (s : State) (u : Nat) : Nat :=
  setBits (setBits (s.rg (CRC_STAT.reg.key u 0)) 0 5 (s.crcFifo u).length) 5 1 (b2n (s.crcInFrame u))

/-- A CRCu_DATA write under mask `m` (R446): 4 or 8 bytes, lowest first. -/
def State.crcDataWrite (s : State) (u m v : Nat) : State :=
  s.crcFeedSw u (if m = 2 ^ 32 - 1 then leBytes v 4 else if m = 2 ^ 64 - 1 then leBytes v 8 else leBytes (v / 2 ^ 32) 4)

/-- A TAMPER_CFG write (R502). -/
def State.tamperCfgWrite (s : State) (new : Nat) : State :=
  if s.on TAMPER_CFG.LOCK then s else s.setRg (TAMPER_CFG.reg.key 0 0) new

/-- A PROT_CMD write: ACTION 0b00 has no effect (R488). -/
def State.protCmdWrite (s : State) (c v : Nat) : State :=
  if getBits v 0 2 = 0 then s else s.command PROT_CMD.reg.base 0 c v

/-- A PORTn_MOD_CTRL write (R124): uplinks only. -/
def State.modCtrlWrite (s : State) (n new : Nat) : State :=
  if n < 2 then (s.setRg (PORT_MOD_CTRL.reg.key n 0) new).modDrive n else s

/-- A PORTn_LINK_CFG write: LOS_USE of a LAN port reads 0 (R139). -/
def State.linkCfgWrite (s : State) (n new : Nat) : State :=
  (s.setRg (PORT_LINK_CFG.reg.key n 0) (if n < 2 then new else setBits new 8 1 0)).linkEval n

/-- A PORTn_MAX_FRAME write with new word `new` (R13, R113). -/
def State.maxFrameRange (s : State) (n new : Nat) : State := if rangeOk PORT_MAX_FRAME.reg.base new then s.maxFrameWrite n new else s

/-- A PORTn_LPI_CFG write with new word `new` (R13, R136). -/
def State.lpiCfgWrite (s : State) (n new : Nat) : State :=
  if rangeOk PORT_LPI_CFG.reg.base new then (s.setRg (PORT_LPI_CFG.reg.key n 0) new).lpiCfgChanged n else s

/-- A PORTn_GCL_CFG write (R13, R149). -/
def State.gclCfgRange (s : State) (n new : Nat) : State :=
  if within PORT_GCL_CFG.CYCLE_BELLS 1 256 new then s.gclCfgWrite n new else s

/-- A PORTn_PM_CFG write (R13, R155). -/
def State.pmCfgRange (s : State) (n new : Nat) : State :=
  if within PORT_PM_CFG.VERIFY_MS 1 128 new then s.pmCfgWrite n new else s

/-- An INT_SRC_CFG write with new word `new` (R13, R346). -/
def State.srcCfgWrite (s : State) (n new : Nat) : State :=
  if rangeOk INT_SRC_CFG.reg.base new then (s.setRg (INT_SRC_CFG.reg.key n 0) new).intEval n else s

/-- An INT_TGTt_CTRL write (R346). -/
def State.tgtCtrlWrite (s : State) (t new : Nat) : State := (s.setRg (INT_TGT_CTRL.reg.key t 0) new).intEvalAll

/-- An INT_PEND[k] write (R340). -/
def State.pendWrite (s : State) (k v : Nat) : State :=
  s.forEach ((List.range 64).filter (bitAt v)) (fun s j => s.clearPend (64 * k + j))

/-- A write of `v` to the command register at `base`, element `i`, by initiator `c`: a queued command (R94), unless a value lies
outside its range (R13). -/
def State.queueCmd (s : State) (base i c v : Nat) : State := if rangeOk base v then s.command base i c v else s

/-- The queued command of the register at `base`. -/
def queued (base : Nat) : WrEff := fun c i _ _ v s => s.queueCmd base i c v

/-- A write of MBX_DONE (R13, R426). -/
def State.mbxDoneCmd (s : State) (v : Nat) : State := if rangeOk MBX_DONE.reg.base v then s.mbxDoneWrite v else s

/-- The registers that do more than store a write, by base address. -/
def writeHooks : List (Nat × WrEff) := [
  (GLB_MODE_REQ.reg.base, fun _ _ _ _ v s => s.modeReq (getBits v 0 3)),
  (GLB_ROLE_CMD.reg.base, queued GLB_ROLE_CMD.reg.base),
  (GLB_RST_CMD.reg.base, fun _ _ _ _ v s => s.rstCmd v),
  (GLB_BELL_CFG.reg.base, fun _ _ _ m v s => s.bellCfgWrite (s.merged GLB_BELL_CFG.reg m v)),
  (PWR_CMD.reg.base, fun _ _ _ _ v s => s.pwrCmd v),
  (INT_SRC_CFG.reg.base, fun _ i _ m v s => s.srcCfgWrite i (s.merged INT_SRC_CFG.reg m v i)),
  (INT_TGT_CTRL.reg.base, fun _ i _ m v s => s.tgtCtrlWrite i (s.merged INT_TGT_CTRL.reg m v i)),
  (INT_PEND.reg.base, fun _ i _ m v s => s.pendWrite i (v.land m)),
  (INT_BTMR.reg.base, fun _ i _ m v s => s.btmrWrite i (s.merged INT_BTMR.reg m v i)),
  (INT_TGT_COMPLETE.reg.base, fun _ i _ _ v s => s.complete i (getBits v 0 10)),
  (PORT_MAC_CTRL.reg.base, fun _ i _ m v s => s.macCtrlWrite i (s.merged PORT_MAC_CTRL.reg m v i)),
  (PORT_FC_CTRL.reg.base, fun _ i _ m v s => s.fcCtrlWrite i (s.merged PORT_FC_CTRL.reg m v i)),
  (PORT_FC_STAT.reg.base, fun _ i _ m v s => if bitAt (v.land m) 32 then s.wdogClear i else s),
  (PORT_LINK_CFG.reg.base, fun _ i _ m v s => s.linkCfgWrite i (s.merged PORT_LINK_CFG.reg m v i)),
  (PORT_MAX_FRAME.reg.base, fun _ i _ m v s => s.maxFrameRange i (s.merged PORT_MAX_FRAME.reg m v i)),
  (PORT_PFC_MAP.reg.base, fun _ i _ m v s => s.pfcMapWrite i (s.merged PORT_PFC_MAP.reg m v i)),
  (PORT_MOD_CTRL.reg.base, fun _ i _ m v s => s.modCtrlWrite i (s.merged PORT_MOD_CTRL.reg m v i)),
  (PORT_LPI_CFG.reg.base, fun _ i _ m v s => s.lpiCfgWrite i (s.merged PORT_LPI_CFG.reg m v i)),
  (PORT_GCL0_E.reg.base, fun _ i j m v s => s.gclEntryWrite i 0 j (s.merged PORT_GCL0_E.reg m v i j)),
  (PORT_GCL1_E.reg.base, fun _ i j m v s => s.gclEntryWrite i 1 j (s.merged PORT_GCL1_E.reg m v i j)),
  (PORT_GCL_CFG.reg.base, fun _ i _ m v s => s.gclCfgRange i (s.merged PORT_GCL_CFG.reg m v i)),
  (PORT_GCL_CMD.reg.base, queued PORT_GCL_CMD.reg.base),
  (PORT_PM_CFG.reg.base, fun _ i _ m v s => s.pmCfgRange i (mix (s.pmWord i) v (m.land (rwOf PORT_PM_CFG.reg)))),
  (RAD_CTRL.reg.base, fun _ i _ m v s => s.radCtrlWrite i (s.merged RAD_CTRL.reg m v i)),
  (MEM_BANK_CMD.reg.base, queued MEM_BANK_CMD.reg.base),
  (MEM_COL_CMD.reg.base, queued MEM_COL_CMD.reg.base),
  (MEM_MARCH_CMD.reg.base, queued MEM_MARCH_CMD.reg.base),
  (POOL_CMD.reg.base, queued POOL_CMD.reg.base),
  (POOL_ALLOC.reg.base, fun c _ _ _ v s => if getBits v 0 14 ≤ 16320 then s.poolAlloc c (getBits v 0 14) else s),
  (POOL_FREE.reg.base, fun _ _ _ _ v s => s.release (getBits v 0 32) 0x40),
  (CLS_BANK_CMD.reg.base, fun _ _ _ _ v s => s.bankSwapCmd v),
  (CLS_RULE_CMD.reg.base, queued CLS_RULE_CMD.reg.base),
  (CLS_FLOW_CMD.reg.base, queued CLS_FLOW_CMD.reg.base),
  (CLS_FLOW_CFG.reg.base, fun _ _ _ m v s => s.flowCfgWrite m (s.merged CLS_FLOW_CFG.reg m v)),
  (CLS_FLOW_MASK.reg.base, fun _ i _ m v s => s.flowMaskWrite i (s.merged CLS_FLOW_MASK.reg m v i)),
  (MTR_CFG.reg.base, fun _ i _ m v s => (s.setRg (MTR_CFG.reg.key i 0) (s.merged MTR_CFG.reg m v i)).meterCfg i),
  (BR_FDB_CMD.reg.base, queued BR_FDB_CMD.reg.base),
  (PART_CTRL.reg.base, fun _ i _ m v s => s.partCtrlWrite i (s.merged PART_CTRL.reg m v i)),
  (PART_CMD.reg.base, fun _ i _ _ v s => s.partCmd i v),
  (PART_TXQ_BASE.reg.base, fun _ i _ m v s => s.ringBaseWrite i 0 (s.merged PART_TXQ_BASE.reg m v i)),
  (PART_RXQ_BASE.reg.base, fun _ i _ m v s => s.ringBaseWrite i 1 (s.merged PART_RXQ_BASE.reg m v i)),
  (PART_TXC_BASE.reg.base, fun _ i _ m v s => s.ringBaseWrite i 2 (s.merged PART_TXC_BASE.reg m v i)),
  (PART_RXC_BASE.reg.base, fun _ i _ m v s => s.ringBaseWrite i 3 (s.merged PART_RXC_BASE.reg m v i)),
  (PART_TXQ_DB.reg.base, fun _ i _ _ v s => s.doorbell i false (getBits v 0 17)),
  (PART_RXQ_DB.reg.base, fun _ i _ _ v s => s.doorbell i true (getBits v 0 17)),
  (PART_TXC_HEAD.reg.base, fun _ i _ _ v s => s.headWrite i false (getBits v 0 17)),
  (PART_RXC_HEAD.reg.base, fun _ i _ _ v s => s.headWrite i true (getBits v 0 17)),
  (TIME_CMD.reg.base, fun _ _ _ _ v s => s.timeCmd v),
  (TIME_RATE.reg.base, fun _ _ _ m v s => s.writeRate (s.merged TIME_RATE.reg m v)),
  (TIME_STEP.reg.base, fun _ _ _ _ v s => s.writeStep v),
  (TIME_CFG.reg.base, fun _ _ _ m v s => (s.setRg (TIME_CFG.reg.key 0 0) (s.merged TIME_CFG.reg m v)).servoCheck),
  (TIME_REF.reg.base, fun _ _ _ m v s => s.timeRefWrite (s.merged TIME_REF.reg m v)),
  (TIME_OUT_CFG.reg.base, fun _ i _ m v s => s.outCfgWrite i (s.merged TIME_OUT_CFG.reg m v i)),
  (TIME_PPS_CFG.reg.base, fun _ i _ m v s => s.outCfgWrite (4 + i) (s.merged TIME_PPS_CFG.reg m v i)),
  (ROLL_CFG.reg.base, fun _ _ _ m v s => s.rollCfgWrite (s.merged ROLL_CFG.reg m v)),
  (ROLL_NBR_CMD.reg.base, queued ROLL_NBR_CMD.reg.base),
  (CRC_CFG.reg.base, fun _ i _ m v s => s.crcCfgWrite i 0 (s.merged CRC_CFG.reg m v i)),
  (CRC_POLY.reg.base, fun _ i _ m v s => s.crcCfgWrite i 1 (s.merged CRC_POLY.reg m v i)),
  (CRC_INIT.reg.base, fun _ i _ m v s => s.crcCfgWrite i 2 (s.merged CRC_INIT.reg m v i)),
  (CRC_XOROUT.reg.base, fun _ i _ m v s => s.crcCfgWrite i 3 (s.merged CRC_XOROUT.reg m v i)),
  (CRC_VALUE.reg.base, fun _ i _ m v s => s.crcValueWrite i (s.merged CRC_VALUE.reg m v i)),
  (CRC_DATA.reg.base, fun _ i _ m v s => s.crcDataWrite i m v),
  (CRC_DATA1.reg.base, fun _ i _ _ v s => s.crcFeedSw i [getBits v 0 8]),
  (CRC_CMD.reg.base, fun _ i _ _ v s => s.crcCmd i v),
  (SC_CTRL.reg.base, fun _ i _ m v s => (s.setRg (SC_CTRL.reg.key i 0) (s.merged SC_CTRL.reg m v i)).scCtrlWritten i v),
  (SC_TX_DESC1.reg.base, fun c _ _ _ v s => s.submit c v),
  (MBX_DB.reg.base, fun c _ _ _ v s => s.mbxDoorbell c v),
  (MBX_DONE.reg.base, fun _ _ _ _ v s => s.mbxDoneCmd v),
  (PMU_EVSEL.reg.base, fun _ i _ m v s =>
    s.setRg (PMU_EVSEL.reg.key i 0) (let w := s.merged PMU_EVSEL.reg m v i
                                     if i % 2 = 0 then setBits w 10 1 0 else w)),
  (PMU_SAMP_CFG.reg.base, fun _ _ _ m v s => s.pmuSampWrite (s.merged PMU_SAMP_CFG.reg m v)),
  (NVM_CMD.reg.base, queued NVM_CMD.reg.base),
  (LDG_FW_DATA.reg.base, fun _ _ _ _ v s => s.ldgFirmware v),
  (PROT_CMD.reg.base, fun c _ _ _ v s => s.protCmdWrite c v),
  (TAMPER_CFG.reg.base, fun _ _ _ m v s => s.tamperCfgWrite (s.merged TAMPER_CFG.reg m v))]

/-- The number of the copy that initiator `i` reaches in a register of row `r`: its own identifier, or its core number. -/
def copyOf (r : RegRow) (i : Nat) : Nat := if r.bank = .perCore then i - 0x100 else i

/-- An accepted write at byte address `a` with data `v` in the register's bit positions. -/
def State.writeAt (s : State) (i a size v : Nat) : State :=
  match findReg (slotOf a) with
  | none => s
  | some r =>
    let m := reachMask r.wide a size
    let c := copyOf r i
    if m = 0 then s
    else
      match writeHooks.find? (fun e => e.1 == r.base) with
      | some e => e.2 c (r.idx1 (slotOf a)) (r.idx2 (slotOf a)) m v s
      | none => s.storeWord r (copyKey r c (slotOf a)) m v

/-! Reads. -/

/-- What a register read gives, and what it does. -/
abbrev RdEff := Nat → Nat → Nat → State → State × Nat

/-- A register whose word is computed from the state. -/
def shown (f : Nat → Nat → Nat → State → Nat) : RdEff := fun c i j s => (s, f c i j s)

/-- Whole quanta left on the pause timer of port `n`, and its word (R128, R129). -/
def State.fcStatWord (s : State) (n : Nat) : Nat :=
  let w := s.rg (PORT_FC_STAT.reg.key n 0)
  let left := ((s.port n).pauseEnd - s.frc.toNat * 100) / s.quantum100 n
  let paused := (List.range 8).foldl (fun v c => v + b2n (s.classPaused n c) * 2 ^ c) 0
  setBits (setBits w 0 16 (min 65535 left)) 16 8 paused

/-- The class masks of EGR_PORTu_STAT: which classes hold a frame, and which are eligible now (R292). -/
def State.egrStatWord (s : State) (u : Nat) : Nat :=
  let elig := (List.range 8).foldl (fun v c =>
    v + b2n (if u < 8 then (s.copyElig u c).isSome else (s.radElig (u - 8) c).isSome) * 2 ^ c) 0
  s.busyMask u + elig * 2 ^ 8

/-- The word GLB_RAIL_STAT reads as (R47): ledger writes held while they may not start. -/
def State.railStatWord (s : State) : Nat :=
  let avail := s.on GLB_RAIL_STAT.LEDGER_AVAIL
  3 + b2n s.chip.pgLedger * 4 + b2n avail * 8 +
    (if avail then 0 else min 16 (s.ledger.queue.length + s.chip.start.held.length)) * 16

/-- The operations with steps pending, by code (R91). -/
def State.stepPending (s : State) (code : Nat) : Bool :=
  match code with
  | 1 => s.get MEM_MARCH_STAT.STATE != 0
  | 2 => (s.on MEM_CFG.SCRUB_EN && s.on MEM_SCRUB_STAT.ACTIVE) ||
    (List.range 16).any (fun b => s.get MEM_BANK_STAT.POWER b == 3)
  | 3 => s.bankState 0 == bankMirroring || s.bankState 1 == bankMirroring
  | 4 => !s.mem.rebuild.isEmpty
  | 5 => !s.ledger.queue.isEmpty && s.chip.pgLedger
  | 6 => match s.nvm with
    | some j => j.phase != .poll
    | none => false
  | 7 => s.on PROT_SEC_STAT.WIPING && s.get PROT_SEC_STAT.CAUSE != 3
  | _ => false

/-- The code of the operation now stepping, 0 for none (R91). -/
def State.stepping (s : State) : Nat := if s.frc.toNat < s.bell.stepEnd then s.bell.lastStep else 0

/-- The word GLB_STEP_STAT reads as. -/
def State.stepStatWord (s : State) : Nat :=
  (s.rg (GLB_STEP_STAT.reg.key 0 0) / 2 ^ 32) * 2 ^ 32
    + ((List.range 8).foldl (fun v c => v + b2n (s.stepPending c) * 2 ^ c) 0) * 2 ^ 16 + s.stepping

/-- The word TIME_CAPk_CTRL reads as (R374). -/
def State.capCtrlWord (s : State) (k : Nat) : Nat :=
  let w := setBits (s.rg (TIME_CAP_CTRL.reg.key k 0)) 4 4 (s.capFifo k).length
  setBits w 8 1 (match s.capFifo k with | [] => 0 | e :: _ => b2n e.rising)

/-- A staged action word of initiator `c`: its reserved bits `m` are kept for the check of R259 and read as zero (R12). -/
def State.stagedAct (s : State) (f : Fld) (c m : Nat) : Nat :=
  let w := s.rg ((f.of c).key 0 0)
  w - w.land m

/-- The registers that do not simply read as stored, by base address. -/
def readHooks : List (Nat × RdEff) := [
  (GLB_ROLE.reg.base, shown fun _ _ _ s => s.roleWord),
  (GLB_CMDQ_STAT.reg.base, shown fun _ _ _ s => setBits (s.rg (GLB_CMDQ_STAT.reg.key 0 0)) 0 5 s.cmdq.length),
  (GLB_CLK_STAT.reg.base, shown fun _ _ _ s => s.clkStatWord),
  (GLB_RAIL_STAT.reg.base, shown fun _ _ _ s => s.railStatWord),
  (GLB_GPIO_IN.reg.base, shown fun _ _ _ s => s.gpioWord),
  (GLB_STEP_STAT.reg.base, shown fun _ _ _ s => s.stepStatWord),
  (INT_SRC_STAT.reg.base, shown fun _ i _ s => s.srcStatWord i),
  (INT_PEND.reg.base, shown fun _ i _ s => s.pendWord i),
  (INT_TGT_STAT.reg.base, shown fun _ i _ s => s.tgtStatWord i),
  (INT_TGT_CLAIM.reg.base, fun _ i _ s => s.claim i),
  (TIME_FRC.reg.base, shown fun _ _ _ s => s.frc.toNat),
  (TIME_NOW_NS.reg.base, fun c _ _ s => s.readNow c),
  (TIME_CAP_CTRL.reg.base, shown fun _ i _ s => s.capCtrlWord i),
  (TIME_CAP_TS.reg.base, fun _ i _ s => s.capRead i),
  (CLS_STG_ACT0.reg.base, shown fun c _ _ s => s.stagedAct CLS_STG_ACT0.reg c 0xFFC0002000000000),
  (CLS_STG_ACT1.reg.base, shown fun c _ _ s => s.stagedAct CLS_STG_ACT1.reg c 0xFFFFFE0000000000),
  (PORT_FC_STAT.reg.base, shown fun _ i _ s => s.fcStatWord i),
  (PORT_PM_CFG.reg.base, shown fun _ i _ s => s.pmWord i),
  (PORT_MOD_CTRL.reg.base, shown fun _ i _ s => if i < 2 then s.rg (PORT_MOD_CTRL.reg.key i 0) else 0),
  (EGR_PORT_STAT.reg.base, shown fun _ i _ s => s.egrStatWord i),
  (EGR_PART_QUOTA.reg.base, shown fun _ i _ s => setBits (s.rg (EGR_PART_QUOTA.reg.key i 0)) 32 24 ((s.partBytes i + 1023) / 1024)),
  (MEM_BANK_STAT.reg.base, shown fun _ i _ s => setBits (s.rg (MEM_BANK_STAT.reg.key i 0)) 2 1 (b2n (s.inUse i))),
  (CRC_RESULT.reg.base, shown fun _ i _ s => s.crcResultWord i),
  (CRC_FIFO_TAG.reg.base, shown fun _ i _ s => s.crcFifoTag i),
  (CRC_FIFO_VAL.reg.base, fun _ i _ s => s.crcPop i),
  (CRC_STAT.reg.base, shown fun _ i _ s => s.crcStatWord i),
  (PART_GEN.reg.base, shown fun _ i _ s => (s.role (txUnit i)).gen.toNat + (s.role (rxUnit i)).gen.toNat * 2 ^ 16),
  (RAD_BCN_LAST.reg.base, shown fun _ i _ s => s.bcnLastWord i),
  (ROLL_STAT.reg.base, shown fun _ _ _ s => setBits (s.rg (ROLL_STAT.reg.key 0 0)) 32 11 s.roll.intake.length),
  (ROLL_ABSENT.reg.base, fun _ _ _ s => s.absentPop),
  (PMU_CNT.reg.base, shown fun _ i _ s => s.pmuWord i),
  (SC_TX_DONE.reg.base, fun c _ _ s => s.scTxDone c),
  (SC_TX_DONE_TS.reg.base, shown fun c _ _ s => s.scTxDoneTs c),
  (SC_RX_POP.reg.base, fun c _ _ s => s.scRxPop c),
  (LDG_RD_DATA.reg.base, fun c _ _ s => s.ldgRead c)]

/-- A register read: RO, RW and W1C fields as stored, WO fields as zero, and RC fields clear (R9). -/
def State.regRead (s : State) (r : RegRow) (k : Nat) : State × Nat :=
  let w := s.rg k
  (if r.rc = 0 then s else s.setRg k (w - w.land r.rc), w - w.land r.wo)

/-- An accepted read at byte address `a`: the register's word in its bit positions, cut to what the access reaches. -/
def State.readAt (s : State) (i a size : Nat) : State × Nat :=
  match findReg (slotOf a) with
  | none => (s, 0)
  | some r =>
    let m := reachMask r.wide a size
    let c := copyOf r i
    if m = 0 then (s, 0)
    else
      let q := match readHooks.find? (fun e => e.1 == r.base) with
        | some e => e.2 c (r.idx1 (slotOf a)) (r.idx2 (slotOf a)) s
        | none => s.regRead r (copyKey r c (slotOf a))
      (q.1, q.2.land m)

/-! The aperture (R221) and the push windows (R310). -/

/-- The staff-room request that an access of the aperture makes. -/
def State.apertureReq (s : State) (i : Nat) (wr : Bool) (a size v : Nat) : StaffReq :=
  StaffReq.mk wr (BitVec.ofNat 18 (s.apertureOffset i a)) (if size = 0 then 4 else 8)
    (BitVec.ofNat 64 (if a % 8 = 4 ∧ size = 0 then v / 2 ^ 32 else v))

/-- An accepted access at byte address `a`: registers, the aperture, push windows. A burst carries its data in `d`. -/
def State.accessAt (s : State) (i : Nat) (wr : Bool) (a size v d : Nat) : State × Nat :=
  if inAperture a then
    let r := s.staffHost (s.apertureReq i wr a size v)
    (r.1, if a % 8 = 4 then r.2 * 2 ^ 32 else r.2)
  else if inPush a then
    (if wr && size == 2 then s.push (a / 0x10000) (decide (0xF800 ≤ a % 0x10000)) d else s, 0)
  else if wr then (s.writeAt i a size v, 0)
  else s.readAt i a size

/-- An access of the register port by initiator `i` (R68): the access decision, then the effect, and the response. -/
def State.access (s : State) (i : Nat) (wr : Bool) (a size v d : Nat) : State :=
  let r := s.respond i wr a size v
  if r.2 = .okay then
    let q := r.1.accessAt i wr a size v d
    q.1.setRsp .okay q.2
  else r.1.setRsp r.2 0

/-- A write to the register at `k` (with 64 bits where `wide`) by the access `a`, with data `v`: `eff` gets the mask of the bits
that the access reaches. -/
def State.busWrite (s : State) (a : Access) (k : Nat) (wide : Bool) (v : Nat) (eff : Nat → State → State) : State :=
  let addr := accAddr k a.up
  let r := s.respond a.init.val true addr a.size.toNat v
  let m := reachMask wide addr a.size.toNat
  let t := if r.2 = .okay ∧ m ≠ 0 then eff m r.1 else r.1
  t.setRsp r.2 0

/-- A read of the register at `k` by the access `a`, which has the effect and the word `eff`. -/
def State.busRead (s : State) (a : Access) (k : Nat) (wide : Bool) (eff : State → State × Nat) : State :=
  let addr := accAddr k a.up
  let r := s.respond a.init.val false addr a.size.toNat 0
  let m := reachMask wide addr a.size.toNat
  if r.2 = .okay ∧ m ≠ 0 then (eff r.1).1.setRsp r.2 ((eff r.1).2.land m) else r.1.setRsp r.2 0

end Sys2Proof.Machine
end

