-- ==== Sys2Proof/Machine/Image.lean ====
section
/-! DEFINITION. Flash images (R454 to R466): headers, sections and their entries, the load of START, the end of START, and the
flash commands. Result codes are those of R479. -/

namespace Sys2Proof.Machine

open Sys2Proof

/-! Bytes. -/

/-- Bytes `o .. o + n - 1` of a list, as a number in network byte order. -/
def beAt (bs : List Nat) (o n : Nat) : Nat := beNat ((bs.drop o).take n)

/-- Are bytes `o .. o + n - 1` zero? -/
def zeroAt (bs : List Nat) (o n : Nat) : Bool := ((bs.drop o).take n).all (· == 0)

/-- The first `n` bytes of a flash device; a byte it does not drive reads as 0xFF (the pads have pull-ups). -/
def flashBytes (flash : List Byte) (n : Nat) : List Nat :=
  let bs := (flash.take n).map BitVec.toNat
  bs ++ List.replicate (n - bs.length) 0xFF

/-- A SHA-256 digest as the four words of R468, digest byte 0 in the top byte of word 0. -/
def digestWords (bs : List Nat) : List Nat := (List.range 4).map (fun w => beAt (sha256 bs) (8 * w) 8)

/-- Result codes. -/
def irOk : Nat := 1
def irHeader : Nat := 2
def irHdrCrc : Nat := 3
def irRelease : Nat := 4
def irTarget : Nat := 5
def irRollback : Nat := 6
def irSection : Nat := 7
def irDenied : Nat := 8
def irImgCrc : Nat := 9
def irDigest : Nat := 0xA
def irStandby : Nat := 0xB

/-! The header (R457, R462). -/

def hdrGen (h : List Nat) : Nat := beAt h 8 4
def hdrLen (h : List Nat) : Nat := beAt h 12 4
def hdrSections (h : List Nat) : Nat := beAt h 16 2
def hdrTarget (h : List Nat) : Nat := beAt h 18 1
def hdrMode (h : List Nat) : Nat := beAt h 32 1
def hdrAddrBytes (h : List Nat) : Nat := beAt h 33 1
def hdrDummy (h : List Nat) : Nat := beAt h 34 1
def hdrDiv (h : List Nat) : Nat := beAt h 35 1

/-- Do the fields of a header lie as R457 says? -/
def hdrForm (h : List Nat) : Bool :=
  beAt h 0 8 == 0x594E384900010040 && beAt h 19 1 == 0 && beAt h 20 1 == 0 && zeroAt h 36 24 &&
    decide (72 ≤ hdrLen h) && decide (hdrLen h ≤ 8388608) && hdrLen h % 8 == 0 &&
    decide (hdrMode h ≤ 3) && (hdrAddrBytes h == 3 || hdrAddrBytes h == 4) && decide (hdrDummy h ≤ 15) && decide (12 ≤ hdrDiv h)

/-- The result of the header checks, in the order of R462. -/
def State.hdrCheck (s : State) (h : List Nat) : Nat :=
  if !hdrForm h then irHeader
  else if crc32c (h.take 60) ≠ beAt h 60 4 then irHdrCrc
  else if beAt h 21 1 ≠ s.get GLB_ID.REL_MAJOR ∨ s.get GLB_ID.REL_MINOR < beAt h 22 1 then irRelease
  else if !(hdrTarget h == 2 || (hdrTarget h == 1 && s.lifeCycle != 2)) then irTarget
  else if s.lifeCycle = 2 ∧ s.on LDG_STAT.MIN_EN = true ∧ wrapDiff 32 (hdrGen h) s.ledger.genMin < 0 then irRollback
  else irOk

/-! Sections (R457, R458). -/

/-- The loader's own copy of registers with one copy per initiator; it is cleared when the load ends. -/
def loaderInit : Nat := 0x102

/-- Bytes of a body with its padding. -/
def padTo8 (n : Nat) : Nat := (n + 7) / 8 * 8

/-- Bytes of one entry of a section type with parameter `p`; 0 for a body that is one entry of any length. -/
def entryBytes (ty p : Nat) : Nat :=
  if ty = 1 then 16 else if ty = 2 then (if p = 1 then 16 else if p = 2 then 48 else 0)
  else if ty = 3 then 152 else if ty = 4 then 8 else if ty = 5 then 16 else if ty = 7 then 4 else 0

/-- Is the section header well formed: a listed type, zero reserved bits, whole entries (R458)? -/
def secForm (h : List Nat) : Bool :=
  let ty := beAt h 0 1
  let len := beAt h 4 4
  let p := beAt h 8 4
  let param := match ty with
    | 1 => p == 0
    | 2 => decide (1 ≤ p) && decide (p ≤ 3)
    | 3 => decide (p ≤ 1)
    | 4 => decide (p < 32)
    | 5 => p == 0
    | 6 => decide (p ≤ 1)
    | 7 => p == 0
    | _ => false
  let whole := if entryBytes ty p = 0 then decide (4 ≤ len) else len % entryBytes ty p == 0
  param && zeroAt h 1 3 && whole && (ty != 4 || (decide (8 ≤ len) && decide (len ≤ 768)))

/-- Would a REG_WRITE of the loader return DECODE or DENIED, or does R459 forbid it? -/
def State.loadDenied (s : State) (size a : Nat) : Bool :=
  badForm true a size || coreOnly a || inPush a || (decide (0xE0000 ≤ a) && decide (a < 0xF0000)) ||
    (inAperture a && s.get (STAFF_PAGE.PAGE.of loaderInit) == 3) ||
    (match findReg (slotOf a) with
      | some r => queuedRegs.contains r.base || r.base == GLB_MODE_REQ.reg.base || r.base == GLB_RST_CMD.reg.base
      | none => false)

/-- A REG_WRITE entry (R459). -/
def State.loadReg (s : State) (e : List Nat) : State × Nat :=
  let a := beAt e 0 4
  let op := beAt e 4 1
  let v := beAt e 8 8
  if 2 ^ 20 ≤ a ∨ (op ≠ 1 ∧ op ≠ 2) ∨ zeroAt e 5 3 = false then (s, irSection)
  else if s.loadDenied (op - 1) a then (s, irDenied)
  else
    let v := if op = 1 then (v % 2 ^ 32) * (if a % 8 = 4 then 2 ^ 32 else 1) else v
    let s := (s.accessAt loaderInit true a (op - 1) v 0).1
    ({ s with boot.wrote := slotOf a :: s.boot.wrote }, irOk)

/-- A forwarding-database or flow entry, applied as INSERT. -/
def State.loadFdb (s : State) (e : List Nat) : State × Nat :=
  let t := s.fdbCmd loaderInit 1 [beAt e 0 8, beAt e 8 4]
  if zeroAt e 12 4 then (t, if t.on (BR_FDB_RES.REFUSED.of loaderInit) then irSection else irOk) else (s, irSection)
def State.loadFlow (s : State) (e : List Nat) : State × Nat :=
  let key := (List.range 5).map (fun w => leNat ((e.drop (8 * w)).take 8))
  let t := s.flowCmd loaderInit 1 (key ++ [beAt e 40 2])
  if zeroAt e 42 6 then (t, if t.on (CLS_FLOW_RES.REFUSED.of loaderInit) then irSection else irOk) else (s, irSection)

/-- Bytes written to the staff room from byte offset `a`. -/
def State.staffBytes (s : State) (a : Nat) : List Nat → State
  | [] => s
  | b :: bs => (s.staffPut (a / 8) (setBits (s.staffPeek (a / 8)) (8 * (a % 8)) 8 b)).staffBytes (a + 1) bs

/-- A STAFF body. -/
def State.loadStaff (s : State) (b : List Nat) : State × Nat :=
  if beAt b 0 4 + (b.length - 4) ≤ 0x30000 then (s.staffBytes (beAt b 0 4) (b.drop 4), irOk) else (s, irSection)

/-- A RULES entry for bank `bank`, applied as COMMIT. -/
def State.loadRule (s : State) (bank : Nat) (e : List Nat) : State × Nat :=
  let i := beAt e 0 2
  let words (o : Nat) : List Nat := (List.range 8).map (fun w => leNat ((e.drop (o + 8 * w)).take 8))
  let w := 1 + bank * 4 + (if i = 0xFFFF then 8 else i % 4096 * 16)
  let t := s.ruleCmd loaderInit w (words 8 ++ words 72 ++ [beAt e 136 8, beAt e 144 8])
  if zeroAt e 2 6 && (i == 0xFFFF || decide (i < 4096)) then
    (t, if t.on (CLS_RULE_RES.REFUSED.of loaderInit) then irSection else irOk)
  else (s, irSection)

/-- A ROSTER entry, applied as INSERT; one refused with FULL or BANK_OFF is skipped (R459). -/
def State.loadNbr (s : State) (e : List Nat) : State × Nat :=
  let id := beAt e 0 8
  let interval := beAt e 8 4
  let dest := beAt e 12 1
  if zeroAt e 13 3 = false ∨ 2 ^ 28 ≤ interval ∨ 7 < dest then (s, irSection)
  else
    match s.nbrFind id with
    | (s, .entry i o) =>
      (s.nbrWrite i o.st { o with interval := interval, dest := dest, st := if o.st = nbLate then nbPresent else o.st }, irOk)
    | (s, .way i) => (s.nbrWrite i nbUnused ⟨id, 0, nbExpected, dest, false, 0, s.get ROLL_BELL.BELL, interval, 0, 0, 0⟩, irOk)
    | (s, _) => (s.ldrEvt LDR_EVT.ROSTER_SKIP, irOk)

/-- A FIRMWARE body for core `c`. -/
def State.loadCore (s : State) (c : Nat) (b : List Nat) : State × Nat :=
  let o := beAt b 0 4
  if o + (b.length - 4) ≤ 262144 then
    ({ s with boot.coreMem := memWrite s.boot.coreMem (262144 * c + o) (b.drop 4) }.onCore c (fun q => { q with fw := true }), irOk)
  else (s, irSection)

/-- A ROLES entry; `target` is the image's TARGET. -/
def State.loadRole (s : State) (target : Nat) (e : List Nat) : State × Nat :=
  let u := beAt e 0 2
  let o := beAt e 2 1
  let f := beAt e 3 1
  if unitValid u && (decide (o < 8) || o == 0xF) && (decide (1 ≤ f) && decide (f ≤ 3) || (f == 4 && target == 1)) then
    ({ s with boot.roles := s.boot.roles.filter (fun r => r.1 != u) ++ [(u, (o, f))] }, irOk)
  else (s, irSection)

/-- Apply `f` to each entry of `n` bytes until one fails. -/
def applyEntries (f : State → List Nat → State × Nat) (n : Nat) : Nat → State → List Nat → State × Nat
  | 0, s, _ => (s, irOk)
  | k + 1, s, bs =>
    match f s (bs.take n) with
    | (s, 1) => applyEntries f n k s (bs.drop n)
    | r => r

/-- A TIMETABLE body: entries from entry 0, checked as SWITCH checks them (R146); ACTIVATE acts at the end of START. -/
def State.loadGcl (s : State) (p : Nat) (b : List Nat) : State × Nat :=
  let n := p % 8
  let l := getBits p 3 1
  let cnt := b.length / 8
  let s := s.forEach (List.range cnt) (fun s i =>
    let w := (beAt b (8 * i) 8).land (rwOf PORT_GCL0_E.reg)
    s.setRg (if l = 0 then PORT_GCL0_E.reg.key n i else PORT_GCL1_E.reg.key n i) w)
  if s.listBad n l cnt then (s, irSection)
  else if bitAt p 4 then
    ({ s with boot.activate := s.boot.activate.filter (fun a => a.1 != n) ++ [(n, (l, cnt))] }, irOk)
  else (s, irOk)

/-- A whole section body, by its type and parameter. -/
def State.loadBody (s : State) (target ty p : Nat) (b : List Nat) : State × Nat :=
  let each (f : State → List Nat → State × Nat) : State × Nat :=
    applyEntries f (entryBytes ty p) (b.length / entryBytes ty p) s b
  match ty with
  | 1 => each State.loadReg
  | 2 => if p = 1 then each State.loadFdb else if p = 2 then each State.loadFlow else s.loadStaff b
  | 3 => each (fun s e => s.loadRule p e)
  | 4 => s.loadGcl p b
  | 5 => each State.loadNbr
  | 6 => s.loadCore p b
  | _ => each (fun s e => s.loadRole target e)

/-- How the walk over an image stands: the state that its sections leave, the result code (0 while bytes are missing), and
the failing section, 0xFFFF outside the sections. -/
structure ImgWalk where
  s : State
  code : Nat
  sec : Nat

/-- The trailer, after every section (R457, R460): `done` bytes lie before it. -/
def State.walkEnd (s : State) (img : List Nat) (done : Nat) : ImgWalk :=
  let n := hdrLen img
  if done + 8 ≠ n then ImgWalk.mk s irSection 0xFFFF
  else if img.length < n then ImgWalk.mk s 0 0xFFFF
  else if zeroAt img (n - 4) 4 = false then ImgWalk.mk s irSection 0xFFFF
  else if crc32c (img.take (n - 8)) ≠ beAt img (n - 8) 4 then ImgWalk.mk s irImgCrc 0xFFFF
  else
    let dg := digestWords (img.take (n - 8))
    let is (td : List Nat) : Bool := !unsetDigest td && dg == td
    if s.lifeCycle = 2 ∧ (is s.ledger.td0 || is s.ledger.td1) = false then ImgWalk.mk s irDigest 0xFFFF
    else ImgWalk.mk s irOk 0xFFFF

/-- Apply sections from byte `off` on, `k` being the number of the first (R459): each passes the FLASH tap and is checked when
its body ends. -/
def State.walkSections (img : List Nat) (tap : Bool) : Nat → State → Nat → Nat → ImgWalk
  | 0, s, off, _ => s.walkEnd img off
  | n + 1, s, off, k =>
    let h := (img.drop off).take 16
    let len := beAt h 4 4
    let whole := 16 + padTo8 len
    if hdrLen img < off + 24 then ImgWalk.mk s irSection k
    else if img.length < off + 16 then ImgWalk.mk s 0 k
    else if secForm h = false ∨ hdrLen img < off + whole + 8 then ImgWalk.mk s irSection k
    else if img.length < off + whole then ImgWalk.mk s 0 k
    else
      let b := (img.drop (off + 16)).take len
      let s := if tap then s.crcTapFlash off ((img.drop off).take (16 + len)) else s
      match s.loadBody (hdrTarget img) (beAt h 0 1) (beAt h 8 4) b with
      | (s, 1) =>
        if crc32c b ≠ beAt h 12 4 ∨ zeroAt img (off + 16 + len) (padTo8 len - len) = false then ImgWalk.mk s irSection k
        else State.walkSections img tap n s (off + whole) (k + 1)
      | (s, c) => ImgWalk.mk s c k

/-- Apply an image with a valid header. -/
def State.walkImage (s : State) (tap : Bool) (img : List Nat) : ImgWalk :=
  State.walkSections img tap (hdrSections img) s 64 0

/-- Where the complete sections of an image prefix lie: offset and bytes, padding left out. -/
def sectionSpans (img : List Nat) : Nat → Nat → List (Nat × Nat)
  | 0, _ => []
  | n + 1, off =>
    let len := beAt (img.drop off) 4 4
    if img.length < off + 16 + padTo8 len then [] else (off, 16 + len) :: sectionSpans img n (off + 16 + padTo8 len)

/-- Does an image hold a ROSTER section (R451 step 4)? -/
def hasRoster (img : List Nat) : Bool :=
  (sectionSpans img (hdrSections img) 64).any (fun p => beAt img p.1 1 == 5)

/-! The load of START (R451 step 4, R463). -/

/-- The loader's copies of registers go. -/
def State.dropLoader (s : State) : State :=
  { s with regs := s.regs.filter (fun e => decide (e.1 < (loaderInit + 1) * copyStride)) }

/-- The result code of slot `n`. -/
def State.slotResult (s : State) (n code : Nat) : State :=
  if n = 0 then s.put LDR_STAT.RESULT0 code else s.put LDR_STAT.RESULT1 code

/-- The load of slot `n` has passed every check: its read settings and identity are shown, and START will enter its TARGET. -/
def State.loaded (s : State) (n : Nat) (img : List Nat) : State :=
  let s := (s.dropLoader.slotResult n irOk).put LDR_STAT.SLOT n
  let s := (s.put LDR_STAT.LOADED 1).put LDR_STAT.IMG_GEN (hdrGen img)
  let s := (s.put NVM_CFG.NVM_DIV (hdrDiv img)).put NVM_CFG.RD_MODE (hdrMode img)
  let s := (s.put NVM_CFG.ADDR4 (hdrAddrBytes img - 3)).put NVM_CFG.DUMMY (hdrDummy img)
  { s with boot.target := hdrTarget img, boot.cause := 1, boot.wrote := [] }

/-- The load of slot `n` failed (R461): `s` is the state before it, and the registers that the load has written take their reset
values. -/
def State.loadFailed (s : State) (n : Nat) (w : ImgWalk) : State :=
  let s := s.forEach w.s.boot.wrote (fun s a => s.setRg a (resetWord a).toNat)
  let s := if w.s.on LDR_EVT.ROSTER_SKIP then s.ldrEvt LDR_EVT.ROSTER_SKIP else s
  ((s.slotResult n w.code).put LDR_STAT.FAIL_SEC w.sec).ldrEvt LDR_EVT.LOAD_FAIL

/-- Load the slots of a list in order until one passes; the second is a fallback (R463). -/
def State.loadSlots : List (Nat × List Nat) → Bool → State → State
  | [], _, s => { s with boot.target := 3, boot.cause := 4 }
  | (n, img) :: more, second, s =>
    let s := if second then (s.put LDR_STAT.FALLBACK 1).ldrEvt LDR_EVT.FALLBACK else s
    let w := s.walkImage true img
    if w.code = irOk then w.s.loaded n img
    else State.loadSlots more true (s.loadFailed n w)

/-- IMAGE_LOAD: both headers are read, a slot is selected and its image applied (R451, R461 to R463). -/
def State.imageLoad (s : State) (flash0 flash1 : List Byte) : State :=
  let s := s.afterRead
  let h0 := flashBytes flash0 64
  let h1 := flashBytes flash1 64
  let r0 := s.hdrCheck h0
  let r1 := s.hdrCheck h1
  let slots := if r0 = irOk ∧ r1 = irOk then (if 0 < wrapDiff 32 (hdrGen h1) (hdrGen h0) then [1, 0] else [0, 1])
    else if r0 = irOk then [0] else if r1 = irOk then [1] else []
  let order := slots.map (fun n => (n, if n = 0 then flashBytes flash0 (hdrLen h0) else flashBytes flash1 (hdrLen h1)))
  if s.mode = 0 ∧ s.chip.start.ledgerDone = true ∧ s.chip.start.imageDone = false ∧
      (s.chip.start.marchDone = true ∨ order.all (fun i => !hasRoster i.2) = true) then
    let s := { s with chip.start.imageDone := true }
    let s := s.slotResult 0 (if r0 = irOk then irStandby else r0)
    let s := s.slotResult 1 (if r1 = irOk then irStandby else r1)
    if order.isEmpty then { s with boot.target := 3, boot.cause := 3 } else State.loadSlots order false s
  else s

/-! The end of START (R451 step 5). -/

/-- A timetable loaded with ACTIVATE becomes the active list; it runs where GCL_CFG.EN is 1 from the next cycle start. -/
def State.activate (s : State) (a : Nat × (Nat × Nat)) : State :=
  let s := (s.put PORT_GCL_STAT.ACTIVE a.2.1 a.1).put PORT_GCL_STAT.VALID 1 a.1
  s.onPort a.1 (fun p => { p with gclCount := a.2.2 })

/-- Every unit's generation becomes the low 16 bits of the boot counter (R21); ROLES entries take effect. -/
def State.startRoles (s : State) : State :=
  let g := BitVec.ofNat 16 (s.get LDG_STAT.BOOT_COUNT)
  let s := s.forEach allUnits (fun s u => s.setRole u { s.role u with gen := g })
  s.forEach s.boot.roles (fun s r =>
    s.setRole r.1 { s.role r.1 with owner := ownerOf r.2.1, func := (UnitFunc.ofCode r.2.2).getD .idle })

/-- POOL_BUILD: step 5 of START, when steps 2 to 4 have ended. -/
def State.poolBuild (s : State) : State :=
  let st := s.chip.start
  if s.mode = 0 ∧ st.countDone = true ∧ st.marchDone = true ∧ st.imageDone = true ∧ st.built = false then
    let s := s.buildPools.startRoles
    let s := s.forEach s.boot.activate State.activate
    let s := s.forEach [0, 1] (State.coreStart (rom := s.boot.target = 3))
    { s with chip.start.built := true }
  else s

/-! Flash commands in steps (R465). -/

/-- NVM_SCK cycles of one step at divider `d`: at most 1,990 ns of SVC_CK cycles at 1.2 GHz. -/
def stepCycles (d : Nat) : Nat := 2388 / d

/-- The base on which VERIFY checks an image, as START would apply it; it is discarded. -/
def State.verifyBase (s : State) : State :=
  let r := { s.mainReset with chip.mainReset := false, ledger.td0 := s.ledger.td0, ledger.td1 := s.ledger.td1,
                              ledger.genMin := s.ledger.genMin }
  r.setRg (LDG_STAT.reg.key 0 0) (s.rg (LDG_STAT.reg.key 0 0))

/-- VERIFY ends with a result for the bytes read. -/
def State.verifyEnd (s : State) (j : NvmJob) (img : List Nat) (code : Nat) (whole : Bool) : State :=
  let dg := digestWords (img.take (img.length - 8))
  let s := (s.put NVM_STAT.V_RESULT code).put NVM_STAT.V_SLOT (getBits j.word 2 1)
  let s := s.put NVM_STAT.V_GEN (hdrGen img)
  let s := s.put NVM_STAT.TD0_MATCH (b2n (whole && dg == s.ledger.td0))
  let s := s.put NVM_STAT.TD1_MATCH (b2n (whole && dg == s.ledger.td1))
  { s.put NVM_STAT.BUSY 0 with nvm := none }.ldrEvt LDR_EVT.NVM_DONE

/-- VERIFY has read on: the header and then the image are checked as far as they are read. -/
def State.verifyRead (s : State) (j : NvmJob) (old : List Nat) : State :=
  match j.phase with
  | .header =>
    if j.done < j.total then { s with nvm := some j }
    else
      let c := s.verifyBase.hdrCheck j.bytes
      if c = irOk then
        let h := j.bytes
        let lines := [1, 1, 2, 4].getD (hdrMode h) 1
        let lead := 8 * (1 + hdrAddrBytes h) + hdrDummy h
        { s with nvm := some (NvmJob.mk j.word .image [] 0 (lead + 8 * hdrLen h / lines) lead lines (hdrDiv h) 0) }
      else s.verifyEnd j j.bytes c false
  | _ =>
    let fresh := (sectionSpans j.bytes (hdrSections j.bytes) 64).drop (sectionSpans old (hdrSections j.bytes) 64).length
    let s := s.forEach fresh (fun s p => s.crcTapFlash p.1 ((j.bytes.drop p.1).take p.2))
    let c := if j.bytes.length < 64 then 0 else (s.verifyBase.walkImage false j.bytes).code
    if c = 0 then { s with nvm := some j } else s.verifyEnd j j.bytes c (decide (hdrLen j.bytes ≤ j.bytes.length))

/-- FLASH_STEP: one step of the running flash command; `bytes` are what the flash drives in it. -/
def State.nvmStep (s : State) (bytes : List Byte) : State :=
  match s.nvm with
  | none => s
  | some j =>
    let d := min j.total (j.done + stepCycles j.div)
    match j.phase with
    | .poll => s
    | .send =>
      let s := s.put NVM_STAT.WP 1
      { s with nvm := some (if d < j.total then { j with done := d } else { j with done := d, phase := .poll, startAt := s.frc.toNat }) }
    | _ =>
      let have_ := (d - j.lead) * j.lines / 8
      let got := flashBytes bytes (have_ - j.bytes.length)
      s.verifyRead { j with done := d, bytes := j.bytes ++ got } j.bytes

/-- NVM_DONE: the status poll of a bell finds the write done, or 4,000 ms have passed (R465). -/
def State.nvmDone (s : State) (timeout : Bool) : State :=
  match s.nvm with
  | some j =>
    if j.phase = .poll then
      let s := if timeout then s.advanceTo (j.startAt + 4000000000) else s
      let s := (s.put NVM_STAT.BUSY 0).put NVM_STAT.WP 0
      { s with nvm := none }.ldrEvt (if timeout then LDR_EVT.NVM_FAIL else LDR_EVT.NVM_DONE)
    else s
  | none => s

end Sys2Proof.Machine
end

