-- ==== Sys2Proof/Machine/Bell.lean ====
section
/-! DEFINITION. The bell (R81 to R102, R546): where the next edge falls, what an edge does, the report card, and when a step
of a long operation may run. -/

namespace Sys2Proof.Machine

open Sys2Proof

/-! The grid (R81, R84, R86). -/

/-- An edge: its FRC, its time on the grid, and whether it is the re-phase edge. -/
structure Edge where
  frc : Nat
  grid : Nat
  rephase : Bool
  deriving DecidableEq, Repr

/-- The next edge. In ARMED a free-running edge less than PERIOD before the boundary is suppressed (R84). -/
def State.nextEdge (s : State) : Edge :=
  if s.on GLB_BELL_STAT.SRC then ⟨s.frcAtSt (s.bell.edgeGrid + s.bell.period), s.bell.edgeGrid + s.bell.period, false⟩
  else
    let g := s.bell.origin + (s.bell.k + 1) * s.bell.period
    if s.on GLB_BELL_STAT.ARMED && decide (s.bell.rephaseAt < s.stNsAt g + s.bell.period) then
      ⟨s.frcAtSt s.bell.rephaseAt, s.bell.rephaseAt, true⟩
    else ⟨g, g, false⟩

/-- Is synchronized time valid at edge `e` (R98)? -/
def State.edgeValid (s : State) (e : Edge) : Bool := e.rephase || s.on GLB_BELL_STAT.SRC

/-- Does edge `e` end the term (R82, R85)? -/
def State.endsTerm (s : State) (e : Edge) : Bool :=
  e.rephase || decide (s.bell.termBells ≤ s.get GLB_TERM_BELL.INDEX + 1)

/-- The boundary of R84 for an edge at synchronized time `st`: the first multiple of PERIOD × TERM_BELLS that lies at least
2 × PERIOD later. -/
def State.rephaseFor (s : State) (st : Nat) : Nat :=
  let term := s.bell.period * s.bell.termBells
  (st + 2 * s.bell.period + term - 1) / term * term

/-! The report card (R96 to R99). -/

/-- The counters of the card, section by section in the order of R99: a counter of unit `i`, with how many units and how many
slots, and the 8-byte slots a unit takes. -/
def cardSections : List (Fld × Nat × Nat × Nat) := [
  (PORT_CNT.COUNT, 8, 32, 32), (RAD_CNT.COUNT, 3, 32, 32), (MEM_CNT.COUNT, 31, 1, 1)]
def cardSections2 : List (Fld × Nat × Nat × Nat) := [
  (CLS_CNT.COUNT, 32, 1, 1), (EGR_CNT.COUNT, 8, 25, 32), (MTR_CNT.COUNT, 64, 2, 2), (PART_CNT.COUNT, 8, 8, 8),
  (INT_CNT.COUNT, 8, 1, 1), (TIME_CNT.COUNT, 8, 1, 1), (ROLL_CNT.COUNT, 16, 1, 1), (SC_CNT.COUNT, 8, 1, 1),
  (PROT_CNT.COUNT, 5, 1, 1), (PWR_CNT.COUNT, 3, 1, 1), (CRC_CNT.COUNT, 8, 1, 1)]
def poolSection : Fld × Nat × Nat × Nat := (POOL_CNT.COUNT, 5, 8, 8)

/-- The words of one section. -/
def State.sectionWords (s : State) (x : Fld × Nat × Nat × Nat) : List Nat :=
  (List.range x.2.1).flatMap (fun i =>
    (List.range x.2.2.2).map (fun j => if j < x.2.2.1 then s.get x.1 i j else 0))

/-- The body of the card, from 0x0040 to 0x1FF7. -/
def State.cardBody (s : State) : List Nat :=
  [s.get GLB_STALE_CNT.COUNT, s.bell.cmdRefused, s.bell.stepsRun, s.bell.idleBells] ++ List.replicate 20 0 ++
    cardSections.flatMap s.sectionWords ++ [0] ++
    s.sectionWords poolSection ++ List.replicate 24 0 ++
    cardSections2.flatMap s.sectionWords ++ List.replicate 7 0

/-- Every register of the card's counters. -/
def cardKeys : List Nat :=
  GLB_STALE_CNT.COUNT.key 0 0 ::
    (cardSections ++ poolSection :: cardSections2).flatMap (fun x =>
      (List.range x.2.1).flatMap (fun i => (List.range x.2.2.1).map (fun j => x.1.key i j)))

/-- Has a counter of the card reached its maximum (R96)? -/
def State.cardSat (s : State) : Bool :=
  s.get GLB_STALE_CNT.COUNT == 2 ^ 32 - 1 ||
    (cardSections ++ poolSection :: cardSections2).any (fun x => (s.sectionWords x).any (· == 2 ^ 48 - 1))

/-- The longest fixed work of the term that ends (R89): within 6,000 ns, and else open. -/
def State.maxFixed (s : State) : Nat := (Config.word s.free).toNat % 6001

/-- The longest wait at the head of the command queue (R94): within 8,000 ns, and else open. -/
def State.cmdWaitMax (s : State) : Nat := (Config.word (s.free + 1)).toNat % 8001

/-- The header of the card of the term that ends at edge `e` (R98). -/
def State.cardHeader (s : State) (e : Edge) : List Nat :=
  let b := s.bell
  let valid := s.edgeValid e
  let flags := b2n b.startValid + b2n valid * 2 + b2n e.rephase * 4 + b2n b.changed * 8 + b2n s.cardSat * 16 + b2n b.restart * 32
  [1 + 0x2000 * 2 ^ 16 + s.get GLB_TERM_NUM.TERM * 2 ^ 32,
    b.firstBell + (s.get GLB_TERM_BELL.INDEX + 1) * 2 ^ 32,
    if b.startValid then b.startSt else 0,
    if valid then s.stNsAt e.frc else 0,
    b.startFrc, e.frc,
    flags + b.period * 2 ^ 32,
    b.termBells + s.maxFixed * 2 ^ 16]

/-- The card: header, body, and the trailer with its CRC-32C. -/
def State.card (s : State) (e : Edge) : List Nat :=
  let ws := s.cardHeader e ++ s.cardBody
  ws ++ [crcWords ws + s.get GLB_TERM_NUM.TERM * 2 ^ 32]

/-- First staff-room word of card buffer `b` (R97). -/
def cardWord (b : Nat) : Nat := (0x8000 + b * 0x2000) / 8

/-- Counters of the term that no card slot shows take zero with the others (R96). -/
def State.zeroHidden (s : State) : State :=
  let s := s.forEach (List.range 8) (fun s p => s.put PART_STAT.RX_DROP_OTHER 0 p)
  let s := s.forEach [0, 1] (fun s c => s.onCore c (fun q => { q with restarts := 0 }))
  { s with ledger.fwUsed := 0, mem.ceTerm := [], mem.ueTerm := [],
           bell.stepsRun := 0, bell.cmdRefused := 0, bell.idleBells := 0 }

/-- The 1,024 words of the staff room from word `w` on, addresses counted from there. -/
def State.staffPart (s : State) (w : Nat) : List Host.Cell :=
  (s.mem.staff.filter (fun c => decide (9 * w ≤ c.1) && decide (c.1 < 9 * (w + 1024)))).map (fun c => (c.1 - 9 * w, c.2))

/-- The firmware of SC1 has not copied the latest card into its history slot before this boundary (R100, R419). -/
def State.histMissed (s : State) : Bool :=
  s.on GLB_CARD_STAT.VALID && s.on SC_SVC_CFG.HIST_EN && s.get SC_STAT.STATE 1 == 1 &&
    s.staffPart (cardWord (s.get GLB_CARD_STAT.LATEST)) != s.staffPart (0x1800 + s.get GLB_CARD_STAT.LATEST_TERM % 16 * 1024)
def State.histCheck (s : State) : State := if s.histMissed then s.evt SC_EVT.HIST_MISS 0xB0 else s

/-- The statistics latch of a term boundary (R89, R96, R97). -/
def State.writeCard (s : State) (e : Edge) : State :=
  let buf := 1 - s.get GLB_CARD_STAT.LATEST
  let c := s.card e
  let fixed := s.maxFixed
  let wait := s.cmdWaitMax
  let s := s.staffRun (cardWord buf) c
  let s := (s.put GLB_CARD_STAT.LATEST buf).put GLB_CARD_STAT.VALID 1
  let s := s.put GLB_CARD_STAT.LATEST_TERM (s.get GLB_TERM_NUM.TERM)
  let s := (s.put GLB_BELL_STAT.MAX_FIXED fixed).put GLB_STEP_STAT.CMD_WAIT_MAX wait
  let s := { s with free := s.free + 2 }
  (s.forEach cardKeys (fun s k => s.setRg k 0)).zeroHidden.raise 0x28

/-- Is no card written at this edge: in HALT, and in a sleep after E1 (R96, R512)? -/
def State.noCard (s : State) : Bool := s.mode == 5 || (s.mode == 4 && s.pwr.e1 && !s.wakeDue)

/-! The numbers (R82 to R88). -/

/-- Does the fixed work of the bell run: not in HALT, and not in DOZE and WATCH (R89, R511)? -/
def State.fixedRuns (s : State) : Bool := s.mode != 5 && !s.dozing

/-- PERIOD and TERM_BELLS take effect (R88), also where a second write has brought back the values in force: the spec does not say
that such a change is dropped (DESIGN CHOICE, log entry 132). -/
def State.applyBellCfg (s : State) (e : Edge) : State :=
  { s.put GLB_BELL_STAT.CFG_PEND 0 with
    bell.period := s.get GLB_BELL_CFG.PERIOD, bell.termBells := s.get GLB_BELL_CFG.TERM_BELLS,
    bell.origin := e.frc, bell.k := 0, bell.changed := true }

/-- The bell number and the time sample of edge `e` (R82, R98). -/
def State.edgeCount (s : State) (e : Edge) : State :=
  let valid := s.edgeValid e
  let st := s.stNsAt e.frc
  let s := s.put GLB_BELL_NUM.BELL (s.get GLB_BELL_NUM.BELL + 1)
  let s := s.setRg (GLB_BELL_FRC.reg.key 0 0) e.frc
  let s := s.setRg (GLB_BELL_ST.reg.key 0 0) (if valid then st else 0)
  let s := s.put GLB_BELL_STAT.ST_VALID (b2n valid)
  { s with bell.k := s.bell.k + 1, bell.edgeGrid := e.grid }

/-- The bell source at edge `e`: the re-phase (R85), and the way back to the free-running grid (R83, R86). -/
def State.edgeSource (s : State) (e : Edge) : State :=
  if e.rephase then
    let s := ((s.put GLB_BELL_STAT.SRC 1).put GLB_BELL_STAT.ARMED 0).put GLB_BELL_STAT.REPHASED 1
    { s with bell.k := e.grid / s.bell.period, bell.unalign := false }.raise 0x29
  else if s.bell.unalign then
    { s.put GLB_BELL_STAT.SRC 0 with bell.unalign := false, bell.origin := e.frc, bell.k := 0, bell.edgeGrid := e.frc }
  else s

/-- The term number and the bell of the term at an edge that ends the term, where `term` says so (R82). -/
def State.edgeTerm (s : State) (e : Edge) (term valid : Bool) (st : Nat) : State :=
  if term then
    let s := (s.put GLB_TERM_NUM.TERM (s.get GLB_TERM_NUM.TERM + 1)).put GLB_TERM_BELL.INDEX 0
    { s with bell.firstBell := s.get GLB_BELL_NUM.BELL, bell.startFrc := e.frc, bell.startSt := st, bell.startValid := valid,
             bell.changed := false, bell.restart := false }
  else s.put GLB_TERM_BELL.INDEX (s.get GLB_TERM_BELL.INDEX + 1)

/-- FREE becomes ARMED at an edge at synchronized time `st` (R83, R84). -/
def State.edgeArm (s : State) (st : Nat) : State :=
  if !s.on GLB_BELL_STAT.SRC && !s.on GLB_BELL_STAT.ARMED && s.on GLB_BELL_CFG.ALIGN && s.timeLocked &&
      !s.on GLB_BELL_STAT.CFG_PEND then
    { s.put GLB_BELL_STAT.ARMED 1 with bell.rephaseAt := s.rephaseFor st }
  else s

/-- Bell and term numbers, the time sample and the grid at edge `e`. The edge that returns the source to FREE, or that applies a
waiting configuration, may itself arm the source: the spec is silent (DESIGN CHOICE, log entry 131). -/
def State.edgeNumbers (s : State) (e : Edge) : State :=
  let term := s.endsTerm e
  let st := s.stNsAt e.frc
  let apply := term && s.on GLB_BELL_STAT.CFG_PEND && s.fixedRuns
  let t := ((s.edgeCount e).edgeSource e).edgeTerm e term (s.edgeValid e) st
  (if apply then t.applyBellCfg e else t).edgeArm st

/-- BELL_OUT at an edge (R87): OUT_EN takes effect, and the pulse stands from 4 to 260 cycles after the edge. -/
def State.bellOut (s : State) (e : Edge) : State :=
  if s.on GLB_BELL_CFG.OUT_EN then { s with bell.outEn := true, bell.outLevel := false, bell.outFallAt := some (e.frc + 260) }
  else { s with bell.outEn := false, bell.outLevel := false, bell.outFallAt := none }

/-- BELL_OUT_FALL (R87). -/
def State.bellOutFall (s : State) : State :=
  match s.bell.outFallAt with
  | some t => { s.advanceTo t with bell.outLevel := false, bell.outFallAt := none }
  | none => s

/-! Edge-applied changes (R18, R33, R38, R492, R493). -/

/-- Give unit `u` the role of a change that takes effect (R18, R20). -/
def State.applyRole (s : State) (u : Nat) (owner : Option (Fin 8)) (func : UnitFunc) : State :=
  s.setRole u ⟨owner, func, (s.role u).gen + 1, none⟩

/-- DIAG is replaced by OWNED on entry to SERVICE from TEST (R38). -/
def notDiag (toService : Bool) (f : UnitFunc) : UnitFunc := if toService && f == .diag then .owned else f

/-- The approved change applies (R493); answers the unit whose role it changes. A change to RETIRED that applies in SLEEP, at E1,
does not enter HALT: R33 has no such row (DESIGN CHOICE, log entry 129). -/
def State.applyProposal (s : State) (toService : Bool) : State × Option Nat :=
  if s.propKind = pkUnitOwner then
    let u := s.propTarget
    let v := s.propVal 0
    if getBits v 16 16 ≠ (s.role u).gen.toNat then ((s.stale.propNone).protEvt PROT_EVT.APPLY_FAIL, none)
    else
      let s := if (s.role u).pend.isSome then s.put GLB_ROLE_STAT.BUSY 1 else s
      let f := (UnitFunc.ofCode (getBits v 4 4)).getD .idle
      ((s.applyRole u (ownerOf (getBits v 0 4)) (notDiag toService f)).propApplied, some u)
  else
    let retire := s.propKind == pkLifeCycle && s.propVal 0 == 4 && s.mode != 0 && s.mode != 4 && s.mode != 5
    let s := s.propEffect.propApplied
    (if retire then s.haltEvent 8 else s, none)

/-- The role change of R38 for unit `u`, and what it refuses; then the accepted change that waited. Answers whether the role
changed. -/
def State.roleEdge (toService : Bool) (s : State) (u : Nat) : State × Bool :=
  let r := s.role u
  if toService && r.func == .diag then
    let s := if r.pend.isSome then s.put GLB_ROLE_STAT.BUSY 1 else s
    (s.applyRole u r.owner .owned, true)
  else
    match r.pend with
    | none => (s, false)
    | some (o, f) =>
      if toService && f == .diag then ((s.setRole u { r with pend := none }).put GLB_ROLE_STAT.RANGE_REFUSED 1, false)
      else (s.applyRole u o f, true)

/-- Every unit at an edge, `done` apart; answers the units whose roles changed. -/
def State.rolesEdge (s : State) (toService : Bool) (done : Option Nat) : State × List Nat :=
  allUnits.foldl (fun (a : State × List Nat) u =>
    if done == some u then (a.1, u :: a.2)
    else
      let r := State.roleEdge toService a.1 u
      (r.1, if r.2 then u :: a.2 else a.2)) (s, [])

/-- Ports in loopback are disabled on entry to SERVICE from TEST (R38). -/
def State.endLoops (s : State) : State :=
  s.forEach (List.range 8) (fun s n =>
    if s.on PORT_MAC_CTRL.LOOP n then ((s.put PORT_MAC_CTRL.LOOP 0 n).put PORT_MAC_CTRL.EN 0 n).linkEval n else s)

/-- START is entered from RECOVERY (R452): what main-domain reset would reset is reset, but for FRC, the bell and its
registers, GLB_RST_CAUSE and the always-on registers. An aligned grid goes on free-running from this edge. -/
def State.restart (s : State) : State :=
  let keep := [GLB_BELL_CFG.reg, GLB_BELL_STAT.reg, GLB_BELL_NUM.reg, GLB_TERM_NUM.reg, GLB_TERM_BELL.reg, GLB_BELL_FRC.reg,
    GLB_BELL_ST.reg, GLB_RST_CAUSE.reg].map (fun f => f.key 0 0)
  let r := s.mainReset
  let r := { r with frc := s.frc, bell := s.bell, chip.mainReset := false, chip.rstPend := s.chip.rstPend,
                    chip.start.enteredAt := s.frc.toNat }
  let r := r.forEach keep (fun r k => r.setRg k (s.rg k))
  let r :=
    if r.on GLB_BELL_STAT.SRC then
      let f := r.rg (GLB_BELL_FRC.reg.key 0 0)
      { r.put GLB_BELL_STAT.SRC 0 with bell.unalign := false, bell.origin := f, bell.k := 0, bell.edgeGrid := f }
    else r.put GLB_BELL_STAT.ARMED 0
  (r.put GLB_MODE.CAUSE 2).portsEval

/-- A request that waited takes effect (R33, R37). -/
def State.requestEdge (s : State) : State :=
  let t := s.get GLB_MODE.REQ_TARGET
  let s := s.put GLB_MODE.REQ_PEND 0
  if t = 0 then s.restart
  else
    let s := (s.put GLB_MODE.MODE t).put GLB_MODE.CAUSE 2
    (if t = 2 then s.endLoops else s).portsEval

/-- The mode after START (R451 step 6); the repairs of the start-up march are recorded from now on (R214). -/
def State.leaveStart (s : State) : State :=
  let s := (s.put GLB_MODE.MODE s.boot.target).put GLB_MODE.CAUSE s.boot.cause
  s.repairFlush.portsEval

/-- Does the change that applies at this edge retire the block (R33, R493)? -/
def State.retireDue (s : State) : Bool := s.propDue && s.propKind == pkLifeCycle && s.propVal 0 == 4

/-- E0 and E1 of an entry to sleep, a DOZE that becomes WATCH, and the return to SERVICE (R510, R514, R515, R519). Where the
edge of E0 retires the block, it enters HALT from SERVICE instead (R33). -/
def State.powerEdge (s : State) (e : Edge) : State :=
  let entering := s.pwrState == pwEntering
  if entering && !s.pwr.e0 && s.mode == 2 && !s.retireDue then s.sleepMode
  else if entering && s.pwr.e0 && !s.pwr.e1 then
    let s := { s with pwr.e1 := true, pwr.e1At := e.frc }
    if s.get PWR_STAT.TARGET = 3 then s.deepDrain else s
  else if s.wakeDue then s.serviceReturn
  else if s.pwrState == pwDoze && s.pwr.watchNext then s.watchOn
  else s

/-- Do the edge-applied changes apply at this edge: everywhere but in HALT, and in SLEEP only up to E1 and at the return to
SERVICE (R89, R511, R519)? -/
def State.changesApply (s : State) : Bool :=
  s.mode != 5 && (s.mode != 4 || s.wakeDue || (s.pwrState == pwEntering && s.pwr.e0 && !s.pwr.e1))

/-- Proposals, mode requests and roles at an edge; answers the units whose roles changed. -/
def State.edgeChanges (s : State) : State × List Nat :=
  let pend := s.on GLB_MODE.REQ_PEND
  let due := s.propDue
  let retire := s.retireDue
  let toService := s.mode == 1 && pend && s.get GLB_MODE.REQ_TARGET == 2 && !retire
  let a := if due then s.applyProposal toService else (s, none)
  if a.1.on GLB_MODE.REQ_PEND && a.1.get GLB_MODE.REQ_TARGET == 0 then (a.1.requestEdge, [])
  else
    let s := if a.1.on GLB_MODE.REQ_PEND then a.1.requestEdge else a.1
    let r := s.rolesEdge toService a.2
    (if r.2.isEmpty then r.1 else r.1.portsEval, r.2)

/-! The other fixed work (R89). -/

/-- The bell timers (R355). -/
def State.bellTimer (s : State) (i : Nat) : State :=
  if s.on INT_BTMR.EN i then
    let left := s.get INT_BTMR.LEFT i - 1
    let s := s.put INT_BTMR.LEFT left i
    if left = 0 then
      let s := s.raise (0x20 + i)
      if s.on INT_BTMR.ONESHOT i then s.put INT_BTMR.EN 0 i else s.put INT_BTMR.LEFT (s.get INT_BTMR.PERIOD i) i
    else s
  else s

/-- A pending timetable switch ends where the timetable's role changes (R25). -/
def State.switchStale (changed : List Nat) (s : State) (n : Nat) : State :=
  if changed.contains (0x20 + n) && s.on PORT_GCL_STAT.PEND n then
    (s.put PORT_GCL_STAT.PEND 0 n).evt PORT_GCL_EVT.STALE (gclSrc n) n
  else s

/-- Has synchronized time reached a multiple of CKPT_S since the last edge (R378)? -/
def State.ckptDue (s : State) (st : Nat) : Bool :=
  let u := s.get TIME_CFG.CKPT_S * 1000000000
  u != 0 && decide (s.roll.edgeSt / u < st / u)

/-- The fixed work of a bell: `newGrid` says that the grid changed, `term` that a term ended, `changed` are the units whose
roles changed. -/
def State.fixedWork (s : State) (e : Edge) (newGrid term : Bool) (changed : List Nat) : State :=
  let st := s.stNsAt e.frc
  let s := s.forEach (List.range 8) (State.switchStale changed)
  let s := s.forEach (List.range 8) (State.timetableEdge newGrid)
  let s := s.forEach (List.range 8) State.bellTimer
  let s := s.memEdge.scrubEdge term
  let s := if s.mode = 0 then s else s.repairFlush
  let s := s.rollFlush
  let s := if s.ckptDue st then s.checkpoint st false else s
  let s := s.rollEdge st (s.on GLB_BELL_STAT.ST_VALID)
  let s := s.allocClose.forEach (List.range 8) (State.partEdge changed)
  let s := s.forEach (List.range 16) (State.mbxEdge changed)
  let s := s.forEach [0, 1] State.wdogEdge
  s.servoCheck.heldStepDue

/-- What a term boundary does beside the card: pause watchdogs (R134), proposals that expire (R487), the age sweep (R284). -/
def State.termWork (s : State) : State :=
  let s := (s.forEach (List.range 8) State.wdogTerm).propExpire
  if s.fixedRuns then s.ageSweep else s

/-- Mailbox timeouts do not advance in DOZE and WATCH (R511): the bell of each post moves on with the bell number. -/
def State.mbxSleep (s : State) : State :=
  s.forEach (List.range 16) (fun s m =>
    if s.get MBX_STAT.STATE m = 1 then s.setMbx m { s.mbxOf m with bell := ((s.mbxOf m).bell + 1) % 2 ^ 32 } else s)

/-- How long the fixed work of a bell takes: the 6.0 µs within which it ends (DESIGN CHOICE, log entry 133). -/
def fixedNs : Nat := 6000

/-- The end of the bell before: an unused step budget is counted (R99), and the steps of the new bell count from zero. The budget is
judged when the bell ends, in the modes that take work (DESIGN CHOICE, log entry 134). -/
def State.bellEnds (s : State) : State :=
  let idle := s.bell.steps.isEmpty && s.takesWork && !(List.range 8).any s.stepPending
  { s with bell.idleBells := s.bell.idleBells + b2n idle, bell.steps := [] }

/-- The work of edge `e`, at its own moment. -/
def State.edgeAt (s : State) (e : Edge) : State :=
  let s := s.bellEnds
  let term := s.endsTerm e
  let newGrid := e.rephase || s.bell.unalign || (term && s.on GLB_BELL_STAT.CFG_PEND && s.fixedRuns)
  let s := if term && !s.noCard then s.histCheck.writeCard e else s
  let s := s.edgeNumbers e
  let s := if term then s.termWork else s
  let s := s.bellOut e
  let runs := s.fixedRuns
  let changes := s.changesApply
  let s := if s.dozing then s.mbxSleep else s
  let s := if s.mode = 0 ∧ s.chip.start.built = true then s.leaveStart else s
  let back := s.wakeDue
  let s := s.powerEdge e
  let c := if changes then s.edgeChanges else (s, [])
  let s := if back then c.1 else c.1.keepEdge
  let s := if changes then s.swapEdge else s
  let s := if runs || back then { s.fixedWork e newGrid term c.2 with bell.fixedEnd := e.frc + fixedNs } else s
  s.ledEdge s.bell.k

/-- Do commands wait that the engine may serve once the fixed work of the bell has ended? -/
def State.queueWaits (s : State) : Bool := !s.cmdq.isEmpty && s.mode != 4 && !s.chip.mainReset && !s.chip.mfgTest

/-- `dt` ns pass: commands that waited are served when the fixed work of the bell ends (R94), and a copy that waits in a TX FIFO
and stops being eligible in that time is discarded (R152). -/
def State.pass (s : State) (dt : Nat) : State :=
  let d := s.bell.fixedEnd - s.frc.toNat
  let t := if s.queueWaits && decide (d ≤ dt) then ((s.elapse d).drainQueue).elapse (dt - d) else s.elapse dt
  if dt = 0 then t else t.forEach (List.range 8) State.copyRecheck

/-- The fixed work of the bell has ended, and the commands that waited for it have been served. -/
def State.afterFixed (s : State) : State := s.pass (s.bell.fixedEnd - s.frc.toNat)

/-- BELL_EDGE: time passes to the next edge, and its work is done. -/
def State.bellEdge (s : State) : State :=
  if s.chip.mainReset then s
  else
    let e := s.nextEdge
    (s.pass (e.frc - s.frc.toNat)).edgeAt e

/-- The next edge, where `b` says that it carries the event of a row. -/
def State.edgeIf (s : State) (b : Bool) : State := if b then s.bellEdge else s

/-! When the event of a row falls on the next edge. -/

def State.termNext (s : State) : Bool := s.endsTerm s.nextEdge
def State.rephaseNext (s : State) : Bool := s.nextEdge.rephase

/-- Does bell timer `k` run out at the next edge (R355)? -/
def State.timerNext (s : State) (k : Nat) : Bool := s.fixedRuns && s.on INT_BTMR.EN k && s.get INT_BTMR.LEFT k == 1

/-- Does the watchdog of core `c` expire at the next edge (R414)? -/
def State.wdogNext (s : State) (c : Nat) : Bool :=
  s.fixedRuns && s.coreState c == coreRunning && s.get SC_CTRL.WDOG_BELLS c != 0 && s.get SC_STAT.WDOG_LEFT c == 1

/-- Is request `m` answered with TIMEOUT at the next edge (R427)? -/
def State.mbxNext (s : State) (m : Nat) : Bool :=
  s.fixedRuns && s.get MBX_STAT.STATE m == 1 &&
    decide (s.get SC_SVC_CFG.MBX_TMO_BELLS ≤ (s.get GLB_BELL_NUM.BELL + 1 + 2 ^ 32 - (s.mbxOf m).bell) % 2 ^ 32)

/-- Is a checkpoint requested at the next edge (R378)? -/
def State.ckptNext (s : State) : Bool :=
  s.fixedRuns && (s.get TIME_STAT.STATE == 3 || s.get TIME_STAT.STATE == 4) && s.ckptDue (s.stNsAt s.nextEdge.frc)

/-- Does the proposal expire at the next edge (R487)? -/
def State.expireNext (s : State) : Bool :=
  s.termNext && s.propState == 1 && s.get PROT_PROP_INFO.EXPIRE_TERM == (s.get GLB_TERM_NUM.TERM + 1) % 2 ^ 32

/-- Does a KEEP wake return to WATCH at the next edge (R521)? -/
def State.keepNext (s : State) : Bool := s.pwr.keepLeft == some 1 && s.pwrState == pwActive && s.mode == 2

/-- Does the reset of partition `p` end at the next edge (R302)? -/
def State.resetDoneNext (s : State) (p : Nat) : Bool := s.fixedRuns && s.partState p == partResetting && s.partQuiet p

/-- Is a job of partition `p` retried at the next edge (R325)? -/
def State.retryNext (s : State) (p : Nat) : Bool := s.fixedRuns && (s.part p).held.isSome

/-- Is a held time step applied at the next edge (R368)? -/
def State.heldNext (s : State) : Bool := s.fixedRuns && s.time.heldStep.isSome && (s.bell.unalign || !s.on GLB_BELL_STAT.SRC)

/-! Steps (R93). -/

/-- Steps that operation `code` has started in this bell. -/
def State.stepsOf (s : State) (code : Nat) : Nat := mapGet (fun _ => 0) s.bell.steps code

/-- May operation `code` step in this mode: everywhere but in START, SLEEP and HALT (R95), and the ledger during an entry to
DEEP (R515)? -/
def State.stepMode (s : State) (code : Nat) : Bool :=
  s.takesWork || (code == 5 && s.mode == 4 && s.pwr.deepWait.isSome)

/-- Has the self-timed programming of the last ledger word ended, for the ledger's next step (R92)? -/
def State.programmed (s : State) (code : Nat) : Bool := code != 5 || decide (s.ledger.progEnd ≤ s.frc.toNat)

/-- The operation that steps next, round robin in code order after the one served last (R93, R546). -/
def State.stepNext (s : State) : Option Nat :=
  ((List.range 7).map (fun d => (s.bell.lastStep + d) % 7 + 1)).find? (fun c =>
    s.stepPending c && s.stepMode c && s.programmed c && decide (s.stepsOf c < 4))

/-- Has the command engine had its turn since the last step (R93)? It serves every waiting command when the fixed work ends, so the
queue is empty then; the commands that wait through SLEEP do not hold back the steps of R515 (DESIGN CHOICE, log entry 133). -/
def State.cmdTurn (s : State) : Bool := s.cmdq.isEmpty || s.mode == 4

/-- The length of a step, in ns: the longest that R92 allows (DESIGN CHOICE, log entry 133). -/
def stepNs : Nat := 1990

/-- What starting a step of operation `code` notes. -/
def State.stepNote (s : State) (code : Nat) : State :=
  { s with bell.steps := mapSet (fun _ => 0) s.bell.steps code (s.stepsOf code + 1), bell.lastStep := code,
           bell.stepEnd := s.frc.toNat + stepNs, bell.stepsRun := s.bell.stepsRun + 1 }

/-- The moment from which operation `code` may start a step: the fixed work, the last step, and for the ledger the programming of
the last word have ended. -/
def State.stepStart (s : State) (code : Nat) : State :=
  let s := s.afterFixed
  let s := s.advanceTo s.bell.stepEnd
  if code = 5 then s.advanceTo s.ledger.progEnd else s

/-- One step `f` of operation `code`, after `dt` cycles, or once the fixed work of the bell and the step before have ended (R93). -/
def State.stepRun (s : State) (code : Nat) (f : State → State) : State :=
  if s.stepMode code then
    let s := s.stepStart code
    if s.frc.toNat + stepNs ≤ s.nextEdge.frc ∧ s.cmdTurn = true ∧ s.stepNext = some code then f ((s.stepNote code).pmu evStepRun 1)
    else s
  else s

end Sys2Proof.Machine
end

