-- ==== Sys2Proof/Machine/Run.lean ====
section
/-! DEFINITION. How a command acts: the time before it, the domains it needs, and the next state it answers. -/

namespace Sys2Proof.Machine

open Sys2Proof

/-- The interrupt lines INT_OUT0 to INT_OUT15 (R347). -/
def State.lines (s : State) : BitVec 16 :=
  BitVec.ofNat 16 ((List.range 16).foldl (fun v t => v + b2n (s.intLine t) * 2 ^ t) 0)

/-- What a command that starts in `s` and leaves `t` ends in: the queue is not the command's to change, and the interrupt lines
follow. -/
def State.finish (s t : State) : State := { t with pending := s.pending, intOut := t.lines }

/-- A command that leaves `t` answers a next state. -/
def State.answer (s t : State) : Host.Outcome State Fault Refusal := .next (s.finish t)

/-- Is the always-on island powered, and manufacturing test not entered (R47, R80)? -/
def State.alive (s : State) : Bool := s.chip.aonOn && !s.chip.mfgTest

/-- A command that acts in every state of the main domain, after `dt` cycles. -/
def State.always (s : State) (dt : Nat) (f : State → State) : Host.Outcome State Fault Refusal :=
  s.answer (if s.alive then f (s.pass dt) else s)

/-- A command of the main domain, after `dt` cycles: in main-domain reset only the time passes. -/
def State.main (s : State) (dt : Nat) (f : State → State) : Host.Outcome State Fault Refusal :=
  s.always dt (fun s => if s.chip.mainReset then s else f s)

/-- A command of an engine whose clock is gated in DOZE and WATCH (R506). -/
def State.engine (s : State) (dt : Nat) (f : State → State) : Host.Outcome State Fault Refusal :=
  s.main dt (fun s => if s.dozing then s else f s)

/-- A request on the register port, which runs on REG_CK (R52, R67). -/
def State.portReq (s : State) (dt : Nat) (f : State → State) : Host.Outcome State Fault Refusal :=
  s.main dt (fun s => if s.clkOn 4 then f s else s)

/-- The data of an access. -/
def wdata (a : Access) : Nat := a.data.toNat

/-- A write to the register of `f` at `(i, j)`, `wide` where it has 64 bits, with data `v`. -/
def State.writeReg (s : State) (a : Access) (f : Fld) (i j v : Nat) (eff : Nat → State → State) :
    Host.Outcome State Fault Refusal :=
  s.portReq a.dt (fun s => s.busWrite a (f.key i j) (f.w == 64) v eff)

/-- A write to the command register of `f`, whose command the command engine serves (R94). -/
def State.writeQueued (s : State) (a : Access) (f : Fld) (i v : Nat) : Host.Outcome State Fault Refusal :=
  s.writeReg a f i 0 v (fun _ s => s.queueCmd f.base i a.init.val v)

/-- A read of the register of `f` at element `i` that has an effect. -/
def State.readReg (s : State) (a : Access) (f : Fld) (i : Nat) (eff : State → State × Nat) :
    Host.Outcome State Fault Refusal :=
  s.portReq a.dt (fun s => s.busRead a (f.key i 0) (f.w == 64) eff)

/-- The core that makes an access to a register with a copy for each core (R436). -/
def coreOf (a : Access) : Nat := a.init.val - 0x100

/-- A step of operation `code` (R93). -/
def State.stepOp (s : State) (dt code : Nat) (f : State → State) : Host.Outcome State Fault Refusal :=
  s.main dt (fun s => s.stepRun code f)

/-- The next bell edge, where `b` says that it carries the event of the command. -/
def State.onEdge (s : State) (b : State → Bool) : Host.Outcome State Fault Refusal := s.main 0 (fun s => s.edgeIf (b s))

/-- Lanes of a received stream from the control bit and the byte of each, and from the RXC and RXD of 64-bit words (R105). -/
def laneList (c : List Bool) (b : List Byte) : List Lane := (c.zip b).map (fun e => Lane.of e.1 e.2.toNat)
def wordList (c : List (BitVec 8)) (w : List (BitVec 64)) : List (List Lane) := (c.zip w).map (fun e => wordLanes e.1.toNat e.2.toNat)

/-- Bytes as numbers. -/
def nats (b : List Byte) : List Nat := b.map BitVec.toNat

end Sys2Proof.Machine
end

