-- ==== Sys2Proof/Machine/CmdBell.lean ====
section
/-! DEFINITION. The commands of roles, modes, the bell and the steps (R16 to R42, R81 to R102). -/

namespace Sys2Proof.Machine

open Sys2Proof

/-! Roles and modes -/

/-- ROLE_CMD (R18 to R22, R26). -/
def execRoleCmd (a : Access) (s : State) : Host.Outcome State Fault Refusal :=
  s.writeQueued a GLB_ROLE_CMD.reg 0 (wdata a)

/-- REQUEST_TEST (R33 to R37). -/
def execRequestTest (a : Access) (s : State) : Host.Outcome State Fault Refusal :=
  s.writeReg a GLB_MODE_REQ.reg 0 0 (setBits (wdata a) 0 3 1) (fun _ s => s.modeReq 1)

/-- REQUEST_SERVICE (R33 to R37). -/
def execRequestService (a : Access) (s : State) : Host.Outcome State Fault Refusal :=
  s.writeReg a GLB_MODE_REQ.reg 0 0 (setBits (wdata a) 0 3 2) (fun _ s => s.modeReq 2)

/-- REQUEST_START (R33 to R37). -/
def execRequestStart (a : Access) (s : State) : Host.Outcome State Fault Refusal :=
  s.writeReg a GLB_MODE_REQ.reg 0 0 (setBits (wdata a) 0 3 0) (fun _ s => s.modeReq 0)

/-- REQUEST_SLEEP (R33 to R37). -/
def execRequestSleep (a : Access) (s : State) : Host.Outcome State Fault Refusal :=
  s.writeReg a GLB_MODE_REQ.reg 0 0 (setBits (wdata a) 0 3 4) (fun _ s => s.modeReq 4)

/-- HALT_REQUEST (R33 to R37). -/
def execHaltRequest (a : Access) (s : State) : Host.Outcome State Fault Refusal :=
  s.writeReg a GLB_MODE_REQ.reg 0 0 (setBits (wdata a) 0 3 5) (fun _ s => s.modeReq 5)

/-! The bell -/

/-- BELL_EDGE (R81, R89). -/
def execBellEdge (s : State) : Host.Outcome State Fault Refusal :=
  s.main 0 State.bellEdge

/-- TERM_BOUNDARY: the next edge, where it ends the term (R82, R96). -/
def execTermBoundary (s : State) : Host.Outcome State Fault Refusal :=
  s.onEdge State.termNext

/-- REPHASE_EDGE: the next edge, where it is the re-phase edge (R84, R85). -/
def execRephaseEdge (s : State) : Host.Outcome State Fault Refusal :=
  s.onEdge State.rephaseNext

/-- BELL_OUT_FALL (R87). -/
def execBellOutFall (s : State) : Host.Outcome State Fault Refusal :=
  s.main 0 State.bellOutFall

/-- GLB_BELL_CFG_WRITE (R83, R88). -/
def execGlbBellCfgWrite (a : Access) (s : State) : Host.Outcome State Fault Refusal :=
  s.writeReg a GLB_BELL_CFG.reg 0 0 (wdata a) (fun m s => s.bellCfgWrite (s.merged GLB_BELL_CFG.reg m (wdata a)))

/-! Steps (R91 to R93) -/

/-- PRESERVING_MARCH_STEP: `defects` are the words (sub-array, word) of the slice whose cells fail; a processor write falls
between the read and the write of the stripe it meets (R198, R210). -/
def execPreservingMarchStep (w : StepWork) (defects : List (Fin 2 × Fin 4096)) (s : State) : Host.Outcome State Fault Refusal :=
  s.stepOp w.dt 1 (fun s => s.marchStep (defects.map (fun d => (d.1.val, d.2.val))) w.writes)

/-- Does a bank stand in FILLING (R203)? -/
def State.filling (s : State) : Bool := (List.range 16).any (fun b => s.get MEM_BANK_STAT.POWER b == 3)

/-- SCRUB_STEP: while no bank is filling (R203, R215). A processor write falls between
the read and the write-back of the stripe it meets (R198). -/
def execScrubStep (w : StepWork) (s : State) : Host.Outcome State Fault Refusal :=
  s.main w.dt (fun s => if s.filling then s else s.stepRun 2 (State.scrubStep w.writes))

/-- FILL_STEP (R203). -/
def execFillStep (dt : Nat) (s : State) : Host.Outcome State Fault Refusal :=
  s.main dt (fun s => if s.filling then s.stepRun 2 State.fillStep else s)

/-- RULE_BANK_SWAP_STEP (R269). -/
def execRuleBankSwapStep (dt : Nat) (s : State) : Host.Outcome State Fault Refusal :=
  s.stepOp dt 3 State.mirrorStep

/-- POOL_REBUILD_STEP (R236). -/
def execPoolRebuildStep (dt : Nat) (s : State) : Host.Outcome State Fault Refusal :=
  s.stepOp dt 4 State.rebuildStep

/-- LEDGER_WRITE_STEP: `miss` programmings of the word fail their read-back (R474). -/
def execLedgerWriteStep (dt : Nat) (miss : Fin 3) (s : State) : Host.Outcome State Fault Refusal :=
  s.stepOp dt 5 (fun s => s.ldgStep miss.val)

/-- FLASH_STEP: `bytes` are what the device drives in this step (R465). -/
def execFlashStep (dt : Nat) (bytes : List Byte) (s : State) : Host.Outcome State Fault Refusal :=
  s.stepOp dt 6 (fun s => s.nvmStep bytes)

/-- SECURE_ZERO_STEP (R499). -/
def execSecureZeroStep (dt : Nat) (s : State) : Host.Outcome State Fault Refusal :=
  s.stepOp dt 7 State.wipeStep

end Sys2Proof.Machine
end

