-- ==== Sys2Proof/Machine/CmdBoot.lean ====
section
/-! DEFINITION. The commands of flash and ledger (R454 to R479). -/

namespace Sys2Proof.Machine

open Sys2Proof

/-- VERIFY (R465). -/
def execVerify (a : Access) (s : State) : Host.Outcome State Fault Refusal :=
  s.writeQueued a NVM_CMD.reg 0 (setBits (wdata a) 0 2 1)

/-- ERASE (R465). -/
def execErase (a : Access) (s : State) : Host.Outcome State Fault Refusal :=
  s.writeQueued a NVM_CMD.reg 0 (setBits (wdata a) 0 2 2)

/-- PROGRAM (R465). -/
def execProgram (a : Access) (s : State) : Host.Outcome State Fault Refusal :=
  s.writeQueued a NVM_CMD.reg 0 (setBits (wdata a) 0 2 3)

/-- NVM_DONE: the status poll finds the write done, or its time has passed (R465). -/
def execNvmDone (dt : Nat) (timeout : Bool) (s : State) : Host.Outcome State Fault Refusal :=
  s.engine dt (fun s => s.nvmDone timeout)

/-- LDG_FW_DATA (R473). -/
def execLdgFwData (a : Access) (s : State) : Host.Outcome State Fault Refusal :=
  s.writeReg a LDG_FW_DATA.reg 0 0 (wdata a) (fun _ s => s.ldgFirmware (wdata a))

/-- LDG_RD_DATA (R479). -/
def execLdgRdData (a : Access) (s : State) : Host.Outcome State Fault Refusal :=
  s.readReg a LDG_RD_DATA.reg 0 (fun s => s.ldgRead a.init.val)

end Sys2Proof.Machine
end

