-- ==== Sys2Proof/Machine/Tap.lean ====
section
/-! DEFINITION. The two other ways to the register port: the management SPI target and the test access port (R73 to R78). -/

namespace Sys2Proof.Machine

open Sys2Proof

/-- The status that the management SPI target and the test access port give for a response (R73, R78). -/
def rspStatus : RspCode → Nat
  | .okay => 0
  | .denied => 1
  | .decode => 2

/-! Management SPI (R73, R74). -/

/-- The access of a management SPI transaction, with initiator 0xFE, and its status byte. Where the register port has not
answered in time, the status reads 0x03 and the data zero; the access still takes effect. -/
def State.spiAccess (s : State) (wr wide : Bool) (addr v : Nat) (late : Bool) : State :=
  let t := s.access 0xFE wr addr (b2n wide) v 0
  if late then { t.setRsp t.rsp.code 0 with spi := 3 } else { t with spi := BitVec.ofNat 8 (rspStatus t.rsp.code) }

/-- Data of `n` bytes on the half of the port that its address selects, and its way back (R68). -/
def onHalf (n addr v : Nat) : Nat := if n = 4 ∧ 4 ≤ addr % 8 then v * 2 ^ 32 else v
def offHalf (n addr v : Nat) : Nat := if n = 4 then getBits v (if addr % 8 < 4 then 0 else 32) 32 else v

/-- A management SPI transaction of `sck` clock cycles with command byte `cmd`: 24-bit address and write data follow the command,
then two bytes of turnaround, read data and the status. The access is issued after the last bit that it needs, and never where
address bits [23:20] are not zero or the command is none of the four. The target runs on REG_CK (R57). -/
def State.spiFrame (s : State) (cmd addr v : Nat) (late : Bool) (sck : Nat) : State :=
  let wr := cmd == 1 || cmd == 2
  let n := if cmd = 2 ∨ cmd = 4 then 8 else 4
  let lead := if wr then 4 + n else 4
  if s.clkOn 4 = false then s
  else if cmd = 0 ∨ 4 < cmd ∨ 2 ^ 20 ≤ addr ∨ sck < 8 * lead then { s with spiOut := [] }
  else
    let t := s.spiAccess wr (n == 8) addr (onHalf n addr v) late
    let out := [0, 0] ++ (if wr then [] else beBytes (offHalf n addr t.rsp.data.toNat) n) ++ [t.spi.toNat]
    { t with spiOut := out.take (sck / 8 - lead) }

/-! The test access port controller (R75). -/

/-- The next state of the controller at a rising edge of JTAG_TCK (PRESUMED from IEEE 1149.1, log entry 139). -/
def TapState.next (t : TapState) (tms : Bool) : TapState :=
  match t, tms with
  | .reset, true => .reset
  | .reset, false => .idle
  | .idle, true => .selectDr
  | .idle, false => .idle
  | .selectDr, true => .selectIr
  | .selectDr, false => .captureDr
  | .captureDr, true => .exit1Dr
  | .captureDr, false => .shiftDr
  | .shiftDr, true => .exit1Dr
  | .shiftDr, false => .shiftDr
  | .exit1Dr, true => .updateDr
  | .exit1Dr, false => .pauseDr
  | .pauseDr, true => .exit2Dr
  | .pauseDr, false => .pauseDr
  | .exit2Dr, true => .updateDr
  | .exit2Dr, false => .shiftDr
  | .updateDr, true => .selectDr
  | .updateDr, false => .idle
  | .selectIr, true => .reset
  | .selectIr, false => .captureIr
  | .captureIr, true => .exit1Ir
  | .captureIr, false => .shiftIr
  | .shiftIr, true => .exit1Ir
  | .shiftIr, false => .shiftIr
  | .exit1Ir, true => .updateIr
  | .exit1Ir, false => .pauseIr
  | .pauseIr, true => .exit2Ir
  | .pauseIr, false => .pauseIr
  | .exit2Ir, true => .updateIr
  | .exit2Ir, false => .shiftIr
  | .updateIr, true => .selectDr
  | .updateIr, false => .idle

/-- The instruction in force: one that is not in the table, or that the life-cycle state does not permit, is BYPASS (R77). -/
def State.tapIr (s : State) : Nat :=
  let c := s.chip.tap.ir.toNat
  if c = 0x01 then c else if s.testAllowed = true ∧ (c = 0x08 ∨ c = 0x09 ∨ c = 0x0A) then c else 0x1F

/-- The IDCODE register (R76). -/
def idcode : Nat := 0x1 * 2 ^ 28 + 0x8A80 * 2 ^ 12 + Config.jtagMfr.toNat * 2 + 1

/-- The bits of the data register that an instruction selects (R77). The toolkit, not the spec, defines that of SCDBG. -/
def drBits (ir : Nat) : Nat := if ir = 0x01 then 32 else if ir = 0x08 then 90 else if ir = 0x0A then 8 else 1

/-- The REGACC register of an access (R77). -/
def accWord (wr wide : Bool) (addr data : Nat) : Nat := b2n wr + b2n wide * 2 + addr * 2 ^ 2 + data * 2 ^ 22

/-- Capture-DR: the selected register loads. -/
def State.tapCapture (s : State) : State :=
  let t := s.chip.tap
  match s.tapIr with
  | 0x01 => { s with chip.tap.dr := BitVec.ofNat 90 idcode }
  | 0x08 => { s with chip.tap.dr := if t.wait.isEmpty then t.acc else BitVec.ofNat 90 (setBits t.acc.toNat 86 4 3) }
  | 0x0A => { s with chip.tap.dr := BitVec.ofNat 90 (t.mbist.toNat * 2) }
  | _ => { s with chip.tap.dr := 0 }

/-- Shift-DR: one bit of JTAG_TDI enters at the top of the selected register. What the SCDBG register holds is open. -/
def State.tapShift (s : State) (tdi : Bool) : State :=
  let n := drBits s.tapIr
  let v := s.chip.tap.dr.toNat / 2 + b2n tdi * 2 ^ (n - 1)
  if s.tapIr = 0x09 then { s with free := s.free + 1, chip.tap.dr := (Config.word s.free).setWidth 90 }
  else { s with chip.tap.dr := BitVec.ofNat 90 v }

/-- The register-port access of the REGACC register `w`, with initiator 0xFF; the register takes read data and status (R78). -/
def State.tapAccess (s : State) (w : BitVec 90) : State :=
  let v := w.toNat
  let t := s.access 0xFF (bitAt v 0) (getBits v 2 20) (getBits v 1 1) (getBits v 22 64) 0
  let acc := setBits (setBits v 22 64 t.rsp.data.toNat) 86 4 (rspStatus t.rsp.code)
  { t with chip.tap.acc := BitVec.ofNat 90 acc }

/-- Update-DR: REGACC makes its access, which waits where REG_CK is absent, and MBIST starts the memory self-test, whose result is
not specified. -/
def State.tapUpdateDr (s : State) : State :=
  let w := s.chip.tap.dr
  match s.tapIr with
  | 0x08 => if s.clkOn 4 then s.tapAccess w else { s with chip.tap.wait := s.chip.tap.wait ++ [w], chip.tap.acc := w }
  | 0x0A => if w.getLsbD 0 then { s with free := s.free + 1, chip.tap.mbist := Config.mbistResult s.free } else s
  | _ => s

/-- Instruction `code` is shifted in (R77). -/
def State.tapLoad (s : State) (code : Nat) : State :=
  let t := { s with chip.tap.ir := BitVec.ofNat 5 code }
  { t with chip.tap.ir := BitVec.ofNat 5 t.tapIr }

/-- Update-DR under instruction `code` with `w` in its register. -/
def State.tapUpdate (s : State) (code w : Nat) : State :=
  let t := s.tapLoad code
  { t with chip.tap.state := .updateDr, chip.tap.dr := BitVec.ofNat 90 w }.tapUpdateDr

/-- Only the test access port resets (R75). -/
def State.tapReset (s : State) : State := { s with chip.tap := .init }
def State.tapTrst (s : State) (trst : Bool) : State := if trst then s.tapReset else s

/-- A rising edge of JTAG_TCK: the present state captures or shifts, and the next one updates or resets. -/
def State.tapClock (s : State) (x : Bool × Bool) : State :=
  let t := s.chip.tap
  let s := match t.state with
    | .captureDr => s.tapCapture
    | .shiftDr => s.tapShift x.2
    | .captureIr => { s with chip.tap.irShift := 0x01 }
    | .shiftIr => { s with chip.tap.irShift := t.irShift >>> 1 ||| (BitVec.ofBool x.2).setWidth 5 <<< 4 }
    | _ => s
  let n := t.state.next x.1
  let s := { s with chip.tap.state := n }
  match n with
  | .reset => s.tapReset
  | .updateIr => s.tapLoad s.chip.tap.irShift.toNat
  | .updateDr => s.tapUpdateDr
  | _ => s

/-- JTAG_TCK runs; main-domain reset holds the port in reset. -/
def State.tapRun (s : State) (tck : List (Bool × Bool)) : State :=
  if s.chip.mainReset then s else s.forEach tck State.tapClock

/-- The accesses that waited for REG_CK are made. -/
def State.tapResume (s : State) : State :=
  let ws := s.chip.tap.wait
  { s with chip.tap.wait := [] }.forEach ws State.tapAccess

/-- CLOCK_RETURN: with REG_CK the accesses of the test access port go on (R78). -/
def State.clockBack (s : State) (d : Nat) : State :=
  let s := s.clockReturn d
  if d = 4 ∧ s.chip.mainReset = false then s.tapResume else s

end Sys2Proof.Machine
end

