-- ==== Sys2Proof/Machine/CmdChip.lean ====
section
/-! DEFINITION. The commands of the chip around the block: the register port, resets, rails, clocks, START, GPIO, management SPI,
test access (R43 to R80). -/

namespace Sys2Proof.Machine

open Sys2Proof

/-! The register port (R67 to R69) -/

/-- The eight beats of a burst that carries the same word in each. -/
def burstOf (v : Nat) : Nat := (List.range 8).foldl (fun d i => d + v * 2 ^ (64 * i)) 0

/-- REGISTER_WRITE: the access decision, then the field types of the register or the hook that its rule gives it (R9, R68). -/
def execRegisterWrite (a : Access) (addr : BitVec 20) (s : State) : Host.Outcome State Fault Refusal :=
  s.portReq a.dt (fun s => s.access a.init.val true addr.toNat a.size.toNat (wdata a) (burstOf (wdata a)))

/-- REGISTER_READ (R9, R68). -/
def execRegisterRead (a : Access) (addr : BitVec 20) (s : State) : Host.Outcome State Fault Refusal :=
  s.portReq a.dt (fun s => s.access a.init.val false addr.toNat a.size.toNat 0 0)

/-! Reset and rails -/

/-- AON_POR: VDD_AON rises (R58, R62). -/
def execAonPor (dt : Nat) (s : State) : Host.Outcome State Fault Refusal :=
  s.answer ((s.pass dt).aonPor)

/-- VDD_AON_FALL (R47, R51). -/
def execVddAonFall (dt : Nat) (s : State) : Host.Outcome State Fault Refusal :=
  s.answer ((s.pass dt).aonFall)

/-- PORST: a low pulse on PORST# (R59); manufacturing test ends with it (R80). -/
def execPorst (dt : Nat) (x : Pulse) (s : State) : Host.Outcome State Fault Refusal :=
  s.answer (if s.chip.aonOn then (s.pass dt).porst x.low x.back else s)

/-- CORE_RAIL: PG_CORE, or PG_SRAM where `sram`, has a low pulse (R45, R47). -/
def execCoreRail (dt : Nat) (sram : Bool) (x : Pulse) (s : State) : Host.Outcome State Fault Refusal :=
  s.always dt (fun s => s.railFall sram x.low x.back)

/-- LEDGER_RAIL (R47). -/
def execLedgerRail (dt : Nat) (low : Nat) (s : State) : Host.Outcome State Fault Refusal :=
  s.always dt (fun s => s.ledgerFall low)

/-- LEDGER_RAIL_RETURN (R47). -/
def execLedgerRailReturn (dt : Nat) (s : State) : Host.Outcome State Fault Refusal :=
  s.always dt State.ledgerReturn

/-- CLOCK_LOSS (R57); outside reset its effects follow, in reset the level of the clock is only noted. -/
def execClockLoss (dt : Nat) (d : Fin 13) (rxOpen : BitVec 8) (s : State) : Host.Outcome State Fault Refusal :=
  s.always dt (fun s => s.linkWatch (fun s => s.clockLoss d.val rxOpen.toNat))

/-- CLOCK_RETURN (R56). -/
def execClockReturn (dt : Nat) (d : Fin 13) (s : State) : Host.Outcome State Fault Refusal :=
  s.always dt (fun s => s.linkWatch (fun s => s.clockBack d.val))

/-- GLB_RST_CMD (R63). -/
def execGlbRstCmd (a : Access) (s : State) : Host.Outcome State Fault Refusal :=
  s.writeReg a GLB_RST_CMD.reg 0 0 (wdata a) (fun _ s => s.rstCmd (wdata a))

/-- SW_RESET: 16 REG_CK cycles after the write (R63). -/
def execSwReset (dt : Nat) (s : State) : Host.Outcome State Fault Refusal :=
  s.main dt State.swReset

/-- MAIN_RESET_END (R60). -/
def execMainResetEnd (w : Release) (s : State) : Host.Outcome State Fault Refusal :=
  s.always w.dt (fun s => s.resetEnd w.after)

/-! START (R451) -/

/-- BOOT_COUNTER_WRITE: step 2. -/
def execBootCounterWrite (dt : Nat) (s : State) : Host.Outcome State Fault Refusal :=
  s.main dt State.bootCounter

/-- START_MARCH: step 3. `defects` are the rows (column, sub-array, physical row) whose cells fail. -/
def execStartMarch (dt : Nat) (defects : List (Fin 10 × Fin 2 × Fin 1032 × Fin 321)) (s : State) : Host.Outcome State Fault Refusal :=
  s.main dt (fun s => s.marchStart (defects.map (fun d => ⟨d.1.val, d.2.1.val, d.2.2.1.val, d.2.2.2.val⟩)))

/-- IMAGE_LOAD: step 4, on the two flash devices. -/
def execImageLoad (dt : Nat) (flash0 flash1 : List Byte) (s : State) : Host.Outcome State Fault Refusal :=
  s.main dt (fun s => s.imageLoad flash0 flash1)

/-- POOL_BUILD: step 5. -/
def execPoolBuild (dt : Nat) (s : State) : Host.Outcome State Fault Refusal :=
  s.main dt State.poolBuild

/-- GPIO_INPUT (R66). -/
def execGpioInput (dt : Nat) (pin : Fin 32) (level : Bool) (s : State) : Host.Outcome State Fault Refusal :=
  s.always dt (fun s => s.gpioInput pin.val level)

/-! Management SPI (R73, R74) -/

/-- WRITE_32: command 0x01. -/
def execWrite32 (dt : Nat) (addr : BitVec 24) (data : Word32) (x : SpiEnd) (s : State) : Host.Outcome State Fault Refusal :=
  s.main dt (fun s => s.spiFrame 0x01 addr.toNat data.toNat x.late x.sck)

/-- WRITE_64: command 0x02. -/
def execWrite64 (dt : Nat) (addr : BitVec 24) (data : Word) (x : SpiEnd) (s : State) : Host.Outcome State Fault Refusal :=
  s.main dt (fun s => s.spiFrame 0x02 addr.toNat data.toNat x.late x.sck)

/-- READ_32: command 0x03. -/
def execRead32 (dt : Nat) (addr : BitVec 24) (x : SpiEnd) (s : State) : Host.Outcome State Fault Refusal :=
  s.main dt (fun s => s.spiFrame 0x03 addr.toNat 0 x.late x.sck)

/-- READ_64: command 0x04. -/
def execRead64 (dt : Nat) (addr : BitVec 24) (x : SpiEnd) (s : State) : Host.Outcome State Fault Refusal :=
  s.main dt (fun s => s.spiFrame 0x04 addr.toNat 0 x.late x.sck)

/-! Test access (R75 to R80) -/

/-- REGACC: Update-DR under REGACC with the register shifted in (R77, R78). -/
def execRegacc (dt : Nat) (wr wide : Bool) (addr : BitVec 20) (data : Word) (s : State) : Host.Outcome State Fault Refusal :=
  s.main dt (fun s => s.tapUpdate 0x08 (accWord wr wide addr.toNat data.toNat))

/-- MBIST: Update-DR under MBIST with the start bit set (R77). -/
def execMbist (dt : Nat) (s : State) : Host.Outcome State Fault Refusal :=
  s.main dt (fun s => s.tapUpdate 0x0A 1)

/-- JTAG_TRST: JTAG_TRST# falls, or JTAG_TCK runs, or both in that order
(R75). -/
def execJtagTrst (w : TapInput) (s : State) : Host.Outcome State Fault Refusal :=
  s.always w.dt (fun s => (s.tapTrst w.trst).tapRun w.tck)

/-- TM_SCAN: TM_SCAN rises, or TM_MBIST where `mbist` (R80). -/
def execTmScan (dt : Nat) (mbist : Bool) (s : State) : Host.Outcome State Fault Refusal :=
  s.main dt (fun s => s.tmScan mbist)

end Sys2Proof.Machine
end

