-- ==== Sys2Proof/Machine/CmdCore.lean ====
section
/-! DEFINITION. The commands of the service cores, mailboxes and performance monitoring (R412 to R436). -/

namespace Sys2Proof.Machine

open Sys2Proof

/-- SC_RUN (R412). -/
def execScRun (a : Access) (c : Fin 2) (s : State) : Host.Outcome State Fault Refusal :=
  s.writeReg a SC_CTRL.reg c.val 0 (wdata a) (fun m s =>
    (s.setRg (SC_CTRL.reg.key c.val 0) (s.merged SC_CTRL.reg m (wdata a) c.val)).scCtrlWritten c.val (wdata a))

/-- SC_RESTART (R412). -/
def execScRestart (a : Access) (c : Fin 2) (s : State) : Host.Outcome State Fault Refusal :=
  s.writeReg a SC_CTRL.reg c.val 0 (setBits (wdata a) 2 1 1) (fun m s =>
    (s.setRg (SC_CTRL.reg.key c.val 0) (s.merged SC_CTRL.reg m (setBits (wdata a) 2 1 1) c.val)).scCtrlWritten c.val (setBits (wdata a) 2 1 1))

/-- KICK (R414). -/
def execKick (a : Access) (c : Fin 2) (s : State) : Host.Outcome State Fault Refusal :=
  s.writeReg a SC_CTRL.reg c.val 0 (setBits (wdata a) 3 1 1) (fun m s =>
    (s.setRg (SC_CTRL.reg.key c.val 0) (s.merged SC_CTRL.reg m (setBits (wdata a) 3 1 1) c.val)).scCtrlWritten c.val (setBits (wdata a) 3 1 1))

/-- WDOG: the next edge, where the watchdog of the core expires at it (R414). -/
def execWdog (c : Fin 2) (s : State) : Host.Outcome State Fault Refusal :=
  s.onEdge (fun s => s.wdogNext c.val)

/-- DEBUG_HALT (R412). -/
def execDebugHalt (dt : Nat) (c : Fin 2) (s : State) : Host.Outcome State Fault Refusal :=
  s.engine dt (fun s => s.debugHalt c.val)

/-- DEBUG_RESUME (R412). -/
def execDebugResume (dt : Nat) (c : Fin 2) (s : State) : Host.Outcome State Fault Refusal :=
  s.engine dt (fun s => s.debugResume c.val)

/-- SC_TX_DESC1 (R415). -/
def execScTxDesc1 (a : Access) (s : State) : Host.Outcome State Fault Refusal :=
  s.writeReg a SC_TX_DESC1.reg 0 0 (wdata a) (fun _ s => s.submit (coreOf a) (wdata a))

/-- SC_TX_DONE (R417). -/
def execScTxDone (a : Access) (s : State) : Host.Outcome State Fault Refusal :=
  s.readReg a SC_TX_DONE.reg 0 (fun s => s.scTxDone (coreOf a))

/-- SC_RX_POP (R418). -/
def execScRxPop (a : Access) (s : State) : Host.Outcome State Fault Refusal :=
  s.readReg a SC_RX_POP.reg 0 (fun s => s.scRxPop (coreOf a))

/-- MBX_DB (R425). -/
def execMbxDb (a : Access) (s : State) : Host.Outcome State Fault Refusal :=
  s.writeReg a MBX_DB.reg 0 0 (wdata a) (fun _ s => s.mbxDoorbell a.init.val (wdata a))

/-- MBX_DONE (R426). -/
def execMbxDone (a : Access) (s : State) : Host.Outcome State Fault Refusal :=
  s.writeReg a MBX_DONE.reg 0 0 (wdata a) (fun _ s => s.mbxDoneCmd (wdata a))

/-- MBX_TIMEOUT: the next edge, where the request of mailbox `m` is answered TIMEOUT at it (R427). -/
def execMbxTimeout (m : Fin 16) (s : State) : Host.Outcome State Fault Refusal :=
  s.onEdge (fun s => s.mbxNext m.val)

/-- PMU_OVF: `n` occurrences of an event outside the other commands reach counter `k` (R429, R430). -/
def execPmuOvf (dt : Nat) (k : Fin 16) (n : BitVec 32) (s : State) : Host.Outcome State Fault Refusal :=
  s.engine dt (fun s => s.pmuOccur k.val n.toNat)

/-- PMU_SAMPLE (R433). -/
def execPmuSample (dt : Nat) (core : Fin 2) (latency : BitVec 16) (addr : BitVec 32) (s : State) : Host.Outcome State Fault Refusal :=
  s.engine dt (fun s => s.pmuSample core.val latency.toNat addr.toNat (s.stNs % 2 ^ 32))

end Sys2Proof.Machine
end

