-- ==== Sys2Proof/Machine/CmdCrc.lean ====
section
/-! DEFINITION. The commands of the check-value units (R437 to R450). -/

namespace Sys2Proof.Machine

open Sys2Proof

/-- CRC_RESTART (R438). -/
def execCrcRestart (a : Access) (u : Fin 4) (s : State) : Host.Outcome State Fault Refusal :=
  s.writeReg a CRC_CMD.reg u.val 0 (setBits (wdata a) 0 1 1) (fun _ s => s.crcCmd u.val (setBits (wdata a) 0 1 1))

/-- CRC_FLUSH (R450). -/
def execCrcFlush (a : Access) (u : Fin 4) (s : State) : Host.Outcome State Fault Refusal :=
  s.writeReg a CRC_CMD.reg u.val 0 (setBits (wdata a) 1 1 1) (fun _ s => s.crcCmd u.val (setBits (wdata a) 1 1 1))

/-- CRCU_DATA (R446). -/
def execCrcuData (a : Access) (u : Fin 4) (s : State) : Host.Outcome State Fault Refusal :=
  s.writeReg a CRC_DATA.reg u.val 0 (wdata a) (fun m s => s.crcDataWrite u.val m (wdata a))

/-- CRCU_DATA1 (R446). -/
def execCrcuData1 (a : Access) (u : Fin 4) (s : State) : Host.Outcome State Fault Refusal :=
  s.writeReg a CRC_DATA1.reg u.val 0 (wdata a) (fun _ s => s.crcFeedSw u.val [getBits (wdata a) 0 8])

/-- The configuration register `which` of a unit: CFG, POLY, INIT, XOROUT (R445). -/
def crcCfgReg (which : Nat) : Fld :=
  if which = 0 then CRC_CFG.reg else if which = 1 then CRC_POLY.reg else if which = 2 then CRC_INIT.reg else CRC_XOROUT.reg

/-- CRCU_CFG_WRITE (R445). -/
def execCrcuCfgWrite (a : Access) (u which : Fin 4) (s : State) : Host.Outcome State Fault Refusal :=
  let f := crcCfgReg which.val
  s.writeReg a f u.val 0 (wdata a) (fun m s => s.crcCfgWrite u.val which.val (s.merged f m (wdata a) u.val))

/-- CRC_RES (R443). -/
def execCrcRes (dt : Nat) (u : Fin 4) (s : State) : Host.Outcome State Fault Refusal :=
  s.engine dt (fun s => s.crcRes u.val)

/-- CRCU_FIFO_VAL (R443). -/
def execCrcuFifoVal (a : Access) (u : Fin 4) (s : State) : Host.Outcome State Fault Refusal :=
  s.readReg a CRC_FIFO_VAL.reg u.val (fun s => s.crcPop u.val)

end Sys2Proof.Machine
end

