-- ==== Sys2Proof/Machine/CmdHost.lean ====
section
/-! DEFINITION. The commands of the host partitions and of the host memory port (R297 to R338). -/

namespace Sys2Proof.Machine

open Sys2Proof

/-- HOST_READ_RESPONSE: `bad` for FAULT (R71). -/
def execHostReadResponse (dt : Nat) (tag : Fin 128) (bad : Bool) (data : BitVec 512) (s : State) : Host.Outcome State Fault Refusal :=
  s.main dt (fun s => if s.clkOn 3 then s.hostRead tag.val bad data.toNat else s)

/-- HOST_WRITE_RESPONSE: `bad` for FAULT (R72). -/
def execHostWriteResponse (dt : Nat) (tag : Fin 64) (bad : Bool) (s : State) : Host.Outcome State Fault Refusal :=
  s.main dt (fun s => if s.clkOn 3 then s.hostWrite tag.val bad else s)

/-- HOST_TIMEOUT (R335). -/
def execHostTimeout (s : State) : Host.Outcome State Fault Refusal :=
  s.main 0 State.hostTimeout

/-- PART_ENABLE (R299). -/
def execPartEnable (a : Access) (p : Fin 8) (s : State) : Host.Outcome State Fault Refusal :=
  s.writeReg a PART_CTRL.reg p.val 0 (wdata a) (fun m s => s.partCtrlWrite p.val (s.merged PART_CTRL.reg m (wdata a) p.val))

/-- PART_RESET (R302). -/
def execPartReset (a : Access) (p : Fin 8) (s : State) : Host.Outcome State Fault Refusal :=
  s.writeReg a PART_CMD.reg p.val 0 (setBits (wdata a) 0 2 1) (fun _ s => s.partCmd p.val 1)

/-- RUN (R299). -/
def execRun (a : Access) (p : Fin 8) (s : State) : Host.Outcome State Fault Refusal :=
  s.writeReg a PART_CMD.reg p.val 0 (setBits (wdata a) 0 2 2) (fun _ s => s.partCmd p.val 2)

/-- RESET_DONE: the next edge, where the reset of the partition ends at it (R302). -/
def execResetDone (p : Fin 8) (s : State) : Host.Outcome State Fault Refusal :=
  s.onEdge (fun s => s.resetDoneNext p.val)

/-- The base register of ring `ring`: TXQ, RXQ, TXC, RXC (R304). -/
def ringBaseReg (ring : Nat) : Fld :=
  if ring = 0 then PART_TXQ_BASE.reg else if ring = 1 then PART_RXQ_BASE.reg else if ring = 2 then PART_TXC_BASE.reg
  else PART_RXC_BASE.reg

/-- RING_BASE_WRITE (R304). -/
def execRingBaseWrite (a : Access) (p : Fin 8) (ring : Fin 4) (s : State) : Host.Outcome State Fault Refusal :=
  let f := ringBaseReg ring.val
  s.writeReg a f p.val 0 (wdata a) (fun m s => s.ringBaseWrite p.val ring.val (s.merged f m (wdata a) p.val))

/-- TXQ_DOORBELL (R306). -/
def execTxqDoorbell (a : Access) (p : Fin 8) (s : State) : Host.Outcome State Fault Refusal :=
  s.writeReg a PART_TXQ_DB.reg p.val 0 (wdata a) (fun _ s => s.doorbell p.val false (getBits (wdata a) 0 17))

/-- RXQ_DOORBELL (R306). -/
def execRxqDoorbell (a : Access) (p : Fin 8) (s : State) : Host.Outcome State Fault Refusal :=
  s.writeReg a PART_RXQ_DB.reg p.val 0 (wdata a) (fun _ s => s.doorbell p.val true (getBits (wdata a) 0 17))

/-- COMPLETION_HEAD_WRITE (R308). -/
def execCompletionHeadWrite (a : Access) (p : Fin 8) (rx : Bool) (s : State) : Host.Outcome State Fault Refusal :=
  let f := if rx then PART_RXC_HEAD.reg else PART_TXC_HEAD.reg
  s.writeReg a f p.val 0 (wdata a) (fun _ s => s.headWrite p.val rx (getBits (wdata a) 0 17))

/-- TX_PUSH: a burst to slot group `off` of the TX push window (R310, R311). -/
def execTxPush (dt : Nat) (init : Init) (p : Fin 8) (off : Fin 32) (beats : BitVec 512) (s : State) : Host.Outcome State Fault Refusal :=
  s.portReq dt (fun s => s.access init.val true (p.val * 0x10000 + 0xF000 + off.val * 64) 2 0 beats.toNat)

/-- RX_PUSH: a burst to slot group `off` of the RX push window (R310, R311). -/
def execRxPush (dt : Nat) (init : Init) (p : Fin 8) (off : Fin 32) (beats : BitVec 512) (s : State) : Host.Outcome State Fault Refusal :=
  s.portReq dt (fun s => s.access init.val true (p.val * 0x10000 + 0xF800 + off.val * 64) 2 0 beats.toNat)

/-- TX_JOB (R323). -/
def execTxJob (dt : Nat) (p : Fin 8) (same : Bool) (s : State) : Host.Outcome State Fault Refusal :=
  s.engine dt (fun s => s.txJob p.val same)

/-- TX_JOB_RETRY: the next edge, where the partition holds a job for a buffer (R325). -/
def execTxJobRetry (p : Fin 8) (s : State) : Host.Outcome State Fault Refusal :=
  s.onEdge (fun s => s.retryNext p.val)

/-- RX_BUF (R329). -/
def execRxBuf (dt : Nat) (p : Fin 8) (s : State) : Host.Outcome State Fault Refusal :=
  s.engine dt (fun s => s.rxBuf p.val)

/-- RX_DELIVERY (R330). -/
def execRxDelivery (dt : Nat) (p : Fin 8) (s : State) : Host.Outcome State Fault Refusal :=
  s.engine dt (fun s => s.rxDelivery p.val)

/-- RX_DONE (R330). -/
def execRxDone (dt : Nat) (p : Fin 8) (s : State) : Host.Outcome State Fault Refusal :=
  s.engine dt (fun s => s.rxDone p.val)

end Sys2Proof.Machine
end

