-- ==== Sys2Proof/Machine/CmdInt.lean ====
section
/-! DEFINITION. The commands of the interrupt controller (R339 to R359). -/

namespace Sys2Proof.Machine

open Sys2Proof

/-- COAL_TIME (R342). -/
def execCoalTime (n : Fin 256) (s : State) : Host.Outcome State Fault Refusal :=
  s.main 0 (fun s => s.coalExpire n.val)

/-- INT_TGTT_CLAIM (R349, R350). -/
def execIntTgttClaim (a : Access) (t : Fin 16) (s : State) : Host.Outcome State Fault Refusal :=
  s.readReg a INT_TGT_CLAIM.reg t.val (fun s => s.claim t.val)

/-- INT_TGTT_COMPLETE (R351). -/
def execIntTgttComplete (a : Access) (t : Fin 16) (s : State) : Host.Outcome State Fault Refusal :=
  s.writeReg a INT_TGT_COMPLETE.reg t.val 0 (wdata a) (fun _ s => s.complete t.val (getBits (wdata a) 0 10))

/-- INT_PEND (R340). -/
def execIntPend (a : Access) (k : Fin 4) (s : State) : Host.Outcome State Fault Refusal :=
  s.writeReg a INT_PEND.reg k.val 0 (wdata a) (fun m s => s.pendWrite k.val ((wdata a).land m))

/-- INT_SRC_CFG_WRITE: INT_SRC_CFG[n], or where `tgt` INT_TGTt_CTRL with t = n mod 16 (R346). -/
def execIntSrcCfgWrite (a : Access) (tgt : Bool) (n : Fin 256) (s : State) : Host.Outcome State Fault Refusal :=
  if tgt then
    s.writeReg a INT_TGT_CTRL.reg (n.val % 16) 0 (wdata a) (fun m s =>
      s.tgtCtrlWrite (n.val % 16) (s.merged INT_TGT_CTRL.reg m (wdata a) (n.val % 16)))
  else s.writeReg a INT_SRC_CFG.reg n.val 0 (wdata a) (fun m s => s.srcCfgWrite n.val (s.merged INT_SRC_CFG.reg m (wdata a) n.val))

/-- LATCH_SET: an edge on always-on input `l` (R353). -/
def execLatchSet (dt : Nat) (l : Fin 32) (rising : Bool) (s : State) : Host.Outcome State Fault Refusal :=
  s.always dt (fun s => s.latchSet l.val rising)

/-- LATCH_TRANSFER (R353, R354). -/
def execLatchTransfer (dt : Nat) (l : Fin 32) (s : State) : Host.Outcome State Fault Refusal :=
  s.main dt (fun s => s.latchTransfer l.val)

/-- BTMR: the next edge, where timer `k` runs out at it (R355). -/
def execBtmr (k : Fin 8) (s : State) : Host.Outcome State Fault Refusal :=
  s.onEdge (fun s => s.timerNext k.val)

/-- INT_BTMR_WRITE (R355). -/
def execIntBtmrWrite (a : Access) (k : Fin 8) (s : State) : Host.Outcome State Fault Refusal :=
  s.writeReg a INT_BTMR.reg k.val 0 (wdata a) (fun m s => s.btmrWrite k.val (s.merged INT_BTMR.reg m (wdata a) k.val))

end Sys2Proof.Machine
end

