-- ==== Sys2Proof/Machine/CmdMem.lean ====
section
/-! DEFINITION. The commands of buffer memory, the staff room and the pools (R187 to R240). -/

namespace Sys2Proof.Machine

open Sys2Proof

/-- PROC_ACCESS: a read or write of `len` bytes of buffer memory by a service core (R195, R200). -/
def execProcAccess (dt : Nat) (core : Fin 2) (wr : Bool) (addr : BitVec 23) (len : Fin 9) (data : Word) (s : State) : Host.Outcome State Fault Refusal :=
  s.engine dt (fun s => s.procAccess core.val wr addr.toNat len.val data.toNat)

/-- ON (R202). -/
def execOn (a : Access) (s : State) : Host.Outcome State Fault Refusal :=
  s.writeQueued a MEM_BANK_CMD.reg 0 (setBits (wdata a) 8 2 0)

/-- OFF (R202). -/
def execOff (a : Access) (s : State) : Host.Outcome State Fault Refusal :=
  s.writeQueued a MEM_BANK_CMD.reg 0 (setBits (wdata a) 8 2 2)

/-- ERASE_COLUMN (R204). -/
def execEraseColumn (a : Access) (s : State) : Host.Outcome State Fault Refusal :=
  s.writeQueued a MEM_COL_CMD.reg 0 (setBits (wdata a) 8 1 1)

/-- MARCH_START (R207). -/
def execMarchStart (a : Access) (s : State) : Host.Outcome State Fault Refusal :=
  s.writeQueued a MEM_MARCH_CMD.reg 0 (setBits (wdata a) 0 2 1)

/-- MARCH_ABORT (R209). -/
def execMarchAbort (a : Access) (s : State) : Host.Outcome State Fault Refusal :=
  s.writeQueued a MEM_MARCH_CMD.reg 0 (setBits (wdata a) 0 2 2)

/-- The host side of a staff-room access by initiator `i` at offset `off`: is it granted, as an access of the aperture under the
page that holds the offset (R221, R483)? -/
def State.staffGranted (s : State) (i : Nat) (wr : Bool) (off : Nat) : Bool :=
  (s.put (STAFF_PAGE.PAGE.of i) (off / 0x10000)).granted i wr (0xF0000 + off % 0x10000) 0

/-- A service core's side alone, `blk` telling that it meets the block writer's write of the word; it stands still in DOZE and
WATCH (R506). -/
def State.staffCore (s : State) (c : Nat) (sc : Option StaffReq) (blk : Bool) : State :=
  match sc with
  | some r =>
    if s.dozing then s
    else if blk && r.wr && s.blockWrote r && s.scReaches c r.addr.toNat then s.staffBlock c r
    else s.staffSc c r
  | none => s

/-- The aperture's access of the host side, and whether the block writer's last write is the one of the cycle. -/
def sideReq : HostSide → Option StaffReq
  | .port r => some r
  | _ => none
def sideBlock : HostSide → Bool
  | .block => true
  | _ => false

/-- STAFF_ACCESS: at most one access of each side in one cycle (R217 to R221). The host side is an aperture access, or with `blk`
the write that a block writer made last. -/
def State.staffAccess (s : State) (c i : Nat) (sc host : Option StaffReq) (blk : Bool) : State :=
  match host with
  | none => s.staffCore c sc blk
  | some h =>
    if !s.clkOn 4 then s.staffCore c sc false
    else if !s.staffGranted i h.wr h.addr.toNat then
      ((s.staffCore c sc false).denied i h.wr (0xF0000 + h.addr.toNat % 0x10000)).setRsp .denied 0
    else if s.dozing then (if s.on PWR_CFG.ACC_WAKE then s.wake wkAccess 0 else s).setRsp .decode 0
    else
      let r := match sc with
        | some a => s.staffBoth c a h
        | none => s.staffHost h
      r.1.setRsp .okay r.2

/-- STAFF_ACCESS (R217 to R221). -/
def execStaffAccess (dt : Nat) (core : Fin 2) (init : Init) (sc : Option StaffReq) (host : HostSide) (s : State) : Host.Outcome State Fault Refusal :=
  s.main dt (fun s => s.staffAccess core.val init.val sc (sideReq host) (sideBlock host))

/-- WITHDRAW (R235). -/
def execWithdraw (a : Access) (s : State) : Host.Outcome State Fault Refusal :=
  s.writeQueued a POOL_CMD.reg 0 (setBits (wdata a) 0 2 1)

/-- RESTORE (R235). -/
def execRestore (a : Access) (s : State) : Host.Outcome State Fault Refusal :=
  s.writeQueued a POOL_CMD.reg 0 (setBits (wdata a) 0 2 2)

/-- REDEFINE (R235). -/
def execRedefine (a : Access) (s : State) : Host.Outcome State Fault Refusal :=
  s.writeQueued a POOL_CMD.reg 0 (setBits (wdata a) 0 2 3)

/-- POOL_ALLOC: more bytes than a frame may have are refused as a value out of range (R13, R239). -/
def execPoolAlloc (a : Access) (s : State) : Host.Outcome State Fault Refusal :=
  s.writeReg a POOL_ALLOC.reg 0 0 (wdata a) (fun _ s =>
    if getBits (wdata a) 0 14 ≤ 16320 then s.poolAlloc a.init.val (getBits (wdata a) 0 14) else s)

/-- POOL_ALLOC_RESULT (R227, R239). -/
def execPoolAllocResult (dt : Nat) (init : Init) (same : Bool) (s : State) : Host.Outcome State Fault Refusal :=
  s.engine dt (fun s => s.poolAllocResult init.val same)

/-- POOL_ALLOC_RES_READ (R239). -/
def execPoolAllocResRead (a : Access) (s : State) : Host.Outcome State Fault Refusal :=
  s.readReg a (POOL_ALLOC_RES.reg) 0 (fun s =>
    let k := (POOL_ALLOC_RES.reg.of a.init.val).key 0 0
    (s.setRg k (s.rg k - (s.rg k).land 0x3FFFFFFFF), s.rg k))

/-- POOL_FREE (R232, R239). -/
def execPoolFree (a : Access) (s : State) : Host.Outcome State Fault Refusal :=
  s.writeReg a POOL_FREE.reg 0 0 (wdata a) (fun _ s => s.release (getBits (wdata a) 0 32) 0x40)

end Sys2Proof.Machine
end

