-- ==== Sys2Proof/Machine/CmdParse.lean ====
section
/-! DEFINITION. The commands of parser, classifier, bridge and meters (R241 to R296). -/

namespace Sys2Proof.Machine

open Sys2Proof

/-- PARSER_PASS: `same` where the request falls into the allocator cycle of the one before (R227, R242). -/
def execParserPass (dt : Nat) (same : Bool) (s : State) : Host.Outcome State Fault Refusal :=
  s.engine dt (fun s => s.parserPass same)

/-- FLOW_INSERT (R255). -/
def execFlowInsert (a : Access) (s : State) : Host.Outcome State Fault Refusal :=
  s.writeQueued a CLS_FLOW_CMD.reg 0 (setBits (wdata a) 0 2 1)

/-- FLOW_DELETE (R255). -/
def execFlowDelete (a : Access) (s : State) : Host.Outcome State Fault Refusal :=
  s.writeQueued a CLS_FLOW_CMD.reg 0 (setBits (wdata a) 0 2 2)

/-- FLOW_READ (R255). -/
def execFlowRead (a : Access) (s : State) : Host.Outcome State Fault Refusal :=
  s.writeQueued a CLS_FLOW_CMD.reg 0 (setBits (wdata a) 0 2 3)

/-- FLOW_CFG_WRITE: CLS_FLOW_MASK[i], or SEED where `i` is 5 (R256). -/
def execFlowCfgWrite (a : Access) (i : Fin 6) (s : State) : Host.Outcome State Fault Refusal :=
  if i.val < 5 then
    s.writeReg a CLS_FLOW_MASK.reg i.val 0 (wdata a) (fun m s => s.flowMaskWrite i.val (s.merged CLS_FLOW_MASK.reg m (wdata a) i.val))
  else s.writeReg a CLS_FLOW_CFG.reg 0 0 (wdata a) (fun m s => s.flowCfgWrite m (s.merged CLS_FLOW_CFG.reg m (wdata a)))

/-- COMMIT (R259). -/
def execCommit (a : Access) (s : State) : Host.Outcome State Fault Refusal :=
  s.writeQueued a CLS_RULE_CMD.reg 0 (setBits (wdata a) 0 2 1)

/-- INVALIDATE (R259). -/
def execInvalidate (a : Access) (s : State) : Host.Outcome State Fault Refusal :=
  s.writeQueued a CLS_RULE_CMD.reg 0 (setBits (wdata a) 0 2 2)

/-- RULE_READ (R259). -/
def execRuleRead (a : Access) (s : State) : Host.Outcome State Fault Refusal :=
  s.writeQueued a CLS_RULE_CMD.reg 0 (setBits (wdata a) 0 2 3)

/-- SWAP (R267). -/
def execSwap (a : Access) (s : State) : Host.Outcome State Fault Refusal :=
  s.writeReg a CLS_BANK_CMD.reg 0 0 (setBits (wdata a) 0 2 1) (fun _ s => s.bankSwapCmd (setBits (wdata a) 0 2 1))

/-- DRAIN_END (R266). -/
def execDrainEnd (dt : Nat) (s : State) : Host.Outcome State Fault Refusal :=
  s.engine dt State.drainEnd

/-- STORE_COMPLETE (R28, R276, R287). -/
def execStoreComplete (dt : Nat) (s : State) : Host.Outcome State Fault Refusal :=
  s.engine dt State.storeComplete

/-- LEARN_WRITE (R283). -/
def execLearnWrite (dt : Nat) (s : State) : Host.Outcome State Fault Refusal :=
  s.engine dt State.learnWrite

/-- FDB_INSERT (R285). -/
def execFdbInsert (a : Access) (s : State) : Host.Outcome State Fault Refusal :=
  s.writeQueued a BR_FDB_CMD.reg 0 (setBits (wdata a) 0 3 1)

/-- FDB_DELETE (R285). -/
def execFdbDelete (a : Access) (s : State) : Host.Outcome State Fault Refusal :=
  s.writeQueued a BR_FDB_CMD.reg 0 (setBits (wdata a) 0 3 2)

/-- FDB_READ (R285). -/
def execFdbRead (a : Access) (s : State) : Host.Outcome State Fault Refusal :=
  s.writeQueued a BR_FDB_CMD.reg 0 (setBits (wdata a) 0 3 3)

/-- FLUSH (R285). -/
def execFlush (a : Access) (s : State) : Host.Outcome State Fault Refusal :=
  s.writeQueued a BR_FDB_CMD.reg 0 (setBits (wdata a) 0 3 4)

/-- FLUSH_DONE (R285). -/
def execFlushDone (dt : Nat) (s : State) : Host.Outcome State Fault Refusal :=
  s.engine dt State.flushEnd

/-- AGE_SWEEP_END (R284). -/
def execAgeSweepEnd (dt : Nat) (s : State) : Host.Outcome State Fault Refusal :=
  s.engine dt State.ageSweepEnd

/-- MTR_CFG_WRITE (R291). -/
def execMtrCfgWrite (a : Access) (m : Fin 64) (s : State) : Host.Outcome State Fault Refusal :=
  s.writeReg a MTR_CFG.reg m.val 0 (wdata a) (fun k s =>
    (s.setRg (MTR_CFG.reg.key m.val 0) (s.merged MTR_CFG.reg k (wdata a) m.val)).meterCfg m.val)

end Sys2Proof.Machine
end

