-- ==== Sys2Proof/Machine/CmdPort.lean ====
section
/-! DEFINITION. The commands of the wired ports (R103 to R168). -/

namespace Sys2Proof.Machine

open Sys2Proof

/-! Reception -/

/-- RX_FRAME: the lanes received since the last packet, RXC and RXD of each, to the end of the next (R105, R106, R109,
R112); its delimiter came `age` cycles ago in lane `lane`. -/
def execRxFrame (dt : Nat) (n : Fin 8) (age : Nat) (lane : Fin 16) (c : List Bool) (b : List Byte) (s : State) : Host.Outcome State Fault Refusal :=
  s.main dt (fun s => s.receive n.val (fun s => s.fromPcs n.val (fun s => s.rxLanes n.val age lane.val (laneList c b))))

/-- RX_JABBER (R114). -/
def execRxJabber (dt : Nat) (n : Fin 8) (s : State) : Host.Outcome State Fault Refusal :=
  s.main dt (fun s => s.receive n.val (fun s => s.fromPcs n.val (fun s => s.rxJabber n.val)))

/-- MISALIGNED_START (R109). -/
def execMisalignedStart (dt : Nat) (n : Fin 8) (s : State) : Host.Outcome State Fault Refusal :=
  s.main dt (fun s => s.receive n.val (fun s => s.fromPcs n.val (fun s => s.misalignedStart n.val)))

/-- LOCAL_FAULT: the 64-bit words received between packets, RXC and RXD of each (R105, R110). -/
def execLocalFault (dt : Nat) (n : Fin 8) (c : List (BitVec 8)) (w : List (BitVec 64)) (s : State) : Host.Outcome State Fault Refusal :=
  s.main dt (fun s => s.linkWatch (fun s => s.fromPcs n.val (fun s => s.rxWords n.val (wordList c w))))

/-- LINK_STATE_CHANGE (R120). -/
def execLinkStateChange (dt : Nat) (n : Fin 8) (linkOk rxOpen : Bool) (s : State) : Host.Outcome State Fault Refusal :=
  s.always dt (fun s => s.linkWatch (fun s => s.linkInput n.val linkOk rxOpen))

/-- UP_HOLD_EXPIRY (R120). -/
def execUpHoldExpiry (n : Fin 8) (s : State) : Host.Outcome State Fault Refusal :=
  s.main 0 (fun s => s.linkWatch (fun s => s.upHoldExpiry n.val))

/-! Transmission -/

/-- EGRESS_COPY: to a wired port, or to a radio port (R119, R175); a wired port whose link is not UP drops the frame, in HALT too
(R120). -/
def execEgressCopy (dt : Nat) (u : Fin 11) (s : State) : Host.Outcome State Fault Refusal :=
  s.engine dt (fun s =>
    if u.val < 8 ∧ (s.takesWork = true ∨ s.isUp u.val = false) then s.macCopy u.val
    else if 8 ≤ u.val ∧ s.takesWork = true then s.radCopy (u.val - 8)
    else s)

/-- TX_FRAME_START: `extra` bytes of idle beyond the gap rule (R108). -/
def execTxFrameStart (dt : Nat) (n : Fin 8) (extra : Nat) (s : State) : Host.Outcome State Fault Refusal :=
  s.main dt (fun s => s.txStart n.val extra)

/-- TERMINATE (R119). -/
def execTerminate (dt : Nat) (n : Fin 8) (s : State) : Host.Outcome State Fault Refusal :=
  s.main dt (fun s => s.txTerminate n.val)

/-- PORTN_MAC_CTRL_WRITE (R123). -/
def execPortnMacCtrlWrite (a : Access) (n : Fin 8) (s : State) : Host.Outcome State Fault Refusal :=
  s.writeReg a PORT_MAC_CTRL.reg n.val 0 (wdata a) (fun m s =>
    s.macCtrlWrite n.val (s.merged PORT_MAC_CTRL.reg m (wdata a) n.val))

/-- LOS_CHG: the pad has held `level` (R124). -/
def execLosChg (w : PadHeld) (n : Fin 2) (level : Bool) (s : State) : Host.Outcome State Fault Refusal :=
  s.main w.dt (fun s => s.linkWatch (fun s => s.losChange n.val level w.held))

/-- TXFLT (R124). -/
def execTxflt (w : PadHeld) (n : Fin 2) (s : State) : Host.Outcome State Fault Refusal :=
  s.main w.dt (fun s => s.txfltChange n.val true w.held)

/-- MOD_TXFLT_FALL (R124). -/
def execModTxfltFall (w : PadHeld) (n : Fin 2) (s : State) : Host.Outcome State Fault Refusal :=
  s.main w.dt (fun s => s.txfltChange n.val false w.held)

/-! Flow control (R125 to R134) -/

/-- RX_PAUSE: a pause frame of the link partner, to the port's own address where `own` (R127, R128). -/
def execRxPause (dt : Nat) (n : Fin 8) (own : Bool) (quanta : BitVec 16) (s : State) : Host.Outcome State Fault Refusal :=
  s.main dt (fun s => s.receive n.val (fun s => s.fromPcs n.val (fun s => s.rxFrame n.val 0 7 (s.pauseIn n.val own quanta.toNat))))

/-- RX_PFC: a PFC frame of the link partner; `times` holds the time of priority 0 first (R127, R129). -/
def execRxPfc (dt : Nat) (n : Fin 8) (vec : BitVec 16) (times : BitVec 128) (s : State) : Host.Outcome State Fault Refusal :=
  s.main dt (fun s => s.receive n.val (fun s => s.fromPcs n.val (fun s => s.rxFrame n.val 0 7 (pfcIn vec.toNat times.toNat))))

/-- PAUSE_TIMER_EXPIRY (R128). -/
def execPauseTimerExpiry (n : Fin 8) (s : State) : Host.Outcome State Fault Refusal :=
  s.main 0 (fun s => s.pauseExpiry n.val)

/-- PFC_TIMER_EXPIRY (R129). -/
def execPfcTimerExpiry (n : Fin 8) (p : Fin 8) (s : State) : Host.Outcome State Fault Refusal :=
  s.main 0 (fun s => s.pfcExpiry n.val p.val)

/-- XOFF (R130, R131). -/
def execXoff (dt : Nat) (n : Fin 8) (s : State) : Host.Outcome State Fault Refusal :=
  s.main dt (fun s => s.fcEval n.val)

/-- TX_PAUSE: a generated control frame is sent (R132). -/
def execTxPause (w : StartAt) (n : Fin 8) (s : State) : Host.Outcome State Fault Refusal :=
  s.main w.dt (fun s => s.txCtrl n.val w.extra)

/-- PAUSE_REFRESH (R132). -/
def execPauseRefresh (n : Fin 8) (s : State) : Host.Outcome State Fault Refusal :=
  s.main 0 (fun s => s.fcRefresh n.val)

/-- FC_MODE_WRITE (R133). -/
def execFcModeWrite (a : Access) (n : Fin 8) (s : State) : Host.Outcome State Fault Refusal :=
  s.writeReg a PORT_FC_CTRL.reg n.val 0 (wdata a) (fun m s => s.fcCtrlWrite n.val (s.merged PORT_FC_CTRL.reg m (wdata a) n.val))

/-- PAUSE_WDOG (R134). -/
def execPauseWdog (n : Fin 8) (s : State) : Host.Outcome State Fault Refusal :=
  s.main 0 (fun s => s.pauseWdog n.val)

/-- WDOG_TRIP_CLEAR: a write of 1 to WDOG_TRIP (R134). -/
def execWdogTripClear (a : Access) (n : Fin 8) (s : State) : Host.Outcome State Fault Refusal :=
  s.writeReg a PORT_FC_STAT.reg n.val 0 (setBits (wdata a) 32 1 1) (fun m s => if bitAt m 32 then s.wdogClear n.val else s)

/-! Recess (R135 to R137) -/

/-- RECESS_ENTRY (R135). -/
def execRecessEntry (n : Fin 8) (s : State) : Host.Outcome State Fault Refusal :=
  s.main 0 (fun s => s.recessEntry n.val)

/-- RECESS_EXIT (R136). -/
def execRecessExit (dt : Nat) (n : Fin 8) (s : State) : Host.Outcome State Fault Refusal :=
  s.main dt (fun s => s.recessExit n.val)

/-- WAKING_END (R136). -/
def execWakingEnd (n : Fin 8) (s : State) : Host.Outcome State Fault Refusal :=
  s.main 0 (fun s => s.wakingEnd n.val)

/-- RX_LPI (R137). -/
def execRxLpi (dt : Nat) (n : Fin 8) (lpi : Bool) (s : State) : Host.Outcome State Fault Refusal :=
  s.main dt (fun s => s.fromPcs n.val (fun s => s.rxLpi n.val lpi))

/-! Timetable (R140 to R154) -/

/-- SWITCH (R146, R147). -/
def execSwitch (a : Access) (n : Fin 8) (s : State) : Host.Outcome State Fault Refusal :=
  s.writeQueued a PORT_GCL_CMD.reg n.val (setBits (wdata a) 0 2 1)

/-- CANCEL (R146, R148). -/
def execCancel (a : Access) (n : Fin 8) (s : State) : Host.Outcome State Fault Refusal :=
  s.writeQueued a PORT_GCL_CMD.reg n.val (setBits (wdata a) 0 2 2)

/-- GCL_ENTRY_WRITE: entry `i` of list `l` (R145). -/
def execGclEntryWrite (a : Access) (n : Fin 8) (l : Fin 2) (i : Fin 96) (s : State) : Host.Outcome State Fault Refusal :=
  let f := if l.val = 0 then PORT_GCL0_E.reg else PORT_GCL1_E.reg
  s.writeReg a f n.val i.val (wdata a) (fun m s => s.gclEntryWrite n.val l.val i.val (s.merged f m (wdata a) n.val i.val))

/-- PORTN_GCL_CFG_WRITE (R149). -/
def execPortnGclCfgWrite (a : Access) (n : Fin 8) (s : State) : Host.Outcome State Fault Refusal :=
  s.writeReg a PORT_GCL_CFG.reg n.val 0 (wdata a) (fun m s => s.gclCfgRange n.val (s.merged PORT_GCL_CFG.reg m (wdata a) n.val))

/-- GATE_CHANGE (R142). -/
def execGateChange (n : Fin 8) (s : State) : Host.Outcome State Fault Refusal :=
  s.main 0 (fun s => s.gateChange n.val)

/-- HOLD (R162). -/
def execHold (n : Fin 8) (s : State) : Host.Outcome State Fault Refusal :=
  s.main 0 (fun s => s.holdEvent n.val)

/-! Preemption (R155 to R164) -/

/-- VERIFY_START (R158). -/
def execVerifyStart (dt : Nat) (n : Fin 8) (s : State) : Host.Outcome State Fault Refusal :=
  s.main dt (fun s => s.verifyStart n.val)

/-- VERIFY_MS_EXPIRY (R158). -/
def execVerifyMsExpiry (n : Fin 8) (s : State) : Host.Outcome State Fault Refusal :=
  s.main 0 (fun s => s.verifyExpiry n.val)

/-- RX_VERIFY (R159). -/
def execRxVerify (dt : Nat) (n : Fin 8) (b : List Byte) (s : State) : Host.Outcome State Fault Refusal :=
  s.main dt (fun s => s.receive n.val (fun s => s.fromPcs n.val (fun s => s.rxLanes n.val 0 7 (framePacket smdV (nats b)))))

/-- RX_RESPOND (R158). -/
def execRxRespond (dt : Nat) (n : Fin 8) (b : List Byte) (s : State) : Host.Outcome State Fault Refusal :=
  s.main dt (fun s => s.receive n.val (fun s => s.fromPcs n.val (fun s => s.rxLanes n.val 0 7 (framePacket smdR (nats b)))))

/-- PREEMPT_CUT (R160, R161). -/
def execPreemptCut (dt : Nat) (n : Fin 8) (s : State) : Host.Outcome State Fault Refusal :=
  s.main dt (fun s => s.preemptCut n.val)

/-- PREEMPT_CONTINUE (R161). -/
def execPreemptContinue (dt : Nat) (n : Fin 8) (extra : Nat) (s : State) : Host.Outcome State Fault Refusal :=
  s.main dt (fun s => s.preemptContinue n.val extra)

/-- RX_FRAGMENT: start code `smd`, for a continuation the count `cnt`, the bytes from there to the check sequence (R163). -/
def execRxFragment (dt : Nat) (n : Fin 8) (age : Nat) (lane : Fin 16) (smd cnt : Byte) (b : List Byte) (s : State) : Host.Outcome State Fault Refusal :=
  s.main dt (fun s => s.receive n.val (fun s => s.fromPcs n.val (fun s =>
    s.rxLanes n.val age lane.val (fragmentLanes smd.toNat cnt.toNat (nats b)))))

/-- LAUNCH_AVAILABLE (R165). -/
def execLaunchAvailable (n : Fin 8) (s : State) : Host.Outcome State Fault Refusal :=
  s.main 0 (fun s => s.launchAvailable n.val)

end Sys2Proof.Machine
end

