-- ==== Sys2Proof/Machine/CmdPower.lean ====
section
/-! DEFINITION. The commands of the power controller and the front panel (R506 to R532). -/

namespace Sys2Proof.Machine

open Sys2Proof

/-- DOZE (R509, R510). -/
def execDoze (a : Access) (s : State) : Host.Outcome State Fault Refusal :=
  s.writeReg a PWR_CMD.reg 0 0 (setBits (wdata a) 0 3 1) (fun _ s => s.pwrCmd (setBits (wdata a) 0 3 1))

/-- WATCH (R509, R510). -/
def execWatch (a : Access) (s : State) : Host.Outcome State Fault Refusal :=
  s.writeReg a PWR_CMD.reg 0 0 (setBits (wdata a) 0 3 2) (fun _ s => s.pwrCmd (setBits (wdata a) 0 3 2))

/-- DEEP (R509, R515). -/
def execDeep (a : Access) (s : State) : Host.Outcome State Fault Refusal :=
  s.writeReg a PWR_CMD.reg 0 0 (setBits (wdata a) 0 3 3) (fun _ s => s.pwrCmd (setBits (wdata a) 0 3 3))

/-- WAKE (R509, R516). -/
def execWake (a : Access) (s : State) : Host.Outcome State Fault Refusal :=
  s.writeReg a PWR_CMD.reg 0 0 (setBits (wdata a) 0 3 4) (fun _ s => s.pwrCmd (setBits (wdata a) 0 3 4))

/-- ACK (R509, R522). -/
def execAck (a : Access) (s : State) : Host.Outcome State Fault Refusal :=
  s.writeReg a PWR_CMD.reg 0 0 (setBits (wdata a) 0 3 5) (fun _ s => s.pwrCmd (setBits (wdata a) 0 3 5))

/-- STATE_REACHED (R510). -/
def execStateReached (s : State) : Host.Outcome State Fault Refusal :=
  s.main 0 State.stateReached

/-- DEEP_RESET (R515). -/
def execDeepReset (dt : Nat) (s : State) : Host.Outcome State Fault Refusal :=
  s.main dt State.deepReset

/-- DEEP_FAIL (R515). -/
def execDeepFail (s : State) : Host.Outcome State Fault Refusal :=
  s.main 0 State.deepFail

/-- KEEP_RETURN: the next edge, where a KEEP wake returns to WATCH at it (R521). -/
def execKeepReturn (s : State) : Host.Outcome State Fault Refusal :=
  s.onEdge State.keepNext

/-- SLEEP_RX_FRAME: a frame received while asleep (R523). -/
def execSleepRxFrame (dt : Nat) (n : Fin 8) (age : Nat) (lane : Fin 16) (b : List Byte) (s : State) : Host.Outcome State Fault Refusal :=
  s.main dt (fun s =>
    if s.asleep then s.receive n.val (fun s => s.fromPcs n.val (fun s => s.rxFrame n.val age lane.val (nats b))) else s)

/-- AON_TIMER (R526). -/
def execAonTimer (s : State) : Host.Outcome State Fault Refusal :=
  s.always 0 State.aonAlarm

/-- PANEL_RAW_CHANGE (R527, R528). -/
def execPanelRawChange (dt : Nat) (k : Fin 4) (level : Bool) (s : State) : Host.Outcome State Fault Refusal :=
  s.always dt (fun s => s.panelRaw k.val level)

/-- PRESS (R528). -/
def execPress (k : Fin 4) (s : State) : Host.Outcome State Fault Refusal :=
  s.always 0 (fun s => s.panelDebounced k.val)

/-- LONG (R528). -/
def execLong (k : Fin 4) (s : State) : Host.Outcome State Fault Refusal :=
  s.always 0 (fun s => s.panelLong k.val)

/-- STUCK (R528). -/
def execStuck (k : Fin 4) (s : State) : Host.Outcome State Fault Refusal :=
  s.always 0 (fun s => s.panelStuck k.val)

/-- QUARANTINE_END (R528). -/
def execQuarantineEnd (k : Fin 4) (s : State) : Host.Outcome State Fault Refusal :=
  s.always 0 (fun s => s.panelQuiet k.val)

end Sys2Proof.Machine
end

