-- ==== Sys2Proof/Machine/CmdProt.lean ====
section
/-! DEFINITION. The commands of protection and tamper (R480 to R505). -/

namespace Sys2Proof.Machine

open Sys2Proof

/-- PROP_COMMIT (R489). -/
def execPropCommit (a : Access) (s : State) : Host.Outcome State Fault Refusal :=
  s.writeQueued a PROT_CMD.reg 0 (setBits (wdata a) 0 2 1)

/-- APPROVE (R491). -/
def execApprove (a : Access) (s : State) : Host.Outcome State Fault Refusal :=
  s.writeQueued a PROT_CMD.reg 0 (setBits (wdata a) 0 2 2)

/-- PROP_CANCEL (R491). -/
def execPropCancel (a : Access) (s : State) : Host.Outcome State Fault Refusal :=
  s.writeQueued a PROT_CMD.reg 0 (setBits (wdata a) 0 2 3)

/-- EXPIRED: the next edge, where the proposal expires at it (R487). -/
def execExpired (s : State) : Host.Outcome State Fault Refusal :=
  s.onEdge State.expireNext

/-- APPLIED: the next edge, where the approved change applies at it (R492). -/
def execApplied (s : State) : Host.Outcome State Fault Refusal :=
  s.onEdge (fun s => s.changesApply && s.propDue)

/-- TAMPER: acts in manufacturing test too (R500, R501). -/
def execTamper (dt : Nat) (i : BitVec 8) (s : State) : Host.Outcome State Fault Refusal :=
  s.answer (if s.chip.aonOn then (s.pass dt).tamperIn i.toNat else s)

/-- WIPE_DONE (R499). -/
def execWipeDone (dt : Nat) (s : State) : Host.Outcome State Fault Refusal :=
  s.main dt State.wipeDone

end Sys2Proof.Machine
end

