-- ==== Sys2Proof/Machine/CmdRadio.lean ====
section
/-! DEFINITION. The commands of the radio ports (R169 to R186). -/

namespace Sys2Proof.Machine

open Sys2Proof

/-- RADIO_RX_FRAME: receive beats with the bytes `b`, the first offered `ago` ns ago; SOP with the metadata word `md` on the first,
EOP and RADn_RX_ERR on the last (R171, R174, R176). -/
def execRadioRxFrame (dt : Nat) (n : Fin 3) (md : BitVec 128) (ago : Nat) (x : RadMarks) (b : List Byte) (s : State) : Host.Outcome State Fault Refusal :=
  s.main dt (fun s => s.receive (8 + n.val) (fun s => s.radRx n.val md.toNat ago x.sop x.eop x.err (nats b)))

/-- RADIO_STRAY_BEAT (R174). -/
def execRadioStrayBeat (dt : Nat) (n : Fin 3) (s : State) : Host.Outcome State Fault Refusal :=
  s.main dt (fun s => s.receive (8 + n.val) (fun s => s.radStray n.val))

/-- RADIO_RX_OVERLONG (R174). -/
def execRadioRxOverlong (dt : Nat) (n : Fin 3) (s : State) : Host.Outcome State Fault Refusal :=
  s.main dt (fun s => s.receive (8 + n.val) (fun s => s.radOverlong n.val))

/-- RADIO_TX_SOP: RADn_TX_READY has its level; at 1 the SOP beat transfers (R171, R175). -/
def execRadioTxSop (dt : Nat) (n : Fin 3) (ready : Bool) (s : State) : Host.Outcome State Fault Refusal :=
  s.main dt (fun s => if ready then s.radSop n.val else s)

/-- EOP: RADn_TX_READY has its level; at 1 the EOP beat transfers (R171, R175). -/
def execEop (dt : Nat) (n : Fin 3) (ready : Bool) (s : State) : Host.Outcome State Fault Refusal :=
  s.main dt (fun s => if ready then s.radEop n.val else s)

/-- BEACON_REPORT (R181). -/
def execBeaconReport (dt : Nat) (n : Fin 3) (info : Word32) (s : State) : Host.Outcome State Fault Refusal :=
  s.main dt (fun s => s.beacon n.val info.toNat)

/-- BCN_MISSED (R181). -/
def execBcnMissed (n : Fin 3) (s : State) : Host.Outcome State Fault Refusal :=
  s.main 0 (fun s => s.bcnMissed n.val)

/-- RADN_CTRL_WRITE (R184). -/
def execRadnCtrlWrite (a : Access) (n : Fin 3) (s : State) : Host.Outcome State Fault Refusal :=
  s.writeReg a RAD_CTRL.reg n.val 0 (wdata a) (fun m s => s.radCtrlWrite n.val (s.merged RAD_CTRL.reg m (wdata a) n.val))

end Sys2Proof.Machine
end

