-- ==== Sys2Proof/Machine/CmdRoll.lean ====
section
/-! DEFINITION. The commands of the roll-call engine (R386 to R411). -/

namespace Sys2Proof.Machine

open Sys2Proof

/-- ROLL_INTAKE (R387). -/
def execRollIntake (dt : Nat) (s : State) : Host.Outcome State Fault Refusal :=
  s.engine dt State.rollIntake

/-- SWEEP: once the fixed work of the bell has ended (R396). -/
def execSweep (dt : Nat) (s : State) : Host.Outcome State Fault Refusal :=
  s.engine dt (fun s => s.afterFixed.sweep)

/-- ROLL_ABSENT (R397). -/
def execRollAbsent (a : Access) (s : State) : Host.Outcome State Fault Refusal :=
  s.readReg a ROLL_ABSENT.reg 0 State.absentPop

/-- ROLL_CFG_WRITE (R390). -/
def execRollCfgWrite (a : Access) (s : State) : Host.Outcome State Fault Refusal :=
  s.writeReg a ROLL_CFG.reg 0 0 (wdata a) (fun m s => s.rollCfgWrite (s.merged ROLL_CFG.reg m (wdata a)))

/-- INSERT (R407). -/
def execInsert (a : Access) (s : State) : Host.Outcome State Fault Refusal :=
  s.writeQueued a ROLL_NBR_CMD.reg 0 (setBits (wdata a) 0 3 1)

/-- DELETE (R407). -/
def execDelete (a : Access) (s : State) : Host.Outcome State Fault Refusal :=
  s.writeQueued a ROLL_NBR_CMD.reg 0 (setBits (wdata a) 0 3 2)

/-- READ (R407). -/
def execRead (a : Access) (s : State) : Host.Outcome State Fault Refusal :=
  s.writeQueued a ROLL_NBR_CMD.reg 0 (setBits (wdata a) 0 3 3)

/-- DL_CLEAR (R407). -/
def execDlClear (a : Access) (s : State) : Host.Outcome State Fault Refusal :=
  s.writeQueued a ROLL_NBR_CMD.reg 0 (setBits (wdata a) 0 3 4)

end Sys2Proof.Machine
end

