-- ==== Sys2Proof/Machine/CmdTime.lean ====
section
/-! DEFINITION. The commands of the timebase (R360 to R385). -/

namespace Sys2Proof.Machine

open Sys2Proof

/-- RATE_CHANGE (R364, R365). -/
def execRateChange (a : Access) (s : State) : Host.Outcome State Fault Refusal :=
  s.writeReg a TIME_RATE.reg 0 0 (wdata a) (fun m s => s.writeRate (s.merged TIME_RATE.reg m (wdata a)))

/-- STEP (R368). -/
def execStep (a : Access) (s : State) : Host.Outcome State Fault Refusal :=
  s.writeReg a TIME_STEP.reg 0 0 (wdata a) (fun _ s => s.writeStep (wdata a))

/-- HELD_STEP: the next edge, where a held step is applied after it (R368). -/
def execHeldStep (s : State) : Host.Outcome State Fault Refusal :=
  s.onEdge State.heldNext

/-- ACQUIRE (R367). -/
def execAcquire (a : Access) (s : State) : Host.Outcome State Fault Refusal :=
  s.writeReg a TIME_CMD.reg 0 0 (setBits (wdata a) 0 4 1) (fun _ s => s.timeCmd (setBits (wdata a) 0 4 1))

/-- LOCK (R367). -/
def execLock (a : Access) (s : State) : Host.Outcome State Fault Refusal :=
  s.writeReg a TIME_CMD.reg 0 0 (setBits (wdata a) 0 4 2) (fun _ s => s.timeCmd (setBits (wdata a) 0 4 2))

/-- UNLOCK (R367). -/
def execUnlock (a : Access) (s : State) : Host.Outcome State Fault Refusal :=
  s.writeReg a TIME_CMD.reg 0 0 (setBits (wdata a) 0 4 3) (fun _ s => s.timeCmd (setBits (wdata a) 0 4 3))

/-- HOLDOVER, with the R369 cause and rate (R367). -/
def execHoldover (a : Access) (s : State) : Host.Outcome State Fault Refusal :=
  s.writeReg a TIME_CMD.reg 0 0 (setBits (wdata a) 0 4 4) (fun _ s => s.timeCmd (setBits (wdata a) 0 4 4))

/-- RESUME (R367). -/
def execResume (a : Access) (s : State) : Host.Outcome State Fault Refusal :=
  s.writeReg a TIME_CMD.reg 0 0 (setBits (wdata a) 0 4 5) (fun _ s => s.timeCmd (setBits (wdata a) 0 4 5))

/-- SERVO_TMO (R367). -/
def execServoTmo (s : State) : Host.Outcome State Fault Refusal :=
  s.main 0 State.servoTimeout

/-- TIME_NOW_NS (R366, R537). -/
def execTimeNowNs (a : Access) (s : State) : Host.Outcome State Fault Refusal :=
  s.readReg a TIME_NOW_NS.reg 0 (fun s => s.readNow a.init.val)

/-- CAPTURE_EDGE (R374). -/
def execCaptureEdge (dt : Nat) (k : Fin 6) (rising : Bool) (s : State) : Host.Outcome State Fault Refusal :=
  s.main dt (fun s => s.captureEdge k.val rising)

/-- TIME_CAPK_TS (R374). -/
def execTimeCapkTs (a : Access) (k : Fin 6) (s : State) : Host.Outcome State Fault Refusal :=
  s.readReg a TIME_CAP_TS.reg k.val (fun s => s.capRead k.val)

/-- OUTPUT_EDGE (R375). -/
def execOutputEdge (o : Fin 6) (s : State) : Host.Outcome State Fault Refusal :=
  s.main 0 (fun s => s.outputEdge o.val)

/-- OUTPUT_FALL (R375). -/
def execOutputFall (o : Fin 6) (s : State) : Host.Outcome State Fault Refusal :=
  s.main 0 (fun s => s.outputFall o.val)

/-- REF_WINDOW (R377). -/
def execRefWindow (edges : Nat) (s : State) : Host.Outcome State Fault Refusal :=
  s.main 0 (fun s => s.refWindow edges)

/-- CHECKPOINT: the next edge, where it requests a checkpoint (R378). -/
def execCheckpoint (s : State) : Host.Outcome State Fault Refusal :=
  s.onEdge State.ckptNext

end Sys2Proof.Machine
end

