-- ==== Sys2Proof/Machine/Dispatch.lean ====
section
/-! DEFINITION. The dispatch: one arm per command, each a direct call of its meaning. -/

namespace Sys2Proof.Machine

open Sys2Proof

/-- What a command does to everything but the queue. -/
def exec (i : Instr) (s : State) : Host.Outcome State Fault Refusal :=
  match i with
  | .registerWrite a addr => Sys2Proof.Machine.execRegisterWrite a addr s
  | .aonPor dt => Sys2Proof.Machine.execAonPor dt s
  | .porst dt x => Sys2Proof.Machine.execPorst dt x s
  | .coreRail dt sram x => Sys2Proof.Machine.execCoreRail dt sram x s
  | .ledgerRail dt low => Sys2Proof.Machine.execLedgerRail dt low s
  | .ledgerRailReturn dt => Sys2Proof.Machine.execLedgerRailReturn dt s
  | .clockLoss dt d rxOpen => Sys2Proof.Machine.execClockLoss dt d rxOpen s
  | .clockReturn dt d => Sys2Proof.Machine.execClockReturn dt d s
  | .glbRstCmd a => Sys2Proof.Machine.execGlbRstCmd a s
  | .swReset dt => Sys2Proof.Machine.execSwReset dt s
  | .mainResetEnd w => Sys2Proof.Machine.execMainResetEnd w s
  | .bootCounterWrite dt => Sys2Proof.Machine.execBootCounterWrite dt s
  | .startMarch dt defects => Sys2Proof.Machine.execStartMarch dt defects s
  | .imageLoad dt flash0 flash1 => Sys2Proof.Machine.execImageLoad dt flash0 flash1 s
  | .poolBuild dt => Sys2Proof.Machine.execPoolBuild dt s
  | .gpioInput dt pin level => Sys2Proof.Machine.execGpioInput dt pin level s
  | .hostReadResponse dt tag bad data => Sys2Proof.Machine.execHostReadResponse dt tag bad data s
  | .hostWriteResponse dt tag bad => Sys2Proof.Machine.execHostWriteResponse dt tag bad s
  | .hostTimeout => Sys2Proof.Machine.execHostTimeout s
  | .write32 dt addr data x => Sys2Proof.Machine.execWrite32 dt addr data x s
  | .write64 dt addr data x => Sys2Proof.Machine.execWrite64 dt addr data x s
  | .read32 dt addr x => Sys2Proof.Machine.execRead32 dt addr x s
  | .read64 dt addr x => Sys2Proof.Machine.execRead64 dt addr x s
  | .regacc dt wr wide addr data => Sys2Proof.Machine.execRegacc dt wr wide addr data s
  | .mbist dt => Sys2Proof.Machine.execMbist dt s
  | .jtagTrst w => Sys2Proof.Machine.execJtagTrst w s
  | .tmScan dt mbist => Sys2Proof.Machine.execTmScan dt mbist s
  | .roleCmd a => Sys2Proof.Machine.execRoleCmd a s
  | .requestTest a => Sys2Proof.Machine.execRequestTest a s
  | .requestService a => Sys2Proof.Machine.execRequestService a s
  | .requestStart a => Sys2Proof.Machine.execRequestStart a s
  | .requestSleep a => Sys2Proof.Machine.execRequestSleep a s
  | .haltRequest a => Sys2Proof.Machine.execHaltRequest a s
  | .bellEdge => Sys2Proof.Machine.execBellEdge s
  | .termBoundary => Sys2Proof.Machine.execTermBoundary s
  | .rephaseEdge => Sys2Proof.Machine.execRephaseEdge s
  | .glbBellCfgWrite a => Sys2Proof.Machine.execGlbBellCfgWrite a s
  | .preservingMarchStep w defects => Sys2Proof.Machine.execPreservingMarchStep w defects s
  | .scrubStep w => Sys2Proof.Machine.execScrubStep w s
  | .fillStep dt => Sys2Proof.Machine.execFillStep dt s
  | .ruleBankSwapStep dt => Sys2Proof.Machine.execRuleBankSwapStep dt s
  | .poolRebuildStep dt => Sys2Proof.Machine.execPoolRebuildStep dt s
  | .ledgerWriteStep dt miss => Sys2Proof.Machine.execLedgerWriteStep dt miss s
  | .flashStep dt bytes => Sys2Proof.Machine.execFlashStep dt bytes s
  | .secureZeroStep dt => Sys2Proof.Machine.execSecureZeroStep dt s
  | .rxFrame dt n age lane c b => Sys2Proof.Machine.execRxFrame dt n age lane c b s
  | .rxJabber dt n => Sys2Proof.Machine.execRxJabber dt n s
  | .localFault dt n c w => Sys2Proof.Machine.execLocalFault dt n c w s
  | .linkStateChange dt n linkOk rxOpen => Sys2Proof.Machine.execLinkStateChange dt n linkOk rxOpen s
  | .upHoldExpiry n => Sys2Proof.Machine.execUpHoldExpiry n s
  | .egressCopy dt u => Sys2Proof.Machine.execEgressCopy dt u s
  | .txFrameStart dt n extra => Sys2Proof.Machine.execTxFrameStart dt n extra s
  | .terminate dt n => Sys2Proof.Machine.execTerminate dt n s
  | .portnMacCtrlWrite a n => Sys2Proof.Machine.execPortnMacCtrlWrite a n s
  | .losChg w n level => Sys2Proof.Machine.execLosChg w n level s
  | .txflt w n => Sys2Proof.Machine.execTxflt w n s
  | .rxPause dt n own quanta => Sys2Proof.Machine.execRxPause dt n own quanta s
  | .rxPfc dt n vec times => Sys2Proof.Machine.execRxPfc dt n vec times s
  | .pauseTimerExpiry n => Sys2Proof.Machine.execPauseTimerExpiry n s
  | .pfcTimerExpiry n p => Sys2Proof.Machine.execPfcTimerExpiry n p s
  | .xoff dt n => Sys2Proof.Machine.execXoff dt n s
  | .txPause w n => Sys2Proof.Machine.execTxPause w n s
  | .pauseRefresh n => Sys2Proof.Machine.execPauseRefresh n s
  | .fcModeWrite a n => Sys2Proof.Machine.execFcModeWrite a n s
  | .pauseWdog n => Sys2Proof.Machine.execPauseWdog n s
  | .wdogTripClear a n => Sys2Proof.Machine.execWdogTripClear a n s
  | .recessEntry n => Sys2Proof.Machine.execRecessEntry n s
  | .recessExit dt n => Sys2Proof.Machine.execRecessExit dt n s
  | .wakingEnd n => Sys2Proof.Machine.execWakingEnd n s
  | .rxLpi dt n lpi => Sys2Proof.Machine.execRxLpi dt n lpi s
  | .switch a n => Sys2Proof.Machine.execSwitch a n s
  | .cancel a n => Sys2Proof.Machine.execCancel a n s
  | .gclEntryWrite a n l k => Sys2Proof.Machine.execGclEntryWrite a n l k s
  | .portnGclCfgWrite a n => Sys2Proof.Machine.execPortnGclCfgWrite a n s
  | .gateChange n => Sys2Proof.Machine.execGateChange n s
  | .hold n => Sys2Proof.Machine.execHold n s
  | .verifyStart dt n => Sys2Proof.Machine.execVerifyStart dt n s
  | .verifyMsExpiry n => Sys2Proof.Machine.execVerifyMsExpiry n s
  | .rxVerify dt n b => Sys2Proof.Machine.execRxVerify dt n b s
  | .rxRespond dt n b => Sys2Proof.Machine.execRxRespond dt n b s
  | .preemptCut dt n => Sys2Proof.Machine.execPreemptCut dt n s
  | .preemptContinue dt n extra => Sys2Proof.Machine.execPreemptContinue dt n extra s
  | .rxFragment dt n age lane smd cnt b => Sys2Proof.Machine.execRxFragment dt n age lane smd cnt b s
  | .launchAvailable n => Sys2Proof.Machine.execLaunchAvailable n s
  | .radioRxFrame dt n md ago x b => Sys2Proof.Machine.execRadioRxFrame dt n md ago x b s
  | .radioTxSop dt n ready => Sys2Proof.Machine.execRadioTxSop dt n ready s
  | .eop dt n ready => Sys2Proof.Machine.execEop dt n ready s
  | .beaconReport dt n info => Sys2Proof.Machine.execBeaconReport dt n info s
  | .bcnMissed n => Sys2Proof.Machine.execBcnMissed n s
  | .radnCtrlWrite a n => Sys2Proof.Machine.execRadnCtrlWrite a n s
  | .procAccess dt core wr addr len data => Sys2Proof.Machine.execProcAccess dt core wr addr len data s
  | .on a => Sys2Proof.Machine.execOn a s
  | .off a => Sys2Proof.Machine.execOff a s
  | .eraseColumn a => Sys2Proof.Machine.execEraseColumn a s
  | .marchStart a => Sys2Proof.Machine.execMarchStart a s
  | .marchAbort a => Sys2Proof.Machine.execMarchAbort a s
  | .staffAccess dt core init sc host => Sys2Proof.Machine.execStaffAccess dt core init sc host s
  | .withdraw a => Sys2Proof.Machine.execWithdraw a s
  | .restore a => Sys2Proof.Machine.execRestore a s
  | .redefine a => Sys2Proof.Machine.execRedefine a s
  | .poolAlloc a => Sys2Proof.Machine.execPoolAlloc a s
  | .poolAllocResult dt init same => Sys2Proof.Machine.execPoolAllocResult dt init same s
  | .poolAllocResRead a => Sys2Proof.Machine.execPoolAllocResRead a s
  | .poolFree a => Sys2Proof.Machine.execPoolFree a s
  | .parserPass dt same => Sys2Proof.Machine.execParserPass dt same s
  | .flowInsert a => Sys2Proof.Machine.execFlowInsert a s
  | .flowDelete a => Sys2Proof.Machine.execFlowDelete a s
  | .flowRead a => Sys2Proof.Machine.execFlowRead a s
  | .flowCfgWrite a k => Sys2Proof.Machine.execFlowCfgWrite a k s
  | .commit a => Sys2Proof.Machine.execCommit a s
  | .invalidate a => Sys2Proof.Machine.execInvalidate a s
  | .ruleRead a => Sys2Proof.Machine.execRuleRead a s
  | .swap a => Sys2Proof.Machine.execSwap a s
  | .drainEnd dt => Sys2Proof.Machine.execDrainEnd dt s
  | .storeComplete dt => Sys2Proof.Machine.execStoreComplete dt s
  | .learnWrite dt => Sys2Proof.Machine.execLearnWrite dt s
  | .fdbInsert a => Sys2Proof.Machine.execFdbInsert a s
  | .fdbDelete a => Sys2Proof.Machine.execFdbDelete a s
  | .fdbRead a => Sys2Proof.Machine.execFdbRead a s
  | .flush a => Sys2Proof.Machine.execFlush a s
  | .flushDone dt => Sys2Proof.Machine.execFlushDone dt s
  | .mtrCfgWrite a m => Sys2Proof.Machine.execMtrCfgWrite a m s
  | .partEnable a p => Sys2Proof.Machine.execPartEnable a p s
  | .partReset a p => Sys2Proof.Machine.execPartReset a p s
  | .run a p => Sys2Proof.Machine.execRun a p s
  | .resetDone p => Sys2Proof.Machine.execResetDone p s
  | .ringBaseWrite a p ring => Sys2Proof.Machine.execRingBaseWrite a p ring s
  | .txqDoorbell a p => Sys2Proof.Machine.execTxqDoorbell a p s
  | .rxqDoorbell a p => Sys2Proof.Machine.execRxqDoorbell a p s
  | .completionHeadWrite a p rx => Sys2Proof.Machine.execCompletionHeadWrite a p rx s
  | .txPush dt init p off beats => Sys2Proof.Machine.execTxPush dt init p off beats s
  | .rxPush dt init p off beats => Sys2Proof.Machine.execRxPush dt init p off beats s
  | .txJob dt p same => Sys2Proof.Machine.execTxJob dt p same s
  | .txJobRetry p => Sys2Proof.Machine.execTxJobRetry p s
  | .rxBuf dt p => Sys2Proof.Machine.execRxBuf dt p s
  | .rxDelivery dt p => Sys2Proof.Machine.execRxDelivery dt p s
  | .rxDone dt p => Sys2Proof.Machine.execRxDone dt p s
  | .coalTime n => Sys2Proof.Machine.execCoalTime n s
  | .intTgttClaim a t => Sys2Proof.Machine.execIntTgttClaim a t s
  | .intTgttComplete a t => Sys2Proof.Machine.execIntTgttComplete a t s
  | .intPend a k => Sys2Proof.Machine.execIntPend a k s
  | .intSrcCfgWrite a tgt n => Sys2Proof.Machine.execIntSrcCfgWrite a tgt n s
  | .latchSet dt l rising => Sys2Proof.Machine.execLatchSet dt l rising s
  | .latchTransfer dt l => Sys2Proof.Machine.execLatchTransfer dt l s
  | .btmr k => Sys2Proof.Machine.execBtmr k s
  | .intBtmrWrite a k => Sys2Proof.Machine.execIntBtmrWrite a k s
  | .rateChange a => Sys2Proof.Machine.execRateChange a s
  | .step a => Sys2Proof.Machine.execStep a s
  | .heldStep => Sys2Proof.Machine.execHeldStep s
  | .acquire a => Sys2Proof.Machine.execAcquire a s
  | .lock a => Sys2Proof.Machine.execLock a s
  | .unlock a => Sys2Proof.Machine.execUnlock a s
  | .holdover a => Sys2Proof.Machine.execHoldover a s
  | .resume a => Sys2Proof.Machine.execResume a s
  | .servoTmo => Sys2Proof.Machine.execServoTmo s
  | .timeNowNs a => Sys2Proof.Machine.execTimeNowNs a s
  | .captureEdge dt k rising => Sys2Proof.Machine.execCaptureEdge dt k rising s
  | .timeCapkTs a k => Sys2Proof.Machine.execTimeCapkTs a k s
  | .outputEdge o => Sys2Proof.Machine.execOutputEdge o s
  | .outputFall o => Sys2Proof.Machine.execOutputFall o s
  | .refWindow edges => Sys2Proof.Machine.execRefWindow edges s
  | .checkpoint => Sys2Proof.Machine.execCheckpoint s
  | .rollIntake dt => Sys2Proof.Machine.execRollIntake dt s
  | .sweep dt => Sys2Proof.Machine.execSweep dt s
  | .rollAbsent a => Sys2Proof.Machine.execRollAbsent a s
  | .rollCfgWrite a => Sys2Proof.Machine.execRollCfgWrite a s
  | .insert a => Sys2Proof.Machine.execInsert a s
  | .delete a => Sys2Proof.Machine.execDelete a s
  | .read a => Sys2Proof.Machine.execRead a s
  | .dlClear a => Sys2Proof.Machine.execDlClear a s
  | .scRun a c => Sys2Proof.Machine.execScRun a c s
  | .scRestart a c => Sys2Proof.Machine.execScRestart a c s
  | .kick a c => Sys2Proof.Machine.execKick a c s
  | .wdog c => Sys2Proof.Machine.execWdog c s
  | .debugHalt dt c => Sys2Proof.Machine.execDebugHalt dt c s
  | .debugResume dt c => Sys2Proof.Machine.execDebugResume dt c s
  | .scTxDesc1 a => Sys2Proof.Machine.execScTxDesc1 a s
  | .scTxDone a => Sys2Proof.Machine.execScTxDone a s
  | .scRxPop a => Sys2Proof.Machine.execScRxPop a s
  | .mbxDb a => Sys2Proof.Machine.execMbxDb a s
  | .mbxDone a => Sys2Proof.Machine.execMbxDone a s
  | .mbxTimeout m => Sys2Proof.Machine.execMbxTimeout m s
  | .pmuOvf dt k n => Sys2Proof.Machine.execPmuOvf dt k n s
  | .pmuSample dt core latency addr => Sys2Proof.Machine.execPmuSample dt core latency addr s
  | .crcRestart a u => Sys2Proof.Machine.execCrcRestart a u s
  | .crcFlush a u => Sys2Proof.Machine.execCrcFlush a u s
  | .crcuData a u => Sys2Proof.Machine.execCrcuData a u s
  | .crcuData1 a u => Sys2Proof.Machine.execCrcuData1 a u s
  | .crcuCfgWrite a u which => Sys2Proof.Machine.execCrcuCfgWrite a u which s
  | .crcRes dt u => Sys2Proof.Machine.execCrcRes dt u s
  | .crcuFifoVal a u => Sys2Proof.Machine.execCrcuFifoVal a u s
  | .verify a => Sys2Proof.Machine.execVerify a s
  | .erase a => Sys2Proof.Machine.execErase a s
  | .program a => Sys2Proof.Machine.execProgram a s
  | .nvmDone dt timeout => Sys2Proof.Machine.execNvmDone dt timeout s
  | .ldgFwData a => Sys2Proof.Machine.execLdgFwData a s
  | .ldgRdData a => Sys2Proof.Machine.execLdgRdData a s
  | .propCommit a => Sys2Proof.Machine.execPropCommit a s
  | .approve a => Sys2Proof.Machine.execApprove a s
  | .propCancel a => Sys2Proof.Machine.execPropCancel a s
  | .expired => Sys2Proof.Machine.execExpired s
  | .applied => Sys2Proof.Machine.execApplied s
  | .tamper dt k => Sys2Proof.Machine.execTamper dt k s
  | .wipeDone dt => Sys2Proof.Machine.execWipeDone dt s
  | .doze a => Sys2Proof.Machine.execDoze a s
  | .watch a => Sys2Proof.Machine.execWatch a s
  | .deep a => Sys2Proof.Machine.execDeep a s
  | .wake a => Sys2Proof.Machine.execWake a s
  | .ack a => Sys2Proof.Machine.execAck a s
  | .stateReached => Sys2Proof.Machine.execStateReached s
  | .deepReset dt => Sys2Proof.Machine.execDeepReset dt s
  | .deepFail => Sys2Proof.Machine.execDeepFail s
  | .keepReturn => Sys2Proof.Machine.execKeepReturn s
  | .sleepRxFrame dt n age lane b => Sys2Proof.Machine.execSleepRxFrame dt n age lane b s
  | .aonTimer => Sys2Proof.Machine.execAonTimer s
  | .panelRawChange dt k level => Sys2Proof.Machine.execPanelRawChange dt k level s
  | .press k => Sys2Proof.Machine.execPress k s
  | .long k => Sys2Proof.Machine.execLong k s
  | .stuck k => Sys2Proof.Machine.execStuck k s
  | .quarantineEnd k => Sys2Proof.Machine.execQuarantineEnd k s
  | .registerRead a addr => Sys2Proof.Machine.execRegisterRead a addr s
  | .vddAonFall dt => Sys2Proof.Machine.execVddAonFall dt s
  | .ageSweepEnd dt => Sys2Proof.Machine.execAgeSweepEnd dt s
  | .bellOutFall => Sys2Proof.Machine.execBellOutFall s
  | .misalignedStart dt n => Sys2Proof.Machine.execMisalignedStart dt n s
  | .radioStrayBeat dt n => Sys2Proof.Machine.execRadioStrayBeat dt n s
  | .radioRxOverlong dt n => Sys2Proof.Machine.execRadioRxOverlong dt n s
  | .modTxfltFall w n => Sys2Proof.Machine.execModTxfltFall w n s

end Sys2Proof.Machine
end

