-- ==== Sys2Proof/Machine/Step.lean ====
section
/-! DEFINITION. The step: the block takes the command at the front of its queue. -/

namespace Sys2Proof.Machine

open Sys2Proof

/-- One TIME_CK cycle with no command (DESIGN CHOICE): nothing happens but the passage of time. -/
def State.idle (s : State) : Host.Outcome State Fault Refusal := s.always 1 (fun s => s)

/-- The command at the front of the queue acts on the state with the queue's rest; with none waiting one cycle passes. -/
def step (s : State) : Host.Outcome State Fault Refusal :=
  match s.pending with
  | [] => s.idle
  | c :: rest => exec c { s with pending := rest }

/-- `s` with the command that a word spells at the front of its queue; `s` where it spells none. -/
def State.withFetchWord (s : State) (nbits w : Nat) : State :=
  match Sys2Proof.decodeTableWord nbits w with
  | some c => { s with pending := c :: s.pending }
  | none => s

end Sys2Proof.Machine
end

