-- ==== Sys2Proof/Safety.lean ====
section
/-! DEFINITION. The words of the statements: which part of the block a command needs, which register-port request it makes, and
when a request is answered OKAY and reaches its register. -/

namespace Sys2Proof.Machine

open Sys2Proof

/-- The part of the block that a command needs: the pins of the always-on reset, the always-on island, the main domain, an engine
whose clock stops in DOZE and WATCH, the register port. -/
inductive Domain where
  | chip | island | main | engine | port
  deriving DecidableEq, Repr

/-- Where a command acts, and how many cycles pass before it. -/
structure Site where
  dom : Domain
  dt : Nat
  deriving DecidableEq, Repr

/-- Where each command acts. -/
def siteOf (c : Instr) : Site :=
  match c with
  | .registerWrite a _ => ⟨.port, a.dt⟩
  | .aonPor dt => ⟨.chip, dt⟩
  | .porst dt _ => ⟨.chip, dt⟩
  | .coreRail dt _ _ => ⟨.island, dt⟩
  | .ledgerRail dt _ => ⟨.island, dt⟩
  | .ledgerRailReturn dt => ⟨.island, dt⟩
  | .clockLoss dt _ _ => ⟨.island, dt⟩
  | .clockReturn dt _ => ⟨.island, dt⟩
  | .glbRstCmd a => ⟨.port, a.dt⟩
  | .swReset dt => ⟨.main, dt⟩
  | .mainResetEnd w => ⟨.island, w.dt⟩
  | .bootCounterWrite dt => ⟨.main, dt⟩
  | .startMarch dt _ => ⟨.main, dt⟩
  | .imageLoad dt _ _ => ⟨.main, dt⟩
  | .poolBuild dt => ⟨.main, dt⟩
  | .gpioInput dt _ _ => ⟨.island, dt⟩
  | .hostReadResponse dt _ _ _ => ⟨.main, dt⟩
  | .hostWriteResponse dt _ _ => ⟨.main, dt⟩
  | .hostTimeout => ⟨.main, 0⟩
  | .write32 dt _ _ _ => ⟨.main, dt⟩
  | .write64 dt _ _ _ => ⟨.main, dt⟩
  | .read32 dt _ _ => ⟨.main, dt⟩
  | .read64 dt _ _ => ⟨.main, dt⟩
  | .regacc dt _ _ _ _ => ⟨.main, dt⟩
  | .mbist dt => ⟨.main, dt⟩
  | .jtagTrst w => ⟨.island, w.dt⟩
  | .tmScan dt _ => ⟨.main, dt⟩
  | .roleCmd a => ⟨.port, a.dt⟩
  | .requestTest a => ⟨.port, a.dt⟩
  | .requestService a => ⟨.port, a.dt⟩
  | .requestStart a => ⟨.port, a.dt⟩
  | .requestSleep a => ⟨.port, a.dt⟩
  | .haltRequest a => ⟨.port, a.dt⟩
  | .bellEdge => ⟨.main, 0⟩
  | .termBoundary => ⟨.main, 0⟩
  | .rephaseEdge => ⟨.main, 0⟩
  | .glbBellCfgWrite a => ⟨.port, a.dt⟩
  | .preservingMarchStep w _ => ⟨.main, w.dt⟩
  | .scrubStep w => ⟨.main, w.dt⟩
  | .fillStep dt => ⟨.main, dt⟩
  | .ruleBankSwapStep dt => ⟨.main, dt⟩
  | .poolRebuildStep dt => ⟨.main, dt⟩
  | .ledgerWriteStep dt _ => ⟨.main, dt⟩
  | .flashStep dt _ => ⟨.main, dt⟩
  | .secureZeroStep dt => ⟨.main, dt⟩
  | .rxFrame dt _ _ _ _ _ => ⟨.main, dt⟩
  | .rxJabber dt _ => ⟨.main, dt⟩
  | .localFault dt _ _ _ => ⟨.main, dt⟩
  | .linkStateChange dt _ _ _ => ⟨.island, dt⟩
  | .upHoldExpiry _ => ⟨.main, 0⟩
  | .egressCopy dt _ => ⟨.engine, dt⟩
  | .txFrameStart dt _ _ => ⟨.main, dt⟩
  | .terminate dt _ => ⟨.main, dt⟩
  | .portnMacCtrlWrite a _ => ⟨.port, a.dt⟩
  | .losChg w _ _ => ⟨.main, w.dt⟩
  | .txflt w _ => ⟨.main, w.dt⟩
  | .rxPause dt _ _ _ => ⟨.main, dt⟩
  | .rxPfc dt _ _ _ => ⟨.main, dt⟩
  | .pauseTimerExpiry _ => ⟨.main, 0⟩
  | .pfcTimerExpiry _ _ => ⟨.main, 0⟩
  | .xoff dt _ => ⟨.main, dt⟩
  | .txPause w _ => ⟨.main, w.dt⟩
  | .pauseRefresh _ => ⟨.main, 0⟩
  | .fcModeWrite a _ => ⟨.port, a.dt⟩
  | .pauseWdog _ => ⟨.main, 0⟩
  | .wdogTripClear a _ => ⟨.port, a.dt⟩
  | .recessEntry _ => ⟨.main, 0⟩
  | .recessExit dt _ => ⟨.main, dt⟩
  | .wakingEnd _ => ⟨.main, 0⟩
  | .rxLpi dt _ _ => ⟨.main, dt⟩
  | .switch a _ => ⟨.port, a.dt⟩
  | .cancel a _ => ⟨.port, a.dt⟩
  | .gclEntryWrite a _ _ _ => ⟨.port, a.dt⟩
  | .portnGclCfgWrite a _ => ⟨.port, a.dt⟩
  | .gateChange _ => ⟨.main, 0⟩
  | .hold _ => ⟨.main, 0⟩
  | .verifyStart dt _ => ⟨.main, dt⟩
  | .verifyMsExpiry _ => ⟨.main, 0⟩
  | .rxVerify dt _ _ => ⟨.main, dt⟩
  | .rxRespond dt _ _ => ⟨.main, dt⟩
  | .preemptCut dt _ => ⟨.main, dt⟩
  | .preemptContinue dt _ _ => ⟨.main, dt⟩
  | .rxFragment dt _ _ _ _ _ _ => ⟨.main, dt⟩
  | .launchAvailable _ => ⟨.main, 0⟩
  | .radioRxFrame dt _ _ _ _ _ => ⟨.main, dt⟩
  | .radioTxSop dt _ _ => ⟨.main, dt⟩
  | .eop dt _ _ => ⟨.main, dt⟩
  | .beaconReport dt _ _ => ⟨.main, dt⟩
  | .bcnMissed _ => ⟨.main, 0⟩
  | .radnCtrlWrite a _ => ⟨.port, a.dt⟩
  | .procAccess dt _ _ _ _ _ => ⟨.engine, dt⟩
  | .on a => ⟨.port, a.dt⟩
  | .off a => ⟨.port, a.dt⟩
  | .eraseColumn a => ⟨.port, a.dt⟩
  | .marchStart a => ⟨.port, a.dt⟩
  | .marchAbort a => ⟨.port, a.dt⟩
  | .staffAccess dt _ _ _ _ => ⟨.main, dt⟩
  | .withdraw a => ⟨.port, a.dt⟩
  | .restore a => ⟨.port, a.dt⟩
  | .redefine a => ⟨.port, a.dt⟩
  | .poolAlloc a => ⟨.port, a.dt⟩
  | .poolAllocResult dt _ _ => ⟨.engine, dt⟩
  | .poolAllocResRead a => ⟨.port, a.dt⟩
  | .poolFree a => ⟨.port, a.dt⟩
  | .parserPass dt _ => ⟨.engine, dt⟩
  | .flowInsert a => ⟨.port, a.dt⟩
  | .flowDelete a => ⟨.port, a.dt⟩
  | .flowRead a => ⟨.port, a.dt⟩
  | .flowCfgWrite a _ => ⟨.port, a.dt⟩
  | .commit a => ⟨.port, a.dt⟩
  | .invalidate a => ⟨.port, a.dt⟩
  | .ruleRead a => ⟨.port, a.dt⟩
  | .swap a => ⟨.port, a.dt⟩
  | .drainEnd dt => ⟨.engine, dt⟩
  | .storeComplete dt => ⟨.engine, dt⟩
  | .learnWrite dt => ⟨.engine, dt⟩
  | .fdbInsert a => ⟨.port, a.dt⟩
  | .fdbDelete a => ⟨.port, a.dt⟩
  | .fdbRead a => ⟨.port, a.dt⟩
  | .flush a => ⟨.port, a.dt⟩
  | .flushDone dt => ⟨.engine, dt⟩
  | .mtrCfgWrite a _ => ⟨.port, a.dt⟩
  | .partEnable a _ => ⟨.port, a.dt⟩
  | .partReset a _ => ⟨.port, a.dt⟩
  | .run a _ => ⟨.port, a.dt⟩
  | .resetDone _ => ⟨.main, 0⟩
  | .ringBaseWrite a _ _ => ⟨.port, a.dt⟩
  | .txqDoorbell a _ => ⟨.port, a.dt⟩
  | .rxqDoorbell a _ => ⟨.port, a.dt⟩
  | .completionHeadWrite a _ _ => ⟨.port, a.dt⟩
  | .txPush dt _ _ _ _ => ⟨.port, dt⟩
  | .rxPush dt _ _ _ _ => ⟨.port, dt⟩
  | .txJob dt _ _ => ⟨.engine, dt⟩
  | .txJobRetry _ => ⟨.main, 0⟩
  | .rxBuf dt _ => ⟨.engine, dt⟩
  | .rxDelivery dt _ => ⟨.engine, dt⟩
  | .rxDone dt _ => ⟨.engine, dt⟩
  | .coalTime _ => ⟨.main, 0⟩
  | .intTgttClaim a _ => ⟨.port, a.dt⟩
  | .intTgttComplete a _ => ⟨.port, a.dt⟩
  | .intPend a _ => ⟨.port, a.dt⟩
  | .intSrcCfgWrite a _ _ => ⟨.port, a.dt⟩
  | .latchSet dt _ _ => ⟨.island, dt⟩
  | .latchTransfer dt _ => ⟨.main, dt⟩
  | .btmr _ => ⟨.main, 0⟩
  | .intBtmrWrite a _ => ⟨.port, a.dt⟩
  | .rateChange a => ⟨.port, a.dt⟩
  | .step a => ⟨.port, a.dt⟩
  | .heldStep => ⟨.main, 0⟩
  | .acquire a => ⟨.port, a.dt⟩
  | .lock a => ⟨.port, a.dt⟩
  | .unlock a => ⟨.port, a.dt⟩
  | .holdover a => ⟨.port, a.dt⟩
  | .resume a => ⟨.port, a.dt⟩
  | .servoTmo => ⟨.main, 0⟩
  | .timeNowNs a => ⟨.port, a.dt⟩
  | .captureEdge dt _ _ => ⟨.main, dt⟩
  | .timeCapkTs a _ => ⟨.port, a.dt⟩
  | .outputEdge _ => ⟨.main, 0⟩
  | .outputFall _ => ⟨.main, 0⟩
  | .refWindow _ => ⟨.main, 0⟩
  | .checkpoint => ⟨.main, 0⟩
  | .rollIntake dt => ⟨.engine, dt⟩
  | .sweep dt => ⟨.engine, dt⟩
  | .rollAbsent a => ⟨.port, a.dt⟩
  | .rollCfgWrite a => ⟨.port, a.dt⟩
  | .insert a => ⟨.port, a.dt⟩
  | .delete a => ⟨.port, a.dt⟩
  | .read a => ⟨.port, a.dt⟩
  | .dlClear a => ⟨.port, a.dt⟩
  | .scRun a _ => ⟨.port, a.dt⟩
  | .scRestart a _ => ⟨.port, a.dt⟩
  | .kick a _ => ⟨.port, a.dt⟩
  | .wdog _ => ⟨.main, 0⟩
  | .debugHalt dt _ => ⟨.engine, dt⟩
  | .debugResume dt _ => ⟨.engine, dt⟩
  | .scTxDesc1 a => ⟨.port, a.dt⟩
  | .scTxDone a => ⟨.port, a.dt⟩
  | .scRxPop a => ⟨.port, a.dt⟩
  | .mbxDb a => ⟨.port, a.dt⟩
  | .mbxDone a => ⟨.port, a.dt⟩
  | .mbxTimeout _ => ⟨.main, 0⟩
  | .pmuOvf dt _ _ => ⟨.engine, dt⟩
  | .pmuSample dt _ _ _ => ⟨.engine, dt⟩
  | .crcRestart a _ => ⟨.port, a.dt⟩
  | .crcFlush a _ => ⟨.port, a.dt⟩
  | .crcuData a _ => ⟨.port, a.dt⟩
  | .crcuData1 a _ => ⟨.port, a.dt⟩
  | .crcuCfgWrite a _ _ => ⟨.port, a.dt⟩
  | .crcRes dt _ => ⟨.engine, dt⟩
  | .crcuFifoVal a _ => ⟨.port, a.dt⟩
  | .verify a => ⟨.port, a.dt⟩
  | .erase a => ⟨.port, a.dt⟩
  | .program a => ⟨.port, a.dt⟩
  | .nvmDone dt _ => ⟨.engine, dt⟩
  | .ldgFwData a => ⟨.port, a.dt⟩
  | .ldgRdData a => ⟨.port, a.dt⟩
  | .propCommit a => ⟨.port, a.dt⟩
  | .approve a => ⟨.port, a.dt⟩
  | .propCancel a => ⟨.port, a.dt⟩
  | .expired => ⟨.main, 0⟩
  | .applied => ⟨.main, 0⟩
  | .tamper dt _ => ⟨.chip, dt⟩
  | .wipeDone dt => ⟨.main, dt⟩
  | .doze a => ⟨.port, a.dt⟩
  | .watch a => ⟨.port, a.dt⟩
  | .deep a => ⟨.port, a.dt⟩
  | .wake a => ⟨.port, a.dt⟩
  | .ack a => ⟨.port, a.dt⟩
  | .stateReached => ⟨.main, 0⟩
  | .deepReset dt => ⟨.main, dt⟩
  | .deepFail => ⟨.main, 0⟩
  | .keepReturn => ⟨.main, 0⟩
  | .sleepRxFrame dt _ _ _ _ => ⟨.main, dt⟩
  | .aonTimer => ⟨.island, 0⟩
  | .panelRawChange dt _ _ => ⟨.island, dt⟩
  | .press _ => ⟨.island, 0⟩
  | .long _ => ⟨.island, 0⟩
  | .stuck _ => ⟨.island, 0⟩
  | .quarantineEnd _ => ⟨.island, 0⟩
  | .registerRead a _ => ⟨.port, a.dt⟩
  | .vddAonFall dt => ⟨.chip, dt⟩
  | .ageSweepEnd dt => ⟨.engine, dt⟩
  | .bellOutFall => ⟨.main, 0⟩
  | .misalignedStart dt _ => ⟨.main, dt⟩
  | .radioStrayBeat dt _ => ⟨.main, dt⟩
  | .radioRxOverlong dt _ => ⟨.main, dt⟩
  | .modTxfltFall w _ => ⟨.main, w.dt⟩

/-- A request on the register port (R67): cycles before it, initiator, direction, byte address, size code, write data. -/
structure PortReq where
  dt : Nat
  init : Nat
  wr : Bool
  addr : Nat
  size : Nat
  data : Nat
  deriving DecidableEq, Repr

/-- The write of `v` to the register of `f` at (i, j). -/
def writeOf (a : Access) (f : Fld) (i j v : Nat) : Option PortReq :=
  some ⟨a.dt, a.init.val, true, accAddr (f.key i j) a.up, a.size.toNat, v⟩

/-- The read of the register of `f` at element `i`. -/
def readOf (a : Access) (f : Fld) (i : Nat) : Option PortReq :=
  some ⟨a.dt, a.init.val, false, accAddr (f.key i 0) a.up, a.size.toNat, 0⟩

/-- The register-port request that a command is. -/
def portOf (c : Instr) : Option PortReq :=
  match c with
  | .registerWrite a addr => some ⟨a.dt, a.init.val, true, addr.toNat, a.size.toNat, wdata a⟩
  | .glbRstCmd a => writeOf a GLB_RST_CMD.reg 0 0 (wdata a)
  | .roleCmd a => writeOf a GLB_ROLE_CMD.reg 0 0 (wdata a)
  | .requestTest a => writeOf a GLB_MODE_REQ.reg 0 0 (setBits (wdata a) 0 3 1)
  | .requestService a => writeOf a GLB_MODE_REQ.reg 0 0 (setBits (wdata a) 0 3 2)
  | .requestStart a => writeOf a GLB_MODE_REQ.reg 0 0 (setBits (wdata a) 0 3 0)
  | .requestSleep a => writeOf a GLB_MODE_REQ.reg 0 0 (setBits (wdata a) 0 3 4)
  | .haltRequest a => writeOf a GLB_MODE_REQ.reg 0 0 (setBits (wdata a) 0 3 5)
  | .glbBellCfgWrite a => writeOf a GLB_BELL_CFG.reg 0 0 (wdata a)
  | .portnMacCtrlWrite a n => writeOf a PORT_MAC_CTRL.reg n.val 0 (wdata a)
  | .fcModeWrite a n => writeOf a PORT_FC_CTRL.reg n.val 0 (wdata a)
  | .wdogTripClear a n => writeOf a PORT_FC_STAT.reg n.val 0 (setBits (wdata a) 32 1 1)
  | .switch a n => writeOf a PORT_GCL_CMD.reg n.val 0 (setBits (wdata a) 0 2 1)
  | .cancel a n => writeOf a PORT_GCL_CMD.reg n.val 0 (setBits (wdata a) 0 2 2)
  | .gclEntryWrite a n l i => writeOf a (if l.val = 0 then PORT_GCL0_E.reg else PORT_GCL1_E.reg) n.val i.val (wdata a)
  | .portnGclCfgWrite a n => writeOf a PORT_GCL_CFG.reg n.val 0 (wdata a)
  | .radnCtrlWrite a n => writeOf a RAD_CTRL.reg n.val 0 (wdata a)
  | .on a => writeOf a MEM_BANK_CMD.reg 0 0 (setBits (wdata a) 8 2 0)
  | .off a => writeOf a MEM_BANK_CMD.reg 0 0 (setBits (wdata a) 8 2 2)
  | .eraseColumn a => writeOf a MEM_COL_CMD.reg 0 0 (setBits (wdata a) 8 1 1)
  | .marchStart a => writeOf a MEM_MARCH_CMD.reg 0 0 (setBits (wdata a) 0 2 1)
  | .marchAbort a => writeOf a MEM_MARCH_CMD.reg 0 0 (setBits (wdata a) 0 2 2)
  | .withdraw a => writeOf a POOL_CMD.reg 0 0 (setBits (wdata a) 0 2 1)
  | .restore a => writeOf a POOL_CMD.reg 0 0 (setBits (wdata a) 0 2 2)
  | .redefine a => writeOf a POOL_CMD.reg 0 0 (setBits (wdata a) 0 2 3)
  | .poolAlloc a => writeOf a POOL_ALLOC.reg 0 0 (wdata a)
  | .poolAllocResRead a => readOf a POOL_ALLOC_RES.reg 0
  | .poolFree a => writeOf a POOL_FREE.reg 0 0 (wdata a)
  | .flowInsert a => writeOf a CLS_FLOW_CMD.reg 0 0 (setBits (wdata a) 0 2 1)
  | .flowDelete a => writeOf a CLS_FLOW_CMD.reg 0 0 (setBits (wdata a) 0 2 2)
  | .flowRead a => writeOf a CLS_FLOW_CMD.reg 0 0 (setBits (wdata a) 0 2 3)
  | .flowCfgWrite a i =>
    if i.val < 5 then writeOf a CLS_FLOW_MASK.reg i.val 0 (wdata a) else writeOf a CLS_FLOW_CFG.reg 0 0 (wdata a)
  | .commit a => writeOf a CLS_RULE_CMD.reg 0 0 (setBits (wdata a) 0 2 1)
  | .invalidate a => writeOf a CLS_RULE_CMD.reg 0 0 (setBits (wdata a) 0 2 2)
  | .ruleRead a => writeOf a CLS_RULE_CMD.reg 0 0 (setBits (wdata a) 0 2 3)
  | .swap a => writeOf a CLS_BANK_CMD.reg 0 0 (setBits (wdata a) 0 2 1)
  | .fdbInsert a => writeOf a BR_FDB_CMD.reg 0 0 (setBits (wdata a) 0 3 1)
  | .fdbDelete a => writeOf a BR_FDB_CMD.reg 0 0 (setBits (wdata a) 0 3 2)
  | .fdbRead a => writeOf a BR_FDB_CMD.reg 0 0 (setBits (wdata a) 0 3 3)
  | .flush a => writeOf a BR_FDB_CMD.reg 0 0 (setBits (wdata a) 0 3 4)
  | .mtrCfgWrite a m => writeOf a MTR_CFG.reg m.val 0 (wdata a)
  | .partEnable a p => writeOf a PART_CTRL.reg p.val 0 (wdata a)
  | .partReset a p => writeOf a PART_CMD.reg p.val 0 (setBits (wdata a) 0 2 1)
  | .run a p => writeOf a PART_CMD.reg p.val 0 (setBits (wdata a) 0 2 2)
  | .ringBaseWrite a p ring => writeOf a (ringBaseReg ring.val) p.val 0 (wdata a)
  | .txqDoorbell a p => writeOf a PART_TXQ_DB.reg p.val 0 (wdata a)
  | .rxqDoorbell a p => writeOf a PART_RXQ_DB.reg p.val 0 (wdata a)
  | .completionHeadWrite a p rx => writeOf a (if rx then PART_RXC_HEAD.reg else PART_TXC_HEAD.reg) p.val 0 (wdata a)
  | .txPush dt init p off _ => some ⟨dt, init.val, true, p.val * 0x10000 + 0xF000 + off.val * 64, 2, 0⟩
  | .rxPush dt init p off _ => some ⟨dt, init.val, true, p.val * 0x10000 + 0xF800 + off.val * 64, 2, 0⟩
  | .intTgttClaim a t => readOf a INT_TGT_CLAIM.reg t.val
  | .intTgttComplete a t => writeOf a INT_TGT_COMPLETE.reg t.val 0 (wdata a)
  | .intPend a k => writeOf a INT_PEND.reg k.val 0 (wdata a)
  | .intSrcCfgWrite a tgt n =>
    if tgt then writeOf a INT_TGT_CTRL.reg (n.val % 16) 0 (wdata a) else writeOf a INT_SRC_CFG.reg n.val 0 (wdata a)
  | .intBtmrWrite a k => writeOf a INT_BTMR.reg k.val 0 (wdata a)
  | .rateChange a => writeOf a TIME_RATE.reg 0 0 (wdata a)
  | .step a => writeOf a TIME_STEP.reg 0 0 (wdata a)
  | .acquire a => writeOf a TIME_CMD.reg 0 0 (setBits (wdata a) 0 4 1)
  | .lock a => writeOf a TIME_CMD.reg 0 0 (setBits (wdata a) 0 4 2)
  | .unlock a => writeOf a TIME_CMD.reg 0 0 (setBits (wdata a) 0 4 3)
  | .holdover a => writeOf a TIME_CMD.reg 0 0 (setBits (wdata a) 0 4 4)
  | .resume a => writeOf a TIME_CMD.reg 0 0 (setBits (wdata a) 0 4 5)
  | .timeNowNs a => readOf a TIME_NOW_NS.reg 0
  | .timeCapkTs a k => readOf a TIME_CAP_TS.reg k.val
  | .rollAbsent a => readOf a ROLL_ABSENT.reg 0
  | .rollCfgWrite a => writeOf a ROLL_CFG.reg 0 0 (wdata a)
  | .insert a => writeOf a ROLL_NBR_CMD.reg 0 0 (setBits (wdata a) 0 3 1)
  | .delete a => writeOf a ROLL_NBR_CMD.reg 0 0 (setBits (wdata a) 0 3 2)
  | .read a => writeOf a ROLL_NBR_CMD.reg 0 0 (setBits (wdata a) 0 3 3)
  | .dlClear a => writeOf a ROLL_NBR_CMD.reg 0 0 (setBits (wdata a) 0 3 4)
  | .scRun a c => writeOf a SC_CTRL.reg c.val 0 (wdata a)
  | .scRestart a c => writeOf a SC_CTRL.reg c.val 0 (setBits (wdata a) 2 1 1)
  | .kick a c => writeOf a SC_CTRL.reg c.val 0 (setBits (wdata a) 3 1 1)
  | .scTxDesc1 a => writeOf a SC_TX_DESC1.reg 0 0 (wdata a)
  | .scTxDone a => readOf a SC_TX_DONE.reg 0
  | .scRxPop a => readOf a SC_RX_POP.reg 0
  | .mbxDb a => writeOf a MBX_DB.reg 0 0 (wdata a)
  | .mbxDone a => writeOf a MBX_DONE.reg 0 0 (wdata a)
  | .crcRestart a u => writeOf a CRC_CMD.reg u.val 0 (setBits (wdata a) 0 1 1)
  | .crcFlush a u => writeOf a CRC_CMD.reg u.val 0 (setBits (wdata a) 1 1 1)
  | .crcuData a u => writeOf a CRC_DATA.reg u.val 0 (wdata a)
  | .crcuData1 a u => writeOf a CRC_DATA1.reg u.val 0 (wdata a)
  | .crcuCfgWrite a u which => writeOf a (crcCfgReg which.val) u.val 0 (wdata a)
  | .crcuFifoVal a u => readOf a CRC_FIFO_VAL.reg u.val
  | .verify a => writeOf a NVM_CMD.reg 0 0 (setBits (wdata a) 0 2 1)
  | .erase a => writeOf a NVM_CMD.reg 0 0 (setBits (wdata a) 0 2 2)
  | .program a => writeOf a NVM_CMD.reg 0 0 (setBits (wdata a) 0 2 3)
  | .ldgFwData a => writeOf a LDG_FW_DATA.reg 0 0 (wdata a)
  | .ldgRdData a => readOf a LDG_RD_DATA.reg 0
  | .propCommit a => writeOf a PROT_CMD.reg 0 0 (setBits (wdata a) 0 2 1)
  | .approve a => writeOf a PROT_CMD.reg 0 0 (setBits (wdata a) 0 2 2)
  | .propCancel a => writeOf a PROT_CMD.reg 0 0 (setBits (wdata a) 0 2 3)
  | .doze a => writeOf a PWR_CMD.reg 0 0 (setBits (wdata a) 0 3 1)
  | .watch a => writeOf a PWR_CMD.reg 0 0 (setBits (wdata a) 0 3 2)
  | .deep a => writeOf a PWR_CMD.reg 0 0 (setBits (wdata a) 0 3 3)
  | .wake a => writeOf a PWR_CMD.reg 0 0 (setBits (wdata a) 0 3 4)
  | .ack a => writeOf a PWR_CMD.reg 0 0 (setBits (wdata a) 0 3 5)
  | .registerRead a addr => some ⟨a.dt, a.init.val, false, addr.toNat, a.size.toNat, 0⟩
  | .aonPor _ => none
  | .porst _ _ => none
  | .coreRail _ _ _ => none
  | .ledgerRail _ _ => none
  | .ledgerRailReturn _ => none
  | .clockLoss _ _ _ => none
  | .clockReturn _ _ => none
  | .swReset _ => none
  | .mainResetEnd _ => none
  | .bootCounterWrite _ => none
  | .startMarch _ _ => none
  | .imageLoad _ _ _ => none
  | .poolBuild _ => none
  | .gpioInput _ _ _ => none
  | .hostReadResponse _ _ _ _ => none
  | .hostWriteResponse _ _ _ => none
  | .hostTimeout => none
  | .write32 _ _ _ _ => none
  | .write64 _ _ _ _ => none
  | .read32 _ _ _ => none
  | .read64 _ _ _ => none
  | .regacc _ _ _ _ _ => none
  | .mbist _ => none
  | .jtagTrst _ => none
  | .tmScan _ _ => none
  | .bellEdge => none
  | .termBoundary => none
  | .rephaseEdge => none
  | .preservingMarchStep _ _ => none
  | .scrubStep _ => none
  | .fillStep _ => none
  | .ruleBankSwapStep _ => none
  | .poolRebuildStep _ => none
  | .ledgerWriteStep _ _ => none
  | .flashStep _ _ => none
  | .secureZeroStep _ => none
  | .rxFrame _ _ _ _ _ _ => none
  | .rxJabber _ _ => none
  | .localFault _ _ _ _ => none
  | .linkStateChange _ _ _ _ => none
  | .upHoldExpiry _ => none
  | .egressCopy _ _ => none
  | .txFrameStart _ _ _ => none
  | .terminate _ _ => none
  | .losChg _ _ _ => none
  | .txflt _ _ => none
  | .rxPause _ _ _ _ => none
  | .rxPfc _ _ _ _ => none
  | .pauseTimerExpiry _ => none
  | .pfcTimerExpiry _ _ => none
  | .xoff _ _ => none
  | .txPause _ _ => none
  | .pauseRefresh _ => none
  | .pauseWdog _ => none
  | .recessEntry _ => none
  | .recessExit _ _ => none
  | .wakingEnd _ => none
  | .rxLpi _ _ _ => none
  | .gateChange _ => none
  | .hold _ => none
  | .verifyStart _ _ => none
  | .verifyMsExpiry _ => none
  | .rxVerify _ _ _ => none
  | .rxRespond _ _ _ => none
  | .preemptCut _ _ => none
  | .preemptContinue _ _ _ => none
  | .rxFragment _ _ _ _ _ _ _ => none
  | .launchAvailable _ => none
  | .radioRxFrame _ _ _ _ _ _ => none
  | .radioTxSop _ _ _ => none
  | .eop _ _ _ => none
  | .beaconReport _ _ _ => none
  | .bcnMissed _ => none
  | .procAccess _ _ _ _ _ _ => none
  | .staffAccess _ _ _ _ _ => none
  | .poolAllocResult _ _ _ => none
  | .parserPass _ _ => none
  | .drainEnd _ => none
  | .storeComplete _ => none
  | .learnWrite _ => none
  | .flushDone _ => none
  | .resetDone _ => none
  | .txJob _ _ _ => none
  | .txJobRetry _ => none
  | .rxBuf _ _ => none
  | .rxDelivery _ _ => none
  | .rxDone _ _ => none
  | .coalTime _ => none
  | .latchSet _ _ _ => none
  | .latchTransfer _ _ => none
  | .btmr _ => none
  | .heldStep => none
  | .servoTmo => none
  | .captureEdge _ _ _ => none
  | .outputEdge _ => none
  | .outputFall _ => none
  | .refWindow _ => none
  | .checkpoint => none
  | .rollIntake _ => none
  | .sweep _ => none
  | .wdog _ => none
  | .debugHalt _ _ => none
  | .debugResume _ _ => none
  | .mbxTimeout _ => none
  | .pmuOvf _ _ _ => none
  | .pmuSample _ _ _ _ => none
  | .crcRes _ _ => none
  | .nvmDone _ _ => none
  | .expired => none
  | .applied => none
  | .tamper _ _ => none
  | .wipeDone _ => none
  | .stateReached => none
  | .deepReset _ => none
  | .deepFail => none
  | .keepReturn => none
  | .sleepRxFrame _ _ _ _ _ => none
  | .aonTimer => none
  | .panelRawChange _ _ _ => none
  | .press _ => none
  | .long _ => none
  | .stuck _ => none
  | .quarantineEnd _ => none
  | .vddAonFall _ => none
  | .ageSweepEnd _ => none
  | .bellOutFall => none
  | .misalignedStart _ _ => none
  | .radioStrayBeat _ _ => none
  | .radioRxOverlong _ _ => none
  | .modTxfltFall _ _ => none

/-- After `dt` cycles the main domain runs: the always-on island is alive and main-domain reset is not asserted. -/
def State.runs (s : State) (dt : Nat) : Bool := s.alive && !(s.pass dt).chip.mainReset

/-- After `dt` cycles the main domain runs and its engines are clocked (R506). -/
def State.awake (s : State) (dt : Nat) : Bool := s.runs dt && !(s.pass dt).dozing

/-- After `dt` cycles the main domain runs and the register port is clocked. -/
def State.portUp (s : State) (dt : Nat) : Bool := s.runs dt && (s.pass dt).clkOn 4

/-- The register port answers the access `a` to the register of `f` at (i, j) with OKAY (R67, R68, R483, R513), and the access
reaches bits of that register: `wr` for a write, of data `v`. -/
def State.takes (s : State) (a : Access) (wr : Bool) (f : Fld) (i j v : Nat) : Bool :=
  let p := s.pass a.dt
  let addr := accAddr (f.key i j) a.up
  s.portUp a.dt && p.granted a.init.val wr addr v && (!p.dozing || sleepReg addr) && !badForm wr addr a.size.toNat &&
    decide (reachMask (f.w == 64) addr a.size.toNat ≠ 0)

/-- The register port takes a queued command, and the command engine serves it at once: the word lies in range, no command waits, no
fixed work runs, and the block is not in SLEEP (R13, R94, R510). -/
def State.serves (s : State) (a : Access) (f : Fld) (i v : Nat) : Bool :=
  s.takes a true f i 0 v && rangeOk f.base v && (s.pass a.dt).cmdq.isEmpty && (s.pass a.dt).serving

/-- A register access of initiator `i` at byte address `addr` that the port answers with OKAY and that lies in no staff-room aperture
and no push window (R67, R68, R221, R310). -/
def State.plainAccess (s : State) (a : Access) (wr : Bool) (addr v : Nat) : Bool :=
  let p := s.pass a.dt
  s.portUp a.dt && p.granted a.init.val wr addr v && (!p.dozing || sleepReg addr) && !badForm wr addr a.size.toNat &&
    !inAperture addr && !inPush addr

/-- The bits that the access `a` to the register of `f` at (i, j) reaches (R68). -/
def accMask (a : Access) (f : Fld) (i j : Nat) : Nat := reachMask (f.w == 64) (accAddr (f.key i j) a.up) a.size.toNat

/-- The state in which a step of operation `code` starts: `dt` cycles later, and not before the fixed work of the bell and the step
before have ended (R93). -/
def State.stepFrom (s : State) (dt code : Nat) : State := (s.pass dt).stepStart code

/-- May operation `code` step then: it is its turn, it has stepped fewer than four times in this bell, the step ends before the next
bell edge, the command engine has had its turn, and the mode permits it (R93, R95)? -/
def State.stepReady (s : State) (dt code : Nat) : Bool :=
  s.runs dt && (s.pass dt).stepMode code && decide ((s.stepFrom dt code).frc.toNat + stepNs ≤ (s.stepFrom dt code).nextEdge.frc) &&
    (s.stepFrom dt code).cmdTurn && (s.stepFrom dt code).stepNext == some code

/-- What every step does beside its operation's work: it counts against its operation in this bell, takes the turn, and counts in the
report card and the performance monitor (R93, R99, R431). -/
def State.stepCounted (s : State) (code : Nat) : State := (s.stepNote code).pmu evStepRun 1

/-- After `dt` cycles the main domain runs, port unit `u` is not released in WATCH, and the block is not asleep: what its receiver
takes in has its effect (R514, R523). -/
def State.hears (s : State) (dt u : Nat) : Bool := s.runs dt && !(s.pass dt).portReleased u && !(s.pass dt).asleep

/-- The interrupt lines of a state are the ones its interrupt controller drives (R347). -/
def State.linesOk (s : State) : Bool := s.intOut == s.lines

/-- The sparse maps that hold the memories and registers are in their canonical form. -/
def State.memoriesWf (s : State) : Bool :=
  mapWf resetWord s.regs && memWf s.mem.cells && memWf s.mem.staff && memWf s.ledger.cells && memWf s.boot.coreMem

end Sys2Proof.Machine
end

