-- ==== Sys2Proof/WellFormed.lean ====
section
/-! DEFINITION. Which commands the world outside the block can send: what the pins, lanes and address fields admit. -/

namespace Sys2Proof

/-- A Start lane that the port has: 16 on an uplink, 8 on a LAN port (R105). -/
def laneOk (n : Fin 8) (lane : Fin 16) : Bool := decide (n.val < 2) || decide (lane.val < 8)

/-- A staff-room access carries at least one byte (R217). -/
def reqOk (r : Option StaffReq) : Bool :=
  match r with
  | some q => decide (1 ≤ q.len.val)
  | none => true

/-- There is an access of one side at least: of the core, or of the aperture. -/
def sidesOk (sc : Option StaffReq) (host : HostSide) : Bool :=
  match host with
  | .port r => reqOk sc && reqOk (some r)
  | _ => sc.isSome && reqOk sc

/-- A write of a service core carries at least one byte (R200). -/
def writesOk (l : List ProcWrite) : Bool := l.all (fun w => decide (1 ≤ w.len.val))

/-- Can the command be sent? Frames end before 65,536 bytes (R114, R174), NVM_SCK is not monitored (R56), the latched
sources are 0 to 0x18 (R353), main-domain reset ends 105 to 550 ns after the release of the TIME_CK domain (R60), RXC and RXD come for the same
lanes (R105), a flash step drives at most 99 bytes (R465). -/
def Instr.wf (c : Instr) : Bool :=
  match c with
  | .registerWrite _ _ => true
  | .aonPor _ => true
  | .porst _ _ => true
  | .coreRail _ _ _ => true
  | .ledgerRail _ _ => true
  | .ledgerRailReturn _ => true
  | .clockLoss _ d _ => decide (d.val ≠ 11)
  | .clockReturn _ d => decide (d.val ≠ 11)
  | .glbRstCmd _ => true
  | .swReset _ => true
  | .mainResetEnd w => decide (105 ≤ w.after) && decide (w.after ≤ 550)
  | .bootCounterWrite _ => true
  | .startMarch _ _ => true
  | .imageLoad _ _ _ => true
  | .poolBuild _ => true
  | .gpioInput _ _ _ => true
  | .hostReadResponse _ _ _ _ => true
  | .hostWriteResponse _ _ _ => true
  | .hostTimeout => true
  | .write32 _ _ _ _ => true
  | .write64 _ _ _ _ => true
  | .read32 _ _ _ => true
  | .read64 _ _ _ => true
  | .regacc _ _ _ _ _ => true
  | .mbist _ => true
  | .jtagTrst _ => true
  | .tmScan _ _ => true
  | .roleCmd _ => true
  | .requestTest _ => true
  | .requestService _ => true
  | .requestStart _ => true
  | .requestSleep _ => true
  | .haltRequest _ => true
  | .bellEdge => true
  | .termBoundary => true
  | .rephaseEdge => true
  | .glbBellCfgWrite _ => true
  | .preservingMarchStep w _ => writesOk w.writes
  | .scrubStep w => writesOk w.writes
  | .fillStep _ => true
  | .ruleBankSwapStep _ => true
  | .poolRebuildStep _ => true
  | .ledgerWriteStep _ _ => true
  | .flashStep _ bytes => decide (bytes.length ≤ 99)
  | .secureZeroStep _ => true
  | .rxFrame _ n _ lane c b => laneOk n lane && c.length == b.length
  | .rxJabber _ _ => true
  | .localFault _ _ c w => c.length == w.length
  | .linkStateChange _ _ _ _ => true
  | .upHoldExpiry _ => true
  | .egressCopy _ _ => true
  | .txFrameStart _ _ _ => true
  | .terminate _ _ => true
  | .portnMacCtrlWrite _ _ => true
  | .losChg _ _ _ => true
  | .txflt _ _ => true
  | .rxPause _ _ _ _ => true
  | .rxPfc _ _ _ _ => true
  | .pauseTimerExpiry _ => true
  | .pfcTimerExpiry _ _ => true
  | .xoff _ _ => true
  | .txPause _ _ => true
  | .pauseRefresh _ => true
  | .fcModeWrite _ _ => true
  | .pauseWdog _ => true
  | .wdogTripClear _ _ => true
  | .recessEntry _ => true
  | .recessExit _ _ => true
  | .wakingEnd _ => true
  | .rxLpi _ _ _ => true
  | .switch _ _ => true
  | .cancel _ _ => true
  | .gclEntryWrite _ _ _ _ => true
  | .portnGclCfgWrite _ _ => true
  | .gateChange _ => true
  | .hold _ => true
  | .verifyStart _ _ => true
  | .verifyMsExpiry _ => true
  | .rxVerify _ _ b => decide (b.length < 65536)
  | .rxRespond _ _ b => decide (b.length < 65536)
  | .preemptCut _ _ => true
  | .preemptContinue _ _ _ => true
  | .rxFragment _ n _ lane _ _ b => laneOk n lane && decide (b.length < 65536)
  | .launchAvailable _ => true
  | .radioRxFrame _ _ _ _ _ b => decide (b.length < 65536)
  | .radioTxSop _ _ _ => true
  | .eop _ _ _ => true
  | .beaconReport _ _ _ => true
  | .bcnMissed _ => true
  | .radnCtrlWrite _ _ => true
  | .procAccess _ _ _ _ len _ => decide (1 ≤ len.val)
  | .on _ => true
  | .off _ => true
  | .eraseColumn _ => true
  | .marchStart _ => true
  | .marchAbort _ => true
  | .staffAccess _ _ _ sc host => sidesOk sc host
  | .withdraw _ => true
  | .restore _ => true
  | .redefine _ => true
  | .poolAlloc _ => true
  | .poolAllocResult _ _ _ => true
  | .poolAllocResRead _ => true
  | .poolFree _ => true
  | .parserPass _ _ => true
  | .flowInsert _ => true
  | .flowDelete _ => true
  | .flowRead _ => true
  | .flowCfgWrite _ _ => true
  | .commit _ => true
  | .invalidate _ => true
  | .ruleRead _ => true
  | .swap _ => true
  | .drainEnd _ => true
  | .storeComplete _ => true
  | .learnWrite _ => true
  | .fdbInsert _ => true
  | .fdbDelete _ => true
  | .fdbRead _ => true
  | .flush _ => true
  | .flushDone _ => true
  | .mtrCfgWrite _ _ => true
  | .partEnable _ _ => true
  | .partReset _ _ => true
  | .run _ _ => true
  | .resetDone _ => true
  | .ringBaseWrite _ _ _ => true
  | .txqDoorbell _ _ => true
  | .rxqDoorbell _ _ => true
  | .completionHeadWrite _ _ _ => true
  | .txPush _ _ _ _ _ => true
  | .rxPush _ _ _ _ _ => true
  | .txJob _ _ _ => true
  | .txJobRetry _ => true
  | .rxBuf _ _ => true
  | .rxDelivery _ _ => true
  | .rxDone _ _ => true
  | .coalTime _ => true
  | .intTgttClaim _ _ => true
  | .intTgttComplete _ _ => true
  | .intPend _ _ => true
  | .intSrcCfgWrite _ tgt n => !tgt || decide (n.val < 16)
  | .latchSet _ l _ => decide (l.val ≤ 0x18)
  | .latchTransfer _ l => decide (l.val ≤ 0x18)
  | .btmr _ => true
  | .intBtmrWrite _ _ => true
  | .rateChange _ => true
  | .step _ => true
  | .heldStep => true
  | .acquire _ => true
  | .lock _ => true
  | .unlock _ => true
  | .holdover _ => true
  | .resume _ => true
  | .servoTmo => true
  | .timeNowNs _ => true
  | .captureEdge _ _ _ => true
  | .timeCapkTs _ _ => true
  | .outputEdge _ => true
  | .outputFall _ => true
  | .refWindow _ => true
  | .checkpoint => true
  | .rollIntake _ => true
  | .sweep _ => true
  | .rollAbsent _ => true
  | .rollCfgWrite _ => true
  | .insert _ => true
  | .delete _ => true
  | .read _ => true
  | .dlClear _ => true
  | .scRun _ _ => true
  | .scRestart _ _ => true
  | .kick _ _ => true
  | .wdog _ => true
  | .debugHalt _ _ => true
  | .debugResume _ _ => true
  | .scTxDesc1 _ => true
  | .scTxDone _ => true
  | .scRxPop _ => true
  | .mbxDb _ => true
  | .mbxDone _ => true
  | .mbxTimeout _ => true
  | .pmuOvf _ _ _ => true
  | .pmuSample _ _ _ _ => true
  | .crcRestart _ _ => true
  | .crcFlush _ _ => true
  | .crcuData _ _ => true
  | .crcuData1 _ _ => true
  | .crcuCfgWrite _ _ _ => true
  | .crcRes _ _ => true
  | .crcuFifoVal _ _ => true
  | .verify _ => true
  | .erase _ => true
  | .program _ => true
  | .nvmDone _ _ => true
  | .ldgFwData _ => true
  | .ldgRdData _ => true
  | .propCommit _ => true
  | .approve _ => true
  | .propCancel _ => true
  | .expired => true
  | .applied => true
  | .tamper _ _ => true
  | .wipeDone _ => true
  | .doze _ => true
  | .watch _ => true
  | .deep _ => true
  | .wake _ => true
  | .ack _ => true
  | .stateReached => true
  | .deepReset _ => true
  | .deepFail => true
  | .keepReturn => true
  | .sleepRxFrame _ n _ lane b => laneOk n lane && decide (b.length < 65536)
  | .aonTimer => true
  | .panelRawChange _ _ _ => true
  | .press _ => true
  | .long _ => true
  | .stuck _ => true
  | .quarantineEnd _ => true
  | .registerRead _ _ => true
  | .vddAonFall _ => true
  | .ageSweepEnd _ => true
  | .bellOutFall => true
  | .misalignedStart _ _ => true
  | .radioStrayBeat _ _ => true
  | .radioRxOverlong _ _ => true
  | .modTxfltFall _ _ => true

end Sys2Proof
end

