-- ==== Sys2Proof/Certificates/Slice0/Obligations.lean ====
section
/-! DEFINITION. The statements for the provers. -/

open Sys2Proof Sys2Proof.Machine

/-- The model's step (DESIGN CHOICE, log 1): for every command c and state s, a step of s with c at the front of its queue is exec of c on s with the queue's rest. -/
def Obligations.StepRunsFrontCommand : Prop :=
  ∀ (c : Instr) (rest : List Instr) (s : State), step { s with pending := c :: rest } = exec c { s with pending := rest }

/-- The model's step on an empty queue (DESIGN CHOICE, log 2): one TIME_CK cycle passes while the block is alive, and nothing happens in a block without VDD_AON or in manufacturing test. -/
def Obligations.StepIdlesOneCycle : Prop :=
  ∀ s : State, s.pending = [] →
    step s = .next (s.finish (if s.chip.aonOn && !s.chip.mfgTest then s.pass 1 else s))

/-- Every step of every state answers a next state (no command ends in a fault or a refusal), in that state INT_OUT0 to INT_OUT15 are the lines that the presented and claimed sources drive, and so the equality of lines and controller is kept by every step; the queue of waiting commands loses its front command and nothing else. -/
def Obligations.InterruptLinesFollowEveryStep : Prop :=
  ∀ s : State, ∃ t : State, step s = .next t ∧ t.intOut = t.lines ∧ t.pending = s.pending.tail

/-- At State.reset no source is presented, every interrupt line is 0, and the lines are those the controller drives. -/
def Obligations.InterruptLinesAtReset : Prop :=
  State.reset.intOut = State.reset.lines ∧ State.reset.intOut = 0 ∧ ∀ t : Fin 16, State.reset.presentedOn t.val = []

/-- With VDD_AON off, or in manufacturing test, every command leaves the state as it is, but for the always-on power-on reset, its fall, PORST# and the tamper inputs. -/
def Obligations.DeadBlockIsStill : Prop :=
  ∀ (c : Instr) (s : State), (s.chip.aonOn = false ∨ s.chip.mfgTest = true) → (siteOf c).dom ≠ .chip →
    exec c s = .next (s.finish s)

/-- While main-domain reset is asserted, a command of the main domain, of an engine or of the register port lets its time pass and has no other effect. -/
def Obligations.ResetHoldsTheMainDomain : Prop :=
  ∀ (c : Instr) (s : State), s.alive = true → (s.pass (siteOf c).dt).chip.mainReset = true →
    ((siteOf c).dom = .main ∨ (siteOf c).dom = .engine ∨ (siteOf c).dom = .port) →
    exec c s = .next (s.finish (s.pass (siteOf c).dt))

/-- While REG_CK is absent a command of the register port lets its time pass and has no other effect: no response, no denial, no write. -/
def Obligations.RegisterPortNeedsItsClock : Prop :=
  ∀ (c : Instr) (s : State), s.runs (siteOf c).dt = true → (siteOf c).dom = .port →
    (s.pass (siteOf c).dt).clkOn 4 = false → exec c s = .next (s.finish (s.pass (siteOf c).dt))

/-- In DOZE and WATCH a command of an engine whose clock is gated lets its time pass and has no other effect. -/
def Obligations.DozeStopsTheEngines : Prop :=
  ∀ (c : Instr) (s : State), s.runs (siteOf c).dt = true → (siteOf c).dom = .engine →
    (s.pass (siteOf c).dt).dozing = true → exec c s = .next (s.finish (s.pass (siteOf c).dt))

/-- Every command that is a request on the register port and that no row of R483 grants ends in the state that the denial leaves: PROT_CNT counts it, PROT_DENY_LOG and PROT_EVT.DENIED show it, a service core takes a bus error, the response is DENIED with data 0, and nothing else changes. -/
def Obligations.DeniedAccessHasNoEffect : Prop :=
  ∀ (c : Instr) (s : State) (q : PortReq), portOf c = some q → s.portUp q.dt = true →
    (s.pass q.dt).granted q.init q.wr q.addr q.data = false →
    exec c s = .next (s.finish (((s.pass q.dt).denied q.init q.wr q.addr).setRsp .denied 0))

/-- A granted request on the register port in a wrong form (R68) has no effect and is answered DECODE with data 0. In DOZE and WATCH a granted request to a register that does not answer then is answered DECODE with data 0, and it wakes the block where PWR_CFG.ACC_WAKE is 1, and has no other effect. -/
def Obligations.MisformedAccessIsDecoded : Prop :=
  ∀ (c : Instr) (s : State) (q : PortReq), portOf c = some q → s.portUp q.dt = true →
    (s.pass q.dt).granted q.init q.wr q.addr q.data = true →
    (((s.pass q.dt).dozing && !sleepReg q.addr) = false → badForm q.wr q.addr q.size = true →
      exec c s = .next (s.finish ((s.pass q.dt).setRsp .decode 0))) ∧
    (((s.pass q.dt).dozing && !sleepReg q.addr) = true →
      exec c s = .next (s.finish ((if (s.pass q.dt).on PWR_CFG.ACC_WAKE then (s.pass q.dt).wake wkAccess 0
        else s.pass q.dt).setRsp .decode 0)))

/-- Main-domain reset: every register that is not always-on reads its Reset value, every always-on register but TAMPER_STAT (whose LOCKED_OUT clears) and PWR_STAT (whose STATE and PEND clear) keeps its word; FRC is 0, every role and queue is at its reset value, buffer memory, staff room and pools are empty, the ledger's cells stay, and the main domain is in reset. -/
def Obligations.MainResetKeepsOnlyTheIsland : Prop :=
  ∀ (s : State) (k : Nat), k ≠ TAMPER_STAT.reg.key 0 0 → k ≠ PWR_STAT.reg.key 0 0 →
    (s.mainReset.rg k = if isAon k then s.rg k else (resetWord k).toNat) ∧ s.mainReset.frc = 0 ∧ s.mainReset.roles = [] ∧
      s.mainReset.cmdq = [] ∧ s.mainReset.mem = MemSt.init ∧ s.mainReset.egr = EgrSt.init ∧ s.mainReset.rads = [] ∧
      s.mainReset.ledger.cells = s.ledger.cells ∧ s.mainReset.chip.mainReset = true ∧ s.mainReset.on TAMPER_STAT.LOCKED_OUT = false ∧
      s.mainReset.get PWR_STAT.STATE = 0 ∧ s.mainReset.get PWR_STAT.PEND = 0

/-- AON_POR and VDD_AON_FALL return every register to its Reset value and empty the block, the ledger's cells apart; after VDD_AON_FALL the island has no supply. A fall of PORST# that lasts 1,000 ns or more, and a fall of PG_CORE or PG_SRAM that lasts 100 ns or more while power is requested, set their bit of GLB_RST_CAUSE and assert main-domain reset: FRC is 0, roles, buffer memory and the command queue are empty, every register that is not always-on is at its Reset value, and the pin is then low or high as the command says. A PORST# pulse below 100 ns has no effect but the time it takes. While power is not requested, a fall of a core rail records nothing and resets nothing: only the level of the pin follows. -/
def Obligations.PowerPinsResetTheBlock : Prop :=
  (∀ (s : State) (dt : Nat), ∃ t, exec (.aonPor dt) s = .next t ∧ t.regs = [] ∧ t.frc = 0 ∧ t.roles = [] ∧ t.mem = MemSt.init ∧
    t.cmdq = [] ∧ t.chip.mainReset = true ∧ t.chip.aonOn = true ∧ t.ledger.cells = (s.pass dt).ledger.cells) ∧
  (∀ (s : State) (dt : Nat), ∃ t, exec (.vddAonFall dt) s = .next t ∧ t.regs = [] ∧ t.frc = 0 ∧ t.roles = [] ∧ t.mem = MemSt.init ∧
    t.cmdq = [] ∧ t.chip.mainReset = true ∧ t.chip.aonOn = false ∧ t.ledger.cells = (s.pass dt).ledger.cells) ∧
  (∀ (s : State) (dt low : Nat) (back : Bool), s.chip.aonOn = true → (s.pass dt).chip.porst = true → 1000 ≤ low →
    ∃ t, exec (.porst dt ⟨low, back⟩) s = .next t ∧ t.frc = 0 ∧ t.roles = [] ∧ t.mem = MemSt.init ∧ t.cmdq = [] ∧
    t.chip.mainReset = true ∧ t.get GLB_RST_CAUSE.PORST = 1 ∧ t.chip.porst = back ∧
    t.ledger.cells = (s.pass dt).ledger.cells ∧ ∀ k, isAon k = false → t.rg k = (resetWord k).toNat) ∧
  (∀ (s : State) (dt low : Nat), s.chip.aonOn = true → (s.pass dt).chip.porst = true → low < 100 →
    exec (.porst dt ⟨low, true⟩) s = .next (s.finish { (s.pass dt).advance low with chip.porst := true })) ∧
  (∀ (s : State) (dt low : Nat) (sram back : Bool), s.alive = true → 100 ≤ low → (s.pass dt).railLevel sram = true →
    (s.pass dt).chip.reqMain = true →
    ∃ t, exec (.coreRail dt sram ⟨low, back⟩) s = .next t ∧ t.frc = 0 ∧ t.roles = [] ∧ t.mem = MemSt.init ∧ t.cmdq = [] ∧
    t.chip.mainReset = true ∧ t.get (if sram then GLB_RST_CAUSE.SRAM_RAIL else GLB_RST_CAUSE.CORE_RAIL) = 1 ∧
    t.railLevel sram = back ∧
    t.ledger.cells = (s.pass dt).ledger.cells ∧ ∀ k, isAon k = false → t.rg k = (resetWord k).toNat) ∧
  (∀ (s : State) (dt low : Nat) (sram : Bool), s.alive = true → 100 ≤ low → (s.pass dt).railLevel sram = true →
    (s.pass dt).chip.reqMain = false →
    exec (.coreRail dt sram ⟨low, false⟩) s = .next (s.finish (((s.pass dt).setRail sram false).advance low)))

/-- A fall of 100 ns or more on PG_LEDGER while its request is 1 holds ledger writes (the rail is down), sets GLB_RST_CAUSE.LEDGER_RAIL, clears GLB_RAIL_STAT.LEDGER_AVAIL outside main-domain reset and sets latch 0x14; while the request is 0 it records nothing. Its return outside reset writes the words that START holds, in their order, and with no request queued sets LEDGER_AVAIL; queued requests stay for the ledger steps. A clock found absent is no longer present. In reset nothing else follows. Outside reset the loss of CORE_CK, MEM_CK, SVC_CK or TIME_CK names the clock in LOST_CLK and resets the main domain; the unexpected loss of HOST_CK, REG_CK, UPTX_CK, UPRX0_CK, UPRX1_CK or LAN_CK sets its LOST bit, marks each of its ports and brings them up to date; that of RAD_CK sets its LOST bit, marks and brings up to date the radio ports; that of AON_CK sets AON_LOST and latch 0x13. An expected loss (R507) records nothing. A return shows the clock present, and outside reset brings its ports up to date and for the host clock lets held requests go on, for the register clock pending accesses of the test access port. NVM_SCK has no monitor. Where the block sleeps, a link that comes up with it may wake the block. -/
def Obligations.LedgerRailAndClocks : Prop :=
  (∀ (s : State) (dt low : Nat), s.alive = true → 100 ≤ low → (s.pass dt).chip.pgLedger = true →
    let p : State := { s.pass dt with chip.pgLedger := false }
    exec (.ledgerRail dt low) s = .next (s.finish
      (if p.chip.reqLedger then
        (if p.chip.mainReset then p.put GLB_RST_CAUSE.LEDGER_RAIL 1
         else (p.put GLB_RST_CAUSE.LEDGER_RAIL 1).put GLB_RAIL_STAT.LEDGER_AVAIL 0).latch 0x14
       else p))) ∧
  (∀ (s : State) (dt : Nat), s.alive = true →
    let p : State := { s.pass dt with chip.pgLedger := true }
    let q : State := { p.forEach p.chip.start.held (fun r e => r.ldgPut e.1 e.2) with chip.start.held := [] }
    (p.chip.mainReset = true → exec (.ledgerRailReturn dt) s = .next (s.finish p)) ∧
    (p.chip.mainReset = false → q.ledger.queue = [] →
      exec (.ledgerRailReturn dt) s = .next (s.finish (q.put GLB_RAIL_STAT.LEDGER_AVAIL 1))) ∧
    (p.chip.mainReset = false → q.ledger.queue ≠ [] → exec (.ledgerRailReturn dt) s = .next (s.finish q))) ∧
  (∀ (s : State) (dt : Nat) (d : Fin 13) (rx : BitVec 8), s.alive = true → (s.pass dt).clkOn d.val = true → d.val ≠ 11 →
    let p : State := { s.pass dt with chip.clkUp := (s.pass dt).chip.clkUp &&& ~~~(1#13 <<< d.val) }
    let open_ (r : State) (n : Nat) : State := if bitAt rx.toNat n then r.onPort n (fun x => { x with rxOpen := true }) else r
    let ends (t : State) : Prop := exec (.clockLoss dt d rx) s = .next (s.finish ((s.pass dt).linkWatch (fun _ => t)))
    (p.chip.mainReset = true → ends p) ∧
    (p.chip.mainReset = false →
      (d.val ∈ [0, 1, 2, 5] → ends ((p.put GLB_RST_CAUSE.LOST_CLK d.val).resetBy GLB_RST_CAUSE.CLOCK_LOSS)) ∧
      (d.val ∈ [3, 4, 6, 7, 8, 9, 10, 12] → p.lossExpected d.val = true → ends ((p.forEach (clkPorts d.val) open_).clkEval d.val)) ∧
      (d.val ∈ [3, 4, 6, 7, 8, 9] → p.lossExpected d.val = false →
        ends (((p.put GLB_CLK_STAT.LOST ((p.get GLB_CLK_STAT.LOST).lor (2 ^ d.val))).forEach (clkPorts d.val) (fun r n =>
          (open_ r n).pevt PORT_EVT.CLK_LOST n)).clkEval d.val)) ∧
      (d.val = 10 → p.lossExpected 10 = false →
        ends (((p.put GLB_CLK_STAT.LOST ((p.get GLB_CLK_STAT.LOST).lor (2 ^ 10))).forEach (List.range 3) (fun r n =>
          r.revt RAD_EVT.CLK_LOST n)).clkEval 10)) ∧
      (d.val = 12 → ends ((p.put GLB_CLK_STAT.AON_LOST 1).latch 0x13)))) ∧
  (∀ (s : State) (dt : Nat) (d : Fin 13), s.alive = true → d.val ≠ 11 →
    let p : State := { s.pass dt with chip.clkUp := (s.pass dt).chip.clkUp ||| (1#13 <<< d.val) }
    let ends (t : State) : Prop := exec (.clockReturn dt d) s = .next (s.finish ((s.pass dt).linkWatch (fun _ => t)))
    (p.chip.mainReset = true → ends p) ∧
    (p.chip.mainReset = false → d.val ≠ 3 → d.val ≠ 4 → ends (p.clkEval d.val)) ∧
    (p.chip.mainReset = false → d.val = 3 → ends ((p.clkEval 3).forEach (List.range 8) State.hostKick)) ∧
    (p.chip.mainReset = false → d.val = 4 →
      let r := p.clkEval 4
      ends (if r.chip.mainReset then r else r.tapResume))) ∧
  (∀ (s : State) (dt : Nat) (rx : BitVec 8), s.alive = true →
    exec (.clockLoss dt 11 rx) s = .next (s.finish ((s.pass dt).linkWatch id)) ∧
    exec (.clockReturn dt 11) s = .next (s.finish ((s.pass dt).linkWatch id)))

/-- A write of 0xB10C to GLB_RST_CMD schedules main-domain reset and any other value has no effect. SW_RESET sets GLB_RST_CAUSE.SW_RESET and asserts a scheduled reset. When every release condition holds (PORST# high, every rail good and requested, the six main clocks present), main-domain reset ends: FRC reads the cycles that TIME_CK has run since its release from 0, GLB_MODE is START with cause RESET, or WAKE after DEEP, and the ports follow. -/
def Obligations.SoftwareResetAndRelease : Prop :=
  (∀ (a : Access) (s : State), s.takes a true GLB_RST_CMD.reg 0 0 (wdata a) = true →
    exec (.glbRstCmd a) s = .next (s.finish
      (State.setRsp (if getBits (wdata a) 0 16 = 0xB10C then { s.pass a.dt with chip.rstPend := true } else s.pass a.dt) .okay 0))) ∧
  (∀ (dt : Nat) (s : State), s.runs dt = true → (s.pass dt).chip.rstPend = true →
    exec (.swReset dt) s = .next (s.finish ((s.pass dt).resetBy GLB_RST_CAUSE.SW_RESET))) ∧
  (∀ (dt after : Nat) (s : State), s.alive = true → (s.pass dt).chip.mainReset = true → (s.pass dt).chip.reqMain = true →
    (s.pass dt).chip.porst = true → (s.pass dt).chip.pgCore = true → (s.pass dt).chip.pgSram = true →
    (s.pass dt).chip.pgLedger = true → (∀ d < 6, (s.pass dt).clkOn d = true) →
    exec (.mainResetEnd ⟨dt, after⟩) s = .next (s.finish
      (({ s.pass dt with chip.mainReset := false, chip.start.enteredAt := after, frc := BitVec.ofNat 64 after }.put GLB_MODE.CAUSE
        (if (s.pass dt).chip.wakeCause then 5 else 0)).portsEval)))

/-- After the ledger read: BOOT_COUNTER_WRITE writes the incremented count where no record is deferred and the rail stands. START_MARCH tests and repairs every column and ends. IMAGE_LOAD loads a slot with a valid header, of two valid headers the later in generation and slot 0 where they are equal: the image's sections are applied, and when every check passes the block will enter the image's TARGET; when one fails its effects are undone, and the other slot, if valid, is loaded as the fallback; with no valid header, or when every slot loaded has failed, the block will enter RECOVERY, with cause NO_IMAGE or LOADER_FAULT. POOL_BUILD, when steps 2 to 4 have ended, builds the pools, sets roles and generations, activates the loaded timetables and starts the cores. -/
def Obligations.StartSteps : Prop :=
  ∀ (dt : Nat) (s : State), s.runs dt = true → (s.pass dt).mode = 0 → (s.pass dt).chip.start.ledgerDone = true →
    let p := s.pass dt
    (p.chip.start.countDone = false → p.deferredTampers = [] → p.chip.pgLedger = true →
      exec (.bootCounterWrite dt) s = .next (s.finish
        (let c := (p.bootCount + 1) % 2 ^ 48
         (({ p with chip.start.countDone := true }.put LDG_STAT.BOOT_COUNT c).put TAMPER_STAT.LOG_PEND 0).ldgPut
           (0x100 + c % 512) (bootWord c)))) ∧
    (∀ defects : List (Fin 10 × Fin 2 × Fin 1032 × Fin 321), p.chip.start.marchDone = false →
      exec (.startMarch dt defects) s = .next (s.finish
        { p.startMarch (defects.map (fun d => ⟨d.1.val, d.2.1.val, d.2.2.1.val, d.2.2.2.val⟩)) with chip.start.marchDone := true })) ∧
    (∀ f0 f1 : List Byte, p.chip.start.imageDone = false → p.chip.start.marchDone = true →
      let hdr (n : Nat) : List Nat := flashBytes (if n = 0 then f0 else f1) 64
      let img (n : Nat) : List Nat := flashBytes (if n = 0 then f0 else f1) (hdrLen (hdr n))
      let r (n : Nat) : Nat := p.hdrCheck (hdr n)
      let shown (n : Nat) : Nat := if r n = irOk then irStandby else r n
      let q := State.slotResult (State.slotResult { p with chip.start.imageDone := true } 0 (shown 0)) 1 (shown 1)
      (r 0 ≠ irOk → r 1 ≠ irOk → exec (.imageLoad dt f0 f1) s = .next (s.finish { q with boot.target := 3, boot.cause := 3 })) ∧
      (∀ n < 2, r n = irOk → (r (1 - n) = irOk → (n = 1 ↔ 0 < wrapDiff 32 (hdrGen (hdr 1)) (hdrGen (hdr 0)))) →
        let w := q.walkImage true (img n)
        let f := ((q.loadFailed n w).put LDR_STAT.FALLBACK 1).ldrEvt LDR_EVT.FALLBACK
        let v := f.walkImage true (img (1 - n))
        (w.code = irOk → exec (.imageLoad dt f0 f1) s = .next (s.finish (w.s.loaded n (img n)))) ∧
        (w.code ≠ irOk → r (1 - n) ≠ irOk →
          exec (.imageLoad dt f0 f1) s = .next (s.finish { q.loadFailed n w with boot.target := 3, boot.cause := 4 })) ∧
        (w.code ≠ irOk → r (1 - n) = irOk → v.code = irOk →
          exec (.imageLoad dt f0 f1) s = .next (s.finish (v.s.loaded (1 - n) (img (1 - n))))) ∧
        (w.code ≠ irOk → r (1 - n) = irOk → v.code ≠ irOk →
          exec (.imageLoad dt f0 f1) s = .next (s.finish { f.loadFailed (1 - n) v with boot.target := 3, boot.cause := 4 })))) ∧
    (p.chip.start.countDone = true → p.chip.start.marchDone = true → p.chip.start.imageDone = true →
      p.chip.start.built = false →
      exec (.poolBuild dt) s = .next (s.finish
        (let q := p.buildPools.startRoles
         let q := q.forEach q.boot.activate State.activate
         { q.forEach [0, 1] (State.coreStart (rom := q.boot.target = 3)) with chip.start.built := true })))

/-- A register word after a write of v that reaches the bits of m: a bit of an RW field takes the written bit where the access reaches it; a bit of a W1C field written 1 where the access reaches it clears; every other bit, reserved and read-only ones among them, stays. -/
def Obligations.RegisterFieldsTakeWritesByType : Prop :=
  ∀ (s : State) (k m v rw w1c i : Nat), rw &&& w1c = 0 → i < 64 →
    (((s.setRg k (mix (s.rg k) v (m.land rw))).clearBits k ((v.land m).land w1c)).rg k).testBit i =
      (if m.testBit i && rw.testBit i then v.testBit i
       else (s.rg k).testBit i && !(v.testBit i && m.testBit i && w1c.testBit i)) ∧
    ∀ k' ≠ k, ((s.setRg k (mix (s.rg k) v (m.land rw))).clearBits k ((v.land m).land w1c)).rg k' = s.rg k'

/-- A plain access that the port answers with OKAY. A write to a register without an effect of its own stores its RW fields and clears its W1C bits where every value lies in its range, and then the level sources of that register are evaluated; a read returns the stored word with WO bits as zero, cut to what the access reaches, and clears RC fields. A register with an effect of its own takes the effect of its rule. At an address without a register a write has no effect and a read returns 0. -/
def Obligations.RegisterAccesses : Prop :=
  ∀ (a : Access) (addr : BitVec 20) (s : State),
    let p := s.pass a.dt
    let k := slotOf addr.toNat
    (s.plainAccess a true addr.toNat (wdata a) = true →
      (findReg k = none → exec (.registerWrite a addr) s = .next (s.finish (p.setRsp .okay 0))) ∧
      (∀ r, findReg k = some r → reachMask r.wide addr.toNat a.size.toNat ≠ 0 →
        (writeHooks.find? (fun e => e.1 == r.base) = none →
          exec (.registerWrite a addr) s = .next (s.finish ((p.storeWord r (copyKey r (copyOf r a.init.val) k)
            (reachMask r.wide addr.toNat a.size.toNat) (wdata a)).setRsp .okay 0))) ∧
        (∀ e, writeHooks.find? (fun e => e.1 == r.base) = some e →
          exec (.registerWrite a addr) s = .next (s.finish ((e.2 (copyOf r a.init.val) (r.idx1 k) (r.idx2 k)
            (reachMask r.wide addr.toNat a.size.toNat) (wdata a) p).setRsp .okay 0))))) ∧
    (s.plainAccess a false addr.toNat 0 = true →
      (findReg k = none → exec (.registerRead a addr) s = .next (s.finish (p.setRsp .okay 0))) ∧
      (∀ r, findReg k = some r → reachMask r.wide addr.toNat a.size.toNat ≠ 0 →
        (readHooks.find? (fun e => e.1 == r.base) = none →
          exec (.registerRead a addr) s = .next (s.finish
            ((if r.rc = 0 then p else
                p.setRg (copyKey r (copyOf r a.init.val) k)
                  (p.rg (copyKey r (copyOf r a.init.val) k) - (p.rg (copyKey r (copyOf r a.init.val) k)).land r.rc)).setRsp .okay
              ((p.rg (copyKey r (copyOf r a.init.val) k) - (p.rg (copyKey r (copyOf r a.init.val) k)).land r.wo).land
                (reachMask r.wide addr.toNat a.size.toNat))))) ∧
        (∀ e, readHooks.find? (fun e => e.1 == r.base) = some e →
          exec (.registerRead a addr) s = .next (s.finish
            ((e.2 (copyOf r a.init.val) (r.idx1 k) (r.idx2 k) p).1.setRsp .okay
              ((e.2 (copyOf r a.init.val) (r.idx1 k) (r.idx2 k) p).2.land (reachMask r.wide addr.toNat a.size.toNat)))))))

/-- A management SPI transaction whose address, and write data, are whole makes one register access with initiator 0xFE; a 32-bit one uses the half of the port that its address selects. Its status byte is that of the response; where the port answers too late the status is 3 and the data 0, and the access still takes effect. Two bytes of turnaround, the read data and the status leave on the output, as far as the clock runs. A transaction cut earlier, or with address bits [23:20] not zero, makes no access. REGACC makes one access with initiator 0xFF where the life-cycle state permits it, which waits while REG_CK is absent, and its register takes the data and the status; elsewhere the instruction in force is BYPASS and no access is made. MBIST starts where it is permitted, with a free result. JTAG_TRST# resets the test access port alone, and clock edges then move its controller. Under IDCODE the controller captures version 1, part 0x8A80 and the JTAG_MFR tie-off. A rising test-mode input wipes the secure region and enters the manufacturing test that it names where permitted, and has no effect where not. A level at a GPIO input pin is held for GLB_GPIO_IN. -/
def Obligations.ManagementAndTestAccess : Prop :=
  (∀ (dt : Nat) (addr : BitVec 24) (d32 : Word32) (d64 : Word) (late : Bool) (sck : Nat) (s : State), s.portUp dt = true →
    let p := s.pass dt
    let done (n lead : Nat) (rd : Bool) (r : State) : State :=
      let t := if late then { r.setRsp r.rsp.code 0 with spi := 3 }
        else { r with spi := match r.rsp.code with | .okay => 0 | .denied => 1 | .decode => 2 }
      { t with spiOut := ([0, 0] ++ (if rd then beBytes (offHalf n addr.toNat t.rsp.data.toNat) n else []) ++
          [t.spi.toNat]).take (sck / 8 - lead) }
    (addr.toNat < 2 ^ 20 → 64 ≤ sck → exec (.write32 dt addr d32 ⟨late, sck⟩) s = .next (s.finish
      (done 4 8 false (p.access 0xFE true addr.toNat 0 (if addr.toNat % 8 < 4 then d32.toNat else d32.toNat * 2 ^ 32) 0)))) ∧
    (addr.toNat < 2 ^ 20 → 96 ≤ sck → exec (.write64 dt addr d64 ⟨late, sck⟩) s = .next (s.finish
      (done 8 12 false (p.access 0xFE true addr.toNat 1 d64.toNat 0)))) ∧
    (addr.toNat < 2 ^ 20 → 32 ≤ sck → exec (.read32 dt addr ⟨late, sck⟩) s = .next (s.finish
      (done 4 4 true (p.access 0xFE false addr.toNat 0 0 0)))) ∧
    (addr.toNat < 2 ^ 20 → 32 ≤ sck → exec (.read64 dt addr ⟨late, sck⟩) s = .next (s.finish
      (done 8 4 true (p.access 0xFE false addr.toNat 1 0 0)))) ∧
    (2 ^ 20 ≤ addr.toNat ∨ sck < 64 → exec (.write32 dt addr d32 ⟨late, sck⟩) s = .next (s.finish { p with spiOut := [] })) ∧
    (2 ^ 20 ≤ addr.toNat ∨ sck < 96 → exec (.write64 dt addr d64 ⟨late, sck⟩) s = .next (s.finish { p with spiOut := [] })) ∧
    (2 ^ 20 ≤ addr.toNat ∨ sck < 32 → exec (.read32 dt addr ⟨late, sck⟩) s = .next (s.finish { p with spiOut := [] }) ∧
      exec (.read64 dt addr ⟨late, sck⟩) s = .next (s.finish { p with spiOut := [] }))) ∧
  (∀ (dt : Nat) (wr wide : Bool) (addr : BitVec 20) (d : Word) (s : State), s.runs dt = true →
    let p := s.pass dt
    let w := (if wr then 1 else 0) + (if wide then 2 else 0) + addr.toNat * 4 + d.toNat * 2 ^ 22
    let shifted (ir : BitVec 5) : State := { p with chip.tap.ir := ir, chip.tap.state := .updateDr, chip.tap.dr := BitVec.ofNat 90 w }
    ((p.lifeCycle = 0 ∨ p.lifeCycle = 1 ∨ p.lifeCycle = 3) →
      (p.clkOn 4 = true →
        let t := (shifted 0x08).access 0xFF wr addr.toNat (if wide then 1 else 0) d.toNat 0
        exec (.regacc dt wr wide addr d) s = .next (s.finish (let code := match t.rsp.code with
            | .okay => 0
            | .denied => 1
            | .decode => 2
          { t with chip.tap.acc := BitVec.ofNat 90 (setBits (setBits w 22 64 t.rsp.data.toNat) 86 4 code) }))) ∧
      (p.clkOn 4 = false →
        exec (.regacc dt wr wide addr d) s = .next (s.finish
          { shifted 0x08 with chip.tap.wait := p.chip.tap.wait ++ [BitVec.ofNat 90 w], chip.tap.acc := BitVec.ofNat 90 w }))) ∧
    ((p.lifeCycle = 2 ∨ 3 < p.lifeCycle) → exec (.regacc dt wr wide addr d) s = .next (s.finish (shifted 0x1F)))) ∧
  (∀ (dt : Nat) (mb : Bool) (s : State), s.runs dt = true →
    let p := s.pass dt
    let shifted (ir : BitVec 5) : State := { p with chip.tap.ir := ir, chip.tap.state := .updateDr, chip.tap.dr := 1 }
    ((p.lifeCycle = 0 ∨ p.lifeCycle = 1 ∨ p.lifeCycle = 3) →
      exec (.mbist dt) s = .next (s.finish
        { shifted 0x0A with free := p.free + 1, chip.tap.mbist := Config.mbistResult p.free }) ∧
      exec (.tmScan dt mb) s = .next (s.finish { p.wipeAll with chip.mfgTest := true, chip.mfgMbist := mb })) ∧
    ((p.lifeCycle = 2 ∨ 3 < p.lifeCycle) →
      exec (.mbist dt) s = .next (s.finish (shifted 0x1F)) ∧ exec (.tmScan dt mb) s = .next (s.finish p))) ∧
  (∀ (dt : Nat) (trst : Bool) (tck : List (Bool × Bool)) (s : State), s.alive = true →
    let p : State := if trst then { s.pass dt with chip.tap := TapSt.init } else s.pass dt
    (p.chip.mainReset = true → exec (.jtagTrst ⟨dt, trst, tck⟩) s = .next (s.finish p)) ∧
    (p.chip.mainReset = false → exec (.jtagTrst ⟨dt, trst, tck⟩) s = .next (s.finish (p.forEach tck State.tapClock)))) ∧
  (∀ (s : State) (x : Bool × Bool), s.chip.tap.state = .captureDr → s.chip.tap.ir = 0x01 →
    (s.tapClock x).chip.tap.dr = BitVec.ofNat 90 (0x1 * 2 ^ 28 + 0x8A80 * 2 ^ 12 + Config.jtagMfr.toNat * 2 + 1)) ∧
  (∀ (dt : Nat) (pin : Fin 32) (level : Bool) (s : State), s.alive = true →
    exec (.gpioInput dt pin level) s = .next (s.finish { s.pass dt with
      chip.gpio := if level then (s.pass dt).chip.gpio ||| (1#32 <<< pin.val) else (s.pass dt).chip.gpio &&& ~~~(1#32 <<< pin.val) }))

/-- A write to GLB_MODE_REQ that the port takes. A request for the current mode has no effect. A request for SLEEP, and one whose transition is not a software-request row of R33 for the current mode, sets REQ_ERR and changes nothing else, the mode among it. The rows of R33 are TEST to SERVICE, SERVICE to TEST in the life-cycle states BLANK and DEVELOP, RECOVERY to START and to TEST, and HALT from START, TEST, SERVICE and RECOVERY: those wait in REQ_PEND and REQ_TARGET, and HALT is entered at once with cause 9. -/
def Obligations.ModeRequests : Prop :=
  ∀ (a : Access) (s : State) (t : Nat) (o : Host.Outcome State Fault Refusal),
    (t = 0 ∧ o = exec (.requestStart a) s ∨ t = 1 ∧ o = exec (.requestTest a) s ∨ t = 2 ∧ o = exec (.requestService a) s ∨
      t = 4 ∧ o = exec (.requestSleep a) s ∨ t = 5 ∧ o = exec (.haltRequest a) s) →
    s.takes a true GLB_MODE_REQ.reg 0 0 (setBits (wdata a) 0 3 t) = true →
    let p := s.pass a.dt
    let row := (p.mode = 1 ∧ t = 2) ∨ (p.mode = 2 ∧ t = 1 ∧ p.lifeCycle ≤ 1) ∨ (p.mode = 3 ∧ t ≤ 1)
    (t ≠ 4 → t = p.mode → o = .next (s.finish (p.setRsp .okay 0))) ∧
    (t = 4 ∨ (t ≠ p.mode ∧ ¬ row ∧ ¬ (t = 5 ∧ p.mode ≤ 3)) → o = .next (s.finish ((p.put GLB_MODE.REQ_ERR 1).setRsp .okay 0))) ∧
    (row → o = .next (s.finish (((p.put GLB_MODE.REQ_PEND 1).put GLB_MODE.REQ_TARGET t).setRsp .okay 0))) ∧
    (t = 5 → p.mode ≤ 3 → o = .next (s.finish ((p.enterHalt 9).setRsp .okay 0)))

/-- A GLB_ROLE_CMD that the engine serves. Its unit, owner, function and generation are fields of the word. With no refusal condition the change waits for the next bell edge and ACCEPTED sets. Otherwise every condition that holds sets its bit (RANGE_REFUSED: no such unit or function, or DIAG outside TEST and RECOVERY; OWNER_REFUSED: the owner differs; STALE_REFUSED, also counted: the generation differs; BUSY: a change waits already), and no role changes. -/
def Obligations.RoleCommand : Prop :=
  ∀ (a : Access) (s : State), s.serves a GLB_ROLE_CMD.reg 0 (wdata a) = true →
    let p := s.pass a.dt
    let u := getBits (wdata a) 0 10
    let func := UnitFunc.ofCode (getBits (wdata a) 20 4)
    let range := unitValid u = false ∨ func = none ∨ (func = some .diag ∧ p.mode ≠ 1 ∧ p.mode ≠ 3)
    let owner := unitValid u = true ∧ getBits (wdata a) 16 4 ≠ ownerCode (p.role u).owner
    let gen := unitValid u = true ∧ getBits (wdata a) 32 16 ≠ (p.role u).gen.toNat
    let busy := unitValid u = true ∧ (p.role u).pend ≠ none
    (∀ f, func = some f → ¬ range → ¬ owner → ¬ gen → ¬ busy →
      exec (.roleCmd a) s = .next (s.finish
        ((((p.setRole u { p.role u with pend := some ((p.role u).owner, f) }).put GLB_ROLE_STAT.ACCEPTED 1).pmu evCmdServed 1).setRsp
          .okay 0))) ∧
    (range ∨ owner ∨ gen ∨ busy →
      let q := if range then p.put GLB_ROLE_STAT.RANGE_REFUSED 1 else p
      let q := if owner then q.put GLB_ROLE_STAT.OWNER_REFUSED 1 else q
      let q := if gen then (q.count GLB_STALE_CNT.COUNT).put GLB_ROLE_STAT.STALE_REFUSED 1 else q
      let q := if busy then q.put GLB_ROLE_STAT.BUSY 1 else q
      exec (.roleCmd a) s = .next (s.finish ((q.pmu evCmdServed 1).setRsp .okay 0)))

/-- The role change that takes effect at a bell edge gives the unit its new owner and function, ends the wait, and adds one to the unit's 16-bit generation modulo 65,536, also where owner and function are the same as before. Every other unit keeps its role and generation. -/
def Obligations.RoleChangeCountsGeneration : Prop :=
  ∀ (s : State) (u : Nat) (owner : Option (Fin 8)) (func : UnitFunc),
    ((s.applyRole u owner func).role u).owner = owner ∧ ((s.applyRole u owner func).role u).func = func ∧
    ((s.applyRole u owner func).role u).pend = none ∧
    ((s.applyRole u owner func).role u).gen.toNat = ((s.role u).gen.toNat + 1) % 65536 ∧
    ∀ v ≠ u, (s.applyRole u owner func).role v = s.role v

/-- The next bell edge: on the free-running grid at origin + (k + 1) × PERIOD of FRC, on the aligned grid at the first FRC at which synchronized time reaches the next multiple of PERIOD, and in ARMED, once a free-running edge would fall less than PERIOD before the re-phase boundary, at that boundary. BELL_EDGE lets the time to it pass and does its work. TERM_BOUNDARY does so where the edge ends the term, being the TERM_BELLS-th of it or the re-phase edge, and REPHASE_EDGE where it is the re-phase edge; else they have no effect. -/
def Obligations.BellEdges : Prop :=
  ∀ s : State, s.runs 0 = true →
    let p := s.pass 0
    let free := p.bell.origin + (p.bell.k + 1) * p.bell.period
    let at_ : Edge → State := fun e => (p.pass (e.frc - p.frc.toNat)).edgeAt e
    let near := p.bell.rephaseAt < p.stNsAt free + p.bell.period
    (p.on GLB_BELL_STAT.SRC = false → p.on GLB_BELL_STAT.ARMED = false ∨ ¬ near →
      exec .bellEdge s = .next (s.finish (at_ ⟨free, free, false⟩)) ∧
      (p.bell.termBells ≤ p.get GLB_TERM_BELL.INDEX + 1 → exec .termBoundary s = .next (s.finish (at_ ⟨free, free, false⟩))) ∧
      (p.get GLB_TERM_BELL.INDEX + 1 < p.bell.termBells → exec .termBoundary s = .next (s.finish p)) ∧
      exec .rephaseEdge s = .next (s.finish p)) ∧
    (p.on GLB_BELL_STAT.SRC = false → p.on GLB_BELL_STAT.ARMED = true → near →
      exec .bellEdge s = .next (s.finish (at_ ⟨p.frcAtSt p.bell.rephaseAt, p.bell.rephaseAt, true⟩)) ∧
      exec .termBoundary s = exec .bellEdge s ∧ exec .rephaseEdge s = exec .bellEdge s) ∧
    (p.on GLB_BELL_STAT.SRC = true →
      exec .bellEdge s = .next (s.finish
        (at_ ⟨p.frcAtSt (p.bell.edgeGrid + p.bell.period), p.bell.edgeGrid + p.bell.period, false⟩)) ∧
      (p.bell.termBells ≤ p.get GLB_TERM_BELL.INDEX + 1 → exec .termBoundary s = exec .bellEdge s) ∧
      exec .rephaseEdge s = .next (s.finish p))

/-- At every bell edge GLB_BELL_NUM rises by one modulo 2^32, GLB_BELL_FRC takes the FRC of the edge, and GLB_BELL_ST its synchronized time, or 0 where that is not valid. At a term boundary GLB_TERM_NUM rises by one modulo 2^32 and the bell of the term counts from 0; at any other edge the term number stays and GLB_TERM_BELL rises by one modulo 2^16. A change of grid or of configuration reloads none of them. -/
def Obligations.BellNumbersNeverJump : Prop :=
  ∀ (s : State) (e : Edge), e.frc < 2 ^ 64 →
    (s.edgeNumbers e).get GLB_BELL_NUM.BELL = (s.get GLB_BELL_NUM.BELL + 1) % 2 ^ 32 ∧
    (s.edgeNumbers e).rg (GLB_BELL_FRC.reg.key 0 0) = e.frc ∧
    (s.edgeNumbers e).rg (GLB_BELL_ST.reg.key 0 0) = (if s.edgeValid e then s.stNsAt e.frc % 2 ^ 64 else 0) ∧
    (s.endsTerm e = true → (s.edgeNumbers e).get GLB_TERM_NUM.TERM = (s.get GLB_TERM_NUM.TERM + 1) % 2 ^ 32 ∧
      (s.edgeNumbers e).get GLB_TERM_BELL.INDEX = 0) ∧
    (s.endsTerm e = false → (s.edgeNumbers e).get GLB_TERM_NUM.TERM = s.get GLB_TERM_NUM.TERM ∧
      (s.edgeNumbers e).get GLB_TERM_BELL.INDEX = (s.get GLB_TERM_BELL.INDEX + 1) % 2 ^ 16)

/-- Every report card holds 1,024 words of 8 bytes, which is 0x2000 bytes: an 8-word header, the counters, and a trailer whose low half is the CRC-32C of all that stands before it and whose high half is the number of the term. -/
def Obligations.CardHasItsSize : Prop :=
  ∀ (s : State) (e : Edge), (s.card e).length = 1024 ∧ (s.cardHeader e).length = 8 ∧
    (s.card e).getLast? = some (crcWords ((s.card e).take 1023) + s.get GLB_TERM_NUM.TERM * 2 ^ 32) ∧
    (s.card e).take 8 = s.cardHeader e

/-- A write of GLB_BELL_CFG that the port takes. Where the new PERIOD is outside 8,000 to 1,048,576 or TERM_BELLS is 0 the register is unchanged. Where it changes PERIOD or TERM_BELLS in ARMED or ALIGNED it is refused: CFG_REFUSED sets and the register is unchanged. In FREE the register takes the new word, and CFG_PEND sets where PERIOD or TERM_BELLS changes. With both unchanged, clearing ALIGN ends ARMED at once and ALIGNED at the next edge. BELL_OUT_FALL ends the pulse of the bell output. -/
def Obligations.BellConfiguration : Prop :=
  (∀ (a : Access) (s : State), s.takes a true GLB_BELL_CFG.reg 0 0 (wdata a) = true →
    let p := s.pass a.dt
    let old := p.rg (GLB_BELL_CFG.reg.key 0 0)
    let new := p.merged GLB_BELL_CFG.reg (accMask a GLB_BELL_CFG.reg 0 0) (wdata a)
    let valid := 8000 ≤ getBits new 0 21 ∧ getBits new 0 21 ≤ 1048576 ∧ getBits new 32 16 ≠ 0
    let changes := getBits old 0 21 ≠ getBits new 0 21 ∨ getBits old 32 16 ≠ getBits new 32 16
    let bound := p.on GLB_BELL_STAT.ARMED = true ∨ p.on GLB_BELL_STAT.SRC = true
    (¬ valid → exec (.glbBellCfgWrite a) s = .next (s.finish (p.setRsp .okay 0))) ∧
    (valid → changes → bound → exec (.glbBellCfgWrite a) s = .next (s.finish ((p.put GLB_BELL_STAT.CFG_REFUSED 1).setRsp .okay 0))) ∧
    (valid → changes → ¬ bound → exec (.glbBellCfgWrite a) s = .next (s.finish
      (((p.setRg (GLB_BELL_CFG.reg.key 0 0) new).put GLB_BELL_STAT.CFG_PEND 1).setRsp .okay 0))) ∧
    (valid → ¬ changes → (bitAt old 48 = false ∨ bitAt new 48 = true ∨ ¬ bound) →
      exec (.glbBellCfgWrite a) s = .next (s.finish ((p.setRg (GLB_BELL_CFG.reg.key 0 0) new).setRsp .okay 0))) ∧
    (valid → ¬ changes → bitAt old 48 = true → bitAt new 48 = false →
      (p.on GLB_BELL_STAT.ARMED = true → exec (.glbBellCfgWrite a) s = .next (s.finish
        ((p.setRg (GLB_BELL_CFG.reg.key 0 0) new).disarm.setRsp .okay 0))) ∧
      (p.on GLB_BELL_STAT.ARMED = false → p.on GLB_BELL_STAT.SRC = true → exec (.glbBellCfgWrite a) s = .next (s.finish
        (State.setRsp { p.setRg (GLB_BELL_CFG.reg.key 0 0) new with bell.unalign := true } .okay 0))))) ∧
  (∀ (s : State) (t : Nat), s.runs 0 = true → (s.pass 0).bell.outFallAt = some t →
    exec .bellOutFall s = .next (s.finish { (s.pass 0).advanceTo t with bell.outLevel := false, bell.outFallAt := none }))

/-- A step starts once the fixed work of the bell, the step before and for the ledger the programming of the last word have ended. Where operation code may step then (stepReady: it is the operation whose turn it is, with fewer than four steps in this bell, 1,990 ns or more before the next edge, with the command engine's turn taken, in a mode that permits it), its step counts as started and does its work: the preserving march (R210), the scrub (R215), the fill of a bank (R203), the copy of rules (R269), the pool rebuild (R236), a ledger word (R474), the flash line (R465), a wipe (R499). Where it may not, only the time passes. SCRUB_STEP and FILL_STEP share code 2, and a filling bank goes first. -/
def Obligations.LongOperationSteps : Prop :=
  ∀ (s : State) (dt : Nat), s.runs dt = true →
    let steps (c : Instr) (code : Nat) (work : State → State) : Prop :=
      (s.stepReady dt code = true → exec c s = .next (s.finish (work ((s.stepFrom dt code).stepCounted code)))) ∧
      (s.stepReady dt code = false →
        exec c s = .next (s.finish (if (s.pass dt).stepMode code then s.stepFrom dt code else s.pass dt)))
    (∀ (defects : List (Fin 2 × Fin 4096)) (writes : List ProcWrite),
      steps (.preservingMarchStep ⟨dt, writes⟩ defects) 1 (fun t => t.marchStep (defects.map (fun d => (d.1.val, d.2.val))) writes)) ∧
    ((s.pass dt).filling = false →
      (∀ writes : List ProcWrite, steps (.scrubStep ⟨dt, writes⟩) 2 (fun t => t.scrubStep writes)) ∧
      exec (.fillStep dt) s = .next (s.finish (s.pass dt))) ∧
    ((s.pass dt).filling = true → steps (.fillStep dt) 2 State.fillStep ∧
      ∀ writes : List ProcWrite, exec (.scrubStep ⟨dt, writes⟩) s = .next (s.finish (s.pass dt))) ∧
    steps (.ruleBankSwapStep dt) 3 State.mirrorStep ∧
    steps (.poolRebuildStep dt) 4 State.rebuildStep ∧
    (∀ miss : Fin 3, steps (.ledgerWriteStep dt miss) 5 (fun t => t.ldgStep miss.val)) ∧
    (∀ bytes : List Byte, steps (.flashStep dt bytes) 6 (fun t => t.nvmStep bytes)) ∧
    steps (.secureZeroStep dt) 7 State.wipeStep

/-- The lanes that the receiver of a wired port hears, to the end of a packet with delimiter 0xD5 and L bytes from destination address to FCS. Outside UP, and in loopback, they have no effect. In UP what they hold decides: lanes without a Start that the receiver takes leave no frame; a Start without Terminate leaves a frame open; a code fault counts RX_CODE_ERR. Of a packet the first row that holds decides: a frame that the RX FIFO has no room for counts RX_FIFO_OVF; L below 64, RX_RUNT; a bad FCS, RX_FCS_ERR; L above MAX_FRAME (as it stood at the Start) counts RX_OVERSIZE, and with OVS_DROP also RX_OVERSIZE_DROP and the frame is dropped; a MAC control frame is consumed; any other frame counts RX_FRAMES, its L in RX_OCTETS, and RX_BCAST or RX_MCAST, and its first bytes without FCS, at most MAX_FRAME - 4, enter the RX FIFO. RX_JABBER discards an open frame and counts, and a misaligned Start with no frame open counts RX_CODE_ERR, each once until the receiver stops discarding. -/
def Obligations.WiredReception : Prop :=
  ∀ (dt : Nat) (n : Fin 8) (s : State), s.hears dt n.val = true →
    let p := s.pass dt
    (p.isUp n.val = false ∨ p.on PORT_MAC_CTRL.LOOP n.val = true →
      (∀ age lane k l, exec (.rxFrame dt n age lane k l) s = .next (s.finish p)) ∧
      exec (.rxJabber dt n) s = .next (s.finish p) ∧ exec (.misalignedStart dt n) s = .next (s.finish p)) ∧
    (p.isUp n.val = true → p.on PORT_MAC_CTRL.LOOP n.val = false → ∀ (age : Nat) (lane : Fin 16) (k : List Bool) (l : List Byte),
      let seen := rxRead (p.on PORT_PM_CFG.EN n.val) (p.port n.val).gate (laneList k l)
      let closed := p.onPort n.val (fun x => { x with rxOpen := false, gate := .take })
      (∀ g, seen = .nothing g → exec (.rxFrame dt n age lane k l) s = .next (s.finish (p.onPort n.val (fun x => { x with gate := g })))) ∧
      (seen = .opened → exec (.rxFrame dt n age lane k l) s = .next (s.finish
        (p.onPort n.val (fun x => { x with rxOpen := true, gate := .take })))) ∧
      (∀ b, seen = .fault b → exec (.rxFrame dt n age lane k l) s = .next (s.finish
        ((closed.crcTapRx n.val (b.take (b.length - 4)) false).count PORT_CNT.COUNT n.val pcRxCodeErr))) ∧
      (∀ bytes, seen = .packet 0xD5 bytes →
        let len := bytes.length
        let max := closed.maxAt n.val (closed.rxStartAt n.val age lane.val)
        let body := bytes.take (len - 4)
        let stored := body.take (max - 4)
        let good := bytes.drop (len - 4) = fcsBytes body
        let fits := closed.fifoFill n.val + stored.length ≤ fifoBytes n.val
        let ts := closed.tscRx n.val (closed.frc.toNat - age) lane.val
        let drop := max < len ∧ closed.on PORT_MAC_CTRL.OVS_DROP n.val = true
        let q := closed.crcTapRx n.val (if fits then stored else []) (decide (fits ∧ 64 ≤ len ∧ good ∧ ¬ drop))
        let q1 := if max < len then q.count PORT_CNT.COUNT n.val pcRxOversize else q
        let q2 := (q1.count PORT_CNT.COUNT n.val pcRxFrames).countN PORT_CNT.COUNT len n.val pcRxOctets
        let q3 := if isBcast body then q2.count PORT_CNT.COUNT n.val pcRxBcast
          else if isMcast body then q2.count PORT_CNT.COUNT n.val pcRxMcast else q2
        (¬ fits → exec (.rxFrame dt n age lane k l) s = .next (s.finish (q.count PORT_CNT.COUNT n.val pcRxFifoOvf))) ∧
        (fits → len < 64 → exec (.rxFrame dt n age lane k l) s = .next (s.finish (q.count PORT_CNT.COUNT n.val pcRxRunt))) ∧
        (fits → 64 ≤ len → ¬ good →
          exec (.rxFrame dt n age lane k l) s = .next (s.finish (q.count PORT_CNT.COUNT n.val pcRxFcsErr))) ∧
        (fits → 64 ≤ len → good → drop →
          exec (.rxFrame dt n age lane k l) s = .next (s.finish (q1.count PORT_CNT.COUNT n.val pcRxOversizeDrop))) ∧
        (fits → 64 ≤ len → good → ¬ drop → (body.drop 12).take 2 = [0x88, 0x08] →
          exec (.rxFrame dt n age lane k l) s = .next (s.finish (q1.macControl n.val body))) ∧
        (fits → 64 ≤ len → good → ¬ drop → (body.drop 12).take 2 ≠ [0x88, 0x08] →
          exec (.rxFrame dt n age lane k l) s = .next (s.finish (q3.onPort n.val (fun x =>
            { x with act := true, rxFifo := x.rxFifo ++ [⟨stored, decide (max < len), ts, none, q3.get GLB_BELL_NUM.BELL⟩] }))))) ∧
      (seen = .jabber → exec (.rxFrame dt n age lane k l) s = exec (.rxJabber dt n) s) ∧
      ((p.port n.val).gate ≠ .jabber → exec (.rxJabber dt n) s = .next (s.finish
        ((p.onPort n.val (fun x => { x with rxOpen := false, gate := .jabber })).count PORT_CNT.COUNT n.val pcRxJabber))) ∧
      ((p.port n.val).gate = .jabber → exec (.rxJabber dt n) s = .next (s.finish p)) ∧
      ((p.port n.val).rxOpen = false → (p.port n.val).gate = .take → exec (.misalignedStart dt n) s = .next (s.finish
        ((p.onPort n.val (fun x => { x with gate := .misaligned })).count PORT_CNT.COUNT n.val pcRxCodeErr))) ∧
      ((p.port n.val).rxOpen = true ∨ (p.port n.val).gate ≠ .take → exec (.misalignedStart dt n) s = .next (s.finish p)))

/-- A MAC control frame that passed R112, with its body from destination address on. While WDOG_ACTIVE is 1 any such frame counts RX_PAUSE_IGNORED. Otherwise: with MODE pause and RX_EN 1 a frame with opcode 0x0001 to 01-80-C2-00-00-01 or to the port's own address loads the pause timer with T quanta from now, or clears it for T = 0, and counts RX_PAUSE. With MODE PFC and RX_EN 1 a frame with opcode 0x0101 to 01-80-C2-00-00-01 loads the timers its class-enable vector names and counts RX_PFC, all other timers staying as they are. Any other pause or PFC frame counts RX_PAUSE_IGNORED, and any other control frame RX_CTRL_UNKNOWN. No row touches the RX FIFO. -/
def Obligations.MacControlTable : Prop :=
  ∀ (s : State) (n : Nat) (b : List Nat),
    let dst := b.take 6
    let op := beNat ((b.drop 14).take 2)
    let pause := op = 1 ∧ (dst = [0x01, 0x80, 0xC2, 0, 0, 1] ∨ dst = beBytes (s.get PORT_MAC_ADDR.ADDR n) 6)
    let pfc := op = 0x101 ∧ dst = [0x01, 0x80, 0xC2, 0, 0, 1]
    let dog := s.on PORT_FC_STAT.WDOG_ACTIVE n = true
    let ignored := ¬ (pause ∧ (s.port n).fcMode = 1 ∧ s.on PORT_FC_CTRL.RX_EN n = true) ∧
      ¬ (pfc ∧ (s.port n).fcMode = 2 ∧ s.on PORT_FC_CTRL.RX_EN n = true)
    let now := s.frc.toNat * 100
    let q := s.quantum100 n
    (dog → s.macControl n b = s.count PORT_CNT.COUNT n pcRxPauseIgnored) ∧
    (¬ dog → pause ∨ pfc → ignored → s.macControl n b = s.count PORT_CNT.COUNT n pcRxPauseIgnored) ∧
    (¬ dog → pause → ¬ ignored → ∃ t : State, s.macControl n b = t.count PORT_CNT.COUNT n pcRxPause ∧
      (t.port n).rxFifo = (s.port n).rxFifo ∧ (t.port n).pfcEnd = (s.port n).pfcEnd ∧
      (t.port n).pauseEnd = if beNat ((b.drop 16).take 2) = 0 then 0 else now + beNat ((b.drop 16).take 2) * q) ∧
    (¬ dog → pfc → ¬ ignored → ∃ t : State, s.macControl n b = t.count PORT_CNT.COUNT n pcRxPfc ∧
      (t.port n).rxFifo = (s.port n).rxFifo ∧ (t.port n).pauseEnd = (s.port n).pauseEnd ∧
      ∀ p < 8, (t.port n).pfcEnd.getD p 0 =
        if bitAt (beNat ((b.drop 16).take 2)) p then
          (if beNat ((b.drop (18 + 2 * p)).take 2) = 0 then 0 else now + beNat ((b.drop (18 + 2 * p)).take 2) * q)
        else (s.port n).pfcEnd.getD p 0) ∧
    (¬ dog → ¬ pause → ¬ pfc → s.macControl n b = s.count PORT_CNT.COUNT n pcRxCtrlUnknown)

/-- A pause frame or a PFC frame of the link partner, 64 bytes with a good FCS, that an UP port outside loopback hears, with room in the RX FIFO and MAX_FRAME at 64 or more, is consumed under R127 (macControl) after the check units on the port's tap have seen it. A pause timer or a PFC timer that runs ends at its own moment, and reads 0 then; one that does not run has no expiry. -/
def Obligations.PauseReception : Prop :=
  (∀ (dt : Nat) (n : Fin 8) (s : State), s.hears dt n.val = true → (s.pass dt).isUp n.val = true →
    (s.pass dt).on PORT_MAC_CTRL.LOOP n.val = false →
    let closed := (s.pass dt).onPort n.val (fun x => { x with rxOpen := false, gate := .take })
    64 ≤ closed.maxAt n.val closed.frc.toNat → closed.fifoFill n.val + 60 ≤ fifoBytes n.val →
    (∀ (own : Bool) (quanta : BitVec 16),
      let body := (if own then beBytes ((s.pass dt).get PORT_MAC_ADDR.ADDR n.val) 6 else [0x01, 0x80, 0xC2, 0, 0, 1]) ++
        [0, 0, 0, 0, 0, 0, 0x88, 0x08, 0x00, 0x01, quanta.toNat / 256, quanta.toNat % 256] ++ List.replicate 42 0
      exec (.rxPause dt n own quanta) s = .next (s.finish ((closed.crcTapRx n.val body true).macControl n.val body))) ∧
    (∀ (vec : BitVec 16) (times : BitVec 128),
      let body := [0x01, 0x80, 0xC2, 0, 0, 1, 0, 0, 0, 0, 0, 0, 0x88, 0x08, 0x01, 0x01, vec.toNat / 256, vec.toNat % 256] ++
        beBytes times.toNat 16 ++ List.replicate 26 0
      exec (.rxPfc dt n vec times) s = .next (s.finish ((closed.crcTapRx n.val body true).macControl n.val body)))) ∧
  (∀ (n : Fin 8) (s : State), s.runs 0 = true →
    let p := s.pass 0
    ((p.port n.val).pauseEnd = 0 → exec (.pauseTimerExpiry n) s = .next (s.finish p)) ∧
    ((p.port n.val).pauseEnd ≠ 0 → exec (.pauseTimerExpiry n) s = .next (s.finish
      ((p.advanceTo (((p.port n.val).pauseEnd + 99) / 100)).onPort n.val (fun x => { x with pauseEnd := 0 })))) ∧
    (∀ i : Fin 8, (p.port n.val).pfcEnd.getD i.val 0 = 0 → exec (.pfcTimerExpiry n i) s = .next (s.finish p)) ∧
    (∀ i : Fin 8, (p.port n.val).pfcEnd.getD i.val 0 ≠ 0 → exec (.pfcTimerExpiry n i) s = .next (s.finish
      ((p.advanceTo (((p.port n.val).pfcEnd.getD i.val 0 + 99) / 100)).onPort n.val (fun x => { x with pfcEnd := x.pfcEnd.set i.val 0 })))))

/-- The link state is the first state of the table whose condition holds: DISABLED, DOWN, LOCAL_FAULT, REMOTE_FAULT, and else ARMING, which is kept while the port is UP and becomes UP at once where UP_HOLD is 0. A change of state from one other than UP shows in LINK, sets the fault's event bit, and on entry to UP sets LINK_UP. LOCAL_FAULT brings 64-bit words that the PCS receives between packets: outside loopback, with the receive clock present, each word moves the fault statuses by the ordered sets in it, the receiver reads the lanes, and the link state follows. PCS_LINK_OK and the end of UP_HOLD in ARMING lead to it likewise. All of this is stated outside DOZE and WATCH, where a change of link state may also wake the block. -/
def Obligations.LinkStateEvents : Prop :=
  (∀ (s : State) (n : Nat),
    let q := (s.put PORT_MAC_STAT.PCS_LINK_OK (b2n (s.port n).linkOk) n).put PORT_MAC_STAT.CLK_OK
      (b2n (s.clkOn (txClk n) && s.clkOn (rxClk n))) n
    let loop := q.on PORT_MAC_CTRL.LOOP n = true
    let off := (q.on PORT_MAC_CTRL.EN n = false ∧ (q.port n).disabling = false) ∨ (q.role n).func = .idle
    let down := q.clkOn (txClk n) = false ∨ (¬ loop ∧ (q.clkOn (rxClk n) = false ∨ (q.port n).linkOk = false)) ∨
      (n < 2 ∧ q.on PORT_LINK_CFG.LOS_USE n = true ∧ q.on PORT_MOD_CTRL.LOS n = true) ∨ q.mode = 0 ∨ q.mode = 5
    (off → s.linkEval n = q.setLink n linkDisabled) ∧
    (¬ off → down → s.linkEval n = q.setLink n linkDown) ∧
    (¬ off → ¬ down → q.on PORT_MAC_STAT.LF_RX n = true → s.linkEval n = q.setLink n linkLocal) ∧
    (¬ off → ¬ down → q.on PORT_MAC_STAT.LF_RX n = false → q.on PORT_MAC_STAT.RF_RX n = true →
      s.linkEval n = q.setLink n linkRemote) ∧
    (¬ off → ¬ down → q.on PORT_MAC_STAT.LF_RX n = false → q.on PORT_MAC_STAT.RF_RX n = false →
      (q.link n = linkUp → s.linkEval n = q) ∧
      (q.link n = linkArming → q.get PORT_LINK_CFG.UP_HOLD n ≠ 0 → s.linkEval n = q) ∧
      (q.link n = linkArming → q.get PORT_LINK_CFG.UP_HOLD n = 0 → s.linkEval n = q.setLink n linkUp))) ∧
  (∀ (s : State) (n : Nat), s.link n ≠ linkUp →
    (s.link n ≠ linkDown → s.setLink n linkDown = s.put PORT_MAC_STAT.LINK linkDown n) ∧
    (s.link n ≠ linkLocal → s.setLink n linkLocal = (s.put PORT_MAC_STAT.LINK linkLocal n).pevt PORT_EVT.LOCAL_FAULT n) ∧
    (s.link n ≠ linkRemote → s.setLink n linkRemote = (s.put PORT_MAC_STAT.LINK linkRemote n).pevt PORT_EVT.REMOTE_FAULT n) ∧
    (s.link n ≠ linkArming → s.setLink n linkArming = (s.put PORT_MAC_STAT.LINK linkArming n).onPort n (fun x => { x with armAt := s.frc.toNat })) ∧
    s.setLink n linkUp = ((s.put PORT_MAC_STAT.LINK linkUp n).onPort n (fun x => { x with idleAt := s.frc.toNat })).pevt PORT_EVT.LINK_UP n) ∧
  (∀ (dt : Nat) (n : Fin 8) (s : State), s.runs dt = true → (s.pass dt).dozing = false →
    let p := s.pass dt
    (∀ (c : List (BitVec 8)) (w : List (BitVec 64)),
      (p.on PORT_MAC_CTRL.LOOP n.val = true ∨ p.clkOn (rxClk n.val) = false → exec (.localFault dt n c w) s = .next (s.finish p)) ∧
      (p.on PORT_MAC_CTRL.LOOP n.val = false → p.clkOn (rxClk n.val) = true →
        let word (t : State) (w : List Lane) : State :=
          let lf := (t.port n.val).lf.word (setsIn 1 w)
          let rf := (t.port n.val).rf.word (setsIn 2 w)
          ((t.onPort n.val (fun x => { x with lf := lf, rf := rf })).put PORT_MAC_STAT.LF_RX
            (b2n (lf.status (t.on PORT_MAC_STAT.LF_RX n.val))) n.val).put PORT_MAC_STAT.RF_RX
            (b2n (rf.status (t.on PORT_MAC_STAT.RF_RX n.val))) n.val
        exec (.localFault dt n c w) s = .next (s.finish
          (((p.forEach (wordList c w) word).rxLanes n.val 0 0 (wordList c w).flatten).linkEval n.val)))) ∧
    (∀ linkOk rxOpen : Bool, exec (.linkStateChange dt n linkOk rxOpen) s = .next (s.finish
      (((p.onPort n.val (fun x => { x with linkOk := linkOk })).onPort n.val (fun x => { x with rxOpen := rxOpen && p.isUp n.val })).linkEval n.val)))) ∧
  (∀ (n : Fin 8) (s : State), s.runs 0 = true → (s.pass 0).dozing = false →
    let p := s.pass 0
    (p.link n.val = linkArming → exec (.upHoldExpiry n) s = .next (s.finish
      ((p.advanceTo ((p.port n.val).armAt + p.get PORT_LINK_CFG.UP_HOLD n.val * 1000000)).setLink n.val linkUp))) ∧
    (p.link n.val ≠ linkArming → exec (.upHoldExpiry n) s = .next (s.finish p)))

/-- A level of MOD_LOS or MOD_TXFLT that has stood for 10 us since the block entered START passes the filter (filtered). A change of the filtered MOD_LOS shows in LOS, sets LOS_CHG and moves the link state; a rise of MOD_TXFLT shows in TXFLT, sets the event bit, and drives MOD_TXDIS; a fall shows and drives alone; the same level again, and one that has not stood so long, have no effect. A write of PORTn_MAC_CTRL with a SPEED the port does not support leaves the register unchanged; one that changes SPEED or LOOP with EN at 1 before or after, or that sets LOOP while the unit's function is not DIAG, is refused with CFG_REFUSED; any other takes effect, a receiver that LOOP turns to its own transmitter hears Idle, and a cleared EN waits for the frame in transmission. -/
def Obligations.ModuleSignalsAndMacControl : Prop :=
  (∀ (dt held : Nat) (n : Fin 2) (level : Bool) (s : State), s.runs dt = true → (s.pass dt).dozing = false →
    let p := s.pass dt
    (p.filtered held = false ∨ p.on PORT_MOD_CTRL.LOS n.val = level → exec (.losChg ⟨dt, held⟩ n level) s = .next (s.finish p)) ∧
    (p.filtered held = true → p.on PORT_MOD_CTRL.LOS n.val ≠ level → exec (.losChg ⟨dt, held⟩ n level) s = .next (s.finish
      (((p.put PORT_MOD_CTRL.LOS (b2n level) n.val).pevt PORT_EVT.LOS_CHG n.val).linkEval n.val)))) ∧
  (∀ (dt held : Nat) (n : Fin 2) (s : State), s.runs dt = true →
    let p := s.pass dt
    let drive (t : State) : State := t.put PORT_MOD_CTRL.TXDIS_OUT (b2n (t.on PORT_MOD_CTRL.TXDIS n.val ||
      (t.on PORT_MOD_CTRL.AUTO_TXDIS n.val && (t.on PORT_MOD_CTRL.ABS n.val || t.on PORT_MOD_CTRL.TXFLT n.val)))) n.val
    (p.filtered held = true → p.on PORT_MOD_CTRL.TXFLT n.val = false →
      exec (.txflt ⟨dt, held⟩ n) s = .next (s.finish ((drive (p.put PORT_MOD_CTRL.TXFLT 1 n.val)).pevt PORT_EVT.TXFLT n.val))) ∧
    (p.filtered held = true → p.on PORT_MOD_CTRL.TXFLT n.val = true →
      exec (.modTxfltFall ⟨dt, held⟩ n) s = .next (s.finish (drive (p.put PORT_MOD_CTRL.TXFLT 0 n.val)))) ∧
    (p.filtered held = false ∨ p.on PORT_MOD_CTRL.TXFLT n.val = false →
      exec (.modTxfltFall ⟨dt, held⟩ n) s = .next (s.finish p)) ∧
    (p.filtered held = false ∨ p.on PORT_MOD_CTRL.TXFLT n.val = true →
      exec (.txflt ⟨dt, held⟩ n) s = .next (s.finish p))) ∧
  (∀ (a : Access) (n : Fin 8) (s : State), s.takes a true PORT_MAC_CTRL.reg n.val 0 (wdata a) = true →
    let p := s.pass a.dt
    let k := PORT_MAC_CTRL.reg.key n.val 0
    let old := p.rg k
    let new := p.merged PORT_MAC_CTRL.reg (accMask a PORT_MAC_CTRL.reg n.val 0) (wdata a) n.val
    let refused := ((getBits old 4 3 ≠ getBits new 4 3 ∨ bitAt old 9 ≠ bitAt new 9) ∧ (bitAt old 0 = true ∨ bitAt new 0 = true)) ∨
      (bitAt new 9 = true ∧ bitAt old 9 = false ∧ (p.role n.val).func ≠ .diag)
    let q := if bitAt new 9 = true ∧ bitAt old 9 = false then (p.setRg k new).loopIdle n.val else p.setRg k new
    (speedOk n.val (getBits new 4 3) = false → exec (.portnMacCtrlWrite a n) s = .next (s.finish (p.setRsp .okay 0))) ∧
    (speedOk n.val (getBits new 4 3) = true → refused →
      exec (.portnMacCtrlWrite a n) s = .next (s.finish ((p.put PORT_MAC_STAT.CFG_REFUSED 1 n.val).setRsp .okay 0))) ∧
    (speedOk n.val (getBits new 4 3) = true → ¬ refused →
      (bitAt new 0 = true → exec (.portnMacCtrlWrite a n) s = .next (s.finish
        (((q.onPort n.val (fun x => { x with disabling := false })).linkEval n.val).setRsp .okay 0))) ∧
      (bitAt old 0 = true → bitAt new 0 = false → (p.port n.val).tx.isSome = true →
        exec (.portnMacCtrlWrite a n) s = .next (s.finish
          (((q.onPort n.val (fun x => { x with disabling := true })).linkEval n.val).setRsp .okay 0))) ∧
      (bitAt new 0 = false → (bitAt old 0 = false ∨ (p.port n.val).tx.isSome = false) →
        exec (.portnMacCtrlWrite a n) s = .next (s.finish ((q.linkEval n.val).setRsp .okay 0)))))

/-- Outside TX_EN, with MODE none or a link that is not UP, XOFF has no effect. In pause mode the port's XOFF state follows its conditions: entering XOFF shows it and queues one pause frame with QUANTA, leaving it queues one with time 0, and no change generates nothing. In PFC mode each priority follows its own, and one frame names the priorities that are or were in XOFF. TX_PAUSE sends the frame at the front at a frame boundary, placed by the gap rule, and counts a pause or PFC frame; a verify or respond mPacket leaves with its own delimiter and mCRC; in loopback the port's receiver hears it. PAUSE_REFRESH queues the frame again while XOFF lasts. A write of PORTn_FC_CTRL with MODE 3 or REFRESH not below QUANTA leaves the register unchanged; any other stores, notes TX_EN as it was where MODE changes, and takes effect at once where no frame is in transmission. -/
def Obligations.FlowControlFrames : Prop :=
  (∀ (dt : Nat) (n : Fin 8) (s : State), s.runs dt = true →
    let p := s.pass dt
    let old := p.get PORT_FC_STAT.XOFF n.val
    let addr := p.get PORT_MAC_ADDR.ADDR n.val
    let quanta := p.get PORT_FC_CTRL.QUANTA n.val
    let acts := p.on PORT_FC_CTRL.TX_EN n.val = true ∧ (p.port n.val).fcMode ≠ 0 ∧ p.isUp n.val = true
    let new := (List.range 8).foldl (fun m i =>
      m + if (if bitAt old i then !p.xonWanted n.val i else p.xoffWanted n.val i) then 2 ^ i else 0) 0
    (¬ acts → exec (.xoff dt n) s = .next (s.finish p)) ∧
    (acts → (p.port n.val).fcMode = 1 →
      (old = 0 → p.xoffWanted n.val 0 = true → exec (.xoff dt n) s = .next (s.finish
        ((p.put PORT_FC_STAT.XOFF 1 n.val).onPort n.val (fun x => { x with ctrlQ := x.ctrlQ ++ [⟨.pause, pauseFrame addr quanta⟩] })))) ∧
      (old = 1 → p.xonWanted n.val 0 = true → exec (.xoff dt n) s = .next (s.finish
        ((p.put PORT_FC_STAT.XOFF 0 n.val).onPort n.val (fun x => { x with ctrlQ := x.ctrlQ ++ [⟨.pause, pauseFrame addr 0⟩] })))) ∧
      (old = 0 ∧ p.xoffWanted n.val 0 = false ∨ old = 1 ∧ p.xonWanted n.val 0 = false → exec (.xoff dt n) s = .next (s.finish p))) ∧
    (acts → (p.port n.val).fcMode = 2 →
      (new = old → exec (.xoff dt n) s = .next (s.finish p)) ∧
      (new ≠ old → exec (.xoff dt n) s = .next (s.finish
        ((p.put PORT_FC_STAT.XOFF new n.val).onPort n.val (fun x => { x with
          ctrlQ := x.ctrlQ ++ [⟨.pfc, pfcFrame addr (x.pfcSent - x.pfcSent.land new) new quanta⟩], pfcSent := new })))))) ∧
  (∀ (dt : Nat) (n : Fin 8) (s : State), s.runs dt = true →
    let p := s.pass dt
    ∀ extra : Nat,
    ((p.port n.val).ctrlQ = [] ∨ p.txFree n.val = false ∨ p.ctrlSlot n.val = false →
      exec (.txPause ⟨dt, extra⟩ n) s = .next (s.finish p)) ∧
    (∀ f rest, (p.port n.val).ctrlQ = f :: rest → p.txFree n.val = true → p.ctrlSlot n.val = true →
      let q := p.placeStart n.val extra
      let sent (w : List Lane) : State := q.1.onPort n.val (fun x => { x with
        ctrlQ := rest, wire := w, startLane := q.2, idleAt := p.frc.toNat, txPos := (x.txPos + 72) % 16 })
      let counted := ((sent (framePacket 0xD5 (f.bytes ++ fcsBytes f.bytes))).onPort n.val (fun x =>
        { x with fcSentAt := p.frc.toNat })).count PORT_CNT.COUNT n.val pcTxPause
      (f.kind = .pause ∨ f.kind = .pfc →
        exec (.txPause ⟨dt, extra⟩ n) s = .next (s.finish (counted.loopBack n.val p.frc.toNat))) ∧
      (f.kind = .verify → exec (.txPause ⟨dt, extra⟩ n) s = .next (s.finish
        ((sent (framePacket 0x07 (f.bytes ++ mcrcBytes f.bytes))).loopBack n.val p.frc.toNat))) ∧
      (f.kind = .respond → exec (.txPause ⟨dt, extra⟩ n) s = .next (s.finish
        ((sent (framePacket 0x19 (f.bytes ++ mcrcBytes f.bytes))).loopBack n.val p.frc.toNat))))) ∧
  (∀ (n : Fin 8) (s : State), s.runs 0 = true →
    let p := s.pass 0
    let x := p.get PORT_FC_STAT.XOFF n.val
    (p.on PORT_FC_CTRL.TX_EN n.val = true → x ≠ 0 → exec (.pauseRefresh n) s = .next (s.finish
      ((p.advanceTo ((p.port n.val).fcSentAt + (p.get PORT_FC_CTRL.REFRESH n.val * p.quantum100 n.val + 99) / 100)).fcFrame n.val x))) ∧
    (x = 0 → exec (.pauseRefresh n) s = .next (s.finish p))) ∧
  (∀ (a : Access) (n : Fin 8) (s : State), s.takes a true PORT_FC_CTRL.reg n.val 0 (wdata a) = true →
    let p := s.pass a.dt
    let new := p.merged PORT_FC_CTRL.reg (accMask a PORT_FC_CTRL.reg n.val 0) (wdata a) n.val
    let valid := getBits new 0 2 ≤ 2 ∧ getBits new 32 16 < getBits new 16 16
    let old := p.rg (PORT_FC_CTRL.reg.key n.val 0)
    let q := (if getBits old 0 2 = getBits new 0 2 then p else p.onPort n.val (fun x => { x with fcTx := bitAt old 3 })).setRg
      (PORT_FC_CTRL.reg.key n.val 0) new
    (¬ valid → exec (.fcModeWrite a n) s = .next (s.finish (p.setRsp .okay 0))) ∧
    (valid → (p.port n.val).tx.isSome = true → exec (.fcModeWrite a n) s = .next (s.finish (q.setRsp .okay 0))) ∧
    (valid → (p.port n.val).tx.isSome = false → exec (.fcModeWrite a n) s = .next (s.finish ((q.applyFcMode n.val).setRsp .okay 0))))

/-- The watchdog trips when paused time exceeds BUDGET: WDOG_TRIP and WDOG_ACTIVE set, the receive timers clear, PAUSE_WDOG sets; a BUDGET of 0, or one that has tripped, has no effect. A write of 1 to WDOG_TRIP clears both bits and the paused time. Recess begins ENTRY_IDLE microseconds after the transmitter became idle where its conditions hold; with a cause to leave it, in ACTIVE and ENTERING, Idle is sent and WAKING lasts TX_WAKE microseconds; then the gap rule's deficit restarts at 0. RX_LPI shows LPI only in UP; in loopback it shows the port's own recess and no input. -/
def Obligations.PauseWatchdogAndRecess : Prop :=
  (∀ (n : Fin 8) (s : State), s.runs 0 = true →
    let p := s.pass 0
    let budget := p.get PORT_FC_WDOG.BUDGET n.val * 1000
    let due := p.frc.toNat + (budget + 1 - (p.port n.val).wdogNs)
    (p.get PORT_FC_WDOG.BUDGET n.val = 0 ∨ p.on PORT_FC_STAT.WDOG_ACTIVE n.val = true →
      exec (.pauseWdog n) s = .next (s.finish p)) ∧
    (p.get PORT_FC_WDOG.BUDGET n.val ≠ 0 → p.on PORT_FC_STAT.WDOG_ACTIVE n.val = false → due ≤ p.rxTimersEnd n.val →
      budget < ((p.advanceTo due).port n.val).wdogNs →
      exec (.pauseWdog n) s = .next (s.finish (((((p.advanceTo due).put PORT_FC_STAT.WDOG_TRIP 1 n.val).put PORT_FC_STAT.WDOG_ACTIVE 1 n.val).onPort
        n.val (fun x => { x with pauseEnd := 0, pfcEnd := [0, 0, 0, 0, 0, 0, 0, 0] })).pevt PORT_EVT.PAUSE_WDOG n.val)))) ∧
  (∀ (a : Access) (n : Fin 8) (s : State), s.takes a true PORT_FC_STAT.reg n.val 0 (setBits (wdata a) 32 1 1) = true →
    bitAt (accMask a PORT_FC_STAT.reg n.val 0) 32 = true →
    exec (.wdogTripClear a n) s = .next (s.finish
      (((((s.pass a.dt).put PORT_FC_STAT.WDOG_TRIP 0 n.val).put PORT_FC_STAT.WDOG_ACTIVE 0 n.val).put PORT_FC_STAT.WDOG_USED 0 n.val).onPort n.val
        (fun x => { x with wdogNs := 0 }) |>.setRsp .okay 0))) ∧
  (∀ (n : Fin 8) (s : State), s.runs 0 = true →
    let p := s.pass 0
    let q := p.advanceTo ((p.port n.val).idleAt + p.get PORT_LPI_CFG.ENTRY_IDLE n.val * 1000)
    (p.get PORT_LPI_STAT.TX_STATE n.val = 0 → p.idleOk n.val = true → q.recessOk n.val = true →
      exec (.recessEntry n) s = .next (s.finish ((q.put PORT_LPI_STAT.TX_STATE 1 n.val).loopLpi n.val true))) ∧
    (p.get PORT_LPI_STAT.TX_STATE n.val ≠ 0 ∨ p.idleOk n.val = false ∨ q.recessOk n.val = false →
      exec (.recessEntry n) s = .next (s.finish p)) ∧
    (p.get PORT_LPI_STAT.TX_STATE n.val = 2 →
      exec (.wakingEnd n) s = .next (s.finish
        (((p.advanceTo (p.port n.val).wakeAt).put PORT_LPI_STAT.TX_STATE 0 n.val).onPort n.val (fun x =>
          { x with dic := 0, idleAt := (p.advanceTo (p.port n.val).wakeAt).frc.toNat })))) ∧
    (p.get PORT_LPI_STAT.TX_STATE n.val ≠ 2 → exec (.wakingEnd n) s = .next (s.finish p))) ∧
  (∀ (dt : Nat) (n : Fin 8) (s : State), s.runs dt = true →
    let p := s.pass dt
    (p.get PORT_LPI_STAT.TX_STATE n.val = 1 → p.wakeCause n.val = true → p.get PWR_STAT.STATE < 2 →
      exec (.recessExit dt n) s = .next (s.finish (((p.put PORT_LPI_STAT.TX_STATE 2 n.val).onPort n.val (fun x =>
        { x with wakeAt := p.frc.toNat + p.get PORT_LPI_CFG.TX_WAKE n.val * 1000 })).loopLpi n.val false))) ∧
    (p.get PORT_LPI_STAT.TX_STATE n.val ≠ 1 ∨ p.wakeCause n.val = false ∨ 2 ≤ p.get PWR_STAT.STATE →
      exec (.recessExit dt n) s = .next (s.finish p)) ∧
    (∀ lpi : Bool,
      (p.on PORT_MAC_CTRL.LOOP n.val = false →
        exec (.rxLpi dt n lpi) s = .next (s.finish (p.put PORT_LPI_STAT.RX_LPI (b2n (lpi && p.isUp n.val)) n.val))) ∧
      (p.on PORT_MAC_CTRL.LOOP n.val = true → exec (.rxLpi dt n lpi) s = .next (s.finish p))))

/-- A list is active when VALID is 1 and ACTIVE names it. A write that the port takes to an entry of the active list, or of the list a pending switch names, sets WR_REFUSED and answers OKAY; any other stores the entry. A served SWITCH meets the refusals of R146 in their order (IDLE unit, generation, a switch already pending, the list already active, a bad COUNT, a bad entry), and otherwise waits in PEND and PEND_LIST with its count. A served CANCEL clears PEND; with no switch pending every register stays as it was. -/
def Obligations.TimetableListsAndCancel : Prop :=
  (∀ (a : Access) (n : Fin 8) (l : Fin 2) (i : Fin 96) (s : State),
    let f := if l.val = 0 then PORT_GCL0_E.reg else PORT_GCL1_E.reg
    s.takes a true f n.val i.val (wdata a) = true →
    let p := s.pass a.dt
    let locked := (p.get PORT_GCL_STAT.VALID n.val = 1 ∧ p.get PORT_GCL_STAT.ACTIVE n.val = l.val) ∨
      (p.get PORT_GCL_STAT.PEND n.val = 1 ∧ p.get PORT_GCL_STAT.PEND_LIST n.val = l.val)
    (locked → exec (.gclEntryWrite a n l i) s = .next (s.finish ((p.evt PORT_GCL_EVT.WR_REFUSED (0x38 + n.val) n.val).setRsp .okay 0))) ∧
    (¬ locked → exec (.gclEntryWrite a n l i) s = .next (s.finish
      ((p.setRg (f.key n.val i.val) (p.merged f (accMask a f n.val i.val) (wdata a) n.val i.val)).setRsp .okay 0)))) ∧
  (∀ (a : Access) (n : Fin 8) (s : State),
    let w := setBits (wdata a) 0 2 1
    s.serves a PORT_GCL_CMD.reg n.val w = true →
    let p := s.pass a.dt
    let r := p.role (0x20 + n.val)
    let l := getBits w 2 1
    let cnt := getBits w 16 7
    let refused := p.evt PORT_GCL_EVT.CMD_REFUSED (0x38 + n.val) n.val
    let answers := fun t => exec (.switch a n) s = .next (s.finish ((State.pmu t evCmdServed 1).setRsp .okay 0))
    (r.func = .idle → answers refused) ∧
    (r.func ≠ .idle → getBits w 32 16 ≠ r.gen.toNat → answers ((p.count GLB_STALE_CNT.COUNT).evt PORT_GCL_EVT.STALE (0x38 + n.val) n.val)) ∧
    (r.func ≠ .idle → getBits w 32 16 = r.gen.toNat →
      (p.get PORT_GCL_STAT.PEND n.val = 1 → answers refused) ∧
      (p.get PORT_GCL_STAT.PEND n.val = 0 →
        (p.get PORT_GCL_STAT.VALID n.val = 1 ∧ p.get PORT_GCL_STAT.ACTIVE n.val = l → answers refused) ∧
        (¬ (p.get PORT_GCL_STAT.VALID n.val = 1 ∧ p.get PORT_GCL_STAT.ACTIVE n.val = l) →
          (cnt = 0 ∨ 96 < cnt ∨ p.listBad n.val l cnt = true → answers (p.evt PORT_GCL_EVT.LIST_ERR (0x38 + n.val) n.val)) ∧
          (0 < cnt → cnt ≤ 96 → p.listBad n.val l cnt = false → answers
            (((p.put PORT_GCL_STAT.PEND 1 n.val).put PORT_GCL_STAT.PEND_LIST l n.val).onPort n.val (fun x =>
              { x with pendCount := cnt, pendAtSt := bitAt w 3, pendBell := p.get GLB_BELL_NUM.BELL }))))))) ∧
  (∀ (a : Access) (n : Fin 8) (s : State),
    let w := setBits (wdata a) 0 2 2
    s.serves a PORT_GCL_CMD.reg n.val w = true →
    let p := s.pass a.dt
    let r := p.role (0x20 + n.val)
    r.func ≠ .idle → getBits w 32 16 = r.gen.toNat →
    exec (.cancel a n) s = .next (s.finish (((p.put PORT_GCL_STAT.PEND 0 n.val).pmu evCmdServed 1).setRsp .okay 0)) ∧
    (p.get PORT_GCL_STAT.PEND n.val = 0 → ∀ k, (p.put PORT_GCL_STAT.PEND 0 n.val).rg k = p.rg k))

/-- A write that would leave CYCLE_BELLS outside 1 to 256 changes nothing. One that changes SLOT or CYCLE_BELLS while EN is 1 before or after it, or sets SLOT while preemption is enabled, sets CFG_REFUSED and leaves the register unchanged. Any other stores; where EN changes, EN_PEND says whether the timetable does not yet run as EN says. At GATE_CHANGE the next entry's start is reached: ENTRY names it and GATES holds its gates. The hold is asserted at the first due moment before the next gate change: HOLD_ADV before a SET_HOLD entry of this cycle still to come, and HOLD_ADV before the next cycle start edge where a SET_HOLD entry of that cycle starts less than HOLD_ADV after it. With none due, or with the hold asserted, a SET_RELEASE entry that comes next takes effect, and else nothing happens. -/
def Obligations.TimetableRunsItsEntries : Prop :=
  (∀ (a : Access) (n : Fin 8) (s : State), s.takes a true PORT_GCL_CFG.reg n.val 0 (wdata a) = true →
    let p := s.pass a.dt
    let k := PORT_GCL_CFG.reg.key n.val 0
    let old := p.rg k
    let new := p.merged PORT_GCL_CFG.reg (accMask a PORT_GCL_CFG.reg n.val 0) (wdata a) n.val
    let inRange := 1 ≤ getBits new 16 9 ∧ getBits new 16 9 ≤ 256
    let refused := ((getBits old 1 1 ≠ getBits new 1 1 ∨ getBits old 16 9 ≠ getBits new 16 9) ∧ (bitAt old 0 = true ∨ bitAt new 0 = true)) ∨
      (bitAt new 1 = true ∧ bitAt old 1 = false ∧ bitAt (p.pmWord n.val) 0 = true)
    (¬ inRange → exec (.portnGclCfgWrite a n) s = .next (s.finish (p.setRsp .okay 0))) ∧
    (inRange → refused → exec (.portnGclCfgWrite a n) s = .next (s.finish
      ((p.evt PORT_GCL_EVT.CFG_REFUSED (0x38 + n.val) n.val).setRsp .okay 0))) ∧
    (inRange → ¬ refused →
      (bitAt old 0 = bitAt new 0 → exec (.portnGclCfgWrite a n) s = .next (s.finish ((p.setRg k new).setRsp .okay 0))) ∧
      (bitAt old 0 ≠ bitAt new 0 → exec (.portnGclCfgWrite a n) s = .next (s.finish
        (((p.setRg k new).put PORT_GCL_STAT.EN_PEND (if bitAt new 0 = p.gclRun n.val then 0 else 1) n.val).setRsp .okay 0))))) ∧
  (∀ (n : Fin 8) (s : State), s.runs 0 = true →
    let p := s.pass 0
    let e := p.get PORT_GCL_STAT.ENTRY n.val + 1
    (p.nextEntryAt n.val = none → exec (.gateChange n) s = .next (s.finish p)) ∧
    (∀ t, p.nextEntryAt n.val = some t → ∃ q,
      exec (.gateChange n) s = .next (s.finish q) ∧
      q.get PORT_GCL_STAT.ENTRY n.val = e % 128 ∧
      q.get PORT_GCL_STAT.GATES n.val = (p.advanceTo (p.gridFrc t)).gclGates n.val ((p.advanceTo (p.gridFrc t)).gclList n.val) e)) ∧
  (∀ (n : Fin 8) (s : State), s.runs 0 = true →
    let p := s.pass 0
    let l := p.gclList n.val
    let adv := p.get PORT_PM_CFG.HOLD_ADV n.val
    let bound := (p.nextEntryAt n.val).getD (p.nextCycleAt n.val)
    let due := (p.holdTimes n.val).filter (fun t => decide (t ≤ bound))
    let release := (p.nextEntryAt n.val).isSome = true ∧ p.gclOp n.val l (p.get PORT_GCL_STAT.ENTRY n.val + 1) = 2
    (∀ t, t ∈ p.holdTimes n.val ↔
      (p.on PORT_GCL_STAT.CUT n.val = false ∧ ∃ i < (p.cycleEntries n.val).length, p.gclOp n.val l i = 1 ∧
        p.get PORT_GCL_STAT.ENTRY n.val < i ∧ t = (p.port n.val).cycleAt + p.entryStart n.val l i - adv) ∨
      (t = p.nextCycleAt n.val - adv ∧ ∃ i < (p.cycleEntries n.val).length, p.gclOp n.val l i = 1 ∧
        (i = 0 ∨ p.entryStart n.val l i < adv))) ∧
    (p.gclRun n.val = false → exec (.hold n) s = .next (s.finish p)) ∧
    (p.gclRun n.val = true → p.on PORT_GCL_STAT.HOLD n.val = false → ∀ t ts, due = t :: ts →
      exec (.hold n) s = .next (s.finish ((p.advanceTo (p.gridFrc (ts.foldl min t))).put PORT_GCL_STAT.HOLD 1 n.val))) ∧
    (p.gclRun n.val = true → p.on PORT_GCL_STAT.HOLD n.val = true ∨ due = [] →
      (release → exec (.hold n) s = exec (.gateChange n) s) ∧ (¬ release → exec (.hold n) s = .next (s.finish p))))

/-- VERIFY_START with preemption enabled, the link UP and the state INITIAL: with VERIFY_DIS the state becomes SUCCEEDED, otherwise VERIFYING with the first attempt, whose verify mPacket waits as a generated control frame. When VERIFY_MS has elapsed in VERIFYING a further attempt follows the first and second; after the third the state becomes FAILED and VERIFY_FAIL sets. A valid verify mPacket (60 zero bytes and a good mCRC) is answered with one respond mPacket. A valid respond mPacket in VERIFYING makes the state SUCCEEDED and sets VERIFY_OK. An mPacket that is not valid has no effect but to end what the receiver had open; one that arrives with preemption disabled counts RX_CODE_ERR; outside UP, in loopback and after a jabber it is discarded. (A packet of 65,529 bytes or more is a jabber under R114.) -/
def Obligations.PreemptionVerification : Prop :=
  (∀ (dt : Nat) (n : Fin 8) (s : State), s.runs dt = true →
    let p := s.pass dt
    let ready := p.on PORT_PM_CFG.EN n.val = true ∧ p.isUp n.val = true ∧ p.get PORT_PM_STAT.VSTATE n.val = 0
    (¬ ready → exec (.verifyStart dt n) s = .next (s.finish p)) ∧
    (ready → p.on PORT_PM_CFG.VERIFY_DIS n.val = true → exec (.verifyStart dt n) s = .next (s.finish (p.put PORT_PM_STAT.VSTATE 2 n.val))) ∧
    (ready → p.on PORT_PM_CFG.VERIFY_DIS n.val = false → exec (.verifyStart dt n) s = .next (s.finish
      ((((p.put PORT_PM_STAT.VSTATE 1 n.val).put PORT_PM_STAT.ATTEMPTS 0 n.val).put PORT_PM_STAT.ATTEMPTS 1 n.val).onPort n.val (fun x =>
        { x with ctrlQ := x.ctrlQ ++ [⟨.verify, List.replicate 60 0⟩], verifyAt := p.frc.toNat }))))) ∧
  (∀ (n : Fin 8) (s : State), s.runs 0 = true →
    let p := s.pass 0
    let q := p.advanceTo ((p.port n.val).verifyAt + p.get PORT_PM_CFG.VERIFY_MS n.val * 1000000)
    (p.get PORT_PM_STAT.VSTATE n.val ≠ 1 → exec (.verifyMsExpiry n) s = .next (s.finish p)) ∧
    (p.get PORT_PM_STAT.VSTATE n.val = 1 → q.get PORT_PM_STAT.ATTEMPTS n.val < 3 → exec (.verifyMsExpiry n) s = .next (s.finish
      ((q.put PORT_PM_STAT.ATTEMPTS (q.get PORT_PM_STAT.ATTEMPTS n.val + 1) n.val).onPort n.val (fun x =>
        { x with ctrlQ := x.ctrlQ ++ [⟨.verify, List.replicate 60 0⟩], verifyAt := q.frc.toNat })))) ∧
    (p.get PORT_PM_STAT.VSTATE n.val = 1 → q.get PORT_PM_STAT.ATTEMPTS n.val = 3 → exec (.verifyMsExpiry n) s = .next (s.finish
      ((q.put PORT_PM_STAT.VSTATE 3 n.val).evt PORT_GCL_EVT.VERIFY_FAIL (0x38 + n.val) n.val)))) ∧
  (∀ (dt : Nat) (n : Fin 8) (b : List Byte) (s : State), s.hears dt n.val = true → b.length < 65529 →
    let p := s.pass dt
    let q := p.onPort n.val (fun x => { x with rxOpen := false, gate := .take })
    let up := p.isUp n.val = true ∧ p.on PORT_MAC_CTRL.LOOP n.val = false ∧ (p.port n.val).gate ≠ .jabber
    let valid := (nats b).take 60 = List.replicate 60 0 ∧ (nats b).drop 60 = mcrcBytes (List.replicate 60 0)
    let both := fun t => exec (.rxVerify dt n b) s = .next (s.finish t) ∧ exec (.rxRespond dt n b) s = .next (s.finish t)
    (p.isUp n.val = false ∨ p.on PORT_MAC_CTRL.LOOP n.val = true → both p) ∧
    (p.isUp n.val = true → p.on PORT_MAC_CTRL.LOOP n.val = false → (p.port n.val).gate = .jabber →
      both (p.onPort n.val (fun x => { x with gate := .jabber }))) ∧
    (up → p.on PORT_PM_CFG.EN n.val = false →
      both ((q.crcTapRx n.val ((nats b).take (b.length - 4)) false).count PORT_CNT.COUNT n.val pcRxCodeErr)) ∧
    (up → p.on PORT_PM_CFG.EN n.val = true →
      (¬ valid → both q) ∧
      (valid → exec (.rxVerify dt n b) s = .next (s.finish
        (q.onPort n.val (fun x => { x with ctrlQ := x.ctrlQ ++ [⟨.respond, List.replicate 60 0⟩] })))) ∧
      (valid → p.get PORT_PM_STAT.VSTATE n.val = 1 → exec (.rxRespond dt n b) s = .next (s.finish
        ((q.put PORT_PM_STAT.VSTATE 2 n.val).evt PORT_GCL_EVT.VERIFY_OK (0x38 + n.val) n.val))) ∧
      (valid → p.get PORT_PM_STAT.VSTATE n.val ≠ 1 → exec (.rxRespond dt n b) s = .next (s.finish q))))

/-- A preemptable frame in transmission is cut at a legal point after a cut event, or at the last legal point before its gate closes: it waits as the split frame and TX_SPLIT shows it. The fragment on the wire ends with its mCRC. It continues as the frame in transmission when the transmitter is free, no express frame may start, the hold does not apply, its gate is open, and no generated frame waits. On receive, with preemption enabled, a first fragment discards and counts an assembly that is open, and with a good mCRC opens a new one; a whole frame is received as such. A continuation counts RX_ASSY_ERR and discards where none is open, or its frame count or fragment count is not the expected one, or its check bytes are neither the frame's FCS nor an mCRC; with the FCS it completes the frame, with an mCRC the assembly grows. A start code that the table does not list counts RX_CODE_ERR, and with preemption disabled any delimiter but 0xD5 does. (A fragment of 65,529 bytes or more is a jabber under R114.) -/
def Obligations.PreemptionFragments : Prop :=
  (∀ (dt : Nat) (n : Fin 8) (s : State), s.runs dt = true →
    let p := s.pass dt
    ((p.port n.val).tx = none → exec (.preemptCut dt n) s = .next (s.finish p)) ∧
    (∀ t, (p.port n.val).tx = some t →
      (p.legalPoint n.val t = none → exec (.preemptCut dt n) s = .next (s.finish p)) ∧
      (∀ k, p.legalPoint n.val t = some k →
        (t.preempt = true → p.cutCause n.val t = true ∨ p.lastPoint n.val t k = true →
          let q := p.onPort n.val (fun x => { x with
            tx := none, split := some { t with sent := t.sent + k, frags := t.frags + 1 }, txPos := (x.txPos + 8 + k + 4) % 16,
            wire := t.packet (t.rest.take k ++ mcrcBytes (t.data.take (t.sent + k))) })
          exec (.preemptCut dt n) s = .next (s.finish
            ((q.put PORT_PM_STAT.TX_SPLIT 1 n.val).loopBack n.val (q.delimAt n.val (q.port n.val).startLane t.startAt)))) ∧
        (t.preempt = false ∨ (p.cutCause n.val t = false ∧ p.lastPoint n.val t k = false) →
          exec (.preemptCut dt n) s = .next (s.finish p))))) ∧
  (∀ (dt : Nat) (n : Fin 8) (extra : Nat) (s : State), s.runs dt = true →
    let p := s.pass dt
    ((p.port n.val).split = none → exec (.preemptContinue dt n extra) s = .next (s.finish p)) ∧
    (∀ t, (p.port n.val).split = some t →
      let express := ∃ w, (p.port n.val).wait = some w ∧ p.isPreemptable n.val w.e.cls = false ∧ p.mayStart n.val w 0 = true
      let goes := p.txFree n.val = true ∧ ¬ express ∧ p.on PORT_GCL_STAT.HOLD n.val = false ∧ p.gateOpen n.val t.e.cls = true ∧
        (p.port n.val).ctrlQ = []
      (goes → exec (.preemptContinue dt n extra) s = .next (s.finish
        ((((p.placeStart n.val extra).1.onPort n.val (fun x => { x with
          split := none, tx := some { t with startAt := p.frc.toNat }, wire := t.packet t.rest,
          startLane := (p.placeStart n.val extra).2 })).put PORT_PM_STAT.TX_SPLIT 0 n.val)))) ∧
      (¬ goes → exec (.preemptContinue dt n extra) s = .next (s.finish p)))) ∧
  (∀ (dt : Nat) (n : Fin 8) (age : Nat) (lane : Fin 16) (smd cnt : Byte) (b : List Byte) (s : State), s.hears dt n.val = true →
    b.length < 65529 →
    let w := s.pass dt
    let p := w.onPort n.val (fun x => { x with rxOpen := false, gate := .take })
    let up := w.isUp n.val = true ∧ w.on PORT_MAC_CTRL.LOOP n.val = false ∧ (w.port n.val).gate ≠ .jabber
    let isS := smd.toNat ∈ [0xE6, 0x4C, 0x7F, 0xB3]
    let isC := smd.toNat ∈ [0x61, 0x52, 0x9E, 0x2A]
    let bytes := nats b
    let data := bytes.take (bytes.length - 4)
    let chk := bytes.drop (bytes.length - 4)
    let answers := fun t => exec (.rxFragment dt n age lane smd cnt b) s = .next (s.finish t)
    let drop := fun (t : State) => ((t.onPort n.val (fun x => { x with assy := none })).put PORT_PM_STAT.RX_ASSY 0 n.val).count PORT_CNT.COUNT n.val pcRxAssyErr
    let fault := (p.crcTapRx n.val data false).count PORT_CNT.COUNT n.val pcRxCodeErr
    let at_ := w.rxStartAt n.val age lane.val
    (w.isUp n.val = false ∨ w.on PORT_MAC_CTRL.LOOP n.val = true → answers w) ∧
    (w.isUp n.val = true → w.on PORT_MAC_CTRL.LOOP n.val = false → (w.port n.val).gate = .jabber →
      answers (w.onPort n.val (fun x => { x with gate := .jabber }))) ∧
    (up → w.on PORT_PM_CFG.EN n.val = false →
      (isC → cnt.toNat ≠ 0xD5 → answers fault) ∧ (¬ isC → smd.toNat ≠ 0xD5 → answers fault)) ∧
    (up → w.on PORT_PM_CFG.EN n.val = true →
      (∀ i : Fin 4, smd.toNat = [0xE6, 0x4C, 0x7F, 0xB3].getD i.val 0 →
        let q := if (p.port n.val).assy = none then p else drop p
        let ts := p.tscRx n.val (p.frc.toNat - age) lane.val
        (chk = mcrcBytes data →
          answers ((q.onPort n.val (fun x => { x with assy := some ⟨i.val, 0, data, ts, at_⟩ })).put PORT_PM_STAT.RX_ASSY 1 n.val)) ∧
        (chk ≠ mcrcBytes data → answers (q.rxWhole n.val ts at_ bytes))) ∧
      (∀ i : Fin 4, smd.toNat = [0x61, 0x52, 0x9E, 0x2A].getD i.val 0 →
        ((p.port n.val).assy = none → answers (drop p)) ∧
        (∀ a, (p.port n.val).assy = some a →
          let all := a.data ++ data
          let fits := a.idx = i.val ∧ [0xE6, 0x4C, 0x7F, 0xB3].getD a.next 0 = cnt.toNat
          (¬ fits → answers (drop p)) ∧
          (fits → chk = fcsBytes all → answers
            ((((p.onPort n.val (fun x => { x with assy := none })).put PORT_PM_STAT.RX_ASSY 0 n.val).count PORT_CNT.COUNT n.val pcRxReassembled).rxWhole
              n.val a.ts a.startAt (all ++ chk))) ∧
          (fits → chk ≠ fcsBytes all → chk = mcrcBytes all → answers
            (p.onPort n.val (fun x => { x with assy := some { a with next := (a.next + 1) % 4, data := all } }))) ∧
          (fits → chk ≠ fcsBytes all → chk ≠ mcrcBytes all → answers (drop p)))) ∧
      (¬ isS → ¬ isC → smd.toNat ∉ [0xD5, 0x07, 0x19] → answers fault)))

/-- EGRESS_COPY: while a wired link is not UP the scheduler's choice is dropped and counts TX_LINK_DROP. While it is UP, in a mode that takes work, with room in the TX FIFO the scheduler's choice leaves its queue and is read from buffer memory, and its bytes wait for their start; longer than MAX_FRAME it is dropped and counts TX_OVERSIZE_DROP, and one that cannot be read ends as a memory error. With the FIFO full, in a mode that takes no work, or with no choice, nothing is copied. A radio port copies likewise where the mode takes work. TX_FRAME_START of a waiting frame that may not start has no effect; one that may takes the next Start under the gap rule, with its timestamp, and becomes the frame in transmission, its FCS complemented where it carries the OVERSIZE mark; one judged late sets LATE, and is dropped, or with LATE_SEND sent and counted in TX_LATE_SENT. TERMINATE counts TX_FRAMES and L in TX_OCTETS, TX_PAD where padded, TX_PREEMPTED where cut, ends the copy with its completion, reaches the port's own receiver in loopback, and a waiting MODE or disable takes effect. LAUNCH_AVAILABLE passes to the earliest LT - LOOKAHEAD. -/
def Obligations.TransmitFrames : Prop :=
  (∀ (dt : Nat) (u : Fin 11) (s : State), s.awake dt = true →
    let p := s.pass dt
    let full := (p.port u.val).wait ≠ none ∨ ((p.port u.val).tx ≠ none ∧ (p.port u.val).split ≠ none)
    (p.takesWork = false → 8 ≤ u.val ∨ p.isUp u.val = true → exec (.egressCopy dt u) s = .next (s.finish p)) ∧
    (p.takesWork = true → 8 ≤ u.val → exec (.egressCopy dt u) s = .next (s.finish (p.radCopy (u.val - 8)))) ∧
    (u.val < 8 → p.isUp u.val = false → ∀ q c e l,
      p.schedule u.val (fun c => (p.cq u.val c).head?.map (p.wireLen u.val)) = (q, some c) → q.cq u.val c = e :: l →
      exec (.egressCopy dt u) s = .next (s.finish
        (((q.setCq u.val c l).count PORT_CNT.COUNT u.val pcTxLinkDrop).endCopy u.val e .linkDrop 0))) ∧
    (u.val < 8 → p.isUp u.val = true → p.takesWork = true →
      (full → exec (.egressCopy dt u) s = .next (s.finish p)) ∧
      (¬ full → ((p.schedule u.val (p.copyElig u.val)).2 = none →
          exec (.egressCopy dt u) s = .next (s.finish (p.schedule u.val (p.copyElig u.val)).1)) ∧
        (∀ q c, p.schedule u.val (p.copyElig u.val) = (q, some c) →
          (p.txRoom u.val c = false → exec (.egressCopy dt u) s = .next (s.finish p)) ∧
          (p.txRoom u.val c = true → ∀ e l, q.cq u.val c = e :: l →
            let r := (q.setCq u.val c l).headReached u.val c
            let fits := r.wireLen u.val e ≤ r.get PORT_MAX_FRAME.MAX_FRAME u.val
            (¬ fits → exec (.egressCopy dt u) s = .next (s.finish
              ((r.count PORT_CNT.COUNT u.val pcTxOversizeDrop).endCopy u.val e .oversize 0))) ∧
            (fits → ∀ t, r.fetchFrame u.val e = (t, none) →
              exec (.egressCopy dt u) s = .next (s.finish (t.endCopy u.val e .memErr 0))) ∧
            (fits → ∀ t payload, r.fetchFrame u.val e = (t, some payload) →
              let data := t.copyBytes u.val e payload
              let v := (t.crcTapRd e.f.src e.f.ptr payload).crcTapTx u.val data
              let copy : TxFrame := {
                e := e, data := data, padded := decide (v.1.editedLen u.val e < 60), ts := 0, sent := 0, frags := 0,
                preempt := false, startAt := v.1.frc.toNat, late := false, smd := 0, marks := v.2,
                ok := v.1.gateElig u.val e.cls (v.1.wireLen u.val e) (v.1.startIn u.val) }
              exec (.egressCopy dt u) s = .next (s.finish (v.1.onPort u.val (fun x => { x with wait := some copy }))))))))) ∧
  (∀ (dt : Nat) (n : Fin 8) (extra : Nat) (s : State), s.runs dt = true →
    let p := s.pass dt
    ((p.port n.val).wait = none → exec (.txFrameStart dt n extra) s = .next (s.finish p)) ∧
    (∀ t, (p.port n.val).wait = some t →
      let started (p : State) (late : Bool) : State :=
        let pre := p.isPreemptable n.val t.e.cls
        let q := (p.placeStart n.val extra).1
        let lane := (p.placeStart n.val extra).2
        let x := q.port n.val
        let fcs := if bitAt t.e.f.flags 0 then (fcsBytes t.data).map (fun b => 255 - b) else fcsBytes t.data
        let sent := { t with ts := q.startTs n.val lane q.frc.toNat, late := late, preempt := pre, startAt := q.frc.toNat,
                             smd := if pre then x.smd else 0 }
        q.setPort n.val { x with
          wait := none, tx := some sent, wire := sent.packet ((t.data ++ fcs).drop t.sent), startLane := lane,
          smd := if pre then (x.smd + 1) % 4 else x.smd }
      let late := p.evt PORT_GCL_EVT.LATE (0x38 + n.val) n.val
      (p.startReady n.val t extra = false → exec (.txFrameStart dt n extra) s = .next (s.finish p)) ∧
      (p.startReady n.val t extra = true → p.isLate n.val t.e 0 extra = false →
        exec (.txFrameStart dt n extra) s = .next (s.finish (started p false))) ∧
      (p.startReady n.val t extra = true → p.isLate n.val t.e 0 extra = true →
        (late.on PORT_LAUNCH_CFG.LATE_SEND n.val = true → exec (.txFrameStart dt n extra) s = .next (s.finish
          ((started late true).count PORT_CNT.COUNT n.val pcTxLateSent))) ∧
        (late.on PORT_LAUNCH_CFG.LATE_SEND n.val = false → exec (.txFrameStart dt n extra) s = .next (s.finish
          ((((late.count PORT_CNT.COUNT n.val pcTxLateDrop).endCopy n.val t.e .late 0).onPort n.val (fun x =>
            { x with wait := none })).idleFrom n.val)))))) ∧
  (∀ (dt : Nat) (n : Fin 8) (s : State), s.runs dt = true →
    let p := s.pass dt
    ((p.port n.val).tx = none → exec (.terminate dt n) s = .next (s.finish p)) ∧
    (∀ t, (p.port n.val).tx = some t →
      let len := t.data.length + 4
      let q := p.onPort n.val (fun x => { x with tx := none, act := true, idleAt := p.frc.toNat, txPos := (x.txPos + 8 + (len - t.sent)) % 16 })
      let q := (q.count PORT_CNT.COUNT n.val pcTxFrames).countN PORT_CNT.COUNT len n.val pcTxOctets
      let q := if t.padded then q.count PORT_CNT.COUNT n.val pcTxPad else q
      let q := if 0 < t.frags then q.count PORT_CNT.COUNT n.val pcTxPreempted else q
      let q := (q.crcSent t.marks).endCopy n.val t.e (if t.late then .sentLate else .sent) t.ts
      let q := q.loopBack n.val (q.delimAt n.val (q.port n.val).startLane t.startAt)
      let q := (q.applyFcMode n.val).pmApply n.val
      exec (.terminate dt n) s = .next (s.finish
        (if (q.port n.val).disabling then (q.onPort n.val (fun x => { x with disabling := false })).linkEval n.val else q)))) ∧
  (∀ (n : Fin 8) (s : State), s.runs 0 = true →
    let p := s.pass 0
    let times := (List.range 8).filterMap (fun c => ((p.cq n.val c).head?).bind (fun e =>
      e.f.launch.map (fun lt => p.frcAtSt (lt - p.get PORT_LAUNCH_CFG.LOOKAHEAD n.val))))
    (times = [] → exec (.launchAvailable n) s = .next (s.finish p)) ∧
    (∀ t rest, times = t :: rest → exec (.launchAvailable n) s = .next (s.finish (p.advanceTo (rest.foldl min t)))))

/-- In DISABLED receive beats are discarded; beats READY does not let through stay on the stream; others join the open frame, an SOP beat opens one, with a framing fault where one is open. A frame open past 65,536 bytes is a framing fault. At its EOP a frame counts in the first row that holds: RX_ABORT, RX_RUNT, RX_FCS_ERR; beyond MAX_FRAME RX_OVERSIZE, and with OVS_DROP also RX_OVERSIZE_DROP; any other is accepted with the timestamp and MAX_FRAME of its SOP. A beat outside a frame counts RX_PROTO_ERR once a run, an overlong frame always. With RADn_TX_READY at 0 no SOP or EOP transfers; at 1 an offered SOP does and fixes the cycles of the beats that follow; the EOP, once the credit lets it, counts and completes the frame. A report counts BCN_REPORTS, is kept, sets TX_HOLD; where there is no earlier report to compare, WAITING becomes UP, and SILENT becomes UP after RESUME reports. A missed deadline counts; the third in a row enters SILENT. A write that leaves an increment outside 1 to 8 changes nothing; one that sets EN restarts the tag. -/
def Obligations.RadioPorts : Prop :=
  (∀ (dt : Nat) (n : Fin 3) (s : State), s.hears dt (8 + n.val) = true →
    let p := s.pass dt
    (∀ md ago sop eop err b, p.radState n.val = radDisabled → exec (.radioRxFrame dt n md ago ⟨sop, eop, err⟩ b) s = .next (s.finish p)) ∧
    (∀ md ago sop eop err b, p.radState n.val ≠ radDisabled → p.radTakes n.val ago b.length sop = false →
      exec (.radioRxFrame dt n md ago ⟨sop, eop, err⟩ b) s = .next (s.finish (p.onRad n.val (fun r => { r with rxValid := true })))) ∧
    (∀ (md : BitVec 128) (ago : Nat) (sop eop err : Bool) (b : List Byte) (p2 : State) (part : RadPart),
      p.radState n.val ≠ radDisabled → p.radTakes n.val ago b.length sop = true →
      let p1 := p.rxBeats n.val ago b.length sop
      let fault := fun (q : State) => (q.count RAD_CNT.COUNT n.val rcRxProtoErr).evt RAD_EVT.PROTO_ERR (0x40 + n.val) n.val
      (sop = true ∧ (p1.rad n.val).rxOpen = none ∧ p2 = p1 ∧ part = p1.radPart n.val md.toNat ago) ∨
        (sop = true ∧ (p1.rad n.val).rxOpen ≠ none ∧ p2 = fault p1 ∧ part = p1.radPart n.val md.toNat ago) ∨
        (sop = false ∧ (p1.rad n.val).rxOpen = some part ∧ p2 = p1) →
      let bytes := part.bytes ++ nats b
      let p3 := p2.onRad n.val (fun r => { r with rxOpen := if eop then none else some { part with bytes := bytes }, rxSkip := false })
      let len := bytes.length
      let body := bytes.take (len - 4)
      let stored := body.take (part.max - 4)
      let good := bytes.drop (len - 4) = fcsBytes body
      let drop := part.max < len ∧ p3.on RAD_CTRL.OVS_DROP n.val = true
      let q := p3.crcTapRx (8 + n.val) stored (decide (err = false ∧ 64 ≤ len ∧ good ∧ ¬ drop))
      let q1 := if part.max < len then q.count RAD_CNT.COUNT n.val rcRxOversize else q
      let q2 := (q1.count RAD_CNT.COUNT n.val rcRxFrames).countN RAD_CNT.COUNT len n.val rcRxOctets
      let q3 := if bitAt part.md 125 then q2.count RAD_CNT.COUNT n.val rcRxRetry else q2
      let q4 := if bitAt part.md 126 = false then q3.count RAD_CNT.COUNT n.val rcRxTimeInvalid
        else if part.ahead then q3.count RAD_CNT.COUNT n.val rcRxTimeAhead else q3
      let ends := fun t => exec (.radioRxFrame dt n md ago ⟨sop, eop, err⟩ b) s = .next (s.finish t)
      let long := 65536 < len ∨ (len = 65536 ∧ eop = false)
      (long → ends (fault (p3.onRad n.val (fun r => { r with rxOpen := none, rxSkip := true })))) ∧
      (¬ long → eop = false → ends p3) ∧
      (¬ long → eop = true → err = true → ends (q.count RAD_CNT.COUNT n.val rcRxAbort)) ∧
      (¬ long → eop = true → err = false → len < 64 → ends (q.count RAD_CNT.COUNT n.val rcRxRunt)) ∧
      (¬ long → eop = true → err = false → 64 ≤ len → ¬ good → ends (q.count RAD_CNT.COUNT n.val rcRxFcsErr)) ∧
      (¬ long → eop = true → err = false → 64 ≤ len → good → drop → ends (q1.count RAD_CNT.COUNT n.val rcRxOversizeDrop)) ∧
      (¬ long → eop = true → err = false → 64 ≤ len → good → ¬ drop → ends (q4.onRad n.val (fun r => { r with
        rxFifo := r.rxFifo ++ [⟨stored, decide (part.max < len), part.ts, some part.md, q4.get GLB_BELL_NUM.BELL⟩] })))) ∧
    (p.radRxOn n.val = true → (p.rad n.val).rxOpen = none → (p.rad n.val).rxSkip = false →
      exec (.radioStrayBeat dt n) s = .next (s.finish
        (((p.onRad n.val (fun r => { r with rxSkip := true })).count RAD_CNT.COUNT n.val rcRxProtoErr).evt RAD_EVT.PROTO_ERR (0x40 + n.val) n.val))) ∧
    (p.radRxOn n.val = false ∨ (p.rad n.val).rxOpen ≠ none ∨ (p.rad n.val).rxSkip = true → exec (.radioStrayBeat dt n) s = .next (s.finish p)) ∧
    (p.radRxOn n.val = true → exec (.radioRxOverlong dt n) s = .next (s.finish
        (((p.onRad n.val (fun r => { r with rxOpen := none, rxSkip := true })).count RAD_CNT.COUNT n.val rcRxProtoErr).evt RAD_EVT.PROTO_ERR (0x40 + n.val) n.val))) ∧
    (p.radRxOn n.val = false → exec (.radioRxOverlong dt n) s = .next (s.finish p))) ∧
  (∀ (dt : Nat) (n : Fin 3) (s : State), s.runs dt = true →
    let p := s.pass dt
    let f := p.frc.toNat
    let inc := p.get RAD_CTRL.TX_INC n.val
    exec (.radioTxSop dt n false) s = .next (s.finish p) ∧ exec (.eop dt n false) s = .next (s.finish p) ∧
    ((p.rad n.val).wait = none ∨ p.sopOffered n.val = false → exec (.radioTxSop dt n true) s = .next (s.finish p)) ∧
    (∀ t, (p.rad n.val).wait = some t → p.sopOffered n.val = true →
      let run := beatRun inc ((beatCosts (t.data.length + 4) true).dropLast) (p.txCreditAt n.val f) 0
      let w := creditWait run.2.2 inc
      exec (.radioTxSop dt n true) s = .next (s.finish (p.onRad n.val (fun r =>
        { r with wait := none, offer := none, tx := some { t with startAt := f }, txBeats := run.1.map (fun o => f + 2 * o),
                 txCredit := creditUp run.2.2 inc w, txCreditAt := f + 2 * (run.2.1 + w),
                 wire := t.data ++ txFcs t.e t.data, metaOut := txMeta t.e r.tag, tag := (r.tag + 1) % 65536 })))) ∧
    ((p.rad n.val).tx = none ∨ f < (p.rad n.val).txCreditAt → exec (.eop dt n true) s = .next (s.finish p)) ∧
    (∀ t, (p.rad n.val).tx = some t → (p.rad n.val).txCreditAt ≤ f →
      let len := t.data.length + 4
      let credit := p.txCreditAt n.val f - ((len - 1) % 32 + 1 : Nat) + inc
      let q := ((p.onRad n.val (fun r => { r with tx := none, txCredit := min 512 credit, txCreditAt := f + 2 })).count RAD_CNT.COUNT n.val rcTxFrames).countN RAD_CNT.COUNT len n.val rcTxOctets
      let q := if t.padded then q.count RAD_CNT.COUNT n.val rcTxPad else q
      exec (.eop dt n true) s = .next (s.finish (((q.crcSent t.marks).endCopy (8 + n.val) t.e .sent (q.stNs * 65536)).radOffer n.val)))) ∧
  (∀ (dt : Nat) (n : Fin 3) (info : Word32) (s : State), s.runs dt = true →
    let p := s.pass dt
    let hold := bitAt info.toNat 24
    let p1 := (p.count RAD_CNT.COUNT n.val rcBcnReports).put RAD_BCN_LAST.INFO info.toNat n.val
    let p2 := (p1.onRad n.val (fun r => { r with bcnAt := p1.frc.toNat })).put RAD_STAT.TX_HOLD (if hold then 1 else 0) n.val
    let p3 := if hold = p.on RAD_STAT.TX_HOLD n.val then p2 else p2.evt RAD_EVT.HOLD_CHG (0x40 + n.val) n.val
    let p4 := if hold then p3.radDiscard n.val else p3
    let st := p4.radState n.val
    let ends := fun t => exec (.beaconReport dt n info) s = .next (s.finish (State.radOffer t n.val))
    (st ≤ radDown → ends p4) ∧
    let q := (p4.onRad n.val (fun r => { r with lastSeq := some (getBits info.toNat 0 16), due := p4.frc.toNat +
      (p4.get RAD_BCN_CFG.INTERVAL_US n.val + p4.get RAD_BCN_CFG.SLACK_US n.val) * 1000 })).put RAD_STAT.MISSES 0 n.val
    let c := q.get RAD_STAT.RESUME_CNT n.val + 1
    ((p4.rad n.val).lastSeq = none →
      (st = radWaiting → ends ((q.put RAD_STAT.STATE radUp n.val).evt RAD_EVT.UP (0x40 + n.val) n.val)) ∧
      (st = radUp → ends q) ∧
      (st = radSilent → c < q.get RAD_BCN_CFG.RESUME n.val → ends (q.put RAD_STAT.RESUME_CNT c n.val)) ∧
      (st = radSilent → q.get RAD_BCN_CFG.RESUME n.val ≤ c →
        ends (((q.put RAD_STAT.STATE radUp n.val).put RAD_STAT.RESUME_CNT c n.val).evt RAD_EVT.SILENT_EXIT (0x40 + n.val) n.val)))) ∧
  (∀ (n : Fin 3) (s : State), s.runs 0 = true →
    let p := s.pass 0
    let due := (p.rad n.val).due
    let q := (p.advanceTo due).count RAD_CNT.COUNT n.val rcBcnMissed
    let q := q.onRad n.val (fun r => { r with due := due + q.get RAD_BCN_CFG.INTERVAL_US n.val * 1000 })
    let m := min 3 (q.get RAD_STAT.MISSES n.val + 1)
    let t := q.put RAD_STAT.MISSES m n.val
    (due = 0 → exec (.bcnMissed n) s = .next (s.finish p)) ∧
    (due ≠ 0 → t.radState n.val = radSilent → exec (.bcnMissed n) s = .next (s.finish (t.put RAD_STAT.RESUME_CNT 0 n.val))) ∧
    (due ≠ 0 → t.radState n.val ≠ radSilent → m < 3 → exec (.bcnMissed n) s = .next (s.finish t)) ∧
    (due ≠ 0 → t.radState n.val ≠ radSilent → m = 3 → exec (.bcnMissed n) s = .next (s.finish (t.radSilence n.val)))) ∧
  (∀ (a : Access) (n : Fin 3) (s : State), s.takes a true RAD_CTRL.reg n.val 0 (wdata a) = true →
    let p := s.pass a.dt
    let new := p.merged RAD_CTRL.reg (accMask a RAD_CTRL.reg n.val 0) (wdata a) n.val
    let inRange := (1 ≤ getBits new RAD_CTRL.RX_INC.lo RAD_CTRL.RX_INC.w ∧ getBits new RAD_CTRL.RX_INC.lo RAD_CTRL.RX_INC.w ≤ 8) ∧
      (1 ≤ getBits new RAD_CTRL.TX_INC.lo RAD_CTRL.TX_INC.w ∧ getBits new RAD_CTRL.TX_INC.lo RAD_CTRL.TX_INC.w ≤ 8)
    let q := (p.radSettle n.val).setRg (RAD_CTRL.reg.key n.val 0) new
    (¬ inRange → exec (.radnCtrlWrite a n) s = .next (s.finish (p.setRsp .okay 0))) ∧
    (inRange → q.on RAD_CTRL.EN n.val = true → bitAt (p.rg (RAD_CTRL.reg.key n.val 0)) 0 = false →
      exec (.radnCtrlWrite a n) s = .next (s.finish
        (((q.onRad n.val (fun r => { r with tag := 0 })).radEval n.val).setRsp .okay 0))) ∧
    (inRange → q.on RAD_CTRL.EN n.val = false ∨ bitAt (p.rg (RAD_CTRL.reg.key n.val 0)) 0 = true →
      exec (.radnCtrlWrite a n) s = .next (s.finish ((q.radEval n.val).setRsp .okay 0))))

/-- Served commands of buffer memory. ON of a bank that is OFF makes it FILLING with 8,192 stripes left; of any other bank it is refused. OFF of a bank that is ON, not in use and without a march waits for the next bell edge; else it is refused. ERASE of a column up to 9, of a bank with fewer than two ERASED columns and no march, waits for the bell edge; else it is refused. START is refused, with REFUSED, while a march runs, for a bank that is not ON, in START, SLEEP and HALT, for a column above 9, or where another column of the bank is ERASED; else the march begins in TESTING. ABORT of a march in TESTING or REBUILD goes to its last pass; else it has no effect. A refusal sets CMD_REFUSED and changes nothing else. An ERASE word whose COLUMN is out of range is dropped. -/
def Obligations.BankColumnAndMarchCommands : Prop :=
  (∀ (a : Access) (s : State),
    let w := setBits (wdata a) 8 2 0
    s.serves a MEM_BANK_CMD.reg 0 w = true →
    let p := s.pass a.dt
    let b := getBits w 0 4
    let ends := fun t => exec (.on a) s = .next (s.finish ((State.pmu t evCmdServed 1).setRsp .okay 0))
    (p.get MEM_BANK_STAT.POWER b = 2 → ends ((p.put MEM_BANK_STAT.POWER 3 b).put MEM_BANK_STAT.FILL_LEFT 8192 b)) ∧
    (p.get MEM_BANK_STAT.POWER b ≠ 2 → ends (p.evt MEM_EVT.CMD_REFUSED 0x43))) ∧
  (∀ (a : Access) (s : State),
    let w := setBits (wdata a) 8 2 2
    s.serves a MEM_BANK_CMD.reg 0 w = true →
    let p := s.pass a.dt
    let b := getBits w 0 4
    let free := p.get MEM_BANK_STAT.POWER b = 0 ∧ p.inUse b = false ∧ p.marchIn b = false
    let ends := fun t => exec (.off a) s = .next (s.finish ((State.pmu t evCmdServed 1).setRsp .okay 0))
    (¬ free → ends (p.evt MEM_EVT.CMD_REFUSED 0x43)) ∧
    (free → b ∈ p.mem.offPend → ends p) ∧
    (free → b ∉ p.mem.offPend → ends { p with mem.offPend := p.mem.offPend ++ [b] })) ∧
  (∀ (a : Access) (s : State),
    let w := setBits (wdata a) 8 1 1
    s.serves a MEM_COL_CMD.reg 0 w = true →
    let p := s.pass a.dt
    let b := getBits w 0 4
    let c := getBits w 4 4
    let ok := c ≤ 9 ∧ (p.erasedCols b).length < 2 ∧ p.marchIn b = false
    let ends := fun t => exec (.eraseColumn a) s = .next (s.finish ((State.pmu t evCmdServed 1).setRsp .okay 0))
    (¬ ok → ends (p.evt MEM_EVT.CMD_REFUSED 0x43)) ∧
    (ok → ends { p with mem.erasePend := p.mem.erasePend ++ [(b, c)] })) ∧
  (∀ (a : Access) (s : State),
    let w := setBits (wdata a) 0 2 1
    s.serves a MEM_MARCH_CMD.reg 0 w = true →
    let p := s.pass a.dt
    let b := getBits w 4 4
    let c := getBits w 8 4
    let ok := p.get MEM_MARCH_STAT.STATE = 0 ∧ p.get MEM_BANK_STAT.POWER b = 0 ∧ p.mode ∉ [0, 4, 5] ∧ c ≤ 9 ∧ ∀ d ∈ p.erasedCols b, d = c
    let ends := fun t => exec (.marchStart a) s = .next (s.finish ((State.pmu t evCmdServed 1).setRsp .okay 0))
    (¬ ok → ends ((p.put MEM_MARCH_STAT.REFUSED 1).evt MEM_EVT.CMD_REFUSED 0x43)) ∧
    (ok →
      let q := ((((p.put MEM_MARCH_STAT.STATE 1).put MEM_MARCH_STAT.BANK b).put MEM_MARCH_STAT.COLUMN c).put MEM_MARCH_STAT.ELEMENT 0).put MEM_MARCH_STAT.PROGRESS 0
      let q := ((q.put MEM_MARCH_STAT.FAIL_ROWS0 0).put MEM_MARCH_STAT.FAIL_ROWS1 0).put MEM_BANK_STAT.MARCH 1 b
      ends { q with mem.marchErase := false, mem.marchOp := 0, mem.marchPos := 0, mem.marchFails := [], mem.marchAbort := false })) ∧
  (∀ (a : Access) (s : State),
    let w := setBits (wdata a) 0 2 2
    s.serves a MEM_MARCH_CMD.reg 0 w = true →
    let p := s.pass a.dt
    let st := p.get MEM_MARCH_STAT.STATE
    let ends := fun t => exec (.marchAbort a) s = .next (s.finish ((State.pmu t evCmdServed 1).setRsp .okay 0))
    (st = 1 ∨ st = 2 → ends { (p.put MEM_MARCH_STAT.STATE 3).put MEM_MARCH_STAT.PROGRESS 0 with mem.marchPos := 0, mem.marchAbort := true }) ∧
    (st ≠ 1 → st ≠ 2 → ends p)) ∧
  (∀ (a : Access) (s : State),
    let c := setBits (wdata a) 8 1 1
    s.takes a true MEM_COL_CMD.reg 0 0 c = true → rangeOk MEM_COL_CMD.reg.base c = false →
      exec (.eraseColumn a) s = .next (s.finish ((s.pass a.dt).setRsp .okay 0)))

/-- A service-core read of buffer memory gives the core the bytes as the codec reads them, and a bus error where a stripe is uncorrectable; a write goes through the codec byte by byte. Both count as processor accesses, and slow reads of erased columns as reconstructed. In the staff room, core and host side in different words, or with the core not reaching, act one after the other. In one word: two writes leave the host's undone, counted COLLIDED or COLLIDED_SAME and shown in STAFF_COLL; a host read with a core write returns the word before it; a core read returns the word before a host write. A host access that is not granted is DENIED and logged; one in DOZE or WATCH answers DECODE. A core write of the word that a block writer writes in that cycle is done, and the block writer, counted, writes its word again. -/
def Obligations.ProcessorMemoryAccesses : Prop :=
  (∀ (dt : Nat) (core : Fin 2) (addr : BitVec 23) (len : Fin 9) (data : Word) (s : State), s.awake dt = true →
    let p := (s.pass dt).pmuOn evBufAccess (2 ^ core.val) 1
    let slow := fun (t : State) => if p.get MEM_CNT.COUNT mcRecon < t.get MEM_CNT.COUNT mcRecon then t.pmuOn evBufSlow (2 ^ core.val) 1 else t
    let r := State.bufRead (p.count MEM_CNT.COUNT mcProc) .processor addr.toNat len.val
    let x := State.writeBytes .processor 3 (p.count MEM_CNT.COUNT mcProc) addr.toNat (leBytes data.toNat len.val)
    exec (.procAccess dt core false addr len data) s = .next (s.finish (slow
      ((if r.2.slow then r.1.count MEM_CNT.COUNT mcRecon else r.1).onCore core.val (fun q => { q with ld := leNat r.2.bytes, err := !r.2.ok })))) ∧
    exec (.procAccess dt core true addr len data) s = .next (s.finish (slow
      ((if x.2.2 then x.1.count MEM_CNT.COUNT mcRecon else x.1).onCore core.val (fun q => { q with err := !x.2.1 }))))) ∧
  (∀ (dt : Nat) (core : Fin 2) (init : Init) (s : State), s.runs dt = true → (s.pass dt).dozing = false → (s.pass dt).clkOn 4 = true →
    let p := s.pass dt
    let ends := fun sc h t => ∀ x : HostSide, sideReq x = h → exec (.staffAccess dt core init sc x) s = .next (s.finish t)
    ends none none p ∧
    (∀ c : StaffReq,
      let m := p.pmuOn evStaff (2 ^ core.val) 1
      let block := c.wr = true ∧ p.blockWrote c = true ∧ p.scReaches core.val c.addr.toNat = true
      let own := ⟨true, BitVec.ofNat 18 (8 * srWord c), 8, BitVec.ofNat 64 (p.staffPeek (srWord c))⟩
      (block → exec (.staffAccess dt core init (some c) .block) s = .next (s.finish
        (((p.staffSc core.val c).count MEM_CNT.COUNT (if sameBytes c own then mcCollidedSame else mcCollided)).staffPut (srWord c) (p.staffPeek (srWord c))))) ∧
      (m.scReaches core.val c.addr.toNat = true → c.wr = true → ∀ x : HostSide, sideReq x = none → (sideBlock x = true → ¬ block) →
        exec (.staffAccess dt core init (some c) x) s = .next (s.finish (m.staffPut (srWord c) (srMerge c (m.staffPeek (srWord c)))))) ∧
      (m.scReaches core.val c.addr.toNat = true → c.wr = false → ∀ t d, m.staffRead (srWord c) = (t, some d) →
        ends (some c) none (t.onCore core.val (fun q => { q with ld := srPick c d, err := false }))) ∧
      (m.scReaches core.val c.addr.toNat = true → c.wr = false → ∀ t, m.staffRead (srWord c) = (t, none) →
        ends (some c) none (t.onCore core.val (fun q => { q with ld := 0, err := true }))) ∧
      (m.scReaches core.val c.addr.toNat = false → ∀ x : HostSide, sideReq x = none → (sideBlock x = true → ¬ block) →
        exec (.staffAccess dt core init (some c) x) s = .next (s.finish (m.onCore core.val (fun q => { q with ld := 0, err := true }))))) ∧
    (∀ h : StaffReq, p.staffGranted init.val h.wr h.addr.toNat = false →
      ends none (some h) ((p.denied init.val h.wr (0xF0000 + h.addr.toNat % 0x10000)).setRsp .denied 0)) ∧
    (∀ h : StaffReq, p.staffGranted init.val h.wr h.addr.toNat = true →
      (h.wr = true → ends none (some h) ((p.staffPut (srWord h) (srMerge h (p.staffPeek (srWord h)))).setRsp .okay 0)) ∧
      (h.wr = false → ∀ t d, p.staffRead (srWord h) = (t, some d) → ends none (some h) (t.setRsp .okay (srPick h d))) ∧
      (h.wr = false → ∀ t, p.staffRead (srWord h) = (t, none) → ends none (some h) (t.setRsp .okay 0)) ∧
      (∀ c : StaffReq,
        let t := p.staffSc core.val c
        let one := srWord c = srWord h ∧ p.scReaches core.val c.addr.toNat = true
        (one → c.wr = true → h.wr = true → ends (some c) (some h)
          (((t.count MEM_CNT.COUNT (if sameBytes c h then mcCollidedSame else mcCollided)).setRg (STAFF_COLL.reg.key 0 0)
            (srWord h + (if sameBytes c h then 2 ^ 15 else 0) + 2 ^ 16)).setRsp .okay 0)) ∧
        (one → c.wr = true → h.wr = false → ends (some c) (some h) (((p.staffHost h).1.staffSc core.val c).setRsp .okay (p.staffHost h).2)) ∧
        ((one → c.wr = false) → ends (some c) (some h) ((t.staffHost h).1.setRsp .okay (t.staffHost h).2))))) ∧
  (∀ (dt : Nat) (core : Fin 2) (init : Init) (h : StaffReq) (s : State), s.runs dt = true → (s.pass dt).dozing = true → (s.pass dt).clkOn 4 = true →
    (s.pass dt).staffGranted init.val h.wr h.addr.toNat = true → (s.pass dt).on PWR_CFG.ACC_WAKE = false →
    exec (.staffAccess dt core init none (.port h)) s = .next (s.finish ((s.pass dt).setRsp .decode 0)))

/-- Served pool commands are refused with CMD_REFUSED or accepted: WITHDRAW of a bank of an enabled pool that is not withdrawn takes its free buffers from the count that requests see, with LOW and EMPTY where that falls so far, and queues the step work; RESTORE of a withdrawn bank that is ON and not FAILED rejoins it with no buffer yet; REDEFINE, with every current bank withdrawn and idle and a staged definition that R235 does not refuse, takes that definition with no free buffer yet. POOL_ALLOC of at most 16,320 bytes sets PENDING, unless it is set already; the result places the granted pointer or the failure in the writer's copy, which a read returns and clears. POOL_FREE refuses a pointer at the first failing check of R232: it counts, is logged, sets its event and changes no buffer. -/
def Obligations.PoolCommandsAndBuffers : Prop :=
  (∀ (a : Access) (s : State),
    let w := setBits (wdata a) 0 2 1
    s.serves a POOL_CMD.reg 0 w = true →
    let p := s.pass a.dt
    let b := getBits w 4 4
    let ends := fun t => exec (.withdraw a) s = .next (s.finish ((State.pmu t evCmdServed 1).setRsp .okay 0))
    (p.poolOfBank b = none → ends (p.evt POOL_EVT.CMD_REFUSED 0x44)) ∧
    (∀ q, p.poolOfBank b = some q →
      (p.withdrawn q b = true → ends (p.evt POOL_EVT.CMD_REFUSED 0x44)) ∧
      (p.withdrawn q b = false →
        let n := p.perBank q
        let free := p.freeIn q b 0 n
        let left := p.avail q - free.length
        let fell := p.reserve q < p.avail q ∧ left ≤ p.reserve q
        let t := p.setAvail q left
        let t := if fell then t.evt POOL_EVT.LOW 0x44 else t
        let t := if 0 < p.avail q ∧ left = 0 then t.evt POOL_EVT.EMPTY 0x44 else t
        let t := t.put POOL_STAT.WITHDRAWN (t.get POOL_STAT.WITHDRAWN q + 2 ^ b) q
        let t := t.put POOL_STAT.TOTAL (t.get POOL_STAT.TOTAL q - n) q
        let stop := fun (r : Rebuild) => if r.kind = .withdraw then r else { r with out := b :: r.out }
        ends { t with mem.rebuild := t.mem.rebuild.map stop ++
          [⟨.withdraw, q, b, 0, n, t.joined b, (List.range (t.joined b)).filter (fun k => !free.contains k)⟩] }))) ∧
  (∀ (a : Access) (s : State),
    let w := setBits (wdata a) 0 2 2
    s.serves a POOL_CMD.reg 0 w = true →
    let p := s.pass a.dt
    let b := getBits w 4 4
    let ends := fun t => exec (.restore a) s = .next (s.finish ((State.pmu t evCmdServed 1).setRsp .okay 0))
    (p.poolOfBank b = none → ends (p.evt POOL_EVT.CMD_REFUSED 0x44)) ∧
    (∀ q, p.poolOfBank b = some q →
      (p.withdrawn q b = false ∨ p.bankOn b = false → ends (p.evt POOL_EVT.CMD_REFUSED 0x44)) ∧
      (p.withdrawn q b = true → p.bankOn b = true →
        let t := p.put POOL_STAT.WITHDRAWN (p.get POOL_STAT.WITHDRAWN q - 2 ^ b) q
        let t := t.put POOL_STAT.TOTAL (t.get POOL_STAT.TOTAL q + p.perBank q) q
        ends { t with mem.joined := mapSet (fun _ => 0) t.mem.joined b 0, mem.rebuild := t.mem.rebuild ++ [⟨.add, q, b, 0, p.perBank q, 0, []⟩] }))) ∧
  (∀ (a : Access) (s : State),
    let w := setBits (wdata a) 0 2 3
    s.serves a POOL_CMD.reg 0 w = true →
    let p := s.pass a.dt
    let n := getBits w 8 3
    let banks := (List.range (p.pool n).banks).map (· + (p.pool n).first)
    let others := (List.range 5).filter (fun q => q != n && p.poolOn q)
    let ok := n ≤ 4 ∧ (∀ c ∈ banks, p.withdrawn n c = true ∧ p.bankBusy c = false) ∧ p.redefineBad n others false = false
    let ends := fun t => exec (.redefine a) s = .next (s.finish ((State.pmu t evCmdServed 1).setRsp .okay 0))
    (¬ ok → ends (p.evt POOL_EVT.CMD_REFUSED 0x44)) ∧
    (ok →
      let d := p.stagedPool n
      let t := ((State.setAvail { p with mem.pools := mapSet (fun _ => PoolDef.off) p.mem.pools n d } n 0).setRg (POOL_STAT.reg.key n 0) 0)
      let t := (t.put POOL_STAT.ACTIVE (if d.banks = 0 then 0 else 1) n).put POOL_STAT.TOTAL d.count n
      let t := t.forEach ((List.range d.banks).map (· + d.first)) (fun t c => { t with mem.joined := mapSet (fun _ => 0) t.mem.joined c 0 })
      ends { t with mem.rebuild := t.mem.rebuild ++ [⟨.build, n, d.first, 0, t.perBank n, 0, []⟩] })) ∧
  (∀ (a : Access) (s : State), s.takes a true POOL_ALLOC.reg 0 0 (wdata a) = true →
    let p := s.pass a.dt
    let c := a.init.val
    let n := getBits (wdata a) 0 14
    (16320 < n ∨ p.get (POOL_ALLOC_RES.PENDING.of c) = 1 → exec (.poolAlloc a) s = .next (s.finish (p.setRsp .okay 0))) ∧
    (n ≤ 16320 → p.get (POOL_ALLOC_RES.PENDING.of c) = 0 → exec (.poolAlloc a) s = .next (s.finish
      (((p.setRg ((POOL_ALLOC.reg.of c).key 0 0) n).put (POOL_ALLOC_RES.PENDING.of c) 1).setRsp .okay 0)))) ∧
  (∀ (dt : Nat) (init : Init) (same : Bool) (s : State), s.awake dt = true →
    let p := s.pass dt
    let k := (POOL_ALLOC_RES.reg.of init.val).key 0 0
    (p.get (POOL_ALLOC_RES.PENDING.of init.val) = 0 → exec (.poolAllocResult dt init same) s = .next (s.finish p)) ∧
    (p.get (POOL_ALLOC_RES.PENDING.of init.val) = 1 → ∀ q pool,
      (∀ ptr, p.alloc .core same (p.rg ((POOL_ALLOC.reg.of init.val).key 0 0)) 0x40 0 = (q, pool, some ptr) →
        exec (.poolAllocResult dt init same) s = .next (s.finish (q.setRg k (ptr % 2 ^ 32 + 2 ^ 33)))) ∧
      (p.alloc .core same (p.rg ((POOL_ALLOC.reg.of init.val).key 0 0)) 0x40 0 = (q, pool, none) →
        exec (.poolAllocResult dt init same) s = .next (s.finish (q.setRg k (2 ^ 32 + 2 ^ 33)))))) ∧
  (∀ (a : Access) (s : State), s.takes a false POOL_ALLOC_RES.reg 0 0 0 = true →
    let p := s.pass a.dt
    let k := (POOL_ALLOC_RES.reg.of a.init.val).key 0 0
    exec (.poolAllocResRead a) s = .next (s.finish
      ((p.setRg k (p.rg k - (p.rg k).land 0x3FFFFFFFF)).setRsp .okay ((p.rg k).land (accMask a POOL_ALLOC_RES.reg 0 0))))) ∧
  (∀ (a : Access) (s : State), s.takes a true POOL_FREE.reg 0 0 (wdata a) = true →
    let p := s.pass a.dt
    let ptr := getBits (wdata a) 0 32
    let n := getBits ptr 24 3
    let d := p.pool n
    let addr := getBits ptr 0 23
    let bad := fun kind slot bit => exec (.poolFree a) s = .next (s.finish
      ((((p.count POOL_CNT.COUNT (if n ≤ 4 then n else 0) slot).setRg (POOL_PTR_LOG.reg.key 0 0)
        (ptr + 0x40 * 2 ^ 32 + kind * 2 ^ 40 + 2 ^ 43)).evt bit 0x44).setRsp .okay 0))
    let named := bitAt ptr 23 = false ∧ ptr / 2 ^ 27 = 0 ∧ n ≤ 4 ∧ p.poolOn n = true
    let inside := d.first * bankBytes ≤ addr ∧ addr < (d.first + d.banks) * bankBytes
    let aligned := (addr - d.first * bankBytes) % bufBytes d.size = 0
    (¬ named → bad 1 5 POOL_EVT.PTR_BAD) ∧
    (named → ¬ inside → bad 2 5 POOL_EVT.PTR_BAD) ∧
    (named → inside → ¬ aligned → bad 3 5 POOL_EVT.PTR_BAD) ∧
    (named → inside → aligned → (p.buf ptr).refs = 0 → bad 4 6 POOL_EVT.DOUBLE_FREE) ∧
    (named → inside → aligned → 1 < (p.buf ptr).refs →
      exec (.poolFree a) s = .next (s.finish ((p.setBuf ptr { p.buf ptr with refs := (p.buf ptr).refs - 1 }).setRsp .okay 0))))

/-- A served INSERT replaces the tag of the entry that holds its masked key, or takes the lowest free way of the key's bucket and updates COUNT, or fails with FLOW_FULL; DELETE removes the entry or fails; READ loads the staging and may clear HIT; each result is in the writer's CLS_FLOW_RES. While COUNT is not 0 a write to CLS_FLOW_MASK, or one that reaches SEED, leaves the register unchanged and sets CFG_REFUSED; any other stores. At PARSER_PASS, where forwarding runs, a recirculating frame goes first, then a port frame, the port after the one served last first, then a host job, then a service-core submission; where nothing waits only PINNED is shown. -/
def Obligations.FlowTableAndPasses : Prop :=
  (∀ (a : Access) (s : State),
    let w := setBits (wdata a) 0 2 1
    s.serves a CLS_FLOW_CMD.reg 0 w = true →
    let p := s.pass a.dt
    let stg := p.staged CLS_FLOW_CMD.reg.base a.init.val
    let key := ((stg.take 5).reverse.foldl (fun v x => v * 2 ^ 64 + x) 0).land p.flowMask
    let tag := getBits (stg.getD 5 0) 0 15
    let ways := [0, 1, 2, 3].map (· + 4 * p.flowBucket key)
    let ends := fun (t : State) res => exec (.flowInsert a) s = .next (s.finish
      (((t.setRg ((CLS_FLOW_RES.reg.of a.init.val).key 0 0) res).pmu evCmdServed 1).setRsp .okay 0))
    (∀ i f, p.flowFind key = some (i, f) → ends (p.putFlow i { f with tag := tag }) (1 + 2 ^ 4 + i * 2 ^ 16)) ∧
    (p.flowFind key = none →
      (∀ i, ways.find? (fun i => !p.cls.flows.any (fun e => e.1 == i)) = some i →
        ends ((p.putFlow i ⟨key, tag, false⟩).put CLS_FLOW_STAT.COUNT (p.putFlow i ⟨key, tag, false⟩).cls.flows.length) (1 + i * 2 ^ 16)) ∧
      (ways.find? (fun i => !p.cls.flows.any (fun e => e.1 == i)) = none →
        ends ((p.count CLS_CNT.COUNT ccFlowFull).evt CLS_EVT.FLOW_FULL 0x45) 7))) ∧
  (∀ (a : Access) (s : State),
    let w := setBits (wdata a) 0 2 2
    s.serves a CLS_FLOW_CMD.reg 0 w = true →
    let p := s.pass a.dt
    let stg := p.staged CLS_FLOW_CMD.reg.base a.init.val
    let key := ((stg.take 5).reverse.foldl (fun v x => v * 2 ^ 64 + x) 0).land p.flowMask
    let ends := fun (t : State) res => exec (.flowDelete a) s = .next (s.finish
      (((t.setRg ((CLS_FLOW_RES.reg.of a.init.val).key 0 0) res).pmu evCmdServed 1).setRsp .okay 0))
    (∀ i f, p.flowFind key = some (i, f) → ends ((p.delFlow i).put CLS_FLOW_STAT.COUNT (p.delFlow i).cls.flows.length) (1 + i * 2 ^ 16)) ∧
    (p.flowFind key = none → ends p 11)) ∧
  (∀ (a : Access) (s : State),
    let w := setBits (wdata a) 0 2 3
    s.serves a CLS_FLOW_CMD.reg 0 w = true →
    let p := s.pass a.dt
    let idx := getBits w 16 16
    let c := a.init.val
    let shows := fun (t : State) (f : Flow) => (t.forEach (List.range 5) (fun t i =>
      t.setRg ((CLS_FLOW_KEY.reg.of c).key i 0) (getBits f.key (64 * i) 64))).setRg ((CLS_FLOW_DATA.reg.of c).key 0 0) f.tag
    let ends := fun (t : State) res => exec (.flowRead a) s = .next (s.finish
      (((t.setRg ((CLS_FLOW_RES.reg.of c).key 0 0) res).pmu evCmdServed 1).setRsp .okay 0))
    (∀ f, p.cls.flows.find? (fun e => e.1 == idx) = some (idx, f) →
      ends (shows (if bitAt w 2 then p.putFlow idx { f with hit := false } else p) f) (1 + 2 ^ 5 + (if f.hit then 2 ^ 6 else 0) + idx * 2 ^ 16)) ∧
    (p.cls.flows.find? (fun e => e.1 == idx) = none → ends (shows p ⟨0, 0, false⟩) (1 + idx * 2 ^ 16))) ∧
  (∀ (a : Access) (i : Fin 5) (s : State), s.takes a true CLS_FLOW_MASK.reg i.val 0 (wdata a) = true →
    let p := s.pass a.dt
    (p.get CLS_FLOW_STAT.COUNT ≠ 0 → exec (.flowCfgWrite a ⟨i.val, by omega⟩) s = .next (s.finish ((p.put CLS_FLOW_STAT.CFG_REFUSED 1).setRsp .okay 0))) ∧
    (p.get CLS_FLOW_STAT.COUNT = 0 → exec (.flowCfgWrite a ⟨i.val, by omega⟩) s = .next (s.finish
      ((p.setRg (CLS_FLOW_MASK.reg.key i.val 0) (p.merged CLS_FLOW_MASK.reg (accMask a CLS_FLOW_MASK.reg i.val 0) (wdata a) i.val)).setRsp .okay 0)))) ∧
  (∀ (a : Access) (s : State), s.takes a true CLS_FLOW_CFG.reg 0 0 (wdata a) = true →
    let p := s.pass a.dt
    let m := accMask a CLS_FLOW_CFG.reg 0 0
    (p.get CLS_FLOW_STAT.COUNT ≠ 0 → m / 2 ^ 32 ≠ 0 →
      exec (.flowCfgWrite a 5) s = .next (s.finish ((p.put CLS_FLOW_STAT.CFG_REFUSED 1).setRsp .okay 0))) ∧
    (p.get CLS_FLOW_STAT.COUNT = 0 ∨ m / 2 ^ 32 = 0 → exec (.flowCfgWrite a 5) s = .next (s.finish
      ((p.setRg (CLS_FLOW_CFG.reg.key 0 0) (p.merged CLS_FLOW_CFG.reg m (wdata a))).setRsp .okay 0)))) ∧
  (∀ (dt : Nat) (same : Bool) (s : State), s.awake dt = true →
    let p := s.pass dt
    let waits := fun u => ¬ p.rxFifoOf u = []
    let ends := fun t => exec (.parserPass dt same) s = .next (s.finish t)
    (p.forwards = false → ends p) ∧
    (p.forwards = true →
      (∀ f rest, p.cls.recirc = f :: rest → ends (State.recircPass { p with cls.recirc := rest } same f).showPinned) ∧
      (p.cls.recirc = [] →
        (∀ d < 11, (∀ e < d, ¬ waits ((p.cls.lastPort + e) % 11)) → ∀ r rest, p.rxFifoOf ((p.cls.lastPort + d) % 11) = r :: rest →
          ends (p.portPass same ((p.cls.lastPort + d) % 11) r rest).showPinned) ∧
        ((∀ d < 11, ¬ waits ((p.cls.lastPort + d) % 11)) →
          (∀ w rest, p.cls.jobs = w :: rest → ends (State.workPass { p with cls.jobs := rest } same w).showPinned) ∧
          (∀ w rest, p.cls.jobs = [] → p.cls.subs = w :: rest → ends (State.workPass { p with cls.subs := rest } same w).showPinned) ∧
          (p.cls.jobs = [] → p.cls.subs = [] → ends p.showPinned)))))

/-- A served COMMIT is refused with REASON 1 in a DRAINING or MIRRORING bank, 2 where VALUE has a bit outside MASK, 3 for a bad action; otherwise it writes the rule, or with DEFAULT the default slot, also in the other bank while that mirrors the active bank. INVALIDATE is refused with REASON 1 and otherwise clears the rule's valid bit; of the default slot it changes nothing. READ loads the writer's staging and reports VALID_ENTRY, which a default slot always has. SWAP is refused with CMD_REFUSED while PEND is 1 or the non-active bank is not STANDBY; otherwise PEND sets with its MIRROR choice. When no frame is pinned the draining bank becomes MIRRORING with 16 steps left, or STANDBY with STANDBY_READY. -/
def Obligations.RuleCommandsAndBankSwap : Prop :=
  (∀ (a : Access) (s : State),
    let w := setBits (wdata a) 0 2 1
    s.serves a CLS_RULE_CMD.reg 0 w = true →
    let p := s.pass a.dt
    let c := a.init.val
    let stg := p.staged CLS_RULE_CMD.reg.base c
    let b := getBits w 2 1
    let num := fun i => ((stg.drop i).take 8).reverse.foldl (fun v x => v * 2 ^ 64 + x) 0
    let act : Act := ⟨stg.getD 16 0, stg.getD 17 0⟩
    let locked := p.bankState b = bankDraining ∨ p.bankState b = bankMirroring
    let write := fun (t : State) (b : Nat) => if bitAt w 3 then t.setDflt b (act.a0, act.a1)
      else t.setRule (4096 * b + getBits w 4 12) ⟨true, num 0, num 8, act.a0, act.a1⟩
    let ends := fun (t : State) res => exec (.commit a) s = .next (s.finish
      (((t.setRg ((CLS_RULE_RES.reg.of c).key 0 0) res).pmu evCmdServed 1).setRsp .okay 0))
    (locked → ends p 7) ∧
    (¬ locked → ruleKeyErr (num 0) (num 8) = true → ends p 11) ∧
    (¬ locked → ruleKeyErr (num 0) (num 8) = false → ruleActErr act = true → ends p 15) ∧
    (¬ locked → ruleKeyErr (num 0) (num 8) = false → ruleActErr act = false →
      ends (if (write p b).activeBank = b ∧ (write p b).bankState (1 - b) = bankMirroring then write (write p b) (1 - b) else write p b) 1)) ∧
  (∀ (a : Access) (s : State),
    let w := setBits (wdata a) 0 2 2
    s.serves a CLS_RULE_CMD.reg 0 w = true →
    let p := s.pass a.dt
    let b := getBits w 2 1
    let locked := p.bankState b = bankDraining ∨ p.bankState b = bankMirroring
    let clear := fun (t : State) (b : Nat) => t.setRule (4096 * b + getBits w 4 12) { t.rule (4096 * b + getBits w 4 12) with valid := false }
    let ends := fun (t : State) res => exec (.invalidate a) s = .next (s.finish
      (((t.setRg ((CLS_RULE_RES.reg.of a.init.val).key 0 0) res).pmu evCmdServed 1).setRsp .okay 0))
    (locked → ends p 7) ∧
    (¬ locked → bitAt w 3 = true → ends p 1) ∧
    (¬ locked → bitAt w 3 = false →
      ends (if (clear p b).activeBank = b ∧ (clear p b).bankState (1 - b) = bankMirroring then clear (clear p b) (1 - b) else clear p b) 1)) ∧
  (∀ (a : Access) (s : State),
    let w := setBits (wdata a) 0 2 3
    s.serves a CLS_RULE_CMD.reg 0 w = true →
    let p := s.pass a.dt
    let c := a.init.val
    let b := getBits w 2 1
    let r : Rule := if bitAt w 3 then ⟨true, 0, 0, (p.dfltRule b).1, (p.dfltRule b).2⟩ else p.rule (4096 * b + getBits w 4 12)
    let t := p.forEach (List.range 8) (fun t i => (t.setRg ((CLS_STG_VAL.reg.of c).key i 0) (getBits r.value (64 * i) 64)).setRg
      ((CLS_STG_MASK.reg.of c).key i 0) (getBits r.mask (64 * i) 64))
    let t := (t.setRg ((CLS_STG_ACT0.reg.of c).key 0 0) r.act0).setRg ((CLS_STG_ACT1.reg.of c).key 0 0) r.act1
    exec (.ruleRead a) s = .next (s.finish
      (((t.setRg ((CLS_RULE_RES.reg.of c).key 0 0) (1 + (if r.valid then 2 ^ 5 else 0))).pmu evCmdServed 1).setRsp .okay 0))) ∧
  (∀ (a : Access) (s : State),
    let w := setBits (wdata a) 0 2 1
    s.takes a true CLS_BANK_CMD.reg 0 0 w = true →
    let p := s.pass a.dt
    let ok := p.get CLS_BANK_STAT.PEND = 0 ∧ p.bankState (1 - p.activeBank) = bankStandby
    (¬ ok → exec (.swap a) s = .next (s.finish ((p.evt CLS_EVT.CMD_REFUSED 0x45).setRsp .okay 0))) ∧
    (ok → exec (.swap a) s = .next (s.finish
      (((p.put CLS_BANK_STAT.PEND 1).put CLS_BANK_STAT.MIRROR_PEND (if bitAt w 2 then 1 else 0)).setRsp .okay 0)))) ∧
  (∀ (dt : Nat) (s : State), s.awake dt = true →
    let p := s.pass dt
    let b := 1 - p.activeBank
    let ends := p.bankState b = bankDraining ∧ p.pinned = 0
    (¬ ends → exec (.drainEnd dt) s = .next (s.finish p)) ∧
    (ends → p.get CLS_BANK_STAT.MIRROR_PEND = 1 → exec (.drainEnd dt) s = .next (s.finish
      (((p.setBankState b bankMirroring).put CLS_BANK_STAT.STEPS_LEFT 16).put CLS_BANK_STAT.MIRROR_PEND 0))) ∧
    (ends → p.get CLS_BANK_STAT.MIRROR_PEND = 0 → exec (.drainEnd dt) s = .next (s.finish
      ((p.setBankState b bankStandby).evt CLS_EVT.STANDBY_READY 0x45))))

/-- STORE_COMPLETE, where forwarding runs, takes the oldest stored frame. A bridge destination follows the first row that holds: an R277 condition removes it and counts VLAN_DROP; a link-local address goes to SC0 where LL_TO_SC is 1, else counts LL_DROP; a hit with DROP, or with no destination left, counts FILTERED; a hit goes to its members; a miss floods. A frame from a port is then learned. With no destination left the frame counts NO_DEST and its buffer is released; else it is enqueued. LEARN_WRITE performs the oldest queued write. A sweep and a flush end at their rows. INSERT, DELETE, READ and FLUSH act as R285 says. A write of MTR_CFG fills the meter's bucket to the new BURST. -/
def Obligations.BridgeForwarding : Prop :=
  (∀ (dt : Nat) (s : State), s.awake dt = true →
    let p := s.pass dt
    let ends := fun t => exec (.storeComplete dt) s = .next (s.finish t)
    (p.forwards = false ∨ p.cls.stored = [] → ends p) ∧
    (p.forwards = true → ∀ w0 rest, p.cls.stored = w0 :: rest →
      let q : State := { p with cls.stored := rest }
      let w : Fwd := { w0 with f := { w0.f with vlan := q.vlanOf w0.f } }
      let f := w.f
      let v := f.vlan
      let members := q.get BR_VLAN.MEMBERS v
      let placed := fun (t : State) (x : Fwd) => ends
        (if x.ports = 0 ∧ x.parts = 0 ∧ x.roll = false ∧ x.cores = 0 ∧ x.mirrors = 0 ∧ x.recirc = false then
          ((t.count CLS_CNT.COUNT ccNoDest).release x.f.ptr x.f.src).frameDropped x.f stDropped else t.enqueue x).showPinned
      let learned := fun (t : State) => if f.src ≤ 0x0A then t.learn f.src v (f.mac % 2 ^ 48) else t
      (w.bridge = false → placed q w) ∧
      (w.bridge = true →
        (q.vlanBars f.src v = true → placed (q.ec f.src ecVlan) w) ∧
        (q.vlanBars f.src v = false →
          (isLinkLocal (f.mac / 2 ^ 48) = true →
            (q.on BR_CFG.LL_TO_SC = true → placed (learned q) { w with cores := w.cores.lor 1 }) ∧
            (q.on BR_CFG.LL_TO_SC = false → placed (learned (q.ec f.src ecLl)) w)) ∧
          (isLinkLocal (f.mac / 2 ^ 48) = false →
            (∀ i e, q.fdbFind (f.mac / 2 ^ 48) v = some (i, e) →
              let dp := maskMinus (e.ports.land members) f.src
              let dq := e.parts.land (q.get BR_VLAN.PARTS v)
              (e.drop = true ∨ (dp = 0 ∧ dq = 0) → placed (learned (q.ec f.src ecFiltered)) w) ∧
              (e.drop = false → ¬ (dp = 0 ∧ dq = 0) → placed (learned q) { w with ports := w.ports.lor dp, parts := w.parts.lor dq })) ∧
            (q.fdbFind (f.mac / 2 ^ 48) v = none → placed (learned (q.ec f.src ecFlood))
              { w with ports := w.ports.lor (maskMinus members f.src), parts := w.parts.lor (q.get BR_VLAN.PARTS v) })))))) ∧
  (∀ (dt : Nat) (s : State), s.awake dt = true →
    let p := s.pass dt
    (p.cls.learn = [] → exec (.learnWrite dt) s = .next (s.finish p)) ∧
    (∀ l rest, p.cls.learn = l :: rest →
      let q : State := { p with cls.learn := rest }
      let e : FdbEntry := ⟨l.mac, l.vid, q.dynData l.u⟩
      let slot := if l.move then ecMoves else ecLearned
      (∀ i old, q.fdbFind l.mac l.vid = some (i, old) →
        (old.static = true → exec (.learnWrite dt) s = .next (s.finish q)) ∧
        (old.static = false → exec (.learnWrite dt) s = .next (s.finish ((q.putFdb i e).ec l.u slot)))) ∧
      (q.fdbFind l.mac l.vid = none →
        (∀ i, q.fdbFree l.mac l.vid = some i → exec (.learnWrite dt) s = .next (s.finish ((q.putFdb i e).ec l.u slot))) ∧
        (q.fdbFree l.mac l.vid = none → exec (.learnWrite dt) s = .next (s.finish ((q.ec l.u ecLearnFull).evt BR_EVT.LEARN_FULL 0x46))))) ∧
    (p.on BR_FDB_STAT.SWEEP = true →
      (p.cls.flushing = false → exec (.ageSweepEnd dt) s = .next (s.finish (p.put BR_FDB_STAT.SWEEP 0)) ∧ exec (.flushDone dt) s = .next (s.finish p)) ∧
      (p.cls.flushing = true → exec (.ageSweepEnd dt) s = .next (s.finish p) ∧ exec (.flushDone dt) s = .next (s.finish
        (State.evt { p.put BR_FDB_STAT.SWEEP 0 with cls.flushing := false } BR_EVT.FLUSH_DONE 0x46)))) ∧
    (p.on BR_FDB_STAT.SWEEP = false → exec (.ageSweepEnd dt) s = .next (s.finish p) ∧ exec (.flushDone dt) s = .next (s.finish p))) ∧
  (∀ (a : Access) (s : State) (t : Nat) (o : Host.Outcome State Fault Refusal),
    (t = 1 ∧ o = exec (.fdbInsert a) s ∨ t = 2 ∧ o = exec (.fdbDelete a) s ∨ t = 3 ∧ o = exec (.fdbRead a) s ∨ t = 4 ∧ o = exec (.flush a) s) →
    let w := setBits (wdata a) 0 3 t
    s.serves a BR_FDB_CMD.reg 0 w = true →
    let p := s.pass a.dt
    let c := a.init.val
    let stg := p.staged BR_FDB_CMD.reg.base c
    let k := stg.getD 0 0
    let d := stg.getD 1 0
    let mac := getBits k 0 48
    let vid := getBits k 48 12
    let idx := getBits w 16 14
    let ends := fun (x : State) res => o = .next (s.finish (((x.setRg ((BR_FDB_RES.reg.of c).key 0 0) res).pmu evCmdServed 1).setRsp .okay 0))
    let shows := fun key data => (p.setRg ((BR_FDB_KEY.reg.of c).key 0 0) key).setRg ((BR_FDB_DATA.reg.of c).key 0 0) data
    let e : FdbEntry := ⟨mac, vid, getBits d 0 21 + getBits d 24 8 * 2 ^ 24⟩
    let goes := fun (x : FdbEntry) => !x.static && x.dest.land (getBits d 0 19) != 0 && (!bitAt k 60 || x.vid == vid)
    (∀ i old, p.fdbFind mac vid = some (i, old) →
      (t = 1 → ends (p.putFdb i e) (1 + i * 2 ^ 16)) ∧ (t = 2 → ends (p.delFdb i) (1 + i * 2 ^ 16))) ∧
    (p.fdbFind mac vid = none →
      (∀ i, p.fdbFree mac vid = some i → t = 1 → ends (p.putFdb i e) (1 + i * 2 ^ 16)) ∧
      (p.fdbFree mac vid = none → t = 1 → ends p 7) ∧
      (t = 2 → ends p 11)) ∧
    (∀ x, p.cls.fdb.find? (fun e => e.1 == idx) = some (idx, x) → t = 3 → ends (shows (x.mac + x.vid * 2 ^ 48) x.data) (1 + 2 ^ 4 + idx * 2 ^ 16)) ∧
    (p.cls.fdb.find? (fun e => e.1 == idx) = none → t = 3 → ends (shows 0 0) (1 + idx * 2 ^ 16)) ∧
    (t = 4 → p.on BR_FDB_STAT.SWEEP = true → ends p 15) ∧
    (t = 4 → p.on BR_FDB_STAT.SWEEP = false →
      ends ((State.showFdb { p with cls.fdb := p.cls.fdb.filter (fun x => !goes x.2), cls.flushing := true }).put BR_FDB_STAT.SWEEP 1) 1)) ∧
  (∀ (a : Access) (m : Fin 64) (s : State), s.takes a true MTR_CFG.reg m.val 0 (wdata a) = true →
    let p := s.pass a.dt
    let q := p.setRg (MTR_CFG.reg.key m.val 0) (p.merged MTR_CFG.reg (accMask a MTR_CFG.reg m.val 0) (wdata a) m.val)
    exec (.mtrCfgWrite a m) s = .next (s.finish ((q.meterCfg m.val).setRsp .okay 0)))

/-- A PART_CTRL write that changes RX_LONG outside OFF is refused whole with CFG_REFUSED. An EN written 1 that finds EN 0 is refused with CMD_REFUSED unless the partition is OFF, the mode is not START or HALT and both ring pairs are served; else the activation waits for the next edge. EN cleared outside OFF starts RESETTING, which then ends in OFF. PART_CMD RESET acts in ACTIVE, FENCED and RECOVERY, RUN in RECOVERY; else CMD_REFUSED. A ring base is written in OFF alone (else CFG_REFUSED), with BASE a multiple of 1,024 and SIZE at least 6. A doorbell equal to the tail has no effect; a valid one moves the tail and the block fetches; any other sets DB_ERR. A completion head moves within the entries there are, and held completions that now have room are written; else DB_ERR. RESET_DONE is the next edge, where a partition in RESETTING has no request left. (A tail or head at or above 2N is invalid: the model's reading, log 108.) -/
def Obligations.PartitionCommands : Prop :=
  (∀ (a : Access) (i : Fin 8) (s : State), s.takes a true PART_CTRL.reg i.val 0 (wdata a) = true →
    let p := s.pass a.dt
    let w := p.merged PART_CTRL.reg (accMask a PART_CTRL.reg i.val 0) (wdata a) i.val
    let st := p.get PART_STAT.STATE i.val
    let ends := fun t => exec (.partEnable a i) s = .next (s.finish (State.setRsp t .okay 0))
    let en := w.testBit 0
    let was := p.get PART_CTRL.EN i.val
    let longs := w.testBit 1 = true ↔ p.get PART_CTRL.RX_LONG i.val = 1
    let allowed := st = 0 ∧ p.mode ≠ 0 ∧ p.mode ≠ 5 ∧ p.pairServed i.val (0x80 + 2 * i.val) = true ∧ p.pairServed i.val (0x81 + 2 * i.val) = true
    let q := p.setRg (PART_CTRL.reg.key i.val 0) (getBits w 0 2 + getBits w 4 12 * 16)
    (st ≠ 0 → ¬ longs → ends (p.evt PART_EVT.CFG_REFUSED (0x58 + i.val) i.val)) ∧
    (st = 0 ∨ longs →
      (en = true → was = 0 → ¬ allowed → ends (p.evt PART_EVT.CMD_REFUSED (0x58 + i.val) i.val)) ∧
      (en = true → was = 0 → allowed → ends (q.onPart i.val (fun h => { h with pend := .activate }))) ∧
      (en = true → was = 1 → ends q) ∧
      (en = false → was = 0 → ends q) ∧
      (en = false → was = 1 → st = 0 → ends (q.onPart i.val (fun h => { h with pend := .none }))) ∧
      (en = false → was = 1 → st = 3 → ends (q.onPart i.val (fun h => { h with resetToOff := true }))) ∧
      (en = false → was = 1 → st ≠ 0 → st ≠ 3 → ends
        (((q.partDiscard i.val).put PART_STAT.STATE 3 i.val).onPart i.val (fun h => { h with resetToOff := true }))))) ∧
  (∀ (a : Access) (i : Fin 8) (s : State),
    let p := s.pass a.dt
    let st := p.get PART_STAT.STATE i.val
    let refused := p.evt PART_EVT.CMD_REFUSED (0x58 + i.val) i.val
    (s.takes a true PART_CMD.reg i.val 0 (setBits (wdata a) 0 2 1) = true → exec (.partReset a i) s = .next (s.finish (State.setRsp
      (if st = 1 ∨ st = 2 ∨ st = 4 then
        ((p.partDiscard i.val).put PART_STAT.STATE 3 i.val).onPart i.val (fun h => { h with resetToOff := false }) else refused) .okay 0))) ∧
    (s.takes a true PART_CMD.reg i.val 0 (setBits (wdata a) 0 2 2) = true → exec (.run a i) s = .next (s.finish (State.setRsp
      (if st = 4 then p.onPart i.val (fun h => { h with pend := .run }) else refused) .okay 0)))) ∧
  (∀ (a : Access) (i : Fin 8) (ring : Fin 4) (f : Fld) (s : State),
    (ring, f) ∈ [((0 : Fin 4), PART_TXQ_BASE.reg), (1, PART_RXQ_BASE.reg), (2, PART_TXC_BASE.reg), (3, PART_RXC_BASE.reg)] →
    s.takes a true f i.val 0 (wdata a) = true →
    let p := s.pass a.dt
    let w := p.merged f (accMask a f i.val 0) (wdata a) i.val
    exec (.ringBaseWrite a i ring) s = .next (s.finish (State.setRsp
      (if p.get PART_STAT.STATE i.val ≠ 0 then p.evt PART_EVT.CFG_REFUSED (0x58 + i.val) i.val
       else if w % 1024 ≠ 0 ∨ getBits w 48 4 < 6 then p
       else p.setRg (f.key i.val 0) (w % 2 ^ 52)) .okay 0))) ∧
  (∀ (a : Access) (i : Fin 8) (rx : Bool) (s : State),
    let f := if rx then PART_RXQ_DB.TAIL else PART_TXQ_DB.TAIL
    s.takes a true (if rx then PART_RXQ_DB.reg else PART_TXQ_DB.reg) i.val 0 (wdata a) = true →
    let p := s.pass a.dt
    let n := 2 ^ p.get (if rx then PART_RXQ_BASE.SIZE else PART_TXQ_BASE.SIZE) i.val
    let tail := p.get f i.val
    let head := p.get (if rx then PART_RXQ_HEAD.HEAD else PART_TXQ_HEAD.HEAD) i.val
    let dist := fun x y => (y + 2 * n - x % (2 * n)) % (2 * n)
    let new := wdata a % 2 ^ 17
    let valid := new < 2 * n ∧ dist tail new ≤ n - dist head tail
    let ends := fun t => (if rx then exec (.rxqDoorbell a i) s else exec (.txqDoorbell a i) s) = .next (s.finish (State.setRsp t .okay 0))
    (new = tail → ends p) ∧
    (new ≠ tail → valid → ends ((p.put f new i.val).hostKick i.val)) ∧
    (new ≠ tail → ¬ valid → ends (p.evt PART_EVT.DB_ERR (0x58 + i.val) i.val))) ∧
  (∀ (a : Access) (i : Fin 8) (rx : Bool) (s : State),
    let f := if rx then PART_RXC_HEAD.HEAD else PART_TXC_HEAD.HEAD
    s.takes a true (if rx then PART_RXC_HEAD.reg else PART_TXC_HEAD.reg) i.val 0 (wdata a) = true →
    let p := s.pass a.dt
    let n := 2 ^ p.get (if rx then PART_RXC_BASE.SIZE else PART_TXC_BASE.SIZE) i.val
    let tail := p.get (if rx then PART_RXC_TAIL.TAIL else PART_TXC_TAIL.TAIL) i.val
    let head := p.get f i.val
    let dist := fun x y => (y + 2 * n - x % (2 * n)) % (2 * n)
    let new := wdata a % 2 ^ 17
    exec (.completionHeadWrite a i rx) s = .next (s.finish (State.setRsp
      (if new < 2 * n ∧ dist head new ≤ dist head tail then (State.cplDrain i.val rx 64 (p.put f new i.val)).hostKick i.val
       else p.evt PART_EVT.DB_ERR (0x58 + i.val) i.val) .okay 0))) ∧
  (∀ (i : Fin 8) (s : State), s.runs 0 = true →
    let p := s.pass 0
    let due := p.fixedRuns = true ∧ p.get PART_STAT.STATE i.val = 3 ∧
      (∀ e ∈ p.host.reads ++ p.host.writes, e.2.part = i.val → e.2.dead = true)
    (due → exec (.resetDone i) s = exec .bellEdge s) ∧
    (¬ due → exec (.resetDone i) s = .next (s.finish p)))

/-- A push burst that breaks R306 or R311 sets DB_ERR alone. Else its TAIL acts as a doorbell and its slots are kept, or with four copies held discarded with PUSH_DISCARD. TX_JOB, where the ring is served and a job may be taken (R328), reads entries at the head. Rows 1 to 5 of R333 refuse one in that order; one whose slots are not all there waits. A SKIP is passed. A TX_JOB with a reserved or inconsistent field is BAD_FIELD, one out of bounds BOUND; with CONT the next entry must be its TX_CONT, a fourth with CONT is BOUND. A GEN mismatch in any entry ends as STALE_ROLE and is counted; segment lengths that do not add up to FRAME_LEN are BOUND. One that leaves the bounds of R323 is BOUND. A checked job requests its buffer: granted, its segments are read; not granted, it is held with ALLOC_WAIT, and TX_JOB_RETRY is the next edge. RX_BUF adds a good entry's buffers to the list and waits where the list would exceed 65,535; a stale or bad one is refused with its code, or waits where its RX_SUPPLY_ERR would have no place. Neither ring takes new work while work of an earlier generation runs. -/
def Obligations.HostEntries : Prop :=
  (∀ (dt : Nat) (init : Init) (i : Fin 8) (off : Fin 32) (beats : BitVec 512) (rx : Bool) (s : State),
    let p := s.pass dt
    s.portUp dt = true → p.dozing = false →
    p.granted init.val true (i.val * 0x10000 + (if rx then 0xF800 else 0xF000) + off.val * 64) 0 = true →
    let f := if rx then PART_RXQ_DB.TAIL else PART_TXQ_DB.TAIL
    let n := 2 ^ p.get (if rx then PART_RXQ_BASE.SIZE else PART_TXQ_BASE.SIZE) i.val
    let cur := p.get f i.val
    let head := p.get (if rx then PART_RXQ_HEAD.HEAD else PART_TXQ_HEAD.HEAD) i.val
    let dist := fun x y => (y + 2 * n - x % (2 * n)) % (2 * n)
    let d := beats.toNat
    let tail := getBits d 0 17
    let cnt := getBits d 32 8
    let ok := getBits d 17 15 = 0 ∧ getBits d 40 88 = 0 ∧ tail < 2 * n ∧ tail ≠ cur ∧ dist cur tail ≤ n - dist head cur ∧ cnt ≤ 3 ∧ cnt ≤ dist cur tail
    let ends := fun t => (if rx then exec (.rxPush dt init i off beats) s else exec (.txPush dt init i off beats) s) =
      .next (s.finish (State.setRsp t .okay 0))
    let q := p.put f tail i.val
    (¬ ok → ends (p.evt PART_EVT.DB_ERR (0x58 + i.val) i.val)) ∧
    (ok → cnt = 0 → ends (q.hostKick i.val)) ∧
    (ok → cnt ≠ 0 → ((p.part i.val).pushes rx).length < 4 → ends ((q.onPart i.val (fun v => v.withPushes rx (v.pushes rx ++
      [(cur, (List.range cnt).map (fun k => getBits d (128 * (k + 1)) 128))]))).hostKick i.val)) ∧
    (ok → cnt ≠ 0 → 4 ≤ ((p.part i.val).pushes rx).length → ends ((q.evt PART_EVT.PUSH_DISCARD (0x58 + i.val) i.val).hostKick i.val))) ∧
  (∀ (i : Nat) (rx : Bool) (types : List Nat) (t : State),
    let n := t.ringN i (subRing rx)
    let h := t.ringHead i (subRing rx)
    let used := t.ringUsed i (subRing rx)
    let e := t.entryAt i rx types
    (used = 0 ∨ t.slotAt i rx h = none → e = .wait) ∧
    (used ≠ 0 → t.slotAt i rx h = some .timeout → e = .bad 7 1 0) ∧
    (used ≠ 0 → t.slotAt i rx h = some .fault → e = .bad 8 1 0) ∧
    (used ≠ 0 → ∀ v, t.slotAt i rx h = some (.data v) →
      let len := getBits v 1 5
      let tag := getBits v 32 16
      let span := max 1 (min len used)
      let got := (List.range span).map (fun k => t.slotAt i rx ((h + k) % (2 * n)))
      let lenBad := lenOk (getBits v 8 8) len = false ∨ n < h % n + len
      (some .timeout ∈ got → e = .bad 7 span tag) ∧
      (some .timeout ∉ got → some .fault ∈ got → e = .bad 8 span tag) ∧
      (some .timeout ∉ got → some .fault ∉ got →
        (v % 2 ≠ (if h / n % 2 = 0 then 1 else 0) → e = .bad 2 span tag) ∧
        (v % 2 = (if h / n % 2 = 0 then 1 else 0) →
          (getBits v 8 8 ∉ types → e = .bad 3 span tag) ∧
          (getBits v 8 8 ∈ types → lenBad → e = .bad 4 span tag) ∧
          (getBits v 8 8 ∈ types → ¬ lenBad → used < len ∨ none ∈ got → e = .wait) ∧
          (getBits v 8 8 ∈ types → ¬ lenBad → ¬ used < len → none ∉ got → e = .whole len (got.map (fun o => match o with
            | some (.data w) => w
            | _ => 0))))))) ∧
  (∀ (dt : Nat) (j : Fin 8) (same : Bool) (s : State), s.awake dt = true →
    let p := s.pass dt
    let i := j.val
    let may := p.takesEntries i false = true ∧ ((p.part i).gather.isSome = true ∨
      (p.part i).held = none ∧ p.get PART_STAT.TXC_STALL i = 0 ∧ p.cplRoom i false 1 = true ∧ p.oldWork i false = false ∧
        p.get PART_STAT.TX_INPROG i + p.get PART_STAT.TXC_HELD i < 64)
    let go := fun k t => State.txGather i same k t
    (may → exec (.txJob dt j same) s = .next (s.finish ((go 64 p).hostKick i))) ∧
    (¬ may → exec (.txJob dt j same) s = .next (s.finish p)) ∧
    (∀ k t, let ptr := t.ringHead i 0
      let gen := (t.role (0x80 + 2 * i)).gen.toNat
      let types := [0x0F, if (t.part i).gather.isSome then 2 else 1]
      let none_ := fun t : State => t.onPart i (fun q => { q with gather := none })
      (t.entryAt i false types = .wait → go (k + 1) t = t) ∧
      (∀ code len tag, t.entryAt i false types = .bad code len tag → (t.part i).gather = none → go (k + 1) t = (none_ t).badEntry i false code len tag 0 gen) ∧
      (∀ code len tag old, t.entryAt i false types = .bad code len tag → (t.part i).gather = some old →
        go (k + 1) t = (none_ t).badEntry i false code len (jobTag old.w) flChained old.gen) ∧
      (∀ len ws, t.entryAt i false types = .whole len ws →
        let w := ws.headD 0
        let u := t.moveHead i false (ptr + len)
        (getBits w 8 8 = 0x0F → getBits w 6 2 = 0 → go (k + 1) t = go k u) ∧
        (getBits w 8 8 = 0x0F → getBits w 6 2 ≠ 0 → (t.part i).gather = none → go (k + 1) t = (none_ u).malformed i false ptr stBadField 0 0 gen) ∧
        (∀ old, getBits w 8 8 = 0x0F → getBits w 6 2 ≠ 0 → (t.part i).gather = some old →
          go (k + 1) t = (none_ u).malformed i false ptr stBadField (jobTag old.w) flChained old.gen) ∧
        (getBits w 8 8 ≠ 0x0F → (t.part i).gather = none →
          let stale := getBits w 16 16 ≠ gen
          let job : HostJob := ⟨0, ptr, w, gen, ws.tail.map segOf, 1, jobCont w, decide stale, 0, none, [], 0, []⟩
          (¬ stale → jobFieldBad len w ws.tail = true → go (k + 1) t = u.malformed i false ptr stBadField (jobTag w) 0 gen) ∧
          (¬ stale → jobFieldBad len w ws.tail = false → jobLen w < 14 ∨ 16320 < jobLen w →
            go (k + 1) t = u.malformed i false ptr stBound (jobTag w) 0 gen) ∧
          (stale ∨ jobFieldBad len w ws.tail = false ∧ 14 ≤ jobLen w ∧ jobLen w ≤ 16320 →
            (jobCont w = true → go (k + 1) t = go k (u.onPart i (fun q => { q with gather := some job }))) ∧
            (jobCont w = false → go (k + 1) t = u.txChecked i same job))) ∧
        (∀ old, getBits w 8 8 ≠ 0x0F → (t.part i).gather = some old →
          let stale := (old.stale || getBits w 16 16 != gen)
          let job : HostJob := { old with segs := old.segs ++ ws.tail.map segOf, entries := old.entries + 1, more := jobCont w, stale := stale }
          let bad := stale = false ∧ contFieldBad (jobTag old.w) len w ws.tail = true
          (bad → go (k + 1) t = (none_ u).malformed i false ptr stBadField (jobTag old.w) flChained old.gen) ∧
          (¬ bad → jobCont w = true → old.entries = 3 → go (k + 1) t = (none_ u).malformed i false ptr stBound (jobTag old.w) flChained old.gen) ∧
          (¬ bad → jobCont w = true → old.entries ≠ 3 → go (k + 1) t = go k (u.onPart i (fun q => { q with gather := some job }))) ∧
          (¬ bad → jobCont w = false → go (k + 1) t = (none_ u).txChecked i same job)))) ∧
    (∀ (t : State) (job : HostJob),
      let fl := if 1 < job.entries then flChained else 0
      let tag := jobTag job.w
      (job.stale = true → t.txChecked i same job =
        (t.count GLB_STALE_CNT.COUNT).txDone i (t.stale.role (0x80 + 2 * i)).gen.toNat (stStale + fl) tag 0 0) ∧
      (job.stale = false → (job.segs.map (·.2)).foldl (· + ·) 0 ≠ jobLen job.w ∨
          (jobBridge job.w = false ∧ jobClassify job.w = false ∧ t.maxFrame (jobDest job.w) < jobLen job.w + 4) →
        t.txChecked i same job = t.malformed i false job.ptr stBound tag fl job.gen) ∧
      (job.stale = false → (job.segs.map (·.2)).foldl (· + ·) 0 = jobLen job.w →
          (jobBridge job.w = true ∨ jobClassify job.w = true ∨ jobLen job.w + 4 ≤ t.maxFrame (jobDest job.w)) →
        let id := t.fresh.2
        let u := t.fresh.1.setJob id ⟨i, tag, job.gen, jobTs job.w, jobLaunch job.w, !jobBridge job.w && !jobClassify job.w, jobLen job.w,
          decide (1 < job.entries), false, 0⟩
        let u := u.put PART_STAT.TX_INPROG (u.get PART_STAT.TX_INPROG i + 1) i
        t.txChecked i same job = u.txAlloc i same { job with id := id, takenSt := u.st80.toNat })) ∧
    (∀ (t : State) (job : HostJob) q pool,
      (∀ ptr, t.alloc .host same (jobLen job.w) (0x10 + i) 0 = (q, pool, some ptr) →
        t.txAlloc i same job = ((q.onPart i (fun v => { v with held := none })).put PART_STAT.ALLOC_WAIT 0 i).txRead i job ptr) ∧
      (t.alloc .host same (jobLen job.w) (0x10 + i) 0 = (q, pool, none) →
        t.txAlloc i same job = (q.onPart i (fun v => { v with held := some job })).put PART_STAT.ALLOC_WAIT 1 i))) ∧
  (∀ (i : Fin 8) (s : State), s.runs 0 = true →
    let p := s.pass 0
    (p.fixedRuns = true → (p.part i.val).held.isSome = true → exec (.txJobRetry i) s = exec .bellEdge s) ∧
    (p.fixedRuns = false ∨ (p.part i.val).held = none → exec (.txJobRetry i) s = .next (s.finish p))) ∧
  (∀ (dt : Nat) (j : Fin 8) (s : State), s.awake dt = true →
    let p := s.pass dt
    let i := j.val
    let go := fun k t => State.rxTake i k t
    (p.takesEntries i true = true → p.oldWork i true = false → exec (.rxBuf dt j) s = .next (s.finish ((go 64 p).hostKick i))) ∧
    (p.takesEntries i true = false ∨ p.oldWork i true = true → exec (.rxBuf dt j) s = .next (s.finish p)) ∧
    (∀ k t, let ptr := t.ringHead i 1
      let gen := (t.role (0x81 + 2 * i)).gen.toNat
      let refuse := fun u => if 64 ≤ (t.part i).deliv.length + (t.part i).rxHeld.length ∧ t.fences i = false then t else u
      (t.entryAt i true [0x0F, 0x10] = .wait → go (k + 1) t = t) ∧
      (∀ code len tag, t.entryAt i true [0x0F, 0x10] = .bad code len tag → go (k + 1) t = refuse (t.badEntry i true code len 0 0 gen)) ∧
      (∀ len ws, t.entryAt i true [0x0F, 0x10] = .whole len ws →
        let w := ws.headD 0
        let u := t.moveHead i true (ptr + len)
        let more := (rxAddrs ws).map (fun a => (a, getBits w 32 16))
        let stale := getBits w 16 16 ≠ gen
        (getBits w 8 8 = 0x0F → getBits w 6 2 = 0 → go (k + 1) t = go k u) ∧
        (getBits w 8 8 = 0x0F → getBits w 6 2 ≠ 0 → go (k + 1) t = refuse (u.malformed i true ptr stBadField 0 0 gen)) ∧
        (getBits w 8 8 ≠ 0x0F → stale → go (k + 1) t = if 64 ≤ (t.part i).deliv.length + (t.part i).rxHeld.length then t
          else (u.count GLB_STALE_CNT.COUNT).supplyErr i ptr stStale) ∧
        (getBits w 8 8 ≠ 0x0F → ¬ stale → rxBufBad ws = true → go (k + 1) t = refuse (u.malformed i true ptr stBadField 0 0 gen)) ∧
        (getBits w 8 8 ≠ 0x0F → ¬ stale → rxBufBad ws = false → 65535 < (t.part i).rxBufs.length + more.length → go (k + 1) t = t) ∧
        (getBits w 8 8 ≠ 0x0F → ¬ stale → rxBufBad ws = false → (t.part i).rxBufs.length + more.length ≤ 65535 → ∀ v,
          v = u.onPart i (fun q => { q with rxBufs := q.rxBufs ++ more }) → go (k + 1) t = v.put PART_STAT.RX_BUFS (v.part i).rxBufs.length i))))

/-- RX_DELIVERY, where RXQ is served, no work of an earlier generation runs, RXC is not stalled and frames written plus completions held are fewer than 64, takes the oldest queued frame: with too few buffers it waits and RX_NO_BUF is set; with unreadable buffer memory it ends as MEM_UNCORR; else it takes buffers from the head of the list and wants their data writes. RX_DONE completes the first delivery whose writes are all answered: the frame is released and its completion written or held; a completion counts and raises its source when it is written, and the last one held ends the stall. Without HOST_CK a response does nothing. A response frees its tag; one that nobody waits for is discarded. A read gives its slots or segment bytes; a FAULT or late one marks the slots or ends the job with HOST_FAULT or HOST_TIMEOUT. A write counts off its delivery or completion; a failed data write ends the frame as DATA_FAULT, counted in RX_DROP_OTHER, a failed completion write fences the partition with HOST_FAULT. HOST_TIMEOUT does the same for the oldest request without a response, more than 16 us after its issue (the model, log 112: reads before writes); its tag stays in use until the response. -/
def Obligations.HostDeliveryAndResponses : Prop :=
  (∀ (dt : Nat) (j : Fin 8) (s : State), s.awake dt = true →
    let p := s.pass dt
    let i := j.val
    let q := p.part i
    let ends := fun t => exec (.rxDelivery dt j) s = .next (s.finish t)
    let may := p.takesEntries i true = true ∧ p.oldWork i true = false ∧ p.get PART_STAT.RXC_STALL i = 0 ∧ q.deliv.length + q.rxHeld.length < 64
    (¬ may ∨ q.rxq = [] → ends p) ∧
    (may → ∀ f rest, q.rxq = f :: rest →
      (takeBufs q.rxBufs f.len = none → ends (p.evt PART_EVT.RX_NO_BUF (0x58 + i) i)) ∧
      (∀ use left, takeBufs q.rxBufs f.len = some (use, left) →
        ends (((p.onPart i (fun q => { q with rxq := rest, rxBufs := left })).put PART_STAT.RX_BUFS left.length i).rxStart i f use)))) ∧
  (∀ (t : State) (i : Nat) (f : Frame) (use : List (Nat × Nat)),
    let c := t.bufRead .mover (ptrAddr f.ptr) 64
    let r := c.1.fetchPayload f.ptr f.len
    let d : Deliv := ⟨r.1.host.next, f, 0, (use.headD (0, 0)).1, use.length, (r.1.role (0x81 + 2 * i)).gen.toNat, c.2.bytes⟩
    let u : State := { r.1 with host.next := r.1.host.next + 1 }
    (r.2 = none ∨ c.2.ok = false → t.rxStart i f use = u.rxFinish i d stMemUncorr) ∧
    (∀ b, r.2 = some b → c.2.ok = true →
      let w := ((u.crcTapRd f.src f.ptr b).crcTapHostRx i d.addr b).wantAll i (.data d.id) (spreadBufs use b)
      t.rxStart i f use = (w.1.onPart i (fun q => { q with deliv := q.deliv ++ [{ d with left := w.2 }] })).hostPump)) ∧
  (∀ (dt : Nat) (j : Fin 8) (s : State), s.awake dt = true →
    let p := s.pass dt
    let i := j.val
    ((∀ d ∈ (p.part i).deliv, d.left ≠ 0) → exec (.rxDone dt j) s = .next (s.finish p)) ∧
    (∀ d, (p.part i).deliv.find? (fun d => d.left == 0) = some d → exec (.rxDone dt j) s = .next (s.finish ((p.rxFinish i d stOk).hostKick i)))) ∧
  (∀ (t : State) (i : Nat) (d : Deliv) (status : Nat),
    let u := (t.onPart i (fun q => { q with deliv := q.deliv.filter (fun e => e.id != d.id) })).partRelease i d.f
    let v := if status = 0 then u else u.rxDropOther i
    t.rxFinish i d status = v.complete_ i true (rxDoneSlots (v.on PART_CTRL.RX_LONG i) d.gen status d.f.len d.addr d.bufs d.card) (status == 0) d.f.len) ∧
  (∀ (t : State) (i : Nat) (c : Cpl), c.skip = false →
    let u := t.onPart i (fun q => { q with cpls := q.cpls.filter (fun d => d.id != c.id) })
    let v := if c.ok then (u.count PART_CNT.COUNT i (if c.rx then 3 else 0)).countN PART_CNT.COUNT c.octets i (if c.rx then 4 else 1)
      else if c.rx then u else u.count PART_CNT.COUNT i 2
    let x := v.raise (if c.rx then 0x50 + i else 0x48 + i)
    let held := (if c.rx then (x.part i).rxHeld else (x.part i).txHeld) ≠ [] ∨ ∃ d ∈ (x.part i).cpls, d.rx = c.rx ∧ d.held = true
    (held → t.cplWritten i c = x) ∧
    (¬ held → t.cplWritten i c = x.put (if c.rx then PART_STAT.RXC_STALL else PART_STAT.TXC_STALL) 0 i)) ∧
  (∀ (dt : Nat) (tag : Fin 128) (bad : Bool) (data : BitVec 512) (s : State), s.runs dt = true → (s.pass dt).clkOn 3 = true →
    let p := s.pass dt
    let ends := fun t => exec (.hostReadResponse dt tag bad data) s = .next (s.finish t)
    (p.host.reads.find? (fun e => e.1 == tag.val) = none → ends p) ∧
    (∀ k r, p.host.reads.find? (fun e => e.1 == tag.val) = some (k, r) →
      let q : State := { p with host.reads := mapDel tag.val p.host.reads }
      let n := 2 * q.ringN r.part 0
      let m := 2 * q.ringN r.part 1
      let late := r.at_ + 16000 < p.frc.toNat
      (r.dead = true → ends (q.hostKick r.part)) ∧
      (r.dead = false → ∀ rx ptr c, r.op = .ring rx ptr c → ends ((q.onPart r.part (fun v => v.withSlots rx (v.slots rx ++
        (List.range c).map (fun k => ((ptr + k) % (if rx then m else n),
          if late then Slot.timeout else if bad then Slot.fault else Slot.data (getBits data.toNat (128 * ((ptr + k) % 4)) 128)))))).hostKick r.part)) ∧
      (r.dead = false → ∀ id off lo c, r.op = .seg id off lo c →
        (late → ends ((q.txReadFail r.part id stHostTimeout).hostKick r.part)) ∧
        (¬ late → bad = true → ends ((q.txReadFail r.part id stHostFault).hostKick r.part)) ∧
        (¬ late → bad = false → ends ((q.txChunk r.part id off (leBytes (data.toNat / 2 ^ (8 * lo)) c)).hostKick r.part))) ∧
      (r.op = .gone → ends (q.hostKick r.part)))) ∧
  (∀ (dt : Nat) (tag : Fin 64) (bad : Bool) (s : State), s.runs dt = true → (s.pass dt).clkOn 3 = true →
    let p := s.pass dt
    let ends := fun t => exec (.hostWriteResponse dt tag bad) s = .next (s.finish t)
    (p.host.writes.find? (fun e => e.1 == tag.val) = none → ends p) ∧
    (∀ k r, p.host.writes.find? (fun e => e.1 == tag.val) = some (k, r) →
      let q : State := { p with host.writes := mapDel tag.val p.host.writes }
      let fails := r.at_ + 16000 < p.frc.toNat ∨ bad = true
      (r.dead = true ∨ r.op = .gone → ends (q.hostKick r.part)) ∧
      (r.dead = false → ¬ fails → ∀ id, r.op = .data id →
        let less := fun (d : Deliv) => if d.id == id then { d with left := d.left - 1 } else d
        ends ((q.onPart r.part (fun v => { v with deliv := v.deliv.map less })).hostKick r.part)) ∧
      (r.dead = false → ¬ fails → ∀ rx id, r.op = .cpl rx id → ends ((q.cplAck r.part rx id).hostKick r.part)) ∧
      (r.dead = false → fails → ends ((q.writeFail r).hostKick r.part)))) ∧
  (∀ (dt : Nat) (tag : Fin 128) (w : Fin 64) (bad : Bool) (data : BitVec 512) (s : State), s.runs dt = true → (s.pass dt).clkOn 3 = false →
    exec (.hostReadResponse dt tag bad data) s = .next (s.finish (s.pass dt)) ∧ exec (.hostWriteResponse dt w bad) s = .next (s.finish (s.pass dt))) ∧
  (∀ (t : State) (r : HostReq),
    (∀ id d, r.op = .data id → (t.part r.part).deliv.find? (fun d => d.id == id) = some d →
      t.writeFail r = (t.disown r.part (fun o => o == .data id)).rxFinish r.part d stDataFault) ∧
    (∀ rx id c, r.op = .cpl rx id → (t.part r.part).cpls.find? (fun c => c.rx == rx && c.id == id) = some c →
      t.writeFail r = (((t.partDiscard r.part).put PART_STAT.STATE 2 r.part).partLog r.part (if rx then 3 else 2) c.ptr 8 0 true).evt
        PART_EVT.FENCED (0x58 + r.part) r.part)) ∧
  (∀ (s : State), s.runs 0 = true →
    let p := s.pass 0
    let waits := fun (e : Nat × HostReq) => e ∈ p.host.reads ++ p.host.writes ∧ e.2.dead = false
    ((∀ e, ¬ waits e) → exec .hostTimeout s = .next (s.finish p)) ∧
    (∀ e0, waits e0 → (∀ e, waits e → e0.2.at_ ≤ e.2.at_) →
      let q := p.advanceTo (e0.2.at_ + 16001)
      (∀ tag r, q.host.reads.find? (fun e => !e.2.dead && e.2.at_ == e0.2.at_) = some (tag, r) →
        exec .hostTimeout s = .next (s.finish ((State.readFail
          { q with host.reads := mapIns tag { r with dead := true, op := .gone } (mapDel tag q.host.reads) } r true).hostKick r.part))) ∧
      (q.host.reads.find? (fun e => !e.2.dead && e.2.at_ == e0.2.at_) = none →
        ∀ tag r, q.host.writes.find? (fun e => !e.2.dead && e.2.at_ == e0.2.at_) = some (tag, r) →
        exec .hostTimeout s = .next (s.finish ((State.writeFail
          { q with host.writes := mapIns tag { r with dead := true, op := .gone } (mapDel tag q.host.writes) } r).hostKick r.part)))))

/-- A deliverable source that is not presented goes to the first open target after LAST, wrapping; with none open it is not presented; a presentation that may no longer stand is withdrawn first, and counted. A claim returns, among the sources presented to the target, the one of highest priority and then lowest number, marks it claimed and clears an edge source's pending state and HELD; with none, or with eight claimed, it returns 0x3FF and counts SPURIOUS. A complete ends the claim of a source claimed by that target; any other counts COMPLETE_ERR. INT_PEND bits clear edge sources alone. A configuration with COAL_CNT 0 is not stored. COAL_TIME delivers a source that holds events at its time limit. An edge of an always-on input that its configuration selects sets its latch, or merges; a PHY latch that is enabled wakes the block; a set latch is transferred as one event while CORE_CK runs. BTMR is the next edge where the timer's LEFT is 1; a write that sets EN loads LEFT with PERIOD. -/
def Obligations.InterruptDelivery : Prop :=
  (∀ (t : State) (n : Nat),
    let stands := t.deliverable n = true ∧ t.tgtOpen n (t.get INT_SRC_STAT.TARGET n) = true
    let u := if t.get INT_SRC_STAT.PRESENTED n = 1 ∧ ¬ stands then (t.put INT_SRC_STAT.PRESENTED 0 n).count INT_CNT.COUNT 3 else t
    let first := fun d => d < 16 ∧ u.tgtOpen n ((u.get INT_SRC_STAT.LAST n + 1 + d) % 16) = true ∧
      ∀ e < d, u.tgtOpen n ((u.get INT_SRC_STAT.LAST n + 1 + e) % 16) = false
    (u.deliverable n = false ∨ u.get INT_SRC_STAT.PRESENTED n = 1 ∨ (∀ j < 16, u.tgtOpen n j = false) → t.intEval n = u) ∧
    (∀ d, u.deliverable n = true → u.get INT_SRC_STAT.PRESENTED n = 0 → first d →
      let j := (u.get INT_SRC_STAT.LAST n + 1 + d) % 16
      let v := (((u.put INT_SRC_STAT.PRESENTED 1 n).put INT_SRC_STAT.TARGET j n).put INT_SRC_STAT.LAST j n).count INT_CNT.COUNT 0
      (isEdgeSrc n = false → t.intEval n = v) ∧
      (isEdgeSrc n = true → v.get INT_SRC_CFG.COAL_CNT n ≤ v.get INT_SRC_STAT.HELD n → t.intEval n = v.count INT_CNT.COUNT 5) ∧
      (isEdgeSrc n = true → v.get INT_SRC_STAT.HELD n < v.get INT_SRC_CFG.COAL_CNT n → t.intEval n = v.count INT_CNT.COUNT 6))) ∧
  (∀ (t : State) (n j : Nat), n ∈ t.presentedOn j ↔ n < 256 ∧ t.get INT_SRC_STAT.PRESENTED n = 1 ∧ t.get INT_SRC_STAT.TARGET n = j) ∧
  (∀ (a : Access) (j : Fin 16) (s : State), s.takes a false INT_TGT_CLAIM.reg j.val 0 0 = true →
    let p := s.pass a.dt
    let ends := fun t (v : Nat) => exec (.intTgttClaim a j) s = .next (s.finish (State.setRsp t .okay (v.land (accMask a INT_TGT_CLAIM.reg j.val 0))))
    (p.presentedOn j.val = [] ∨ 8 ≤ (p.claimedBy j.val).length → ends (p.count INT_CNT.COUNT 2) 0x3FF) ∧
    ((p.claimedBy j.val).length < 8 → ∀ n ∈ p.presentedOn j.val,
      (∀ m ∈ p.presentedOn j.val, p.get INT_SRC_CFG.PRIO m < p.get INT_SRC_CFG.PRIO n ∨ p.get INT_SRC_CFG.PRIO m = p.get INT_SRC_CFG.PRIO n ∧ n ≤ m) →
      let q := (p.put INT_SRC_STAT.PRESENTED 0 n).put INT_SRC_STAT.CLAIMED 1 n
      (isEdgeSrc n = true → ends (((q.put INT_SRC_STAT.PEND 0 n).put INT_SRC_STAT.HELD 0 n).count INT_CNT.COUNT 1) n) ∧
      (isEdgeSrc n = false → ends (q.count INT_CNT.COUNT 1) n))) ∧
  (∀ (a : Access) (j : Fin 16) (s : State), s.takes a true INT_TGT_COMPLETE.reg j.val 0 (wdata a) = true →
    let p := s.pass a.dt
    let n := wdata a % 2 ^ 10
    exec (.intTgttComplete a j) s = .next (s.finish (State.setRsp
      (if n < 256 ∧ p.get INT_SRC_STAT.CLAIMED n = 1 ∧ p.get INT_SRC_STAT.TARGET n = j.val then (p.put INT_SRC_STAT.CLAIMED 0 n).intEval n
       else (p.put INT_TGT_STAT.CMPL_ERR 1 j.val).count INT_CNT.COUNT 4) .okay 0))) ∧
  (∀ (a : Access) (k : Fin 4) (s : State), s.takes a true INT_PEND.reg k.val 0 (wdata a) = true →
    let p := s.pass a.dt
    let v := (wdata a).land (accMask a INT_PEND.reg k.val 0)
    exec (.intPend a k) s = .next (s.finish (State.setRsp (p.forEach ((List.range 64).filter (bitAt v)) (fun t i =>
      if isEdgeSrc (64 * k.val + i) then
        ((t.put INT_SRC_STAT.PEND 0 (64 * k.val + i)).put INT_SRC_STAT.HELD 0 (64 * k.val + i)).intEval (64 * k.val + i) else t)) .okay 0))) ∧
  (∀ (a : Access) (n : Fin 256) (s : State),
    let p := s.pass a.dt
    (s.takes a true INT_SRC_CFG.reg n.val 0 (wdata a) = true →
      let w := p.merged INT_SRC_CFG.reg (accMask a INT_SRC_CFG.reg n.val 0) (wdata a) n.val
      exec (.intSrcCfgWrite a false n) s = .next (s.finish (State.setRsp
        (if getBits w 8 8 = 0 then p else (p.setRg (INT_SRC_CFG.reg.key n.val 0) w).intEval n.val) .okay 0))) ∧
    (s.takes a true INT_TGT_CTRL.reg (n.val % 16) 0 (wdata a) = true →
      let w := p.merged INT_TGT_CTRL.reg (accMask a INT_TGT_CTRL.reg (n.val % 16) 0) (wdata a) (n.val % 16)
      exec (.intSrcCfgWrite a true n) s = .next (s.finish (State.setRsp (p.setRg (INT_TGT_CTRL.reg.key (n.val % 16) 0) w).intEvalAll .okay 0)))) ∧
  (∀ (n : Fin 256) (s : State), s.runs 0 = true →
    let p := s.pass 0
    let due := isEdgeSrc n.val = true ∧ p.get INT_SRC_STAT.PEND n.val = 1 ∧ p.get INT_SRC_STAT.HELD n.val ≠ 0
    (due → exec (.coalTime n) s = .next (s.finish
      ((p.advanceTo (mapGet (fun _ => 0) p.intT0 n.val + 1000 * p.get INT_SRC_CFG.COAL_TIME n.val)).intEval n.val))) ∧
    (¬ due → exec (.coalTime n) s = .next (s.finish p))) ∧
  (∀ (dt : Nat) (l : Fin 32) (rising : Bool) (s : State), s.alive = true →
    let p := s.pass dt
    let v := p.get TAMPER_STAT.LEVEL
    let b := 2 ^ (l.val - 2)
    let q := if 2 ≤ l.val ∧ l.val ≤ 9 then p.put TAMPER_STAT.LEVEL (if rising then v.lor b else v - v.land b) else p
    let ends := fun t => exec (.latchSet dt l rising) s = .next (s.finish t)
    let chosen := (l.val ≤ 0x11 ∧ bitAt (q.get INT_AON_CFG.EDGE) (2 * l.val + (if rising then 0 else 1)) = true) ∨
      (0x11 < l.val ∧ l.val ≤ 0x18 ∧ rising = true)
    let held := q.get INT_AON_LATCH.SET
    let r : State := if bitAt held l.val then { q with latchMerged := q.latchMerged ||| (1#32 <<< l.val) }
      else q.put INT_AON_LATCH.SET (held + 2 ^ l.val)
    (¬ chosen → ends q) ∧
    (chosen → (0x0A ≤ l.val ∧ l.val ≤ 0x0F ∧ bitAt (r.get PWR_WAKE_EN.EN) l.val = true) → ends (r.wake wkAon l.val)) ∧
    (chosen → ¬ (0x0A ≤ l.val ∧ l.val ≤ 0x0F ∧ bitAt (r.get PWR_WAKE_EN.EN) l.val = true) → ends r)) ∧
  (∀ (dt : Nat) (l : Fin 32) (s : State), s.runs dt = true →
    let p := s.pass dt
    let q : State := { p.put INT_AON_LATCH.SET (p.get INT_AON_LATCH.SET - 2 ^ l.val) with latchMerged := p.latchMerged &&& ~~~(1#32 <<< l.val) }
    let due := bitAt (p.get INT_AON_LATCH.SET) l.val = true ∧ p.chip.mainReset = false ∧ p.chip.clkUp.getLsbD 0 = true
    (due → p.latchMerged.getLsbD l.val = false → exec (.latchTransfer dt l) s = .next (s.finish (q.raise l.val))) ∧
    (due → p.latchMerged.getLsbD l.val = true → exec (.latchTransfer dt l) s = .next (s.finish ((q.count INT_CNT.COUNT 7).raise l.val))) ∧
    (¬ due → exec (.latchTransfer dt l) s = .next (s.finish p))) ∧
  (∀ (k : Fin 8) (s : State), s.runs 0 = true →
    let p := s.pass 0
    let due := p.fixedRuns = true ∧ p.get INT_BTMR.EN k.val = 1 ∧ p.get INT_BTMR.LEFT k.val = 1
    (due → exec (.btmr k) s = exec .bellEdge s) ∧ (¬ due → exec (.btmr k) s = .next (s.finish p))) ∧
  (∀ (a : Access) (k : Fin 8) (s : State), s.takes a true INT_BTMR.reg k.val 0 (wdata a) = true →
    let p := s.pass a.dt
    let w := p.merged INT_BTMR.reg (accMask a INT_BTMR.reg k.val 0) (wdata a) k.val
    let q := p.setRg (INT_BTMR.reg.key k.val 0) w
    let ends := fun t => exec (.intBtmrWrite a k) s = .next (s.finish (State.setRsp t .okay 0))
    (getBits w 16 16 = 0 → ends p) ∧
    (getBits w 16 16 ≠ 0 → bitAt w 0 = true → p.get INT_BTMR.EN k.val = 0 → ends (q.put INT_BTMR.LEFT (q.get INT_BTMR.PERIOD k.val) k.val)) ∧
    (getBits w 16 16 ≠ 0 → bitAt w 0 = false ∨ p.get INT_BTMR.EN k.val = 1 → ends q))

/-- A TIME_RATE write where the rate-write timeout of LOCKED has passed finds HOLDOVER entered (also later than its cycle: the model, log 144). It is refused in HOLDOVER and where its magnitude exceeds 56,294,995,342; else the offset becomes the synchronized time of this cycle, the anchor this cycle and the rate the new one, so that synchronized time stays the same in it and in the cycles before it (the model keeps the earlier parameters for 2^26 ns, log 145), and the servo wait starts again. A TIME_STEP write is taken once in ACQUIRING: applied, or held while the bell source is ALIGNED. A step moves the offset by whole ns, counts, sets STEP_DONE, enters TRACKING, and lets late outputs act. HELD_STEP is the next edge, where it returns the source to FREE with a step held. ACQUIRE is taken in every state, LOCK in ACQUIRING without a held step and in TRACKING, UNLOCK in LOCKED, HOLDOVER in TRACKING and LOCKED with a permitted cause and rate, RESUME in HOLDOVER; else the command is refused, counted and changes nothing. SERVO_TMO enters HOLDOVER from LOCKED. A change of state sets STATE_CHG, disarms an armed bell source on leaving LOCKED (its free-running grid goes on behind a suppressed edge whose time has passed), and lets an aligned one return on entry to ACQUIRING. -/
def Obligations.SyncStatesAndRates : Prop :=
  (∀ (a : Access) (s : State), s.takes a true TIME_RATE.reg 0 0 (wdata a) = true →
    let p := s.pass a.dt
    let r := sext 40 (p.merged TIME_RATE.reg (accMask a TIME_RATE.reg 0 0) (wdata a) % 2 ^ 40)
    let ends := fun t => exec (.rateChange a) s = .next (s.finish (State.setRsp t .okay 0))
    let ms := p.get TIME_CFG.SERVO_TMO_MS
    let late := p.get TIME_STAT.STATE = 3 ∧ ms ≠ 0 ∧ p.get PWR_STAT.STATE ≠ 2 ∧ p.get PWR_STAT.STATE ≠ 3 ∧
      p.time.servoStart + ms * 1000000 ≤ p.frc.toNat
    let q := if late then ((p.setSync 4).put TIME_STAT.HOLD_CAUSE 3).evt TIME_EVT.SERVO_TMO 0x60 else p
    let ok := q.get TIME_STAT.STATE ≠ 4 ∧ -56294995342 ≤ r ∧ r ≤ 56294995342
    (¬ ok → ends ((q.count TIME_CNT.COUNT 2).evt TIME_EVT.CMD_REFUSED 0x60)) ∧
    (ok → ends { q.setRate r with time.servoStart := q.frc.toNat })) ∧
  (∀ (t : State) (r : Int),
    let o := t.st80.toNat
    let kept := t.time.past.filter (fun p => decide (t.frc.toNat < p.upTo + 2 ^ 26))
    let k : State := { t with time.past := ⟨t.frc.toNat, t.offset80, t.get TIME_ANCHOR.VALUE, t.rate⟩ :: kept }
    let u := ((k.put TIME_OFFSET.VALUE (o / 2 ^ 16)).put TIME_OFFSET_FRAC.FRAC o).put TIME_ANCHOR.VALUE t.frc.toNat
    t.setRate r = (u.put TIME_RATE.RATE (r % 2 ^ 40).toNat).count TIME_CNT.COUNT 1 ∧ (t.setRate r).st80 = t.st80 ∧
      (∀ f, f < t.frc.toNat → t.frc.toNat ≤ f + 2 ^ 26 → (t.setRate r).st80At f = t.st80At f)) ∧
  (∀ (a : Access) (s : State), s.takes a true TIME_STEP.reg 0 0 (wdata a) = true →
    let p := s.pass a.dt
    let ends := fun t => exec (.step a) s = .next (s.finish (State.setRsp t .okay 0))
    let ok := p.get TIME_STAT.STATE = 1 ∧ p.get TIME_STAT.STEP_PEND = 0
    (¬ ok → ends ((p.count TIME_CNT.COUNT 2).evt TIME_EVT.CMD_REFUSED 0x60)) ∧
    (ok → p.get GLB_BELL_STAT.SRC = 1 → ends { p.put TIME_STAT.STEP_PEND 1 with time.heldStep := some (sext 64 (wdata a)) }) ∧
    (ok → p.get GLB_BELL_STAT.SRC = 0 → ends (p.applyStep (sext 64 (wdata a))))) ∧
  (∀ (t : State) (delta : Int),
    let o := ((t.offset80 + delta * 2 ^ 16) % 2 ^ 80).toNat
    let kept := t.time.past.filter (fun p => decide (t.frc.toNat < p.upTo + 2 ^ 26))
    let k : State := { t with time.past := ⟨t.frc.toNat, t.offset80, t.get TIME_ANCHOR.VALUE, t.rate⟩ :: kept }
    let u := ((k.put TIME_OFFSET.VALUE (o / 2 ^ 16)).put TIME_OFFSET_FRAC.FRAC o).put TIME_STAT.STEP_PEND 0
    let v := (({ u with time.heldStep := none } : State).count TIME_CNT.COUNT 0).evt TIME_EVT.STEP_DONE 0x60
    t.applyStep delta = (v.setSync 2).forEach (List.range 6) (State.stepOutput t.stNs)) ∧
  (∀ s : State, s.runs 0 = true →
    let p := s.pass 0
    let due := p.fixedRuns = true ∧ p.time.heldStep.isSome = true ∧ (p.bell.unalign = true ∨ p.get GLB_BELL_STAT.SRC = 0)
    (due → exec .heldStep s = exec .bellEdge s) ∧ (¬ due → exec .heldStep s = .next (s.finish p))) ∧
  (∀ (a : Access) (s : State) (c : Nat) (o : Host.Outcome State Fault Refusal),
    (c = 1 ∧ o = exec (.acquire a) s ∨ c = 2 ∧ o = exec (.lock a) s ∨ c = 3 ∧ o = exec (.unlock a) s ∨ c = 4 ∧ o = exec (.holdover a) s ∨
      c = 5 ∧ o = exec (.resume a) s) →
    let w := setBits (wdata a) 0 4 c
    s.takes a true TIME_CMD.reg 0 0 w = true →
    let p := s.pass a.dt
    let st := p.get TIME_STAT.STATE
    let ends := fun t => o = .next (s.finish (State.setRsp t .okay 0))
    let refused := ends ((p.count TIME_CNT.COUNT 2).evt TIME_EVT.CMD_REFUSED 0x60)
    let cause := getBits w 4 4
    let rate := sext 40 (getBits w 16 40)
    let lockOk := st = 1 ∧ p.get TIME_STAT.STEP_PEND = 0 ∨ st = 2
    let holdOk := (st = 2 ∨ st = 3) ∧ cause ≤ 2 ∧ (bitAt w 8 = false ∨ (-56294995342 ≤ rate ∧ rate ≤ 56294995342))
    let q := (if bitAt w 8 then p.setRate rate else p).setSync 4 |>.put TIME_STAT.HOLD_CAUSE cause
    (c = 1 → ends (p.setSync 1)) ∧
    (c = 2 → lockOk → ends (p.setSync 3)) ∧ (c = 2 → ¬ lockOk → refused) ∧
    (c = 3 → st = 3 → ends (p.setSync 2)) ∧ (c = 3 → st ≠ 3 → refused) ∧
    (c = 4 → holdOk → cause = 1 → ends (q.evt TIME_EVT.PATH_STEP 0x60)) ∧ (c = 4 → holdOk → cause ≠ 1 → ends q) ∧ (c = 4 → ¬ holdOk → refused) ∧
    (c = 5 → st = 4 → ends (p.setSync 2)) ∧ (c = 5 → st ≠ 4 → refused)) ∧
  (∀ s : State, s.runs 0 = true →
    let p := s.pass 0
    let ms := p.get TIME_CFG.SERVO_TMO_MS
    let due := p.get TIME_STAT.STATE = 3 ∧ ms ≠ 0 ∧ p.get PWR_STAT.STATE ≠ 2 ∧ p.get PWR_STAT.STATE ≠ 3
    (due → exec .servoTmo s = .next (s.finish
      ((((p.advanceTo (p.time.servoStart + ms * 1000000)).setSync 4).put TIME_STAT.HOLD_CAUSE 3).evt TIME_EVT.SERVO_TMO 0x60))) ∧
    (¬ due → exec .servoTmo s = .next (s.finish p))) ∧
  (∀ (t : State) (new : Nat),
    (new = t.get TIME_STAT.STATE → t.setSync new = t) ∧
    (new ≠ t.get TIME_STAT.STATE →
      let u := ((t.put TIME_STAT.STATE new).evt TIME_EVT.STATE_CHG 0x60).put TIME_STAT.STEP_AVAIL (if new = 1 then 1 else 0)
      let v := (if new = 3 then { u with time.servoStart := u.frc.toNat } else u).forEach (List.range 6) State.outHold
      let w := if v.get GLB_BELL_STAT.ARMED = 1 ∧ new ≠ 3 then v.disarm else v
      t.setSync new = if new = 1 ∧ w.on GLB_BELL_STAT.SRC = true then { w with bell.unalign := true } else w)) ∧
  (∀ t : State,
    let g := t.bell.origin + (t.bell.k + 1) * t.bell.period
    let gone := g ≤ t.frc.toNat ∧ t.bell.rephaseAt < t.stNsAt g + t.bell.period
    let u := t.put GLB_BELL_STAT.ARMED 0
    (gone → t.disarm = { u with bell.k := u.bell.k + 1 }) ∧ (¬ gone → t.disarm = u))

/-- A read of TIME_NOW_NS returns synchronized time in whole ns and latches seconds, nanoseconds, fraction and FRC in the reader's copies. A configured edge of an enabled capture input stores the time of three cycles before and the edge kind, and raises its source; with eight entries held it is discarded, counted, and sets CAP_OVF twice. A read of TIME_CAPk_TS removes the oldest entry, and reads 0 where there is none. An output's scheduled edge comes when synchronized time reaches it less OUT_ADV: a pulse rises or the level toggles, a rising edge raises the source, a gated output holds 0, and the schedule goes on. A pulse falls WIDTH_NS after it rose. A step past scheduled edges makes one late edge. A reference window loads its count, and sets REF_LOST where edges have ceased. CHECKPOINT is the next edge, where it requests one. A pad changes two cycles after. -/
def Obligations.TimeReadingsAndEdges : Prop :=
  (∀ (a : Access) (s : State), s.takes a false TIME_NOW_NS.reg 0 0 0 = true →
    let p := s.pass a.dt
    let c := a.init.val
    let st := p.st80.toNat
    let ns := st / 2 ^ 16
    exec (.timeNowNs a) s = .next (s.finish (State.setRsp ((((p.put (TIME_NOW_SEC.SEC.of c) (ns / 1000000000)).put (TIME_NOW_SEC.FRAC.of c) (st % 2 ^ 16)).put
      (TIME_NOW_NSEC.NSEC.of c) (ns % 1000000000)).put (TIME_NOW_FRC.FRC.of c) p.frc.toNat) .okay (ns.land (accMask a TIME_NOW_NS.reg 0 0))))) ∧
  (∀ (dt : Nat) (k : Fin 6) (rising : Bool) (s : State), s.runs dt = true →
    let p := s.pass dt
    let fifo := mapGet (fun _ => []) p.time.caps k.val
    let ends := fun t => exec (.captureEdge dt k rising) s = .next (s.finish t)
    let seen := p.get TIME_CAP_CTRL.EN k.val = 1 ∧ bitAt (p.get TIME_CAP_CTRL.EDGE k.val) (if rising then 0 else 1) = true
    (¬ seen → ends p) ∧
    (seen → fifo.length < 8 →
      let wrote := mapSet (fun _ => []) p.time.caps k.val (fifo ++ [⟨p.stNsAt (p.frc.toNat - 3), rising⟩])
      ends (State.raise { p with time.caps := wrote } (0x61 + k.val))) ∧
    (seen → 8 ≤ fifo.length → ends (((p.count TIME_CNT.COUNT 5).put TIME_CAP_CTRL.CAP_OVF 1 k.val).evt TIME_EVT.CAP_OVF 0x60))) ∧
  (∀ (a : Access) (k : Fin 6) (s : State), s.takes a false TIME_CAP_TS.reg k.val 0 0 = true →
    let p := s.pass a.dt
    let fifo := mapGet (fun _ => []) p.time.caps k.val
    (fifo = [] → exec (.timeCapkTs a k) s = .next (s.finish (State.setRsp p .okay 0))) ∧
    (∀ e l, fifo = e :: l → exec (.timeCapkTs a k) s = .next (s.finish (State.setRsp
      { p with time.caps := mapSet (fun _ => []) p.time.caps k.val l } .okay (e.st.land (accMask a TIME_CAP_TS.reg k.val 0)))))) ∧
  (∀ (o : Fin 6) (s : State), s.runs 0 = true →
    let p := s.pass 0
    let n := (p.outSt o.val).next
    let ends := fun t => exec (.outputEdge o) s = .next (s.finish t)
    (n = none ∨ p.outEn o.val = false → ends p) ∧
    (p.outEn o.val = true → ∀ t, n = some t →
      let q := (p.advanceTo (p.frcAtSt (t - getBits (p.outCfg o.val) 8 8) + 2)).outEdge o.val t
      (q.outMode o.val = 0 → ends (q.setOut o.val { q.outSt o.val with next := none })) ∧
      (q.outMode o.val ≠ 0 → ends (q.setOut o.val { q.outSt o.val with next := some (nextSched (q.outStart o.val) (q.outPeriod o.val) (t + 1)) })))) ∧
  (∀ (t : State) (o at_ : Nat),
    let st := t.outSt o
    (t.outGated o = true → t.outEdge o at_ = t.setOut o { st with level := false, fallAt := none }) ∧
    (t.outGated o = false → t.outMode o = 2 → st.level = true → t.outEdge o at_ = t.setOut o { st with level := false }) ∧
    (t.outGated o = false → t.outMode o = 2 → st.level = false → t.outEdge o at_ = (t.setOut o { st with level := true }).raise (0x67 + o)) ∧
    (t.outGated o = false → t.outMode o ≠ 2 → t.outEdge o at_ =
      (t.setOut o { st with level := true, fallAt := some (at_ + getBits (t.outCfg o) 32 32) }).raise (0x67 + o)) ∧
    (t.outGated o = true → t.outLate o = t) ∧
    (t.outGated o = false → t.outLate o = ((t.outEdge o (t.stNs + getBits (t.outCfg o) 8 8)).count TIME_CNT.COUNT 6).evt TIME_EVT.OUT_LATE 0x60)) ∧
  (∀ (t : State) (o old : Nat),
    let n := (t.outSt o).next
    let passed := fun x => t.outEn o = true ∧ 0 ≤ wrapDiff 64 x old ∧ wrapDiff 64 x t.stNs ≤ 0
    (n = none → State.stepOutput old t o = t) ∧
    (∀ x, n = some x →
      (¬ passed x → State.stepOutput old t o = t) ∧
      (passed x → let q := t.outLate o
        State.stepOutput old t o = q.setNextEdge o (if q.outMode o = 0 then none else some (nextSched (q.outStart o) (q.outPeriod o) (q.stNs + 1)))))) ∧
  (∀ (o : Fin 6) (s : State), s.runs 0 = true →
    let p := s.pass 0
    ((p.outSt o.val).fallAt = none → exec (.outputFall o) s = .next (s.finish p)) ∧
    (∀ t, (p.outSt o.val).fallAt = some t →
      let q := p.advanceTo (p.frcAtSt (t - getBits (p.outCfg o.val) 8 8) + 2)
      exec (.outputFall o) s = .next (s.finish (q.setOut o.val { q.outSt o.val with level := false, fallAt := none })))) ∧
  (∀ (edges : Nat) (s : State), s.runs 0 = true →
    let p := s.pass 0
    let e := p.time.refStart + p.get TIME_REF.WIN_MS * 1000000
    let q : State := { p.advanceTo e with time.refStart := e }
    let r := (q.put TIME_REF.EDGES (min edges (2 ^ 32 - 1))).put TIME_REF.PRESENT (if edges = 0 then 0 else 1)
    let ends := fun t => exec (.refWindow edges) s = .next (s.finish t)
    (p.get TIME_REF.EN = 0 → ends p) ∧
    (p.get TIME_REF.EN = 1 → q.get TIME_REF.PRESENT = 1 → edges = 0 → ends (r.evt TIME_EVT.REF_LOST 0x60)) ∧
    (p.get TIME_REF.EN = 1 → q.get TIME_REF.PRESENT = 0 ∨ edges ≠ 0 → ends r)) ∧
  (∀ s : State, s.runs 0 = true →
    let p := s.pass 0
    let u := p.get TIME_CFG.CKPT_S * 1000000000
    let due := p.fixedRuns = true ∧ (p.get TIME_STAT.STATE = 3 ∨ p.get TIME_STAT.STATE = 4) ∧ u ≠ 0 ∧ p.roll.edgeSt / u < p.stNsAt p.nextEdge.frc / u
    (due → exec .checkpoint s = exec .bellEdge s) ∧ (¬ due → exec .checkpoint s = .next (s.finish p)))

/-- ROLL_INTAKE takes the oldest intake frame and sorts it by the first matching row of R387. A report from a PRESENT or LATE neighbour is accepted, a duplicate or stale by the signed difference of its number; from another state it is accepted as first; without an entry it creates one while LEARN is 1 and a way is UNUSED, else NO_ROOM or UNKNOWN. An accepted report without an enabled destination, or without a frame to go into, changes no roster entry; else the entry, the counts, the record and a held downlink follow in this order. A downlink is held or released by the first row of R405. SWEEP visits its entries once in a bell of TEST, SERVICE or RECOVERY: overdue ones become LATE or ABSENT, unsupervised ones IDLE after 2^30 bells. ROLL_ABSENT reads the oldest index. A ROLL_CFG write that clears the bit of an occupied bank sets CFG_REFUSED. INSERT, DELETE, READ and DL_CLEAR act on the entry they name or are refused with their REASON. -/
def Obligations.RollCall : Prop :=
  (∀ (dt : Nat) (s : State), s.awake dt = true →
    let p := s.pass dt
    let ends := fun t => exec (.rollIntake dt) s = .next (s.finish t)
    (p.forwards = false ∨ p.roll.intake = [] → ends p) ∧
    (p.forwards = true → ∀ f rest, p.roll.intake = f :: rest →
      ends ((State.count { p with roll.intake := rest } ROLL_CNT.COUNT 0).rollSort f))) ∧
  (∀ (q : State) (f : Frame),
    let sorted := fun t : State => q.rollSort f = t
    let rejected := fun t : State => sorted ((t.release f.ptr 0x30).count ROLL_CNT.COUNT 8)
    let off := q.get ROLL_CFG.EN = 0 ∨ (q.role 0x40).func = .idle
    let radio := 8 ≤ f.src ∧ f.src ≤ 0x0A
    let pay := q.bufRead .roll (ptrAddr f.ptr + 64 + f.l3off) (f.len - f.l3off)
    let head := q.bufRead .roll (ptrAddr f.ptr + 64 + f.l3off) 12
    (off ∨ f.l3type ≠ l3Roll → rejected q) ∧
    (¬ off → f.l3type = l3Roll → radio → q.get ROLL_CFG.MAX_PAYLOAD < f.len - f.l3off → rejected q) ∧
    (¬ off → f.l3type = l3Roll → radio → f.len - f.l3off ≤ q.get ROLL_CFG.MAX_PAYLOAD → sorted (pay.1.report f pay.2.bytes)) ∧
    (¬ off → f.l3type = l3Roll → ¬ radio → f.len < f.l3off + 12 → rejected q) ∧
    (¬ off → f.l3type = l3Roll → ¬ radio → f.l3off + 12 ≤ f.len → head.2.bytes.getD 0 0 ≠ 0x81 → rejected head.1) ∧
    (¬ off → f.l3type = l3Roll → ¬ radio → f.l3off + 12 ≤ f.len → head.2.bytes.getD 0 0 = 0x81 → sorted (head.1.downlink f head.2.bytes))) ∧
  (∀ (t u : State) (f : Frame) (pay : List Nat),
    let md := f.rmeta
    let found := fun (x : Found) => t.nbrFind (md % 2 ^ 64) = (u, x)
    let gone := u.release f.ptr 0x30
    (∀ i e, found (.entry i e) →
      let d := wrapDiff 16 (getBits md 96 16) e.seq
      let w := (u.nbrWrite i e.st { u.heard f e with dup := min 0xFFFF (e.dup + 1) }).count ROLL_CNT.COUNT 2
      (¬ (e.st = 2 ∨ e.st = 3) → t.report f pay = u.accept f pay i e.st e true 0) ∧
      (e.st = 2 ∨ e.st = 3 → 0 < d → t.report f pay = u.accept f pay i e.st e false (d - 1).toNat) ∧
      (e.st = 2 ∨ e.st = 3 → d = 0 → t.report f pay =
        (if e.pend then w.dlSend i e.id f.src (getBits md 120 3) else w).release f.ptr 0x30) ∧
      (e.st = 2 ∨ e.st = 3 → d < 0 → t.report f pay = gone.count ROLL_CNT.COUNT 3)) ∧
    (∀ i, found (.way i) → u.on ROLL_CFG.LEARN = true → t.report f pay =
      u.accept f pay i 0 ⟨md % 2 ^ 64, 0, 0, u.get ROLL_CFG.DEF_DEST, false, 0, 0, u.get ROLL_CFG.DEF_INTERVAL, 0, 0, 0⟩ true 0) ∧
    (found .full ∨ found .bankOff → u.on ROLL_CFG.LEARN = true → t.report f pay = (gone.count ROLL_CNT.COUNT 7).evt ROLL_EVT.NO_ROOM 0x80) ∧
    ((∃ i, found (.way i)) ∨ found .full ∨ found .bankOff → u.on ROLL_CFG.LEARN = false → t.report f pay = gone.count ROLL_CNT.COUNT 6)) ∧
  (∀ (t : State) (f : Frame) (pay : List Nat) (i old : Nat) (e : Nbr) (first : Bool) (missed : Nat),
    let md := f.rmeta
    let en := (t.rollCfg e.dest).1.testBit 0
    let r := t.rollRoom e.dest pay.length
    (en = false → t.accept f pay i old e first missed = (t.release f.ptr 0x30).count ROLL_CNT.COUNT 8) ∧
    (en = true → r.2 = false → t.accept f pay i old e first missed = r.1.release f.ptr 0x30) ∧
    (en = true → r.2 = true →
      let a := r.1.nbrWrite i old { r.1.heard f e with seq := getBits md 96 16, missed := min 0xFFFF (e.missed + missed) }
      let b := (a.count ROLL_CNT.COUNT 1).countN ROLL_CNT.COUNT missed 4
      let c := if first then b.count ROLL_CNT.COUNT 5 else b
      let kind := b2n first * 4 + b2n (bitAt md 125) * 8 + b2n (bitAt md 126) * 16
      let g := c.rollAppend e.dest (rollRecord e.id (getBits md 96 16) kind (getBits md 120 3 + getBits md 123 2 * 8) (getBits md 112 8)
        (c.rxOff (f.ts / 65536)) pay)
      t.accept f pay i old e first missed = (if e.pend then g.dlSend i e.id f.src (getBits md 120 3) else g).release f.ptr 0x30)) ∧
  (∀ (t u : State) (f : Frame) (h : List Nat) (x : Found),
    let reserved := 2 ≤ h.getD 1 0 ∨ h.getD 10 0 ≠ 0 ∨ h.getD 11 0 ≠ 0
    let hold := fun (v : State) i (e : Nbr) =>
      let w := v.nbrWrite i e.st { e with pend := true, ptr := f.ptr }
      State.put { w with roll.held := mapIns i f (mapDel i v.roll.held) } ROLL_STAT.DL_HELD (v.get ROLL_STAT.DL_HELD + 1)
    (reserved → t.downlink f h = t.dlRelease f) ∧
    (¬ reserved → t.nbrFind (beNat ((h.drop 2).take 8)) = (u, x) →
      ((∀ i e, x ≠ .entry i e) → t.downlink f h = u.dlRelease f) ∧
      (∀ i e, x = .entry i e →
        (e.pend = true → h.getD 1 0 = 0 → t.downlink f h = u.dlRelease f) ∧
        (e.pend = true → h.getD 1 0 = 1 → t.downlink f h = hold (u.dlDrop i) i e) ∧
        (e.pend = false → u.get ROLL_STAT.DL_HELD = u.get ROLL_LIM.DL_MAX → t.downlink f h = u.dlRelease f) ∧
        (e.pend = false → u.get ROLL_STAT.DL_HELD ≠ u.get ROLL_LIM.DL_MAX → t.downlink f h = hold u i e)))) ∧
  (∀ (dt : Nat) (s : State), s.awake dt = true →
    let p := (s.pass dt).pass ((s.pass dt).bell.fixedEnd - (s.pass dt).frc.toNat)
    let n := min 64 (p.bell.period / 1000)
    let ends := fun t => exec (.sweep dt) s = .next (s.finish t)
    let runs := p.roll.swept = false ∧ p.mode ≠ 0 ∧ p.mode ≠ 4 ∧ p.mode ≠ 5
    (¬ runs → ends p) ∧
    (runs → let q := p.forEach ((List.range n).map (fun k => (p.roll.next + k) % 65536)) State.sweepVisit
      ends { q with roll.swept := true, roll.next := (p.roll.next + n) % 65536 })) ∧
  (∀ (t : State) (i : Nat),
    let r := t.nbrRead i
    let e := r.2
    let d := wrapDiff 32 (r.1.get ROLL_BELL.BELL) e.bell
    let g := r.1.get ROLL_LIM.GRACE
    let watched := t.nbrUsable i = true ∧ (e.st = 1 ∨ e.st = 2 ∨ e.st = 3)
    let iv : Int := e.interval
    (t.nbrUsable i = false → t.sweepVisit i = t) ∧
    (t.nbrUsable i = true → ¬ (e.st = 1 ∨ e.st = 2 ∨ e.st = 3) → t.sweepVisit i = r.1) ∧
    (watched → e.interval ≠ 0 → 3 * iv + g ≤ d → t.sweepVisit i = r.1.nbrAbsentNow i e) ∧
    (watched → e.interval ≠ 0 → d < 3 * iv + g → iv + g ≤ d → e.st = 2 → t.sweepVisit i = r.1.nbrWrite i 2 { e with st := 3 }) ∧
    (watched → e.interval ≠ 0 → d < 3 * iv + g → d < iv + g ∨ e.st ≠ 2 → t.sweepVisit i = r.1) ∧
    (watched → e.interval = 0 → 2 ^ 30 ≤ d → e.st ≠ 3 → t.sweepVisit i = r.1.nbrWrite i e.st { e with st := 5 }) ∧
    (watched → e.interval = 0 → d < 2 ^ 30 ∨ e.st = 3 → t.sweepVisit i = r.1)) ∧
  (∀ (a : Access) (s : State), s.takes a false ROLL_ABSENT.reg 0 0 0 = true →
    let p := s.pass a.dt
    let ends := fun t (v : Nat) => exec (.rollAbsent a) s = .next (s.finish (State.setRsp t .okay (v.land (accMask a ROLL_ABSENT.reg 0 0))))
    (p.roll.absent = [] → ends p 0) ∧
    (∀ i l, p.roll.absent = i :: l → ends { p with roll.absent := l } (i + 2 ^ 16 + l.length * 2 ^ 17))) ∧
  (∀ (a : Access) (s : State), s.takes a true ROLL_CFG.reg 0 0 (wdata a) = true →
    let p := s.pass a.dt
    let w := p.merged ROLL_CFG.reg (accMask a ROLL_CFG.reg 0 0) (wdata a)
    let ends := fun t => exec (.rollCfgWrite a) s = .next (s.finish (State.setRsp t .okay 0))
    let clears := ∃ b < 4, bitAt (p.get ROLL_CFG.BANKS) b = true ∧ bitAt (getBits w 4 4) b = false ∧ mapGet (fun _ => 0) p.roll.used (12 + b) ≠ 0
    (240 < getBits w 16 8 → ends p) ∧
    (getBits w 16 8 ≤ 240 → clears → ends (p.evt ROLL_EVT.CFG_REFUSED 0x80)) ∧
    (getBits w 16 8 ≤ 240 → ¬ clears → ends (p.setRg (ROLL_CFG.reg.key 0 0) (setBits w 4 4 ((List.range 4).foldl
      (fun m b => if bitAt (getBits w 4 4) b && !(p.get MEM_BANK_STAT.HEALTH (12 + b) == 3) then m + 2 ^ b else m) 0))))) ∧
  (∀ (a : Access) (s : State) (c : Nat) (o : Host.Outcome State Fault Refusal),
    (c = 1 ∧ o = exec (.insert a) s ∨ c = 2 ∧ o = exec (.delete a) s ∨ c = 3 ∧ o = exec (.read a) s ∨ c = 4 ∧ o = exec (.dlClear a) s) →
    let w := setBits (wdata a) 0 3 c
    s.serves a ROLL_NBR_CMD.reg 0 w = true →
    let p := s.pass a.dt
    let stg := p.staged ROLL_NBR_CMD.reg.base a.init.val
    let idx := getBits w 16 16
    let iv := getBits (stg.getD 1 0) 0 28
    let dest := getBits (stg.getD 1 0) 28 3
    let ends := fun (t : State) res => o = .next (s.finish (((t.setRg ((ROLL_NBR_RES.reg.of a.init.val).key 0 0) res).pmu evCmdServed 1).setRsp .okay 0))
    let refused := fun (t : State) reason => o = .next (s.finish (State.setRsp (State.pmu
      ((t.setRg ((ROLL_NBR_RES.reg.of a.init.val).key 0 0) (3 + reason * 4)).evt ROLL_EVT.CMD_REFUSED 0x80) evCmdServed 1) .okay 0))
    let idle := (p.role 0x40).func = .idle
    let fresh := getBits w 32 16 = (p.role 0x40).gen.toNat
    (idle → refused p 5) ∧
    (¬ idle → ¬ fresh → refused (p.count GLB_STALE_CNT.COUNT) 4) ∧
    (¬ idle → fresh → c = 3 →
      let r := if p.nbrUsable idx then p.nbrRead idx else (p, Nbr.ofNat 0)
      let e := r.2
      let x := r.1.setRg ((ROLL_NBR_KEY.reg.of a.init.val).key 0 0) e.id
      let y := x.setRg ((ROLL_NBR_DATA.reg.of a.init.val).key 0 0) (e.interval + e.dest * 2 ^ 28 + e.st * 2 ^ 32 + b2n e.pend * 2 ^ 35 + e.seq * 2 ^ 48)
      ends (y.setRg ((ROLL_NBR_INFO.reg.of a.init.val).key 0 0) (e.bell + e.missed * 2 ^ 32 + e.dup * 2 ^ 48)) (1 + idx * 2 ^ 16)) ∧
    (¬ idle → fresh → ∀ u x, p.nbrFind (stg.getD 0 0) = (u, x) →
      (∀ i e, x = .entry i e →
        (c = 1 → ends (u.nbrWrite i e.st { e with interval := iv, dest := dest, st := if e.st = 3 then 2 else e.st }) (1 + 2 ^ 5 + i * 2 ^ 16)) ∧
        (c = 2 → ends ((u.dlDrop i).nbrWrite i e.st (Nbr.ofNat 0)) (1 + i * 2 ^ 16)) ∧
        (c = 4 → e.pend = true → ends ((u.dlDrop i).nbrWrite i e.st { e with pend := false, ptr := 0 }) (1 + i * 2 ^ 16)) ∧
        (c = 4 → e.pend = false → refused u 2)) ∧
      (∀ i, x = .way i → c = 1 → ends (u.nbrWrite i 0 ⟨stg.getD 0 0, 0, 1, dest, false, 0, u.get ROLL_BELL.BELL, iv, 0, 0, 0⟩) (1 + i * 2 ^ 16)) ∧
      (x = .full → c = 1 → refused u 1) ∧ (x = .bankOff → c = 1 → refused u 3) ∧
      ((∀ i e, x ≠ .entry i e) → c = 2 ∨ c = 4 → refused u 2)))

/-- A write of SCn_CTRL stores its fields. RUN 0 takes RUNNING to HELD. RUN 1 takes HELD through a core reset of cause SW to RUNNING after START and outside HALT where the core received firmware or the mode is RECOVERY. RESTART takes FAULTED through a core reset of cause SW. KICK then reloads WDOG_LEFT with WDOG_BELLS. Any other write changes no state. A core reset discards the core's completions and receive queue, whose frames are released, and those of submissions already made; it leaves private memory, makes the core RUNNING with WDOG_LEFT reloaded, and counts and signals RESTART with its cause. While WDOG_BELLS is not 0 and the core is RUNNING, each bell edge takes 1 from WDOG_LEFT; at 0 the watchdog expires: a reset of cause WDOG where AUTO_RESTART is 1 and fewer than RESTART_MAX watchdog restarts occurred in the term, else FAULTED, counted and signalled. WDOG is the next edge where it expires at it. A debugger halts a RUNNING core where the life cycle opens SCDBG, and resumes it. (The model, log 61: RUNNING in RECOVERY shows ROM, and HELD clears it.) PMU_OVF adds occurrences of an event outside the other commands to a running counter; a carry goes to a chained counter or sets OVF, and with FREEZE clears EN. PMU_SAMPLE writes one record, where sampling is on for the core and not stopped, stops when the buffer is full without WRAP, and raises its source at each 128. -/
def Obligations.CoreStatesAndMonitor : Prop :=
  (∀ (a : Access) (c : Fin 2) (s : State),
    let p := s.pass a.dt
    let m := accMask a SC_CTRL.reg c.val 0
    let ends := fun (i : Instr) w => s.takes a true SC_CTRL.reg c.val 0 w = true →
      exec i s = .next (s.finish (State.setRsp ((p.setRg (SC_CTRL.reg.key c.val 0) (p.merged SC_CTRL.reg m w c.val)).scCtrlWritten c.val w) .okay 0))
    ends (.scRun a c) (wdata a) ∧ ends (.scRestart a c) (setBits (wdata a) 2 1 1) ∧ ends (.kick a c) (setBits (wdata a) 3 1 1)) ∧
  (∀ (t : State) (c w : Nat),
    let kicked := fun (u : State) => if bitAt w 3 then u.put SC_STAT.WDOG_LEFT (u.get SC_CTRL.WDOG_BELLS c) c else u
    let st := t.get SC_STAT.STATE c
    let runs := t.mode ≠ 0 ∧ t.mode ≠ 5 ∧ ((t.core c).fw = true ∨ t.mode = 3)
    (st = 1 → bitAt w 0 = false → t.scCtrlWritten c w = kicked ((t.put SC_STAT.STATE 0 c).put SC_STAT.ROM 0 c)) ∧
    (st = 0 → bitAt w 0 = true → runs → t.scCtrlWritten c w = kicked (t.coreReset c 2)) ∧
    (st = 3 → bitAt w 2 = true → t.scCtrlWritten c w = kicked (t.coreReset c 2)) ∧
    (¬ (st = 1 ∧ bitAt w 0 = false) → ¬ (st = 0 ∧ bitAt w 0 = true ∧ runs) → ¬ (st = 3 ∧ bitAt w 2 = true) → t.scCtrlWritten c w = kicked t)) ∧
  (∀ (t : State) (c cause : Nat),
    let q := t.core c
    let u := (t.setCore c { q with done := [], rxq := [], epoch := q.epoch + 1 }).forEach q.rxq (fun t ptr => t.release ptr (0x20 + c))
    let v := ((u.put SC_STAT.STATE 1 c).put SC_STAT.ROM (if u.mode = 3 then 1 else 0) c).put SC_STAT.WDOG_LEFT (u.get SC_CTRL.WDOG_BELLS c) c
    t.coreReset c cause = ((v.put SC_STAT.CAUSE cause c).count SC_CNT.COUNT 7).evt SC_EVT.RESTART 0xB0) ∧
  (∀ (t : State) (c : Nat),
    let left := t.get SC_STAT.WDOG_LEFT c
    let counts := t.get SC_STAT.STATE c = 1 ∧ t.get SC_CTRL.WDOG_BELLS c ≠ 0 ∧ 0 < left
    let n := (t.core c).restarts
    (¬ counts → t.wdogEdge c = t) ∧
    (counts → left ≠ 1 → t.wdogEdge c = t.put SC_STAT.WDOG_LEFT (left - 1) c) ∧
    (counts → left = 1 → t.wdogEdge c = (t.put SC_STAT.WDOG_LEFT 0 c).wdogExpire c) ∧
    (t.get SC_CTRL.AUTO_RESTART c = 1 → n < t.get SC_CTRL.RESTART_MAX c →
      t.wdogExpire c = (t.setCore c { t.core c with restarts := n + 1 }).coreReset c 1) ∧
    (t.get SC_CTRL.AUTO_RESTART c = 0 ∨ t.get SC_CTRL.RESTART_MAX c ≤ n → t.wdogExpire c =
      (((t.put SC_STAT.STATE 3 c).put SC_STAT.CAUSE 1 c).count SC_CNT.COUNT 7).evt SC_EVT.FAULT 0xB0)) ∧
  (∀ (c : Fin 2) (s : State), s.runs 0 = true →
    let p := s.pass 0
    let due := p.mode ≠ 5 ∧ p.dozing = false ∧ p.get SC_STAT.STATE c.val = 1 ∧ p.get SC_CTRL.WDOG_BELLS c.val ≠ 0 ∧ p.get SC_STAT.WDOG_LEFT c.val = 1
    (due → exec (.wdog c) s = exec .bellEdge s) ∧ (¬ due → exec (.wdog c) s = .next (s.finish p))) ∧
  (∀ (dt : Nat) (c : Fin 2) (s : State), s.awake dt = true →
    let p := s.pass dt
    let lc := p.get LDG_STAT.LC
    let open_ := lc = 0 ∨ lc = 1 ∨ lc = 3
    (open_ → p.get SC_STAT.STATE c.val = 1 → exec (.debugHalt dt c) s = .next (s.finish (p.put SC_STAT.STATE 2 c.val))) ∧
    (¬ open_ ∨ p.get SC_STAT.STATE c.val ≠ 1 → exec (.debugHalt dt c) s = .next (s.finish p)) ∧
    (p.get SC_STAT.STATE c.val = 2 → exec (.debugResume dt c) s = .next (s.finish (p.put SC_STAT.STATE 1 c.val))) ∧
    (p.get SC_STAT.STATE c.val ≠ 2 → exec (.debugResume dt c) s = .next (s.finish p))) ∧
  (∀ (dt : Nat) (k : Fin 16) (n : BitVec 32) (s : State), s.awake dt = true →
    let p := s.pass dt
    let e := p.get PMU_EVSEL.EVENT k.val
    let chained := fun (i : Nat) => i % 2 = 1 ∧ p.get PMU_EVSEL.CHAIN i = 1
    let runs := fun (t : State) (i : Nat) => t.get PMU_CTRL.EN = 1 ∧ t.get PMU_EVSEL.EN i = 1
    let counts := runs p k.val ∧ ¬ chained k.val ∧ ((1 ≤ e ∧ e ≤ 6) ∨ e = 0x0A ∨ e = 0x42)
    (counts → exec (.pmuOvf dt k n) s = .next (s.finish (p.pmuAdd k.val n.toNat))) ∧
    (¬ counts → exec (.pmuOvf dt k n) s = .next (s.finish p))) ∧
  (∀ (t : State) (k n : Nat),
    let v := t.get PMU_CNT.COUNT k + n
    let q := t.put PMU_CNT.COUNT v k
    let c := q.get PMU_CNT.COUNT (k + 1) + v / 2 ^ 32
    let feeds := k % 2 = 0 ∧ ((k + 1) % 2 = 1 ∧ q.get PMU_EVSEL.CHAIN (k + 1) = 1) ∧ q.get PMU_CTRL.EN = 1 ∧ q.get PMU_EVSEL.EN (k + 1) = 1
    let ovf := fun (u : State) (i : Nat) =>
      let w := u.evt ⟨PMU_OVF.OVF.base, PMU_OVF.OVF.s1, PMU_OVF.OVF.s2, i, 1⟩ 0xB1
      if w.get PMU_CTRL.FREEZE = 1 then w.put PMU_CTRL.EN 0 else w
    (v < 2 ^ 32 → t.pmuAdd k n = q) ∧
    (2 ^ 32 ≤ v → ¬ feeds → t.pmuAdd k n = ovf q k) ∧
    (2 ^ 32 ≤ v → feeds → c < 2 ^ 32 → t.pmuAdd k n = q.put PMU_CNT.COUNT c (k + 1)) ∧
    (2 ^ 32 ≤ v → feeds → 2 ^ 32 ≤ c → t.pmuAdd k n = ovf (q.put PMU_CNT.COUNT c (k + 1)) (k + 1))) ∧
  (∀ (dt : Nat) (core : Fin 2) (latency : BitVec 16) (addr : BitVec 32) (s : State), s.awake dt = true →
    let p := s.pass dt
    let i := p.get PMU_SAMP_STAT.NEXT
    let w0 := core.val + p.get PMU_SAMP_CFG.EVENT * 2 ^ 8 + latency.toNat * 2 ^ 16 + addr.toNat * 2 ^ 32
    let w1 := p.stNs % 2 ^ 32 % 2 ^ 32 + p.samples % 2 ^ 32 * 2 ^ 32
    let y := (p.put PMU_SAMP.WORD w0 i 0).put PMU_SAMP.WORD w1 i 1
    let q : State := { y with samples := y.samples + 1 }
    let r := q.put PMU_SAMP_STAT.NEXT (i + 1)
    let x := if i = 255 ∧ r.get PMU_SAMP_CFG.WRAP = 0 then r.put PMU_SAMP_STAT.FULL 1 else r
    let takes := p.get PMU_SAMP_CFG.EN = 1 ∧ bitAt (p.get PMU_SAMP_CFG.CORE) core.val = true ∧ p.get PMU_SAMP_STAT.FULL = 0
    (takes → exec (.pmuSample dt core latency addr) s = .next (s.finish (if x.samples % 128 = 0 then x.raise 0xB2 else x))) ∧
    (¬ takes → exec (.pmuSample dt core latency addr) s = .next (s.finish p)))

/-- A write of SC_TX_DESC1 is checked by the four rows of R415: 32 jobs and completions held (refused, TXQ_FULL, nothing else), a bad pointer or a reference count other than 1 (BAD_FIELD), LEN (BOUND), LAUNCH_EN with BRIDGE or CLASSIFY or a bad DEST (BAD_FIELD). An accepted one makes a job, with card SRC 0x20 + n and the time of acceptance; VID 0 means 1; with CLASSIFY, L3_INS or L4_INS it waits for a pass, else it is forwarded, to its port or to the bridge. Where the bridge's read of the frame's first bytes is uncorrectable the frame is dropped with MEM_UNCORR. Reads of SC_TX_DONE and SC_RX_POP remove the oldest entry; an empty one reads 0. A doorbell takes the first of the five rows of R425. A DONE of a mailbox that is not POSTED, or of another SEQ, sets MBX_LATE, and one with LEN above 496 is dropped; else the answer's two words are written, the mailbox is ANSWERED, and MBX_ANSm raised and MBX_ANSWERED counted. At a bell edge a POSTED mailbox whose role changes is answered ABANDONED, else, after MBX_TMO_BELLS bells, TIMEOUT, counted. MBX_TIMEOUT is the next edge where that happens. -/
def Obligations.CoreQueuesAndMailboxes : Prop :=
  (∀ (a : Access) (s : State), s.takes a true SC_TX_DESC1.reg 0 0 (wdata a) = true →
    let p := s.pass a.dt
    let c := coreOf a
    let w := wdata a
    let d0 := p.rg ((SC_TX_DESC0.reg.of c).key 0 0)
    let ptr := d0 % 2 ^ 32
    let len := getBits d0 32 14
    let tag := getBits d0 46 16
    let bridge := bitAt w 4
    let cls := bitAt w 5
    let launch := bitAt w 9
    let dest := w % 16
    let q := p.core c
    let size := bufBytes (p.pool (ptrPool ptr)).size
    let ends := fun t => exec (.scTxDesc1 a) s = .next (s.finish (State.setRsp t .okay 0))
    let full := 32 ≤ q.inprog + q.done.length
    let badPtr := (p.ptrCheck ptr).isSome = true ∨ (p.buf ptr).refs ≠ 1
    let badLen := len < 14 ∨ 16320 < len ∨ size < len + 64
    let badField := (launch = true ∧ (bridge = true ∨ cls = true)) ∨ (bridge = false ∧ cls = false ∧ 0xA < dest)
    (full → ends (p.evt SC_EVT.TXQ_FULL 0xB0)) ∧
    (¬ full → badPtr → ends (p.coreDone c stBadField tag 0)) ∧
    (¬ full → ¬ badPtr → badLen → ends (p.coreDone c stBound tag 0)) ∧
    (¬ full → ¬ badPtr → ¬ badLen → badField → ends (p.coreDone c stBadField tag 0)) ∧
    (¬ full → ¬ badPtr → ¬ badLen → ¬ badField →
      let id := p.fresh.2
      let r := p.fresh.1.setJob id ⟨8 + c, tag, q.epoch, bitAt w 8, launch, !bridge && !cls, len, false, false, 0⟩
      let u := r.setCore c { r.core c with inprog := (r.core c).inprog + 1 }
      let v := if bridge && !cls then u.fetchPayload ptr (min len 64) else (u, some [])
      let f0 := Frame.new (0x20 + c) v.1.st80.toNat (v.1.get GLB_BELL_NUM.BELL)
      (v.2 = none → ends ((v.1.release ptr (0x20 + c)).jobFinish id stMemUncorr none)) ∧
      (∀ b, v.2 = some b →
        let tci := outerTci v.1.customTpid b
        let lt := v.1.rg ((SC_TX_LAUNCH.reg.of c).key 0 0)
        let f := { f0 with
          ptr := ptr, size := bufBytes (v.1.pool (ptrPool ptr)).size, len := len, tc := getBits w 10 3,
          vlan := if getBits w 16 12 = 0 then 1 else getBits w 16 12, tci := tci.getD 0, tagged := tci.isSome,
          job := some id, mac := beNat (b.take 12), launch := if launch then some lt else none }
        let direct := !cls && !bridge
        let fwd : Fwd := ⟨f, !cls && bridge, if direct then 2 ^ dest else 0, 0, false, 0, 0, false, !direct⟩
        let pass := (cls || bitAt w 6 || bitAt w 7) = true
        (pass → ends { v.1 with cls.subs := v.1.cls.subs ++ [⟨fwd, cls, bitAt w 6, bitAt w 7⟩] }) ∧
        (¬ pass → ends (v.1.forward fwd))))) ∧
  (∀ (a : Access) (s : State),
    let p := s.pass a.dt
    let c := coreOf a
    let q := p.core c
    (s.takes a false SC_TX_DONE.reg 0 0 0 = true →
      (q.done = [] → exec (.scTxDone a) s = .next (s.finish (State.setRsp p .okay 0))) ∧
      (∀ e l, q.done = e :: l → exec (.scTxDone a) s = .next (s.finish
        (State.setRsp (p.setCore c { q with done := l }) .okay (e.1.land (accMask a SC_TX_DONE.reg 0 0)))))) ∧
    (s.takes a false SC_RX_POP.reg 0 0 0 = true →
      (q.rxq = [] → exec (.scRxPop a) s = .next (s.finish (State.setRsp p .okay 0))) ∧
      (∀ e l, q.rxq = e :: l → exec (.scRxPop a) s = .next (s.finish
        (State.setRsp (p.setCore c { q with rxq := l }) .okay ((e % 2 ^ 32 + 2 ^ 32 + l.length * 2 ^ 33).land (accMask a SC_RX_POP.reg 0 0))))))) ∧
  (∀ (a : Access) (s : State), s.takes a true MBX_DB.reg 0 0 (wdata a) = true →
    let p := s.pass a.dt
    let w := wdata a
    let m := w % 16
    let seq := getBits w 16 16
    let role := p.role (0x30 + m)
    let ends := fun (t : State) res => exec (.mbxDb a) s = .next (s.finish
      (State.setRsp (t.setRg ((MBX_DB_RES.reg.of a.init.val).key 0 0) (1 + res * 2)) .okay 0))
    let unserved := role.func ≠ .firmware ∨ role.owner = none
    let stale := getBits w 32 16 ≠ role.gen.toNat
    let posted := p.get MBX_STAT.STATE m = 1
    let r := p.staffWords (128 * m) 2
    let h0 := r.2.getD 0 0
    (unserved → ends p 1) ∧
    (¬ unserved → stale → ends ((p.count GLB_STALE_CNT.COUNT).count SC_CNT.COUNT 2) 2) ∧
    (¬ unserved → ¬ stale → posted → ends p 3) ∧
    (¬ unserved → ¬ stale → ¬ posted → getBits h0 32 16 ≠ seq → ends r.1 4) ∧
    (¬ unserved → ¬ stale → ¬ posted → getBits h0 32 16 = seq →
      let t := r.1.setMbx m ⟨getBits h0 0 8, getBits h0 8 8, getBits (r.2.getD 1 0) 0 32, role.gen.toNat, r.1.get GLB_BELL_NUM.BELL⟩
      ends (((t.put MBX_STAT.STATE 1 m).put MBX_STAT.SEQ seq m).count SC_CNT.COUNT 0) 0)) ∧
  (∀ (t : State) (m status len : Nat),
    let b := t.mbxOf m
    let w := b.service + b.op * 2 ^ 8 + len * 2 ^ 16 + t.get MBX_STAT.SEQ m * 2 ^ 32 + status * 2 ^ 48
    let u : State := { (t.staffPut (128 * m + 64) w).staffPut (128 * m + 65) (b.tag + b.gen * 2 ^ 32) with mem.staffRun := (128 * m + 64, 2) }
    t.mbxAnswer m status len = (u.put MBX_STAT.STATE 2 m).raise (0xA0 + m)) ∧
  (∀ (a : Access) (s : State), s.takes a true MBX_DONE.reg 0 0 (wdata a) = true →
    let p := s.pass a.dt
    let w := wdata a
    let m := w % 16
    let late := p.get MBX_STAT.STATE m ≠ 1 ∨ getBits w 16 16 ≠ p.get MBX_STAT.SEQ m
    (496 < getBits w 48 9 → exec (.mbxDone a) s = .next (s.finish (State.setRsp p .okay 0))) ∧
    (getBits w 48 9 ≤ 496 → late → exec (.mbxDone a) s = .next (s.finish (State.setRsp (p.evt SC_EVT.MBX_LATE 0xB0) .okay 0))) ∧
    (getBits w 48 9 ≤ 496 → ¬ late → exec (.mbxDone a) s = .next (s.finish
      (State.setRsp ((p.mbxAnswer m (getBits w 32 16) (getBits w 48 9)).count SC_CNT.COUNT 1) .okay 0)))) ∧
  (∀ (t : State) (m : Nat) (changed : List Nat),
    let posted := t.get MBX_STAT.STATE m = 1
    let old := t.get SC_SVC_CFG.MBX_TMO_BELLS ≤ (t.get GLB_BELL_NUM.BELL + 2 ^ 32 - (t.mbxOf m).bell) % 2 ^ 32
    (posted → 0x30 + m ∈ changed → t.mbxEdge changed m = t.mbxAnswer m 0x11 0) ∧
    (posted → 0x30 + m ∉ changed → old → t.mbxEdge changed m = (t.mbxAnswer m 0x10 0).count SC_CNT.COUNT 3) ∧
    (¬ posted ∨ (0x30 + m ∉ changed ∧ ¬ old) → t.mbxEdge changed m = t)) ∧
  (∀ (m : Fin 16) (s : State), s.runs 0 = true →
    let p := s.pass 0
    let due := p.mode ≠ 5 ∧ p.dozing = false ∧ p.get MBX_STAT.STATE m.val = 1 ∧
      p.get SC_SVC_CFG.MBX_TMO_BELLS ≤ (p.get GLB_BELL_NUM.BELL + 1 + 2 ^ 32 - (p.mbxOf m.val).bell) % 2 ^ 32
    (due → exec (.mbxTimeout m) s = exec .bellEdge s) ∧ (¬ due → exec (.mbxTimeout m) s = .next (s.finish p)))

/-- CRC-32 and CRC-32C of "123456789" have their published values. RESTART in CONT mode loads VALUE with the start of R438 under the tag: the fixed one, the sequence tag, which then counts up, or, as no frame gives an address here, for ADDR a free value (the model's choice, log 47); in FRAME mode it has no effect. FLUSH empties the result FIFO; a write with both bits restarts and then flushes. A write of CRCu_DATA feeds its 4 or 8 bytes, low byte first, and one of CRCu_DATA1 its byte, while EN is 1 and TAP is SW, and else nothing. A configuration write that changes anything but EN while EN is 1 stores nothing and sets CFG_REFUSED, also where it is out of its ranges (the model, log 32); one out of its ranges while EN is 0 stores nothing; any other stores, and clearing EN discards the frame in progress. CRC_RES pushes the unit's next result that counts, counts it and raises its source, or, with 16 entries held, counts it LOST and sets OVF. A read of CRCu_FIFO_VAL removes the oldest result, and reads 0 where there is none. -/
def Obligations.CheckUnits : Prop :=
  (let crc32 : CrcParam := ⟨32, 0x04C11DB7, 0xFFFFFFFF, 0xFFFFFFFF, true, true, 0, 4, false⟩
    let crc32c : CrcParam := { crc32 with poly := 0x1EDC6F41 }
    let digits := [0x31, 0x32, 0x33, 0x34, 0x35, 0x36, 0x37, 0x38, 0x39]
    crcResult crc32 (crcFeedAll crc32 (crcStart crc32 0) digits) = 0xCBF43926 ∧
    crcResult crc32c (crcFeedAll crc32c (crcStart crc32c 0) digits) = 0xE3069283) ∧
  (∀ (t : State) (u : Nat),
    let tag := t.get CRC_TAG.TAG u
    let src := t.get CRC_CFG.TAG_SRC u
    let loads := fun (x : State) v => x.put CRC_VALUE.VALUE (crcStart (t.crcParam u) v) u
    (t.get CRC_CFG.MODE u = 1 → t.crcRestart u = t) ∧
    (t.get CRC_CFG.MODE u = 0 →
      (src ≠ 1 → src ≠ 2 → t.crcRestart u = loads t tag) ∧
      (src = 1 → t.crcRestart u = loads (t.put CRC_TAG.TAG (tag + 1) u) tag) ∧
      (src = 2 → t.crcRestart u = loads { t with free := t.free + 1 } ((Config.word t.free).toNat % 2 ^ 32)))) ∧
  (∀ (a : Access) (u : Fin 4) (s : State),
    let p := s.pass a.dt
    let ends := fun (i : Instr) w => s.takes a true CRC_CMD.reg u.val 0 w = true →
      let q := if bitAt w 0 then p.crcRestart u.val else p
      exec i s = .next (s.finish (State.setRsp (if bitAt w 1 then q.setCrcFifo u.val [] else q) .okay 0))
    ends (.crcRestart a u) (setBits (wdata a) 0 1 1) ∧ ends (.crcFlush a u) (setBits (wdata a) 1 1 1)) ∧
  (∀ (a : Access) (u : Fin 4) (s : State),
    let p := s.pass a.dt
    let w := wdata a
    let m := accMask a CRC_DATA.reg u.val 0
    let takesIn := p.get CRC_CFG.EN u.val = 1 ∧ p.get CRC_CFG.TAP u.val = 0
    let fed := fun bs => p.put CRC_VALUE.VALUE (crcFeedAll (p.crcParam u.val) (p.get CRC_VALUE.VALUE u.val) bs) u.val
    let word := if m = 2 ^ 32 - 1 then leBytes w 4 else if m = 2 ^ 64 - 1 then leBytes w 8 else leBytes (w / 2 ^ 32) 4
    (s.takes a true CRC_DATA.reg u.val 0 w = true →
      (takesIn → exec (.crcuData a u) s = .next (s.finish (State.setRsp (fed word) .okay 0))) ∧
      (¬ takesIn → exec (.crcuData a u) s = .next (s.finish (State.setRsp p .okay 0)))) ∧
    (s.takes a true CRC_DATA1.reg u.val 0 w = true →
      (takesIn → exec (.crcuData1 a u) s = .next (s.finish (State.setRsp (fed [w % 2 ^ 8]) .okay 0))) ∧
      (¬ takesIn → exec (.crcuData1 a u) s = .next (s.finish (State.setRsp p .okay 0))))) ∧
  (∀ cfg poly init xorout : Nat,
    let width := getBits cfg 8 7
    let tap := getBits cfg 16 4
    crcCfgOk cfg poly init xorout = true ↔
      getBits cfg 2 2 ≠ 3 ∧ 1 ≤ width ∧ width ≤ 64 ∧ getBits cfg 32 2 ≠ 3 ∧ (getBits cfg 32 2 = 2 → 3 ≤ tap ∧ tap ≤ 6) ∧
        crcSelOk tap (getBits cfg 24 8) = true ∧ poly < 2 ^ width ∧ init < 2 ^ width ∧ xorout < 2 ^ width ∧ poly % 2 = 1) ∧
  (∀ (a : Access) (u which : Fin 4) (s : State),
    let f := if which.val = 0 then CRC_CFG.reg else if which.val = 1 then CRC_POLY.reg else if which.val = 2 then CRC_INIT.reg else CRC_XOROUT.reg
    s.takes a true f u.val 0 (wdata a) = true →
    let p := s.pass a.dt
    let new := p.merged f (accMask a f u.val 0) (wdata a) u.val
    let cfg := p.rg (CRC_CFG.reg.key u.val 0)
    let poly := p.get CRC_POLY.VALUE u.val
    let init := p.get CRC_INIT.VALUE u.val
    let xo := p.get CRC_XOROUT.VALUE u.val
    let valid := crcCfgOk (if which.val = 0 then new else cfg) (if which.val = 1 then new else poly) (if which.val = 2 then new else init)
      (if which.val = 3 then new else xo)
    let locked := bitAt cfg 0 = true ∧ (which.val ≠ 0 ∨ new / 2 ≠ cfg / 2)
    let ends := fun t => exec (.crcuCfgWrite a u which) s = .next (s.finish (State.setRsp t .okay 0))
    (locked → ends (p.evt CRC_STAT.CFG_REFUSED (0xC4 + u.val) u.val)) ∧
    (valid = false → ¬ locked → ends p) ∧
    (valid = true → ¬ locked →
      let q := p.setRg (CRC_CFG.reg.key u.val 0) new
      (which.val = 0 → bitAt cfg 0 = true → bitAt new 0 = false →
        ends { q with crc.epoch := mapSet (fun _ => 0) q.crc.epoch u.val (mapGet (fun _ => 0) q.crc.epoch u.val + 1) }) ∧
      (which.val = 0 → bitAt cfg 0 = false ∨ bitAt new 0 = true → ends q) ∧
      (which.val = 1 → ends (p.put CRC_POLY.VALUE new u.val)) ∧
      (which.val = 2 → ends (p.put CRC_INIT.VALUE new u.val)) ∧
      (which.val = 3 → ends (p.put CRC_XOROUT.VALUE new u.val)))) ∧
  (∀ (dt : Nat) (u : Fin 4) (s : State), s.awake dt = true →
    let p := s.pass dt
    let next := p.crc.due.find? (fun d => d.1 == u.val)
    let ends := fun t => exec (.crcRes dt u) s = .next (s.finish t)
    (next = none → ends p) ∧
    (∀ d, next = some d →
      let q : State := { p with crc.due := p.crc.due.erase d }
      ((q.crcFifo u.val).length < 16 →
        ends (((q.setCrcFifo u.val (q.crcFifo u.val ++ [d.2])).count CRC_CNT.COUNT u.val).raise (0xC0 + u.val))) ∧
      (16 ≤ (q.crcFifo u.val).length → ends ((q.count CRC_CNT.COUNT (4 + u.val)).evt CRC_STAT.OVF (0xC4 + u.val) u.val)))) ∧
  (∀ (a : Access) (u : Fin 4) (s : State), s.takes a false CRC_FIFO_VAL.reg u.val 0 0 = true →
    let p := s.pass a.dt
    (p.crcFifo u.val = [] → exec (.crcuFifoVal a u) s = .next (s.finish (State.setRsp p .okay 0))) ∧
    (∀ e l, p.crcFifo u.val = e :: l → exec (.crcuFifoVal a u) s = .next (s.finish
      (State.setRsp (p.setCrcFifo u.val l) .okay (e.result.land (accMask a CRC_FIFO_VAL.reg u.val 0))))))

/-- A served NVM_CMD is refused with NVM_REFUSED alone where a flash command runs, the mode is START, SLEEP or HALT, ADDR is unaligned for ERASE or PROGRAM, or one of these names the loaded slot. Otherwise it makes BUSY 1 with its ACTION and starts: VERIFY with the read of the slot's header, ERASE with write enable, opcode and address, PROGRAM with 256 bytes of the captured NVM_BUF more, on one line at NVM_DIV. NVM_DONE, where a write waits for its status poll, ends the command with NVM_DONE, or, 4,000 ms after the start of the poll, with NVM_FAIL; BUSY and the write-protect output return to 0. The seventeenth LDG_FW_DATA of a term sets BUDGET and does nothing else; another requests a write of its word to the firmware area and uses one of the sixteen, or, with 16 requests queued, sets BUSY and uses none. A read of LDG_RD_DATA answers the word that the reader's LDG_RD_ADDR names, corrected, and sets CE where it was corrected, UE where it could not be. -/
def Obligations.FlashCommandsAndLedgerRegisters : Prop :=
  (∀ (a : Access) (s : State) (act : Nat), 1 ≤ act → act ≤ 3 →
    let i := if act = 1 then Instr.verify a else if act = 2 then .erase a else .program a
    let w := setBits (wdata a) 0 2 act
    s.serves a NVM_CMD.reg 0 w = true →
    let p := s.pass a.dt
    let addr := getBits w 8 24
    let bad := p.nvm ≠ none ∨ p.mode = 0 ∨ p.mode = 4 ∨ p.mode = 5 ∨ (act = 2 ∧ addr % 65536 ≠ 0) ∨ (act = 3 ∧ addr % 256 ≠ 0) ∨
      (2 ≤ act ∧ p.get LDR_STAT.LOADED = 1 ∧ p.get LDR_STAT.SLOT = getBits w 2 1)
    let buf := (p.staged NVM_CMD.reg.base a.init.val).flatMap (fun v => leBytes v 8)
    let q := (p.put NVM_STAT.BUSY 1).put NVM_STAT.ACTION act
    let head := 16 + 8 * (if q.get NVM_CFG.ADDR4 = 1 then 4 else 3)
    let ends := fun (t : State) => exec i s = .next (s.finish ((t.pmu evCmdServed 1).setRsp .okay 0))
    (bad → ends (p.evt LDR_EVT.NVM_REFUSED 0xC8)) ∧
    (¬ bad →
      (act = 1 → ends { q with nvm := some ⟨w, .header, [], 0, 544, 32, 1, 48, 0⟩ }) ∧
      (act = 2 → ends { q with nvm := some ⟨w, .send, [], 0, head, 0, 1, q.get NVM_CFG.NVM_DIV, 0⟩ }) ∧
      (act = 3 → ends { q with nvm := some ⟨w, .send, buf, 0, head + 8 * buf.length, 0, 1, q.get NVM_CFG.NVM_DIV, 0⟩ }))) ∧
  (∀ (dt : Nat) (timeout : Bool) (s : State), s.awake dt = true →
    let p := s.pass dt
    let ends := fun t => exec (.nvmDone dt timeout) s = .next (s.finish t)
    let ended := fun (t : State) (f : Fld) => State.evt { (t.put NVM_STAT.BUSY 0).put NVM_STAT.WP 0 with nvm := none } f 0xC8
    (p.nvm = none → ends p) ∧
    (∀ j, p.nvm = some j →
      (j.phase ≠ .poll → ends p) ∧
      (j.phase = .poll → timeout = false → ends (ended p LDR_EVT.NVM_DONE)) ∧
      (j.phase = .poll → timeout = true → ends (ended (p.advanceTo (j.startAt + 4000000000)) LDR_EVT.NVM_FAIL)))) ∧
  (∀ (a : Access) (s : State), s.takes a true LDG_FW_DATA.reg 0 0 (wdata a) = true →
    let p := s.pass a.dt
    let n := p.ledger.queue.length
    let q : State := { p with ledger.queue := p.ledger.queue ++ [⟨.fw (p.get LDG_FW_ADDR.WORD) (wdata a), none⟩] }
    let r := q.put LDG_STAT.QUEUED (n + 1)
    let ends := fun t => exec (.ldgFwData a) s = .next (s.finish (State.setRsp t .okay 0))
    (16 ≤ p.ledger.fwUsed → ends (p.evt LDG_EVT.BUDGET 0xC9)) ∧
    (p.ledger.fwUsed < 16 → n < 16 → ends { r with ledger.fwUsed := p.ledger.fwUsed + 1 }) ∧
    (p.ledger.fwUsed < 16 → 16 ≤ n → ends (p.evt LDG_EVT.BUSY 0xC9))) ∧
  (∀ (t : State) (w d : Nat), t.ldgPlace (.fw w d) = [(0x1100 + w, d)]) ∧
  (∀ (a : Access) (s : State), s.takes a false LDG_RD_DATA.reg 0 0 0 = true →
    let p := s.pass a.dt
    let w := p.get (LDG_RD_ADDR.WORD.of a.init.val)
    let r := innerDecode (p.ldgRaw w).1 (p.ldgRaw w).2
    let ends := fun t => exec (.ldgRdData a) s = .next (s.finish (State.setRsp t .okay (r.1.land (accMask a LDG_RD_DATA.reg 0 0))))
    (r.2 = .good → ends p) ∧ (r.2 = .corrected → ends (p.evt LDG_EVT.CE 0xC9)) ∧ (r.2 = .bad → ends (p.evt LDG_EVT.UE 0xC9)))

/-- A served PROT_CMD outside TEST, SERVICE and RECOVERY is refused with MODE. COMMIT is refused with BUSY while the slot is APPROVED (the model, log 65: before its contents are judged), with INVALID where R489 finds a fault, and is else STAGED under the next number, skipping 0, with EXPIRE_TERM, its values and the SHA-256 digest of its record. APPROVE takes the first of NO_PROPOSAL, STALE_NUMBER, SAME_PARTY and DIGEST_MISMATCH that holds, else approves; CANCEL takes NO_PROPOSAL, STALE_NUMBER, or empties the slot. A refusal sets REFUSED and counts. EXPIRED is the next edge where it ends the term at whose end the STAGED proposal expires. APPLIED is the next edge where changes apply, the slot is APPROVED, LEDGER_AVAIL is 1 and the queue takes every request: a UNIT_OWNER change with a wrong generation then sets APPLY_FAIL and changes nothing else but STALE_CNT; else the role changes; an INIT_MAP change writes its register and a SECURE_PAGE change its own, and wipes the page; each such change is logged, signalled and counted. Enabled tamper inputs found active in one cycle are one detection: all are seen; in main-domain reset their records are deferred, else the region is wiped, the slot emptied, the lockout set where one of them is configured so, and one record requested. The lowest of them that may wake the block does. WIPE_DONE ends a wipe that needs no step. -/
def Obligations.HallPassAndTamper : Prop :=
  (∀ (a : Access) (s : State) (act : Nat), 1 ≤ act → act ≤ 3 →
    let i := if act = 1 then Instr.propCommit a else if act = 2 then .approve a else .propCancel a
    let w := setBits (wdata a) 0 2 act
    s.serves a PROT_CMD.reg 0 w = true →
    let p := s.pass a.dt
    let c := a.init.val
    let num := getBits w 32 32
    let stg := p.staged PROT_CMD.reg.base c
    let kind := stg.getD 0 0 % 2 ^ 4
    let target := getBits (stg.getD 0 0) 16 10
    let v := (stg.drop 1).take 6
    let st := p.get PROT_PROP_STAT.STATE
    let result := fun (t : State) reason n => t.setRg ((PROT_CMD_RES.reg.of c).key 0 0) (1 + (if reason = 0 then 0 else 2) + reason * 4 + n % 2 ^ 32 * 2 ^ 32)
    let ends := fun (t : State) => exec i s = .next (s.finish ((t.pmu evCmdServed 1).setRsp .okay 0))
    let refused := fun reason => ends (((result p reason num).evt PROT_EVT.REFUSED 0xD0).count PROT_CNT.COUNT 3)
    let served := p.mode = 1 ∨ p.mode = 2 ∨ p.mode = 3
    (¬ served → refused 7) ∧
    (served → act = 1 →
      (st = 2 → refused 2) ∧
      (st ≠ 2 → p.propBad kind target v = true → refused 1) ∧
      (st ≠ 2 → p.propBad kind target v = false →
        let n := if p.get PROT_PROP_STAT.PROP_NUM + 1 = 2 ^ 32 then 1 else p.get PROT_PROP_STAT.PROP_NUM + 1
        let dg := sha256 (propRecord kind target n c (p.get LDG_STAT.BOOT_COUNT) v)
        let q1 := p.setRg (PROT_PROP_STAT.reg.key 0 0) (1 + kind * 2 ^ 2 + target * 2 ^ 6 + c * 2 ^ 16 + n * 2 ^ 32)
        let q2 := q1.setRg (PROT_PROP_INFO.reg.key 0 0) ((q1.get GLB_TERM_NUM.TERM + q1.get PROT_CFG.EXPIRY_TERMS) % 2 ^ 32 * 2 ^ 32)
        let q3 := q2.forEach (List.range 6) (fun t i => t.put PROT_PROP_VAL.VAL (v.getD i 0) i)
        let q4 := q3.forEach (List.range 4) (fun t i => t.put PROT_PROP_DIGEST.DIGEST (beNat ((dg.drop (8 * i)).take 8)) i)
        ends ((((result q4 0 n).count PROT_CNT.COUNT 1).evt PROT_EVT.STAGED 0xD0).raise 0xD1))) ∧
    (served → act = 2 →
      (st ≠ 1 → refused 3) ∧
      (st = 1 → num ≠ p.get PROT_PROP_STAT.PROP_NUM → refused 4) ∧
      (st = 1 → num = p.get PROT_PROP_STAT.PROP_NUM → c = p.get PROT_PROP_STAT.PROPOSER → refused 5) ∧
      (st = 1 → num = p.get PROT_PROP_STAT.PROP_NUM → c ≠ p.get PROT_PROP_STAT.PROPOSER →
        (stg.getD 7 0 ≠ p.get PROT_PROP_DIGEST.DIGEST 3 → refused 6) ∧
        (stg.getD 7 0 = p.get PROT_PROP_DIGEST.DIGEST 3 →
          ends ((result ((p.put PROT_PROP_STAT.STATE 2).put PROT_PROP_INFO.APPROVER c) 0 num).evt PROT_EVT.APPROVED 0xD0)))) ∧
    (served → act = 3 →
      (st = 0 → refused 3) ∧
      (st ≠ 0 → num ≠ p.get PROT_PROP_STAT.PROP_NUM → refused 4) ∧
      (st ≠ 0 → num = p.get PROT_PROP_STAT.PROP_NUM → ends (result (p.put PROT_PROP_STAT.STATE 0) 0 num)))) ∧
  (∀ (t : State) (kind target : Nat) (v : List Nat),
    let v0 := v.getD 0 0
    let tail := ∃ x ∈ v.drop 1, x ≠ 0
    let lc := t.get LDG_STAT.LC
    let unset := fun (d : List Nat) => ∀ x ∈ d, x = 0
    let bad := t.propBad kind target v = true
    (kind = 1 → (bad ↔ 0x101 < target ∨ v0 / 2 ^ 54 ≠ 0 ∨ tail ∨ t.mapStands target v0 = false)) ∧
    (kind = 2 → (bad ↔ 15 < target ∨ v0 / 2 ^ 6 ≠ 0 ∨ tail)) ∧
    (kind = 3 → (bad ↔ unitValid target = false ∨ 3 < getBits v0 4 4 ∨ (7 < getBits v0 0 4 ∧ getBits v0 0 4 ≠ 0xF) ∨
      getBits v0 8 8 ≠ 0 ∨ v0 / 2 ^ 32 ≠ 0 ∨ tail)) ∧
    (kind = 4 → (bad ↔ 1 < target ∨ (∃ x ∈ v.drop 4, x ≠ 0) ∨
      (lc = 2 ∧ unset (v.take 4) ∧ unset (if target = 0 then t.ledger.td1 else t.ledger.td0)))) ∧
    (kind = 5 → (bad ↔ target ≠ 0 ∨ v0 / 2 ^ 3 ≠ 0 ∨ tail ∨ (lc, v0) ∉ [(0, 1), (0, 2), (0, 4), (1, 2), (1, 4), (2, 3), (2, 4), (3, 4)] ∨
      (v0 = 2 ∧ unset t.ledger.td0 ∧ unset t.ledger.td1))) ∧
    (kind = 6 → (bad ↔ target ≠ 0 ∨ v0 / 2 ^ 33 ≠ 0 ∨ tail ∨
      (t.get LDG_STAT.MIN_EN = 1 ∧ bitAt v0 32 = true ∧ wrapDiff 32 (getBits v0 0 32) t.ledger.genMin < 0) ∨
      (lc = 2 ∧ t.get LDG_STAT.MIN_EN = 1 ∧ bitAt v0 32 = false))) ∧
    (kind = 0 ∨ 6 < kind → bad)) ∧
  (∀ s : State, s.runs 0 = true →
    let p := s.pass 0
    let dies := p.endsTerm p.nextEdge = true ∧ p.get PROT_PROP_STAT.STATE = 1 ∧ p.get PROT_PROP_INFO.EXPIRE_TERM = (p.get GLB_TERM_NUM.TERM + 1) % 2 ^ 32
    let applies := p.changesApply = true ∧ p.get PROT_PROP_STAT.STATE = 2 ∧ p.get GLB_RAIL_STAT.LEDGER_AVAIL = 1 ∧
      p.ledger.queue.length + (if 4 ≤ p.get PROT_PROP_STAT.KIND then 2 else 1) ≤ 16
    (dies → exec .expired s = exec .bellEdge s) ∧ (¬ dies → exec .expired s = .next (s.finish p)) ∧
    (applies → exec .applied s = exec .bellEdge s) ∧ (¬ applies → exec .applied s = .next (s.finish p))) ∧
  (∀ t : State, (t.get PROT_PROP_STAT.STATE = 1 ∧ t.get PROT_PROP_INFO.EXPIRE_TERM = t.get GLB_TERM_NUM.TERM →
      t.propExpire = (t.put PROT_PROP_STAT.STATE 0).evt PROT_EVT.EXPIRED 0xD0) ∧
    (¬ (t.get PROT_PROP_STAT.STATE = 1 ∧ t.get PROT_PROP_INFO.EXPIRE_TERM = t.get GLB_TERM_NUM.TERM) → t.propExpire = t)) ∧
  (∀ (t : State) (toService : Bool),
    let k := t.get PROT_PROP_STAT.KIND
    let u := t.get PROT_PROP_STAT.TARGET
    let v := t.get PROT_PROP_VAL.VAL 0
    let f := (UnitFunc.ofCode (getBits v 4 4)).getD .idle
    let done := fun (x : State) => (((x.logChange.put PROT_PROP_STAT.STATE 0).evt PROT_EVT.APPLIED 0xD0).count PROT_CNT.COUNT 2).raise 0xD2
    (k = 3 → getBits v 16 16 ≠ (t.role u).gen.toNat →
      t.applyProposal toService = (((t.count GLB_STALE_CNT.COUNT).put PROT_PROP_STAT.STATE 0).evt PROT_EVT.APPLY_FAIL 0xD0, none)) ∧
    (k = 3 → getBits v 16 16 = (t.role u).gen.toNat →
      let x := if (t.role u).pend.isSome then t.put GLB_ROLE_STAT.BUSY 1 else t
      t.applyProposal toService = (done (x.setRole u ⟨ownerOf (getBits v 0 4), if toService = true ∧ f = .diag then .owned else f, (x.role u).gen + 1, none⟩), some u)) ∧
    (k = 1 → t.applyProposal toService = (done (t.setRg (PROT_INIT.reg.key u 0) v), none)) ∧
    (k = 2 → t.applyProposal toService = (done ((t.setRg (PROT_SECPAGE.reg.key u 0) (v % 2 ^ 32)).wipeStart 2 (2 ^ u)), none))) ∧
  (∀ (dt : Nat) (found : BitVec 8) (s : State), s.chip.aonOn = true →
    let p := s.pass dt
    let m := found.toNat.land (p.get TAMPER_CFG.EN)
    let v := (p.get TAMPER_STAT.LEVEL).lor (m.land (p.get TAMPER_CFG.POL))
    let q := p.put TAMPER_STAT.LEVEL (v - v.land (m - m.land (p.get TAMPER_CFG.POL)))
    let x := q.put TAMPER_STAT.SEEN ((q.get TAMPER_STAT.SEEN).lor m)
    let lock := decide ((x.get TAMPER_CFG.LOCKOUT).land m ≠ 0)
    let y := (((x.wipeAll.put PROT_PROP_STAT.STATE 0).evt PROT_EVT.TAMPER 0xD0).count PROT_CNT.COUNT 4)
    let z := if lock then y.put TAMPER_STAT.LOCKED_OUT 1 else y
    let ends := fun (t : State) => exec (.tamper dt found) s = .next (s.finish (t.wakeTamper m))
    (m = 0 → exec (.tamper dt found) s = .next (s.finish p)) ∧
    (m ≠ 0 →
      (x.chip.mainReset = true → ends (x.put TAMPER_STAT.LOG_PEND ((x.get TAMPER_STAT.LOG_PEND).lor m))) ∧
      (x.chip.mainReset = false → ends (z.ldgRequest (.log 2 (m + (if lock then 2 ^ 8 else 0))
        (if z.get TIME_STAT.RESTORED = 1 ∨ z.get TIME_STAT.STATE ≠ 0 then z.stNs else 0) z.tamperWord)).1))) ∧
  (∀ (t : State) (m : Nat),
    let first := (List.range 8).find? (fun j => bitAt m j && bitAt (t.get PWR_WAKE_EN.EN) (2 + j))
    (first = none → t.wakeTamper m = t) ∧ (∀ j, first = some j → t.wakeTamper m = t.wake 7 (2 + j))) ∧
  (∀ (dt : Nat) (s : State), s.runs dt = true →
    let p := s.pass dt
    let due := p.get PROT_SEC_STAT.WIPING = 1 ∧ (p.get PROT_SEC_STAT.CAUSE = 3 ∨ p.get PROT_SEC_STAT.PENDING = 0)
    (due → exec (.wipeDone dt) s = .next (s.finish (((p.setRg (PROT_SEC_STAT.reg.key 0 0) 0).evt PROT_EVT.WIPE_DONE 0xD0).raise 0xD3))) ∧
    (¬ due → exec (.wipeDone dt) s = .next (s.finish p)))

/-- DOZE enters from ACTIVE in SERVICE with no entry pending; WATCH there too, or, from DOZE, at the next edge, and never while KEEP_PORT is to be watched but released; DEEP from ACTIVE, DOZE or WATCH with AON_CK present; WAKE acts in ENTERING, DOZE and WATCH. Any other of these is refused, with REFUSED alone set; ACK lowers WAKE_OUT. Each ends the wait of a KEEP return. A wake decision loads CAUSE, DETAIL and FROM, raises WAKE_OUT and every PWR_REQ_PORT; from DEEP only an always-on source makes one, and it raises the rail requests; in ENTERING it aborts the entry, and goes on under R519 once E0 has passed; from DOZE and WATCH it does so always. STATE_REACHED comes 6 us after E1: every UP port enters recess, memories are retained, and the state is DOZE, or WATCH with the other ports released. DEEP_RESET, once the ledger queue is empty and nothing held, resets the main domain and drops the requests; DEEP_FAIL, at the time limit, sets DEEP_FAIL and wakes with ABORT. KEEP_RETURN is the next edge where a KEEP wake returns. A frame accepted while asleep wakes the block where its port is in the filtering set and it matches a pattern, the magic packet or the keeper, and stays only with KEEP_FRAME; else it is discarded and counted; a released receiver takes nothing. AON_TIMER clears EN and raises its source when the count reaches ALARM. -/
def Obligations.PowerControl : Prop :=
  (∀ (a : Access) (s : State) (act : Nat), 1 ≤ act → act ≤ 5 →
    let i := if act = 1 then Instr.doze a else if act = 2 then .watch a else if act = 3 then .deep a else if act = 4 then .wake a else .ack a
    let w := setBits (wdata a) 0 3 act
    s.takes a true PWR_CMD.reg 0 0 w = true →
    let p := s.pass a.dt
    let q : State := { p with pwr.keepLeft := none }
    let st := p.get PWR_STAT.STATE
    let idle := st = 0 ∧ p.mode = 2
    let pend := p.get PWR_STAT.PEND = 1
    let badKeep := q.get PWR_WATCH.KEEP_EN = 1 ∧ bitAt (q.get PWR_WATCH.WATCH_PORTS) (q.get PWR_WATCH.KEEP_PORT) = false
    let r := ((q.put PWR_STAT.PEND 1).put PWR_STAT.TARGET act).put PWR_STAT.WAKE_OUT 0
    let ends := fun t => exec i s = .next (s.finish (State.setRsp t .okay 0))
    let refused := ends (q.evt PWR_STAT.REFUSED 0xE0)
    (act = 1 → (idle ∧ ¬ pend → ends (r.pwrEnter 1)) ∧ (¬ (idle ∧ ¬ pend) → refused)) ∧
    (act = 2 → (pend ∨ badKeep → refused) ∧ (¬ (pend ∨ badKeep) →
      (idle → ends (r.pwrEnter 2)) ∧ (¬ idle → st = 2 → ends { r with pwr.watchNext := true }) ∧ (¬ idle → st ≠ 2 → refused))) ∧
    (act = 3 → (pend ∨ q.clkOn 12 = false → refused) ∧ (¬ (pend ∨ q.clkOn 12 = false) →
      (idle → ends (r.pwrEnter 3)) ∧
      (¬ idle → st = 2 ∨ st = 3 → ends ((State.unretain { r.put PWR_STAT.STATE 1 with pwr.e0 := true, pwr.e1 := true, pwr.watchNext := false }).deepDrain)) ∧
      (¬ idle → ¬ (st = 2 ∨ st = 3) → refused))) ∧
    (act = 4 → (st = 1 ∨ st = 2 ∨ st = 3 → ends (q.wake 1 0)) ∧ (¬ (st = 1 ∨ st = 2 ∨ st = 3) → refused)) ∧
    (act = 5 → ends (q.put PWR_STAT.WAKE_OUT 0))) ∧
  (∀ (t : State) (act : Nat),
    let q := ((t.put PWR_STAT.PEND 1).put PWR_STAT.TARGET act).put PWR_STAT.STATE 1
    t.pwrEnter act = { q with pwr.e0 := false, pwr.e1 := false, pwr.deepWait := none, pwr.watchNext := false, pwr.inWatch := false }) ∧
  (∀ (t : State) (cause detail : Nat),
    let st := t.get PWR_STAT.STATE
    let noted := fun (x : State) src =>
      let y := (((x.put PWR_STAT.CAUSE cause).put PWR_STAT.DETAIL detail).put PWR_STAT.FROM src).put PWR_STAT.WAKE_OUT 1
      ({ y with pwr.reqPort := 0x7FF } : State)
    let d := (noted t 5).put GLB_RST_CAUSE.DEEP_WAKE 1
    (t.chip.reqMain = false →
      (cause = 7 → t.wake cause detail = { d with chip.reqMain := true, chip.reqLedger := true, chip.wakeCause := true }) ∧
      (cause ≠ 7 → t.wake cause detail = t)) ∧
    (t.chip.reqMain = true → t.chip.mainReset = true → t.wake cause detail = t) ∧
    (t.chip.reqMain = true → t.chip.mainReset = false →
      (st = 1 → cause = 2 ∨ cause = 5 ∨ cause = 6 → t.wake cause detail = t) ∧
      (st = 1 → ¬ (cause = 2 ∨ cause = 5 ∨ cause = 6) →
        let x := noted (t.evt PWR_STAT.ENTRY_ABORT 0xE0) 1
        (x.pwr.e0 = true → t.wake cause detail = x.wakeStart) ∧
        (x.pwr.e0 = false → t.wake cause detail =
          State.count { (x.put PWR_STAT.STATE 0).put PWR_STAT.PEND 0 with pwr.deepWait := none } PWR_CNT.COUNT 0)) ∧
      (st = 2 ∨ st = 3 →
        (cause = 5 → t.wake cause detail = (noted { t with pwr.keepLeft := some (t.get PWR_WATCH.RETURN_BELLS) } st).wakeStart) ∧
        (cause ≠ 5 → t.wake cause detail = (noted { t with pwr.keepLeft := none } st).wakeStart)) ∧
      (st = 0 ∨ 3 < st → t.wake cause detail = { t with pwr.keepLeft := none }))) ∧
  (∀ t : State,
    let x := (t.put PWR_STAT.STATE 4).put PWR_STAT.PEND 0
    let y : State := { x with pwr.wakeAt := x.frc.toNat, pwr.watchNext := false, pwr.deepWait := none }
    t.wakeStart = ((y.count PWR_CNT.COUNT 0).latch 0x15).unretain) ∧
  (∀ s : State, s.runs 0 = true →
    let p := s.pass 0
    let due := p.get PWR_STAT.STATE = 1 ∧ p.pwr.e1 = true ∧ p.pwr.deepWait = none
    let q := p.advanceTo (p.pwr.e1At + 6000)
    let r := (q.forEach ((List.range 8).filter q.isUp) (fun t n => t.put PORT_LPI_STAT.TX_STATE 1 n)).retain
    (due → r.get PWR_STAT.TARGET = 2 → exec .stateReached s = .next (s.finish r.watchOn)) ∧
    (due → r.get PWR_STAT.TARGET ≠ 2 → exec .stateReached s = .next (s.finish ((r.put PWR_STAT.STATE 2).put PWR_STAT.PEND 0))) ∧
    (¬ due → exec .stateReached s = .next (s.finish p))) ∧
  (∀ t : State,
    let keep := t.get PWR_WATCH.WATCH_PORTS
    let u := ((t.forEach (((List.range 11).filter (bitAt (0x7FF - keep))).filter (fun u => decide (u < 8)))
      (fun t n => t.put PORT_LPI_STAT.TX_STATE 0 n)).put PWR_STAT.STATE 3).put PWR_STAT.PEND 0
    t.watchOn = { u with pwr.reqPort := BitVec.ofNat 11 keep, pwr.released := BitVec.ofNat 11 (0x7FF - keep), pwr.watchNext := false, pwr.inWatch := true }) ∧
  (∀ (dt : Nat) (s : State), s.runs dt = true →
    let p := s.pass dt
    let due := p.pwr.deepWait ≠ none ∧ p.get PWR_STAT.STATE = 1 ∧ p.ledger.queue = [] ∧ (p.get GLB_RAIL_STAT.LEDGER_AVAIL = 1 ∨ p.chip.start.held = [])
    (due → exec (.deepReset dt) s = .next (s.finish { p.mainReset with chip.reqMain := false, chip.reqLedger := false, pwr.reqPort := 0 })) ∧
    (¬ due → exec (.deepReset dt) s = .next (s.finish p))) ∧
  (∀ s : State, s.runs 0 = true →
    let p := s.pass 0
    (∀ e, p.pwr.deepWait = some e → p.get PWR_STAT.STATE = 1 → exec .deepFail s = .next (s.finish
      (((p.advanceTo (e + p.get PWR_CFG.DEEP_TMO_MS * 1000000)).evt PWR_STAT.DEEP_FAIL 0xE0).wake 8 0))) ∧
    (p.pwr.deepWait = none ∨ p.get PWR_STAT.STATE ≠ 1 → exec .deepFail s = .next (s.finish p)) ∧
    (let due := p.pwr.keepLeft = some 1 ∧ p.get PWR_STAT.STATE = 0 ∧ p.mode = 2
     (due → exec .keepReturn s = exec .bellEdge s) ∧ (¬ due → exec .keepReturn s = .next (s.finish p)))) ∧
  (∀ (dt : Nat) (n : Fin 8) (age : Nat) (lane : Fin 16) (b : List Byte) (s : State), s.runs dt = true →
    let p := s.pass dt
    let t := p.rxFrame n.val age lane.val (nats b)
    let asleep := fun (x : State) => x.mode = 4 ∧ (x.get PWR_STAT.STATE = 1 ∨ x.get PWR_STAT.STATE = 2 ∨ x.get PWR_STAT.STATE = 3)
    let out := p.pwr.released.toNat / 2 ^ n.val % 2 = 1 ∨ p.on PORT_MAC_CTRL.LOOP n.val = true
    let ends := fun t => exec (.sleepRxFrame dt n age lane b) s = .next (s.finish t)
    (¬ asleep p ∨ out → ends p) ∧
    (asleep p → ¬ out → (p.rxFifoOf n.val).length < (t.rxFifoOf n.val).length → ends (t.sleepFrame n.val)) ∧
    (asleep p → ¬ out → ¬ (p.rxFifoOf n.val).length < (t.rxFifoOf n.val).length → ends t)) ∧
  (∀ (t : State) (u : Nat),
    let fifo := t.rxFifoOf u
    (fifo = [] → t.sleepFrame u = t) ∧
    (∀ rest r, fifo = rest ++ [r] →
      let pats := (List.range 16).filter (t.patternHit u r.bytes)
      let magic := t.get PWR_CFG.MAGIC_EN = 1 ∧ holdsAt (magicBytes (t.get WAKE_MAGIC.ADDR)) r.bytes = true
      let hit := t.filters u = true ∧ (pats ≠ [] ∨ magic ∨ t.keeper u r.bytes = true)
      let x := t.forEach pats (fun t _ => t.latch 0x16)
      let y := if magic then x.latch 0x17 else x
      let z := if y.get PWR_CFG.KEEP_FRAME = 1 then y else y.setRxFifo u rest
      (¬ hit → t.sleepFrame u = (t.setRxFifo u rest).count PWR_CNT.COUNT 1) ∧
      (hit → ∀ k l, pats = k :: l → t.sleepFrame u = z.wake 3 k) ∧
      (hit → pats = [] → magic → t.sleepFrame u = z.wake 4 u) ∧
      (hit → pats = [] → ¬ magic → t.sleepFrame u = z.wake 5 u))) ∧
  (∀ s : State, s.alive = true →
    let p := s.pass 0
    let due := p.get PWR_AON_ALARM.EN = 1 ∧ p.clkOn 12 = true ∧ p.get PWR_AON_CNT.COUNT ≤ p.get PWR_AON_ALARM.ALARM
    (due → exec .aonTimer s = .next (s.finish ((((p.advanceAon (p.get PWR_AON_ALARM.ALARM)).put PWR_AON_ALARM.EN 0).latch 0x12).wakeAonSrc 0x12))) ∧
    (¬ due → exec .aonTimer s = .next (s.finish p)))

/-- A change of the raw level restarts the debounce time and counts in its chatter window of 32,768 cycles; change CHATTER_CNT + 1 of a window enters CHATTER, reported. While AON_CK is absent the level is only seen (the model's choice, log 76). When the raw level has held for the debounce time the debounced level follows: INACTIVE becomes ACTIVE with PRESS, ACTIVE becomes INACTIVE with RELEASE, STUCK becomes INACTIVE with CLEAR; in CHATTER nothing more. LONG_S after PRESS, where not 0, the LONG flag is set and LONG reported, once; STUCK_S after it the input is STUCK, reported, after a LONG due by then. QUAR_S after its entry CHATTER ends by the debounced level, with CLEAR, and PRESS or RELEASE where the level differs from that at entry. A report sets its bit of PANEL_EVT and the latch 0x18, and counts while the main domain runs; for a module input PRESS and RELEASE load ABS and set MOD_IN or MOD_OUT; PRESS of a button, PRESS and RELEASE of a module input, are wake events. -/
def Obligations.PanelInputs : Prop :=
  (∀ (dt : Nat) (k : Fin 4) (level : Bool) (s : State), s.alive = true →
    let p := s.pass dt
    let x := p.panelIn k.val
    let c := p.get PWR_AON_CNT.COUNT
    let n := if c / 32768 = x.window then x.changes + 1 else 1
    let y : PanelIn := { x with raw := level, changeAt := c, changes := n, window := c / 32768 }
    let chatters := n = p.get PANEL_CFG.CHATTER_CNT k.val + 1 ∧ p.panelState k.val ≠ 3
    let q := p.setPanelIn k.val { y with since := c, chatLevel := p.panelLevel k.val }
    let ends := fun t => exec (.panelRawChange dt k level) s = .next (s.finish t)
    (x.raw = level → ends p) ∧
    (x.raw ≠ level → p.clkOn 12 = false → ends (p.setPanelIn k.val { x with raw := level, changeAt := c })) ∧
    (x.raw ≠ level → p.clkOn 12 = true →
      (chatters → ends ((q.put (panelStateF k.val) 3).panelReport k.val 4)) ∧ (¬ chatters → ends (p.setPanelIn k.val y)))) ∧
  (∀ (k : Fin 4) (s : State), s.alive = true →
    let p := s.pass 0
    let x := p.panelIn k.val
    let due := x.raw ≠ p.panelLevel k.val ∧ p.clkOn 12 = true
    let q := p.advanceAon (x.changeAt + (p.get PANEL_CFG.DEBOUNCE_MS k.val * 32768 + 999) / 1000)
    (due → exec (.press k) s = .next (s.finish (q.panelChange k.val x.raw))) ∧ (¬ due → exec (.press k) s = .next (s.finish p))) ∧
  (∀ (t : State) (k : Nat) (level : Bool),
    let st := t.panelState k
    let q := t.put (panelLevelF k) (if level then 1 else 0)
    let off := (q.put (panelStateF k) 0).put (panelLongF k) 0
    (st = 0 → level = false → t.panelChange k level = (q.panelOn k).panelReport k 0) ∧
    (st = 1 → level = true → t.panelChange k level = off.panelReport k 1) ∧
    (st = 2 → level = true → t.panelChange k level = off.panelReport k 5) ∧
    (¬ (st = 0 ∧ level = false) → ¬ ((st = 1 ∨ st = 2) ∧ level = true) → t.panelChange k level = q)) ∧
  (∀ (t : State) (k : Nat),
    let q := t.put (panelStateF k) 1
    t.panelOn k = q.setPanelIn k { t.panelIn k with since := t.get PWR_AON_CNT.COUNT, longDone := false }) ∧
  (∀ (k : Fin 4) (s : State), s.alive = true →
    let p := s.pass 0
    let x := p.panelIn k.val
    let tl := p.get PANEL_CFG.LONG_S k.val
    let ts := p.get PANEL_CFG.STUCK_S k.val
    let long := p.panelState k.val = 1 ∧ tl ≠ 0 ∧ x.longDone = false ∧ p.clkOn 12 = true
    let q := (p.advanceAon (x.since + tl * 32768)).setPanelIn k.val { x with longDone := true }
    let r := (q.put (panelLongF k.val) 1).panelReport k.val 2
    let stuck := p.panelState k.val = 1 ∧ ts ≠ 0 ∧ p.clkOn 12 = true
    let sticks := fun (t : State) => ((t.advanceAon (x.since + ts * 32768)).put (panelStateF k.val) 2).panelReport k.val 3
    (long → exec (.long k) s = .next (s.finish r)) ∧
    (¬ long → exec (.long k) s = .next (s.finish p)) ∧
    (stuck → long ∧ tl ≤ ts → exec (.stuck k) s = .next (s.finish (sticks r))) ∧
    (stuck → ¬ (long ∧ tl ≤ ts) → exec (.stuck k) s = .next (s.finish (sticks p))) ∧
    (¬ stuck → exec (.stuck k) s = .next (s.finish p))) ∧
  (∀ (k : Fin 4) (s : State), s.alive = true →
    let p := s.pass 0
    let x := p.panelIn k.val
    let due := p.panelState k.val = 3 ∧ p.clkOn 12 = true
    let q := p.advanceAon (x.since + p.get PANEL_CFG.QUAR_S k.val * 32768)
    let up := q.panelLevel k.val
    let r := (if up then (q.put (panelStateF k.val) 0).put (panelLongF k.val) 0 else q.panelOn k.val).panelReport k.val 5
    let ends := fun t => exec (.quarantineEnd k) s = .next (s.finish t)
    (due → up = x.chatLevel → ends r) ∧
    (due → up ≠ x.chatLevel → ends (r.panelReport k.val (if up then 1 else 0))) ∧
    (¬ due → ends p)) ∧
  (∀ (t : State) (k kind : Nat),
    let f : Fld := ⟨PANEL_EVT.reg.base, 0, 0, 6 * k + kind, 1⟩
    let q := (t.put f 1).latch 0x18
    let r := if q.chip.mainReset then q else q.count PWR_CNT.COUNT 2
    let n := k - 2
    let m := (r.put PORT_MOD_CTRL.ABS kind n).modDrive n
    (k < 2 → kind = 0 → t.panelReport k kind = r.wakeAonSrc k) ∧
    (k < 2 → kind ≠ 0 → t.panelReport k kind = r) ∧
    (2 ≤ k → 1 < kind → t.panelReport k kind = r) ∧
    (2 ≤ k → r.chip.mainReset = true → kind ≤ 1 → t.panelReport k kind = r.wakeAonSrc (0x0E + k)) ∧
    (2 ≤ k → r.chip.mainReset = false → kind = 0 → t.panelReport k kind = (m.pevt PORT_EVT.MOD_IN n).wakeAonSrc (0x0E + k)) ∧
    (2 ≤ k → r.chip.mainReset = false → kind = 1 → t.panelReport k kind = (m.pevt PORT_EVT.MOD_OUT n).wakeAonSrc (0x0E + k)))

/-- Whatever command a step takes in manufacturing test, the block is still in it afterwards unless the command is PORST with a pulse that is not filtered (100 ns or more), the always-on power-on reset, or the fall of VDD_AON, which asserts that reset; and every command but these and the tamper inputs leaves the state as it was, the queue apart. With an empty queue nothing changes. (A tamper detection or a filtered pulse while START still reads the ledger is left out: R80 ignores the test inputs until that read has ended.) -/
def Obligations.ManufacturingTestEndsByReset : Prop :=
  ∀ s t : State, s.chip.mfgTest = true → step s = .next t →
    (t.chip.mfgTest = true ∨
      (∃ rest dt, s.pending = .aonPor dt :: rest ∨ s.pending = .vddAonFall dt :: rest ∨
        (∃ low back, (100 ≤ low ∨ s.reading = true) ∧ s.pending = .porst dt ⟨low, back⟩ :: rest) ∨ (s.reading = true ∧ ∃ j, s.pending = .tamper dt j :: rest))) ∧
    (s.pending = [] → t = { s with intOut := s.lines }) ∧
    (∀ c rest, s.pending = c :: rest → (siteOf c).dom ≠ .chip → t = { s with pending := rest, intOut := s.lines })
end

