-- ==== Sys2Proof/Laws/Maps.lean ====
section
/-! SUPPORT. Sparse maps and byte memories: a read after a write, and the canonical form that every write keeps. -/

namespace Sys2Proof.Machine

open Sys2Proof

section
variable {α : Type}

theorem mapGet_mapIns_same (d : Nat → α) (m : List (Nat × α)) (k : Nat) (v : α) (h : ∀ e ∈ m, e.1 ≠ k) :
    mapGet d (mapIns k v m) k = v := by
  fun_induction mapIns k v m <;> simp_all [mapGet, @eq_comm _ k]

theorem mapGet_mapIns_other (d : Nat → α) (m : List (Nat × α)) (k j : Nat) (v : α) (h : j ≠ k) :
    mapGet d (mapIns k v m) j = mapGet d m j := by
  fun_induction mapIns k v m <;> grind [mapGet]

theorem mapDel_no_key (m : List (Nat × α)) (k : Nat) : ∀ e ∈ mapDel k m, e.1 ≠ k := by
  fun_induction mapDel k m <;> grind

theorem mapGet_mapDel_same (d : Nat → α) (m : List (Nat × α)) (k : Nat) : mapGet d (mapDel k m) k = d k := by
  fun_induction mapDel k m <;> grind [mapGet]

theorem mapGet_mapDel_other (d : Nat → α) (m : List (Nat × α)) (k j : Nat) (h : j ≠ k) :
    mapGet d (mapDel k m) j = mapGet d m j := by
  fun_induction mapDel k m <;> grind [mapGet]

theorem mapDel_sublist (m : List (Nat × α)) (k : Nat) : (mapDel k m).Sublist m := by
  fun_induction mapDel k m <;> grind [List.Sublist]

theorem mapIns_mem (m : List (Nat × α)) (k : Nat) (v : α) (x : Nat × α) (hx : x ∈ mapIns k v m) : x = (k, v) ∨ x ∈ m := by
  fun_induction mapIns k v m <;> grind

theorem mapIns_sorted (m : List (Nat × α)) (k : Nat) (v : α) (hs : m.Pairwise (fun x y => x.1 < y.1))
    (hk : ∀ e ∈ m, e.1 ≠ k) : (mapIns k v m).Pairwise (fun x y => x.1 < y.1) := by
  fun_induction mapIns k v m with
  | case1 => exact List.pairwise_singleton _ _
  | case2 a w m hlt =>
    have first := (List.pairwise_cons.1 hs).1
    exact List.pairwise_cons.2 ⟨by grind, hs⟩
  | case3 a w m hge ih =>
    obtain ⟨first, rest⟩ := List.pairwise_cons.1 hs
    have other := hk (a, w) List.mem_cons_self
    exact List.pairwise_cons.2 ⟨by grind [→ mapIns_mem], ih rest (by grind)⟩

variable [DecidableEq α]

/-- A key reads as it was written. -/
theorem mapGet_mapSet_same (d : Nat → α) (m : List (Nat × α)) (k : Nat) (v : α) : mapGet d (mapSet d m k v) k = v := by
  by_cases hv : v = d k
  · simp [mapSet, hv, mapGet_mapDel_same]
  · simp [mapSet, hv, mapGet_mapIns_same d _ k v (mapDel_no_key m k)]

/-- A write leaves every other key as it was. -/
theorem mapGet_mapSet_other (d : Nat → α) (m : List (Nat × α)) (k j : Nat) (v : α) (h : j ≠ k) :
    mapGet d (mapSet d m k v) j = mapGet d m j := by
  by_cases hv : v = d k
  · simp [mapSet, hv, mapGet_mapDel_other d m k j h]
  · simp [mapSet, hv, mapGet_mapIns_other d _ k j v h, mapGet_mapDel_other d m k j h]

theorem mapGet_mapSet (d : Nat → α) (m : List (Nat × α)) (k j : Nat) (v : α) :
    mapGet d (mapSet d m k v) j = if j = k then v else mapGet d m j := by
  by_cases h : j = k
  · subst h
    simp [mapGet_mapSet_same]
  · simp [h, mapGet_mapSet_other d m k j v h]

/-- The canonical form says that keys rise and no entry is the unlisted value. -/
theorem mapWf_iff (d : Nat → α) (m : List (Nat × α)) :
    mapWf d m = true ↔ m.Pairwise (fun x y => x.1 < y.1) ∧ ∀ e ∈ m, e.2 ≠ d e.1 := by
  fun_induction mapWf d m with
  | case1 => simp
  | case2 a w m ih =>
    rw [Bool.and_eq_true, ih, List.pairwise_cons]
    cases m <;> simp <;> grind [List.pairwise_cons]

/-- A write keeps the canonical form. -/
theorem mapSet_wf (d : Nat → α) (m : List (Nat × α)) (k : Nat) (v : α) (h : mapWf d m = true) :
    mapWf d (mapSet d m k v) = true := by
  rw [mapWf_iff] at h ⊢
  have left := mapDel_sublist m k
  have rising := h.1.sublist left
  have listed (e) (he : e ∈ mapDel k m) := h.2 e (left.subset he)
  unfold mapSet
  split
  · exact ⟨rising, listed⟩
  · exact ⟨mapIns_sorted _ k v rising (mapDel_no_key m k), by grind [→ mapIns_mem]⟩

end

/-! Byte memories. -/

/-- A byte reads as it was written, and a write leaves every other byte as it was. -/
theorem memByte_memPut (m : List Host.Cell) (a b : Nat) (v : Byte) :
    memByte (memPut m a v) b = if b = a then v else memByte m b := mapGet_mapSet zeroByte m a b v

/-- Writing a byte keeps the canonical form. -/
theorem memPut_wf (m : List Host.Cell) (a : Nat) (v : Byte) (h : memWf m = true) : memWf (memPut m a v) = true :=
  mapSet_wf zeroByte m a v h

/-- Writing bytes keeps the canonical form. -/
theorem memWrite_wf (m : List Host.Cell) (a : Nat) (bs : List Nat) (h : memWf m = true) : memWf (memWrite m a bs) = true := by
  induction bs generalizing m a with
  | nil => exact h
  | cons b bs ih => exact ih _ _ (memPut_wf m a _ h)

/-- Writing bytes leaves every byte outside them as it was. -/
theorem memByte_memWrite_outside (m : List Host.Cell) (a b : Nat) (bs : List Nat) (h : b < a ∨ a + bs.length ≤ b) :
    memByte (memWrite m a bs) b = memByte m b := by
  induction bs generalizing m a with
  | nil => rfl
  | cons x bs ih =>
    simp only [List.length_cons] at h
    rw [memWrite, ih _ _ (by omega), memByte_memPut, if_neg (by omega)]

/-- Written bytes read as they were written. -/
theorem memByte_memWrite_inside (m : List Host.Cell) (a i : Nat) (bs : List Nat) (h : i < bs.length) :
    memByte (memWrite m a bs) (a + i) = BitVec.ofNat 8 (bs.getD i 0) := by
  induction bs generalizing m a i with
  | nil => simp at h
  | cons x bs ih =>
    cases i with
    | zero => rw [memWrite, memByte_memWrite_outside _ _ _ _ (by omega), memByte_memPut, if_pos (Nat.add_zero a)]; rfl
    | succ i =>
      have := ih (memPut m a (BitVec.ofNat 8 x)) (a + 1) i (by simpa using h)
      rw [memWrite, show a + (i + 1) = a + 1 + i by omega, this]
      rfl

end Sys2Proof.Machine
end

