-- ==== Sys2Proof/Laws/Regs.lean ====
section
/-! SUPPORT. Registers and their fields: what a read gives after a write of the same field, of another field of the same register,
and of another register. -/

namespace Sys2Proof.Machine

open Sys2Proof

/-! Bits. -/

theorem getBits_lt (v lo w : Nat) : getBits v lo w < 2 ^ w := Nat.mod_lt _ (Nat.two_pow_pos w)

theorem getBits_whole (v w : Nat) : getBits v 0 w = v % 2 ^ w := by simp [getBits]

theorem getBits_testBit (v lo w i : Nat) : (getBits v lo w).testBit i = (decide (i < w) && v.testBit (lo + i)) := by
  rw [getBits, Nat.testBit_mod_two_pow, Nat.testBit_div_two_pow, Nat.add_comm i lo]

/-- A word with a field replaced: the bits above, the new field, the bits below. -/
theorem setBits_eq (v lo w x : Nat) :
    setBits v lo w x = v / 2 ^ (lo + w) * 2 ^ (lo + w) + (x % 2 ^ w * 2 ^ lo + v % 2 ^ lo) := by
  have h1 : v / 2 ^ lo = v / 2 ^ lo / 2 ^ w * 2 ^ w + v / 2 ^ lo % 2 ^ w := by
    rw [Nat.mul_comm]; exact (Nat.div_add_mod _ _).symm
  have h2 : v = v / 2 ^ lo * 2 ^ lo + v % 2 ^ lo := by
    rw [Nat.mul_comm]; exact (Nat.div_add_mod _ _).symm
  have h3 : v / 2 ^ (lo + w) = v / 2 ^ lo / 2 ^ w := by rw [Nat.pow_add, Nat.div_div_eq_div_mul]
  have h4 : v = v / 2 ^ (lo + w) * 2 ^ (lo + w) + getBits v lo w * 2 ^ lo + v % 2 ^ lo := by
    rw [h3, getBits, Nat.pow_add]
    calc v = v / 2 ^ lo * 2 ^ lo + v % 2 ^ lo := h2
      _ = (v / 2 ^ lo / 2 ^ w * 2 ^ w + v / 2 ^ lo % 2 ^ w) * 2 ^ lo + v % 2 ^ lo := by rw [← h1]
      _ = _ := by rw [Nat.add_mul, Nat.mul_assoc, Nat.mul_comm (2 ^ w)]
  have h5 : getBits v lo w * 2 ^ lo ≤ v := by
    rw [h4]
    have : getBits (v / 2 ^ (lo + w) * 2 ^ (lo + w) + getBits v lo w * 2 ^ lo + v % 2 ^ lo) lo w = getBits v lo w := by
      rw [← h4]
    rw [this]
    omega
  rw [setBits]
  generalize getBits v lo w * 2 ^ lo = g at *
  generalize v / 2 ^ (lo + w) * 2 ^ (lo + w) = a at *
  generalize x % 2 ^ w * 2 ^ lo = y at *
  omega

theorem setBits_testBit (v lo w x i : Nat) :
    (setBits v lo w x).testBit i = if lo ≤ i ∧ i < lo + w then x.testBit (i - lo) else v.testBit i := by
  have hlow : x % 2 ^ w * 2 ^ lo + v % 2 ^ lo < 2 ^ (lo + w) := by
    have ha : x % 2 ^ w + 1 ≤ 2 ^ w := Nat.mod_lt _ (Nat.two_pow_pos w)
    have hb : v % 2 ^ lo < 2 ^ lo := Nat.mod_lt _ (Nat.two_pow_pos lo)
    calc x % 2 ^ w * 2 ^ lo + v % 2 ^ lo < x % 2 ^ w * 2 ^ lo + 2 ^ lo := by omega
      _ = (x % 2 ^ w + 1) * 2 ^ lo := by rw [Nat.add_mul, Nat.one_mul]
      _ ≤ 2 ^ w * 2 ^ lo := Nat.mul_le_mul_right _ ha
      _ = 2 ^ (lo + w) := by rw [Nat.pow_add, Nat.mul_comm]
  have hmod : v % 2 ^ lo < 2 ^ lo := Nat.mod_lt _ (Nat.two_pow_pos lo)
  rw [setBits_eq, Nat.mul_comm, Nat.testBit_two_pow_mul_add _ hlow, Nat.mul_comm (x % 2 ^ w),
    Nat.testBit_two_pow_mul_add _ hmod, Nat.testBit_mod_two_pow, Nat.testBit_mod_two_pow, Nat.testBit_div_two_pow]
  by_cases h1 : i < lo + w
  · by_cases h2 : i < lo
    · simp [h1, h2, show ¬lo ≤ i by omega]
    · simp [h1, h2, show lo ≤ i by omega, show i - lo < w by omega]
  · simp [h1, show i - (lo + w) + (lo + w) = i by omega]

theorem setBits_lt (v lo w x n : Nat) (hv : v < 2 ^ n) (h : lo + w ≤ n) : setBits v lo w x < 2 ^ n := by
  apply Nat.lt_pow_two_of_testBit
  intro i hi
  rw [setBits_testBit, if_neg (by omega)]
  exact Nat.testBit_lt_two_pow (Nat.lt_of_lt_of_le hv (Nat.pow_le_pow_right (by omega) hi))

/-- A field reads as it was set, cut to its width. -/
theorem getBits_setBits_same (v lo w x : Nat) : getBits (setBits v lo w x) lo w = x % 2 ^ w := by
  apply Nat.eq_of_testBit_eq
  intro i
  rw [getBits_testBit, setBits_testBit, Nat.testBit_mod_two_pow]
  by_cases h : i < w
  · simp [h]
  · simp [h]

/-- Setting a field leaves every field that shares no bit with it as it was. -/
theorem getBits_setBits_other (v lo w x lo' w' : Nat) (h : lo + w ≤ lo' ∨ lo' + w' ≤ lo) :
    getBits (setBits v lo w x) lo' w' = getBits v lo' w' := by
  apply Nat.eq_of_testBit_eq
  intro i
  rw [getBits_testBit, getBits_testBit, setBits_testBit]
  by_cases hi : i < w'
  · rw [if_neg (by omega)]
  · simp [hi]

/-! Registers. -/

theorem State.rg_lt (s : State) (k : Nat) : s.rg k < 2 ^ 64 := (mapGet resetWord s.regs k).isLt

/-- A register reads as it was stored, cut to 64 bits; every other register is as it was. -/
theorem State.rg_setRg (s : State) (k v j : Nat) : (s.setRg k v).rg j = if j = k then v % 2 ^ 64 else s.rg j := by
  simp only [State.rg, State.setRg, mapGet_mapSet]
  split
  · simp
  · rfl

@[simp] theorem State.rg_setRg_same (s : State) (k v : Nat) : (s.setRg k v).rg k = v % 2 ^ 64 := by simp [State.rg_setRg]

theorem State.rg_setRg_other (s : State) (k v j : Nat) (h : j ≠ k) : (s.setRg k v).rg j = s.rg j := by
  simp [State.rg_setRg, h]

/-- Registers stay in canonical form. -/
theorem State.setRg_wf (s : State) (k v : Nat) (h : mapWf resetWord s.regs = true) :
    mapWf resetWord (s.setRg k v).regs = true := mapSet_wf _ _ _ _ h

theorem State.put_wf (s : State) (f : Fld) (v i j : Nat) (h : mapWf resetWord s.regs = true) :
    mapWf resetWord (s.put f v i j).regs = true := State.setRg_wf _ _ _ h

theorem State.rg_put_same (s : State) (f : Fld) (v i j : Nat) (h : f.lo + f.w ≤ 64) :
    (s.put f v i j).rg (f.key i j) = setBits (s.rg (f.key i j)) f.lo f.w v := by
  rw [State.put, State.rg_setRg_same, Nat.mod_eq_of_lt (setBits_lt _ _ _ _ _ (s.rg_lt _) h)]

theorem State.rg_put_other (s : State) (f : Fld) (v i j k : Nat) (h : k ≠ f.key i j) :
    (s.put f v i j).rg k = s.rg k := State.rg_setRg_other _ _ _ _ h

/-- A field reads as it was put, cut to its width. -/
theorem State.get_put_same (s : State) (f : Fld) (v i j : Nat) (h : f.lo + f.w ≤ 64) :
    (s.put f v i j).get f i j = v % 2 ^ f.w := by
  rw [State.get, State.rg_put_same _ _ _ _ _ h, getBits_setBits_same]

/-- Putting a field leaves the fields of every other register as they were. -/
theorem State.get_put_key (s : State) (f g : Fld) (v i j i' j' : Nat) (h : g.key i' j' ≠ f.key i j) :
    (s.put f v i j).get g i' j' = s.get g i' j' := by
  rw [State.get, State.get, State.rg_put_other _ _ _ _ _ _ h]

/-- Putting a field leaves the fields of its own register that share no bit with it as they were. -/
theorem State.get_put_bits (s : State) (f g : Fld) (v i j i' j' : Nat) (hk : g.key i' j' = f.key i j)
    (hf : f.lo + f.w ≤ 64) (h : f.lo + f.w ≤ g.lo ∨ g.lo + g.w ≤ f.lo) :
    (s.put f v i j).get g i' j' = s.get g i' j' := by
  rw [State.get, State.get, hk, State.rg_put_same _ _ _ _ _ hf, getBits_setBits_other _ _ _ _ _ _ h]

/-- Registers are read from the register map alone. -/
theorem State.rg_congr {s t : State} (k : Nat) (h : s.regs = t.regs) : s.rg k = t.rg k := by rw [State.rg, h, State.rg]

theorem State.get_congr {s t : State} (f : Fld) (i j : Nat) (h : s.regs = t.regs) : s.get f i j = t.get f i j := by
  rw [State.get, State.rg_congr _ h, State.get]

theorem State.get_lt (s : State) (f : Fld) (i j : Nat) : s.get f i j < 2 ^ f.w := getBits_lt _ _ _

end Sys2Proof.Machine
end

