-- ==== Sys2Proof/Laws/Hidden.lean ====
section
/-! SUPPORT. Reads after writes of the sparse maps that hold the state of ports, which no register shows. -/

namespace Sys2Proof.Machine

open Sys2Proof

theorem State.port_setPort (s : State) (n : Nat) (x : PortSt) (k : Nat) :
    (s.setPort n x).port k = if k = n then x else s.port k := by
  simp only [State.port, State.setPort, mapGet_mapSet]

@[simp] theorem State.port_onPort_same (s : State) (n : Nat) (f : PortSt → PortSt) : (s.onPort n f).port n = f (s.port n) := by
  rw [State.onPort, State.port_setPort, if_pos rfl]

theorem State.port_onPort_other (s : State) (n k : Nat) (f : PortSt → PortSt) (h : k ≠ n) : (s.onPort n f).port k = s.port k := by
  rw [State.onPort, State.port_setPort, if_neg h]

theorem State.rad_setRad (s : State) (n : Nat) (x : RadSt) (k : Nat) :
    (s.setRad n x).rad k = if k = n then x else s.rad k := by
  simp only [State.rad, State.setRad, mapGet_mapSet]

@[simp] theorem State.rad_onRad_same (s : State) (n : Nat) (f : RadSt → RadSt) : (s.onRad n f).rad n = f (s.rad n) := by
  rw [State.onRad, State.rad_setRad, if_pos rfl]

theorem State.rad_onRad_other (s : State) (n k : Nat) (f : RadSt → RadSt) (h : k ≠ n) : (s.onRad n f).rad k = s.rad k := by
  rw [State.onRad, State.rad_setRad, if_neg h]

end Sys2Proof.Machine
end

