-- ==== Sys2Proof/Laws/Intr.lean ====
section
/-! SUPPORT. What the interrupt controller can change: registers of its own range, and the time of a source's first event. -/

namespace Sys2Proof.Machine

open Sys2Proof

/-- Every register of the interrupt controller that a field names at or above 0xC8800 lies there for every element. -/
theorem key_ge (f : Fld) (i j b : Nat) (h : b ≤ f.base) : b ≤ f.key i j := by
  simp only [Fld.key]; omega

theorem State.rg_put_low (s : State) (f : Fld) (v i j k : Nat) (h : k < f.base) : (s.put f v i j).rg k = s.rg k :=
  State.rg_put_other s f v i j k (by have := key_ge f i j f.base (Nat.le_refl _); omega)

theorem State.rg_countN_low (s : State) (f : Fld) (n i j k : Nat) (h : k < f.base) : (s.countN f n i j).rg k = s.rg k :=
  State.rg_put_low s f _ i j k h

theorem State.rg_count_low (s : State) (f : Fld) (i j k : Nat) (h : k < f.base) : (s.count f i j).rg k = s.rg k :=
  State.rg_put_low s f _ i j k h

/-- Presenting a source leaves every register below INT_SRC_STAT as it is. -/
theorem State.rg_present (s : State) (n k : Nat) (h : k < 0xC8800) : (s.present n).rg k = s.rg k := by
  have h1 : k < INT_SRC_STAT.PRESENTED.base := h
  have h2 : k < INT_SRC_STAT.TARGET.base := h
  have h3 : k < INT_SRC_STAT.LAST.base := h
  have h4 : k < INT_CNT.COUNT.base := Nat.lt_trans h (by decide)
  unfold State.present
  split
  · rfl
  · dsimp only
    repeat' split
    all_goals simp only [State.rg_count_low, State.rg_put_low, h1, h2, h3, h4]

/-- Bringing a source up to date leaves every register below INT_SRC_STAT as it is. -/
theorem State.rg_intEval (s : State) (n k : Nat) (h : k < 0xC8800) : (s.intEval n).rg k = s.rg k := by
  have h1 : k < INT_SRC_STAT.PRESENTED.base := h
  have h4 : k < INT_CNT.COUNT.base := Nat.lt_trans h (by decide)
  unfold State.intEval
  dsimp only
  repeat' split
  all_goals simp only [State.rg_present, State.rg_count_low, State.rg_put_low, h, h1, h4]

/-- An event leaves every register below INT_SRC_STAT as it is. -/
theorem State.rg_raise (s : State) (n k : Nat) (h : k < 0xC8800) : (s.raise n).rg k = s.rg k := by
  have h1 : k < INT_SRC_STAT.PEND.base := h
  have h2 : k < INT_SRC_STAT.HELD.base := h
  have h4 : k < INT_CNT.COUNT.base := Nat.lt_trans h (by decide)
  unfold State.raise
  split
  · dsimp only
    rw [State.rg_intEval _ _ _ h, State.rg_put_low _ _ _ _ _ _ h1]
    repeat' split
    all_goals simp only [State.rg_count_low, State.rg_put_low, h2, h4]
    all_goals rfl
  · rfl

/-- An event bit that sets leaves every other register below INT_SRC_STAT as it is. -/
theorem State.rg_evt (s : State) (f : Fld) (src i k : Nat) (h : k < 0xC8800) (hk : k ≠ f.key i 0) :
    (s.evt f src i).rg k = s.rg k := by
  rw [State.evt, State.rg_intEval _ _ _ h, State.rg_put_other _ _ _ _ _ _ hk]

theorem State.get_raise (s : State) (n : Nat) (f : Fld) (i j : Nat) (h : f.key i j < 0xC8800) :
    (s.raise n).get f i j = s.get f i j := by rw [State.get, State.rg_raise _ _ _ h, State.get]

theorem State.get_evt (s : State) (f : Fld) (src i : Nat) (g : Fld) (i' j' : Nat) (h : g.key i' j' < 0xC8800)
    (hk : g.key i' j' ≠ f.key i 0) : (s.evt f src i).get g i' j' = s.get g i' j' := by
  rw [State.get, State.rg_evt _ _ _ _ _ h hk, State.get]

/-- Do two states differ in registers alone? -/
def SameButRegs (s t : State) : Prop := ∃ r, t = { s with regs := r }

theorem SameButRegs.refl (s : State) : SameButRegs s s := ⟨s.regs, rfl⟩

theorem SameButRegs.trans {s t u : State} (h : SameButRegs s t) (g : SameButRegs t u) : SameButRegs s u := by
  obtain ⟨r, rfl⟩ := h
  obtain ⟨q, rfl⟩ := g
  exact ⟨q, rfl⟩

theorem SameButRegs.setRg {s t : State} (h : SameButRegs s t) (k v : Nat) : SameButRegs s (t.setRg k v) :=
  h.trans ⟨_, rfl⟩

theorem SameButRegs.put {s t : State} (h : SameButRegs s t) (f : Fld) (v i j : Nat) : SameButRegs s (t.put f v i j) :=
  h.trans ⟨_, rfl⟩

theorem SameButRegs.count {s t : State} (h : SameButRegs s t) (f : Fld) (i j : Nat) : SameButRegs s (t.count f i j) :=
  h.trans ⟨_, rfl⟩

/-- The controller changes nothing but registers. -/
theorem SameButRegs.present {s t : State} (h : SameButRegs s t) (n : Nat) : SameButRegs s (t.present n) := by
  unfold State.present
  split
  · exact h
  · dsimp only
    repeat' split
    all_goals repeat' first | exact h | apply SameButRegs.put | apply SameButRegs.count

theorem SameButRegs.intEval {s t : State} (h : SameButRegs s t) (n : Nat) : SameButRegs s (t.intEval n) := by
  unfold State.intEval
  dsimp only
  repeat' split
  all_goals repeat' first | exact h | apply SameButRegs.present | apply SameButRegs.put | apply SameButRegs.count

theorem SameButRegs.evt {s t : State} (h : SameButRegs s t) (f : Fld) (src i : Nat) : SameButRegs s (t.evt f src i) :=
  (h.put f 1 i 0).intEval src

/-- An event changes nothing but registers and the time of the source's first event. -/
theorem State.raise_regs (s : State) (n : Nat) : ∃ t0, SameButRegs { s with intT0 := t0 } (s.raise n) := by
  unfold State.raise
  split
  · dsimp only
    by_cases h : s.get INT_SRC_STAT.HELD n = 0
    · refine ⟨mapSet (fun _ => 0) s.intT0 n s.frc.toNat, ?_⟩
      rw [if_pos h]
      apply SameButRegs.intEval
      apply SameButRegs.put
      split
      · exact (SameButRegs.refl _).count _ _ _
      · exact (SameButRegs.refl _).put _ _ _ _
    · refine ⟨s.intT0, ?_⟩
      rw [if_neg h]
      apply SameButRegs.intEval
      apply SameButRegs.put
      split
      · exact (SameButRegs.refl _).count _ _ _
      · exact (SameButRegs.refl _).put _ _ _ _
  · exact ⟨s.intT0, SameButRegs.refl _⟩

end Sys2Proof.Machine
end

