-- ==== Sys2Proof/Laws/PerInstr.lean ====
section
/-! SUPPORT. Facts of every command as syntax, one lemma per constructor. -/

namespace Sys2Proof.Laws.PortRows

open Sys2Proof Sys2Proof.Machine

/-- A command that is a request on the register port acts at the port, after the cycles its request waits (R67, R68). -/
def Statement (i : Instr) : Prop :=
  ∀ r : PortReq, portOf i = some r → siteOf i = ⟨.port, r.dt⟩

theorem registerWrite (a : Access) (addr : BitVec 20) : Statement (.registerWrite a addr) := by
  intro r h
  cases h
  rfl

theorem aonPor (dt : Nat) : Statement (.aonPor dt) :=
  fun _ h => nomatch h

theorem porst (dt : Nat) (x : Pulse) : Statement (.porst dt x) :=
  fun _ h => nomatch h

theorem coreRail (dt : Nat) (sram : Bool) (x : Pulse) : Statement (.coreRail dt sram x) :=
  fun _ h => nomatch h

theorem ledgerRail (dt : Nat) (low : Nat) : Statement (.ledgerRail dt low) :=
  fun _ h => nomatch h

theorem ledgerRailReturn (dt : Nat) : Statement (.ledgerRailReturn dt) :=
  fun _ h => nomatch h

theorem clockLoss (dt : Nat) (d : Fin 13) (rxOpen : BitVec 8) : Statement (.clockLoss dt d rxOpen) :=
  fun _ h => nomatch h

theorem clockReturn (dt : Nat) (d : Fin 13) : Statement (.clockReturn dt d) :=
  fun _ h => nomatch h

theorem glbRstCmd (a : Access) : Statement (.glbRstCmd a) := by
  intro r h
  cases h
  rfl

theorem swReset (dt : Nat) : Statement (.swReset dt) :=
  fun _ h => nomatch h

theorem mainResetEnd (w : Release) : Statement (.mainResetEnd w) :=
  fun _ h => nomatch h

theorem bootCounterWrite (dt : Nat) : Statement (.bootCounterWrite dt) :=
  fun _ h => nomatch h

theorem startMarch (dt : Nat) (defects : List (Fin 10 × Fin 2 × Fin 1032 × Fin 321)) : Statement (.startMarch dt defects) :=
  fun _ h => nomatch h

theorem imageLoad (dt : Nat) (flash0 flash1 : List Byte) : Statement (.imageLoad dt flash0 flash1) :=
  fun _ h => nomatch h

theorem poolBuild (dt : Nat) : Statement (.poolBuild dt) :=
  fun _ h => nomatch h

theorem gpioInput (dt : Nat) (pin : Fin 32) (level : Bool) : Statement (.gpioInput dt pin level) :=
  fun _ h => nomatch h

theorem hostReadResponse (dt : Nat) (tag : Fin 128) (bad : Bool) (data : BitVec 512) : Statement (.hostReadResponse dt tag bad data) :=
  fun _ h => nomatch h

theorem hostWriteResponse (dt : Nat) (tag : Fin 64) (bad : Bool) : Statement (.hostWriteResponse dt tag bad) :=
  fun _ h => nomatch h

theorem hostTimeout : Statement (.hostTimeout) :=
  fun _ h => nomatch h

theorem write32 (dt : Nat) (addr : BitVec 24) (data : Word32) (x : SpiEnd) : Statement (.write32 dt addr data x) :=
  fun _ h => nomatch h

theorem write64 (dt : Nat) (addr : BitVec 24) (data : Word) (x : SpiEnd) : Statement (.write64 dt addr data x) :=
  fun _ h => nomatch h

theorem read32 (dt : Nat) (addr : BitVec 24) (x : SpiEnd) : Statement (.read32 dt addr x) :=
  fun _ h => nomatch h

theorem read64 (dt : Nat) (addr : BitVec 24) (x : SpiEnd) : Statement (.read64 dt addr x) :=
  fun _ h => nomatch h

theorem regacc (dt : Nat) (wr wide : Bool) (addr : BitVec 20) (data : Word) : Statement (.regacc dt wr wide addr data) :=
  fun _ h => nomatch h

theorem mbist (dt : Nat) : Statement (.mbist dt) :=
  fun _ h => nomatch h

theorem jtagTrst (w : TapInput) : Statement (.jtagTrst w) :=
  fun _ h => nomatch h

theorem tmScan (dt : Nat) (mbist : Bool) : Statement (.tmScan dt mbist) :=
  fun _ h => nomatch h

theorem roleCmd (a : Access) : Statement (.roleCmd a) := by
  intro r h
  cases h
  rfl

theorem requestTest (a : Access) : Statement (.requestTest a) := by
  intro r h
  cases h
  rfl

theorem requestService (a : Access) : Statement (.requestService a) := by
  intro r h
  cases h
  rfl

theorem requestStart (a : Access) : Statement (.requestStart a) := by
  intro r h
  cases h
  rfl

theorem requestSleep (a : Access) : Statement (.requestSleep a) := by
  intro r h
  cases h
  rfl

theorem haltRequest (a : Access) : Statement (.haltRequest a) := by
  intro r h
  cases h
  rfl

theorem bellEdge : Statement (.bellEdge) :=
  fun _ h => nomatch h

theorem termBoundary : Statement (.termBoundary) :=
  fun _ h => nomatch h

theorem rephaseEdge : Statement (.rephaseEdge) :=
  fun _ h => nomatch h

theorem glbBellCfgWrite (a : Access) : Statement (.glbBellCfgWrite a) := by
  intro r h
  cases h
  rfl

theorem preservingMarchStep (w : StepWork) (defects : List (Fin 2 × Fin 4096)) : Statement (.preservingMarchStep w defects) :=
  fun _ h => nomatch h

theorem scrubStep (w : StepWork) : Statement (.scrubStep w) :=
  fun _ h => nomatch h

theorem fillStep (dt : Nat) : Statement (.fillStep dt) :=
  fun _ h => nomatch h

theorem ruleBankSwapStep (dt : Nat) : Statement (.ruleBankSwapStep dt) :=
  fun _ h => nomatch h

theorem poolRebuildStep (dt : Nat) : Statement (.poolRebuildStep dt) :=
  fun _ h => nomatch h

theorem ledgerWriteStep (dt : Nat) (miss : Fin 3) : Statement (.ledgerWriteStep dt miss) :=
  fun _ h => nomatch h

theorem flashStep (dt : Nat) (bytes : List Byte) : Statement (.flashStep dt bytes) :=
  fun _ h => nomatch h

theorem secureZeroStep (dt : Nat) : Statement (.secureZeroStep dt) :=
  fun _ h => nomatch h

theorem rxFrame (dt : Nat) (n : Fin 8) (age : Nat) (lane : Fin 16) (c : List Bool) (b : List Byte) : Statement (.rxFrame dt n age lane c b) :=
  fun _ h => nomatch h

theorem rxJabber (dt : Nat) (n : Fin 8) : Statement (.rxJabber dt n) :=
  fun _ h => nomatch h

theorem localFault (dt : Nat) (n : Fin 8) (c : List (BitVec 8)) (w : List (BitVec 64)) : Statement (.localFault dt n c w) :=
  fun _ h => nomatch h

theorem linkStateChange (dt : Nat) (n : Fin 8) (linkOk rxOpen : Bool) : Statement (.linkStateChange dt n linkOk rxOpen) :=
  fun _ h => nomatch h

theorem upHoldExpiry (n : Fin 8) : Statement (.upHoldExpiry n) :=
  fun _ h => nomatch h

theorem egressCopy (dt : Nat) (u : Fin 11) : Statement (.egressCopy dt u) :=
  fun _ h => nomatch h

theorem txFrameStart (dt : Nat) (n : Fin 8) (extra : Nat) : Statement (.txFrameStart dt n extra) :=
  fun _ h => nomatch h

theorem terminate (dt : Nat) (n : Fin 8) : Statement (.terminate dt n) :=
  fun _ h => nomatch h

theorem portnMacCtrlWrite (a : Access) (n : Fin 8) : Statement (.portnMacCtrlWrite a n) := by
  intro r h
  cases h
  rfl

theorem losChg (w : PadHeld) (n : Fin 2) (level : Bool) : Statement (.losChg w n level) :=
  fun _ h => nomatch h

theorem txflt (w : PadHeld) (n : Fin 2) : Statement (.txflt w n) :=
  fun _ h => nomatch h

theorem rxPause (dt : Nat) (n : Fin 8) (own : Bool) (quanta : BitVec 16) : Statement (.rxPause dt n own quanta) :=
  fun _ h => nomatch h

theorem rxPfc (dt : Nat) (n : Fin 8) (vec : BitVec 16) (times : BitVec 128) : Statement (.rxPfc dt n vec times) :=
  fun _ h => nomatch h

theorem pauseTimerExpiry (n : Fin 8) : Statement (.pauseTimerExpiry n) :=
  fun _ h => nomatch h

theorem pfcTimerExpiry (n : Fin 8) (p : Fin 8) : Statement (.pfcTimerExpiry n p) :=
  fun _ h => nomatch h

theorem xoff (dt : Nat) (n : Fin 8) : Statement (.xoff dt n) :=
  fun _ h => nomatch h

theorem txPause (w : StartAt) (n : Fin 8) : Statement (.txPause w n) :=
  fun _ h => nomatch h

theorem pauseRefresh (n : Fin 8) : Statement (.pauseRefresh n) :=
  fun _ h => nomatch h

theorem fcModeWrite (a : Access) (n : Fin 8) : Statement (.fcModeWrite a n) := by
  intro r h
  cases h
  rfl

theorem pauseWdog (n : Fin 8) : Statement (.pauseWdog n) :=
  fun _ h => nomatch h

theorem wdogTripClear (a : Access) (n : Fin 8) : Statement (.wdogTripClear a n) := by
  intro r h
  cases h
  rfl

theorem recessEntry (n : Fin 8) : Statement (.recessEntry n) :=
  fun _ h => nomatch h

theorem recessExit (dt : Nat) (n : Fin 8) : Statement (.recessExit dt n) :=
  fun _ h => nomatch h

theorem wakingEnd (n : Fin 8) : Statement (.wakingEnd n) :=
  fun _ h => nomatch h

theorem rxLpi (dt : Nat) (n : Fin 8) (lpi : Bool) : Statement (.rxLpi dt n lpi) :=
  fun _ h => nomatch h

theorem switch (a : Access) (n : Fin 8) : Statement (.switch a n) := by
  intro r h
  cases h
  rfl

theorem cancel (a : Access) (n : Fin 8) : Statement (.cancel a n) := by
  intro r h
  cases h
  rfl

theorem gclEntryWrite (a : Access) (n : Fin 8) (l : Fin 2) (i : Fin 96) : Statement (.gclEntryWrite a n l i) := by
  intro r h
  cases h
  rfl

theorem portnGclCfgWrite (a : Access) (n : Fin 8) : Statement (.portnGclCfgWrite a n) := by
  intro r h
  cases h
  rfl

theorem gateChange (n : Fin 8) : Statement (.gateChange n) :=
  fun _ h => nomatch h

theorem hold (n : Fin 8) : Statement (.hold n) :=
  fun _ h => nomatch h

theorem verifyStart (dt : Nat) (n : Fin 8) : Statement (.verifyStart dt n) :=
  fun _ h => nomatch h

theorem verifyMsExpiry (n : Fin 8) : Statement (.verifyMsExpiry n) :=
  fun _ h => nomatch h

theorem rxVerify (dt : Nat) (n : Fin 8) (b : List Byte) : Statement (.rxVerify dt n b) :=
  fun _ h => nomatch h

theorem rxRespond (dt : Nat) (n : Fin 8) (b : List Byte) : Statement (.rxRespond dt n b) :=
  fun _ h => nomatch h

theorem preemptCut (dt : Nat) (n : Fin 8) : Statement (.preemptCut dt n) :=
  fun _ h => nomatch h

theorem preemptContinue (dt : Nat) (n : Fin 8) (extra : Nat) : Statement (.preemptContinue dt n extra) :=
  fun _ h => nomatch h

theorem rxFragment (dt : Nat) (n : Fin 8) (age : Nat) (lane : Fin 16) (smd cnt : Byte) (b : List Byte) : Statement (.rxFragment dt n age lane smd cnt b) :=
  fun _ h => nomatch h

theorem launchAvailable (n : Fin 8) : Statement (.launchAvailable n) :=
  fun _ h => nomatch h

theorem radioRxFrame (dt : Nat) (n : Fin 3) (md : BitVec 128) (ago : Nat) (x : RadMarks) (b : List Byte) : Statement (.radioRxFrame dt n md ago x b) :=
  fun _ h => nomatch h

theorem radioTxSop (dt : Nat) (n : Fin 3) (ready : Bool) : Statement (.radioTxSop dt n ready) :=
  fun _ h => nomatch h

theorem eop (dt : Nat) (n : Fin 3) (ready : Bool) : Statement (.eop dt n ready) :=
  fun _ h => nomatch h

theorem beaconReport (dt : Nat) (n : Fin 3) (info : Word32) : Statement (.beaconReport dt n info) :=
  fun _ h => nomatch h

theorem bcnMissed (n : Fin 3) : Statement (.bcnMissed n) :=
  fun _ h => nomatch h

theorem radnCtrlWrite (a : Access) (n : Fin 3) : Statement (.radnCtrlWrite a n) := by
  intro r h
  cases h
  rfl

theorem procAccess (dt : Nat) (core : Fin 2) (wr : Bool) (addr : BitVec 23) (len : Fin 9) (data : Word) : Statement (.procAccess dt core wr addr len data) :=
  fun _ h => nomatch h

theorem on (a : Access) : Statement (.on a) := by
  intro r h
  cases h
  rfl

theorem off (a : Access) : Statement (.off a) := by
  intro r h
  cases h
  rfl

theorem eraseColumn (a : Access) : Statement (.eraseColumn a) := by
  intro r h
  cases h
  rfl

theorem marchStart (a : Access) : Statement (.marchStart a) := by
  intro r h
  cases h
  rfl

theorem marchAbort (a : Access) : Statement (.marchAbort a) := by
  intro r h
  cases h
  rfl

theorem staffAccess (dt : Nat) (core : Fin 2) (init : Init) (sc : Option StaffReq) (host : HostSide) : Statement (.staffAccess dt core init sc host) :=
  fun _ h => nomatch h

theorem withdraw (a : Access) : Statement (.withdraw a) := by
  intro r h
  cases h
  rfl

theorem restore (a : Access) : Statement (.restore a) := by
  intro r h
  cases h
  rfl

theorem redefine (a : Access) : Statement (.redefine a) := by
  intro r h
  cases h
  rfl

theorem poolAlloc (a : Access) : Statement (.poolAlloc a) := by
  intro r h
  cases h
  rfl

theorem poolAllocResult (dt : Nat) (init : Init) (same : Bool) : Statement (.poolAllocResult dt init same) :=
  fun _ h => nomatch h

theorem poolAllocResRead (a : Access) : Statement (.poolAllocResRead a) := by
  intro r h
  cases h
  rfl

theorem poolFree (a : Access) : Statement (.poolFree a) := by
  intro r h
  cases h
  rfl

theorem parserPass (dt : Nat) (same : Bool) : Statement (.parserPass dt same) :=
  fun _ h => nomatch h

theorem flowInsert (a : Access) : Statement (.flowInsert a) := by
  intro r h
  cases h
  rfl

theorem flowDelete (a : Access) : Statement (.flowDelete a) := by
  intro r h
  cases h
  rfl

theorem flowRead (a : Access) : Statement (.flowRead a) := by
  intro r h
  cases h
  rfl

theorem flowCfgWrite (a : Access) (i : Fin 6) : Statement (.flowCfgWrite a i) := by
  intro r h
  simp only [portOf] at h
  split at h <;> (cases h; rfl)

theorem commit (a : Access) : Statement (.commit a) := by
  intro r h
  cases h
  rfl

theorem invalidate (a : Access) : Statement (.invalidate a) := by
  intro r h
  cases h
  rfl

theorem ruleRead (a : Access) : Statement (.ruleRead a) := by
  intro r h
  cases h
  rfl

theorem swap (a : Access) : Statement (.swap a) := by
  intro r h
  cases h
  rfl

theorem drainEnd (dt : Nat) : Statement (.drainEnd dt) :=
  fun _ h => nomatch h

theorem storeComplete (dt : Nat) : Statement (.storeComplete dt) :=
  fun _ h => nomatch h

theorem learnWrite (dt : Nat) : Statement (.learnWrite dt) :=
  fun _ h => nomatch h

theorem fdbInsert (a : Access) : Statement (.fdbInsert a) := by
  intro r h
  cases h
  rfl

theorem fdbDelete (a : Access) : Statement (.fdbDelete a) := by
  intro r h
  cases h
  rfl

theorem fdbRead (a : Access) : Statement (.fdbRead a) := by
  intro r h
  cases h
  rfl

theorem flush (a : Access) : Statement (.flush a) := by
  intro r h
  cases h
  rfl

theorem flushDone (dt : Nat) : Statement (.flushDone dt) :=
  fun _ h => nomatch h

theorem mtrCfgWrite (a : Access) (m : Fin 64) : Statement (.mtrCfgWrite a m) := by
  intro r h
  cases h
  rfl

theorem partEnable (a : Access) (p : Fin 8) : Statement (.partEnable a p) := by
  intro r h
  cases h
  rfl

theorem partReset (a : Access) (p : Fin 8) : Statement (.partReset a p) := by
  intro r h
  cases h
  rfl

theorem run (a : Access) (p : Fin 8) : Statement (.run a p) := by
  intro r h
  cases h
  rfl

theorem resetDone (p : Fin 8) : Statement (.resetDone p) :=
  fun _ h => nomatch h

theorem ringBaseWrite (a : Access) (p : Fin 8) (ring : Fin 4) : Statement (.ringBaseWrite a p ring) := by
  intro r h
  cases h
  rfl

theorem txqDoorbell (a : Access) (p : Fin 8) : Statement (.txqDoorbell a p) := by
  intro r h
  cases h
  rfl

theorem rxqDoorbell (a : Access) (p : Fin 8) : Statement (.rxqDoorbell a p) := by
  intro r h
  cases h
  rfl

theorem completionHeadWrite (a : Access) (p : Fin 8) (rx : Bool) : Statement (.completionHeadWrite a p rx) := by
  intro r h
  cases h
  rfl

theorem txPush (dt : Nat) (init : Init) (p : Fin 8) (off : Fin 32) (beats : BitVec 512) : Statement (.txPush dt init p off beats) := by
  intro r h
  cases h
  rfl

theorem rxPush (dt : Nat) (init : Init) (p : Fin 8) (off : Fin 32) (beats : BitVec 512) : Statement (.rxPush dt init p off beats) := by
  intro r h
  cases h
  rfl

theorem txJob (dt : Nat) (p : Fin 8) (same : Bool) : Statement (.txJob dt p same) :=
  fun _ h => nomatch h

theorem txJobRetry (p : Fin 8) : Statement (.txJobRetry p) :=
  fun _ h => nomatch h

theorem rxBuf (dt : Nat) (p : Fin 8) : Statement (.rxBuf dt p) :=
  fun _ h => nomatch h

theorem rxDelivery (dt : Nat) (p : Fin 8) : Statement (.rxDelivery dt p) :=
  fun _ h => nomatch h

theorem rxDone (dt : Nat) (p : Fin 8) : Statement (.rxDone dt p) :=
  fun _ h => nomatch h

theorem coalTime (n : Fin 256) : Statement (.coalTime n) :=
  fun _ h => nomatch h

theorem intTgttClaim (a : Access) (t : Fin 16) : Statement (.intTgttClaim a t) := by
  intro r h
  cases h
  rfl

theorem intTgttComplete (a : Access) (t : Fin 16) : Statement (.intTgttComplete a t) := by
  intro r h
  cases h
  rfl

theorem intPend (a : Access) (k : Fin 4) : Statement (.intPend a k) := by
  intro r h
  cases h
  rfl

theorem intSrcCfgWrite (a : Access) (tgt : Bool) (n : Fin 256) : Statement (.intSrcCfgWrite a tgt n) := by
  intro r h
  simp only [portOf] at h
  split at h <;> (cases h; rfl)

theorem latchSet (dt : Nat) (l : Fin 32) (rising : Bool) : Statement (.latchSet dt l rising) :=
  fun _ h => nomatch h

theorem latchTransfer (dt : Nat) (l : Fin 32) : Statement (.latchTransfer dt l) :=
  fun _ h => nomatch h

theorem btmr (k : Fin 8) : Statement (.btmr k) :=
  fun _ h => nomatch h

theorem intBtmrWrite (a : Access) (k : Fin 8) : Statement (.intBtmrWrite a k) := by
  intro r h
  cases h
  rfl

theorem rateChange (a : Access) : Statement (.rateChange a) := by
  intro r h
  cases h
  rfl

theorem step (a : Access) : Statement (.step a) := by
  intro r h
  cases h
  rfl

theorem heldStep : Statement (.heldStep) :=
  fun _ h => nomatch h

theorem acquire (a : Access) : Statement (.acquire a) := by
  intro r h
  cases h
  rfl

theorem lock (a : Access) : Statement (.lock a) := by
  intro r h
  cases h
  rfl

theorem unlock (a : Access) : Statement (.unlock a) := by
  intro r h
  cases h
  rfl

theorem holdover (a : Access) : Statement (.holdover a) := by
  intro r h
  cases h
  rfl

theorem resume (a : Access) : Statement (.resume a) := by
  intro r h
  cases h
  rfl

theorem servoTmo : Statement (.servoTmo) :=
  fun _ h => nomatch h

theorem timeNowNs (a : Access) : Statement (.timeNowNs a) := by
  intro r h
  cases h
  rfl

theorem captureEdge (dt : Nat) (k : Fin 6) (rising : Bool) : Statement (.captureEdge dt k rising) :=
  fun _ h => nomatch h

theorem timeCapkTs (a : Access) (k : Fin 6) : Statement (.timeCapkTs a k) := by
  intro r h
  cases h
  rfl

theorem outputEdge (o : Fin 6) : Statement (.outputEdge o) :=
  fun _ h => nomatch h

theorem outputFall (o : Fin 6) : Statement (.outputFall o) :=
  fun _ h => nomatch h

theorem refWindow (edges : Nat) : Statement (.refWindow edges) :=
  fun _ h => nomatch h

theorem checkpoint : Statement (.checkpoint) :=
  fun _ h => nomatch h

theorem rollIntake (dt : Nat) : Statement (.rollIntake dt) :=
  fun _ h => nomatch h

theorem sweep (dt : Nat) : Statement (.sweep dt) :=
  fun _ h => nomatch h

theorem rollAbsent (a : Access) : Statement (.rollAbsent a) := by
  intro r h
  cases h
  rfl

theorem rollCfgWrite (a : Access) : Statement (.rollCfgWrite a) := by
  intro r h
  cases h
  rfl

theorem insert (a : Access) : Statement (.insert a) := by
  intro r h
  cases h
  rfl

theorem delete (a : Access) : Statement (.delete a) := by
  intro r h
  cases h
  rfl

theorem read (a : Access) : Statement (.read a) := by
  intro r h
  cases h
  rfl

theorem dlClear (a : Access) : Statement (.dlClear a) := by
  intro r h
  cases h
  rfl

theorem scRun (a : Access) (c : Fin 2) : Statement (.scRun a c) := by
  intro r h
  cases h
  rfl

theorem scRestart (a : Access) (c : Fin 2) : Statement (.scRestart a c) := by
  intro r h
  cases h
  rfl

theorem kick (a : Access) (c : Fin 2) : Statement (.kick a c) := by
  intro r h
  cases h
  rfl

theorem wdog (c : Fin 2) : Statement (.wdog c) :=
  fun _ h => nomatch h

theorem debugHalt (dt : Nat) (c : Fin 2) : Statement (.debugHalt dt c) :=
  fun _ h => nomatch h

theorem debugResume (dt : Nat) (c : Fin 2) : Statement (.debugResume dt c) :=
  fun _ h => nomatch h

theorem scTxDesc1 (a : Access) : Statement (.scTxDesc1 a) := by
  intro r h
  cases h
  rfl

theorem scTxDone (a : Access) : Statement (.scTxDone a) := by
  intro r h
  cases h
  rfl

theorem scRxPop (a : Access) : Statement (.scRxPop a) := by
  intro r h
  cases h
  rfl

theorem mbxDb (a : Access) : Statement (.mbxDb a) := by
  intro r h
  cases h
  rfl

theorem mbxDone (a : Access) : Statement (.mbxDone a) := by
  intro r h
  cases h
  rfl

theorem mbxTimeout (m : Fin 16) : Statement (.mbxTimeout m) :=
  fun _ h => nomatch h

theorem pmuOvf (dt : Nat) (k : Fin 16) (n : BitVec 32) : Statement (.pmuOvf dt k n) :=
  fun _ h => nomatch h

theorem pmuSample (dt : Nat) (core : Fin 2) (latency : BitVec 16) (addr : BitVec 32) : Statement (.pmuSample dt core latency addr) :=
  fun _ h => nomatch h

theorem crcRestart (a : Access) (u : Fin 4) : Statement (.crcRestart a u) := by
  intro r h
  cases h
  rfl

theorem crcFlush (a : Access) (u : Fin 4) : Statement (.crcFlush a u) := by
  intro r h
  cases h
  rfl

theorem crcuData (a : Access) (u : Fin 4) : Statement (.crcuData a u) := by
  intro r h
  cases h
  rfl

theorem crcuData1 (a : Access) (u : Fin 4) : Statement (.crcuData1 a u) := by
  intro r h
  cases h
  rfl

theorem crcuCfgWrite (a : Access) (u which : Fin 4) : Statement (.crcuCfgWrite a u which) := by
  intro r h
  cases h
  rfl

theorem crcRes (dt : Nat) (u : Fin 4) : Statement (.crcRes dt u) :=
  fun _ h => nomatch h

theorem crcuFifoVal (a : Access) (u : Fin 4) : Statement (.crcuFifoVal a u) := by
  intro r h
  cases h
  rfl

theorem verify (a : Access) : Statement (.verify a) := by
  intro r h
  cases h
  rfl

theorem erase (a : Access) : Statement (.erase a) := by
  intro r h
  cases h
  rfl

theorem program (a : Access) : Statement (.program a) := by
  intro r h
  cases h
  rfl

theorem nvmDone (dt : Nat) (timeout : Bool) : Statement (.nvmDone dt timeout) :=
  fun _ h => nomatch h

theorem ldgFwData (a : Access) : Statement (.ldgFwData a) := by
  intro r h
  cases h
  rfl

theorem ldgRdData (a : Access) : Statement (.ldgRdData a) := by
  intro r h
  cases h
  rfl

theorem propCommit (a : Access) : Statement (.propCommit a) := by
  intro r h
  cases h
  rfl

theorem approve (a : Access) : Statement (.approve a) := by
  intro r h
  cases h
  rfl

theorem propCancel (a : Access) : Statement (.propCancel a) := by
  intro r h
  cases h
  rfl

theorem expired : Statement (.expired) :=
  fun _ h => nomatch h

theorem applied : Statement (.applied) :=
  fun _ h => nomatch h

theorem tamper (dt : Nat) (i : BitVec 8) : Statement (.tamper dt i) :=
  fun _ h => nomatch h

theorem wipeDone (dt : Nat) : Statement (.wipeDone dt) :=
  fun _ h => nomatch h

theorem doze (a : Access) : Statement (.doze a) := by
  intro r h
  cases h
  rfl

theorem watch (a : Access) : Statement (.watch a) := by
  intro r h
  cases h
  rfl

theorem deep (a : Access) : Statement (.deep a) := by
  intro r h
  cases h
  rfl

theorem wake (a : Access) : Statement (.wake a) := by
  intro r h
  cases h
  rfl

theorem ack (a : Access) : Statement (.ack a) := by
  intro r h
  cases h
  rfl

theorem stateReached : Statement (.stateReached) :=
  fun _ h => nomatch h

theorem deepReset (dt : Nat) : Statement (.deepReset dt) :=
  fun _ h => nomatch h

theorem deepFail : Statement (.deepFail) :=
  fun _ h => nomatch h

theorem keepReturn : Statement (.keepReturn) :=
  fun _ h => nomatch h

theorem sleepRxFrame (dt : Nat) (n : Fin 8) (age : Nat) (lane : Fin 16) (b : List Byte) : Statement (.sleepRxFrame dt n age lane b) :=
  fun _ h => nomatch h

theorem aonTimer : Statement (.aonTimer) :=
  fun _ h => nomatch h

theorem panelRawChange (dt : Nat) (k : Fin 4) (level : Bool) : Statement (.panelRawChange dt k level) :=
  fun _ h => nomatch h

theorem press (k : Fin 4) : Statement (.press k) :=
  fun _ h => nomatch h

theorem long (k : Fin 4) : Statement (.long k) :=
  fun _ h => nomatch h

theorem stuck (k : Fin 4) : Statement (.stuck k) :=
  fun _ h => nomatch h

theorem quarantineEnd (k : Fin 4) : Statement (.quarantineEnd k) :=
  fun _ h => nomatch h

theorem registerRead (a : Access) (addr : BitVec 20) : Statement (.registerRead a addr) := by
  intro r h
  cases h
  rfl

theorem vddAonFall (dt : Nat) : Statement (.vddAonFall dt) :=
  fun _ h => nomatch h

theorem ageSweepEnd (dt : Nat) : Statement (.ageSweepEnd dt) :=
  fun _ h => nomatch h

theorem bellOutFall : Statement (.bellOutFall) :=
  fun _ h => nomatch h

theorem misalignedStart (dt : Nat) (n : Fin 8) : Statement (.misalignedStart dt n) :=
  fun _ h => nomatch h

theorem radioStrayBeat (dt : Nat) (n : Fin 3) : Statement (.radioStrayBeat dt n) :=
  fun _ h => nomatch h

theorem radioRxOverlong (dt : Nat) (n : Fin 3) : Statement (.radioRxOverlong dt n) :=
  fun _ h => nomatch h

theorem modTxfltFall (w : PadHeld) (n : Fin 2) : Statement (.modTxfltFall w n) :=
  fun _ h => nomatch h

end Sys2Proof.Laws.PortRows
end

