-- ==== Sys2Proof/Laws/State.lean ====
section
/-! SUPPORT. What each basic update of the state leaves as it was, field by field. -/

namespace Sys2Proof.Machine

open Sys2Proof

@[simp] theorem State.setRg_pending (s : State) (k v : Nat) : (s.setRg k v).pending = s.pending := by rfl
@[simp] theorem State.setRg_frc (s : State) (k v : Nat) : (s.setRg k v).frc = s.frc := by rfl
@[simp] theorem State.setRg_free (s : State) (k v : Nat) : (s.setRg k v).free = s.free := by rfl
@[simp] theorem State.setRg_intT0 (s : State) (k v : Nat) : (s.setRg k v).intT0 = s.intT0 := by rfl
@[simp] theorem State.setRg_latchMerged (s : State) (k v : Nat) : (s.setRg k v).latchMerged = s.latchMerged := by rfl
@[simp] theorem State.setRg_intOut (s : State) (k v : Nat) : (s.setRg k v).intOut = s.intOut := by rfl
@[simp] theorem State.setRg_roles (s : State) (k v : Nat) : (s.setRg k v).roles = s.roles := by rfl
@[simp] theorem State.setRg_ports (s : State) (k v : Nat) : (s.setRg k v).ports = s.ports := by rfl
@[simp] theorem State.setRg_rads (s : State) (k v : Nat) : (s.setRg k v).rads = s.rads := by rfl
@[simp] theorem State.setRg_mem (s : State) (k v : Nat) : (s.setRg k v).mem = s.mem := by rfl
@[simp] theorem State.setRg_egr (s : State) (k v : Nat) : (s.setRg k v).egr = s.egr := by rfl
@[simp] theorem State.setRg_time (s : State) (k v : Nat) : (s.setRg k v).time = s.time := by rfl
@[simp] theorem State.setRg_bell (s : State) (k v : Nat) : (s.setRg k v).bell = s.bell := by rfl
@[simp] theorem State.setRg_chip (s : State) (k v : Nat) : (s.setRg k v).chip = s.chip := by rfl
@[simp] theorem State.setRg_ledger (s : State) (k v : Nat) : (s.setRg k v).ledger = s.ledger := by rfl
@[simp] theorem State.setRg_crc (s : State) (k v : Nat) : (s.setRg k v).crc = s.crc := by rfl
@[simp] theorem State.setRg_host (s : State) (k v : Nat) : (s.setRg k v).host = s.host := by rfl
@[simp] theorem State.setRg_cls (s : State) (k v : Nat) : (s.setRg k v).cls = s.cls := by rfl
@[simp] theorem State.setRg_cores (s : State) (k v : Nat) : (s.setRg k v).cores = s.cores := by rfl
@[simp] theorem State.setRg_mbx (s : State) (k v : Nat) : (s.setRg k v).mbx = s.mbx := by rfl
@[simp] theorem State.setRg_roll (s : State) (k v : Nat) : (s.setRg k v).roll = s.roll := by rfl
@[simp] theorem State.setRg_cmdq (s : State) (k v : Nat) : (s.setRg k v).cmdq = s.cmdq := by rfl
@[simp] theorem State.setRg_boot (s : State) (k v : Nat) : (s.setRg k v).boot = s.boot := by rfl
@[simp] theorem State.setRg_nvm (s : State) (k v : Nat) : (s.setRg k v).nvm = s.nvm := by rfl
@[simp] theorem State.setRg_pwr (s : State) (k v : Nat) : (s.setRg k v).pwr = s.pwr := by rfl
@[simp] theorem State.setRg_panel (s : State) (k v : Nat) : (s.setRg k v).panel = s.panel := by rfl
@[simp] theorem State.setRg_led (s : State) (k v : Nat) : (s.setRg k v).led = s.led := by rfl
@[simp] theorem State.setRg_rsp (s : State) (k v : Nat) : (s.setRg k v).rsp = s.rsp := by rfl
@[simp] theorem State.setRg_spi (s : State) (k v : Nat) : (s.setRg k v).spi = s.spi := by rfl
@[simp] theorem State.setRg_spiOut (s : State) (k v : Nat) : (s.setRg k v).spiOut = s.spiOut := by rfl
@[simp] theorem State.setRg_samples (s : State) (k v : Nat) : (s.setRg k v).samples = s.samples := by rfl

@[simp] theorem State.put_pending (s : State) (f : Fld) (v i j : Nat) : (s.put f v i j).pending = s.pending := by rfl
@[simp] theorem State.put_frc (s : State) (f : Fld) (v i j : Nat) : (s.put f v i j).frc = s.frc := by rfl
@[simp] theorem State.put_free (s : State) (f : Fld) (v i j : Nat) : (s.put f v i j).free = s.free := by rfl
@[simp] theorem State.put_intT0 (s : State) (f : Fld) (v i j : Nat) : (s.put f v i j).intT0 = s.intT0 := by rfl
@[simp] theorem State.put_latchMerged (s : State) (f : Fld) (v i j : Nat) : (s.put f v i j).latchMerged = s.latchMerged := by rfl
@[simp] theorem State.put_intOut (s : State) (f : Fld) (v i j : Nat) : (s.put f v i j).intOut = s.intOut := by rfl
@[simp] theorem State.put_roles (s : State) (f : Fld) (v i j : Nat) : (s.put f v i j).roles = s.roles := by rfl
@[simp] theorem State.put_ports (s : State) (f : Fld) (v i j : Nat) : (s.put f v i j).ports = s.ports := by rfl
@[simp] theorem State.put_rads (s : State) (f : Fld) (v i j : Nat) : (s.put f v i j).rads = s.rads := by rfl
@[simp] theorem State.put_mem (s : State) (f : Fld) (v i j : Nat) : (s.put f v i j).mem = s.mem := by rfl
@[simp] theorem State.put_egr (s : State) (f : Fld) (v i j : Nat) : (s.put f v i j).egr = s.egr := by rfl
@[simp] theorem State.put_time (s : State) (f : Fld) (v i j : Nat) : (s.put f v i j).time = s.time := by rfl
@[simp] theorem State.put_bell (s : State) (f : Fld) (v i j : Nat) : (s.put f v i j).bell = s.bell := by rfl
@[simp] theorem State.put_chip (s : State) (f : Fld) (v i j : Nat) : (s.put f v i j).chip = s.chip := by rfl
@[simp] theorem State.put_ledger (s : State) (f : Fld) (v i j : Nat) : (s.put f v i j).ledger = s.ledger := by rfl
@[simp] theorem State.put_crc (s : State) (f : Fld) (v i j : Nat) : (s.put f v i j).crc = s.crc := by rfl
@[simp] theorem State.put_host (s : State) (f : Fld) (v i j : Nat) : (s.put f v i j).host = s.host := by rfl
@[simp] theorem State.put_cls (s : State) (f : Fld) (v i j : Nat) : (s.put f v i j).cls = s.cls := by rfl
@[simp] theorem State.put_cores (s : State) (f : Fld) (v i j : Nat) : (s.put f v i j).cores = s.cores := by rfl
@[simp] theorem State.put_mbx (s : State) (f : Fld) (v i j : Nat) : (s.put f v i j).mbx = s.mbx := by rfl
@[simp] theorem State.put_roll (s : State) (f : Fld) (v i j : Nat) : (s.put f v i j).roll = s.roll := by rfl
@[simp] theorem State.put_cmdq (s : State) (f : Fld) (v i j : Nat) : (s.put f v i j).cmdq = s.cmdq := by rfl
@[simp] theorem State.put_boot (s : State) (f : Fld) (v i j : Nat) : (s.put f v i j).boot = s.boot := by rfl
@[simp] theorem State.put_nvm (s : State) (f : Fld) (v i j : Nat) : (s.put f v i j).nvm = s.nvm := by rfl
@[simp] theorem State.put_pwr (s : State) (f : Fld) (v i j : Nat) : (s.put f v i j).pwr = s.pwr := by rfl
@[simp] theorem State.put_panel (s : State) (f : Fld) (v i j : Nat) : (s.put f v i j).panel = s.panel := by rfl
@[simp] theorem State.put_led (s : State) (f : Fld) (v i j : Nat) : (s.put f v i j).led = s.led := by rfl
@[simp] theorem State.put_rsp (s : State) (f : Fld) (v i j : Nat) : (s.put f v i j).rsp = s.rsp := by rfl
@[simp] theorem State.put_spi (s : State) (f : Fld) (v i j : Nat) : (s.put f v i j).spi = s.spi := by rfl
@[simp] theorem State.put_spiOut (s : State) (f : Fld) (v i j : Nat) : (s.put f v i j).spiOut = s.spiOut := by rfl
@[simp] theorem State.put_samples (s : State) (f : Fld) (v i j : Nat) : (s.put f v i j).samples = s.samples := by rfl

@[simp] theorem State.setRsp_pending (s : State) (c : RspCode) (d : Nat) : (s.setRsp c d).pending = s.pending := by rfl
@[simp] theorem State.setRsp_regs (s : State) (c : RspCode) (d : Nat) : (s.setRsp c d).regs = s.regs := by rfl
@[simp] theorem State.setRsp_frc (s : State) (c : RspCode) (d : Nat) : (s.setRsp c d).frc = s.frc := by rfl
@[simp] theorem State.setRsp_free (s : State) (c : RspCode) (d : Nat) : (s.setRsp c d).free = s.free := by rfl
@[simp] theorem State.setRsp_intT0 (s : State) (c : RspCode) (d : Nat) : (s.setRsp c d).intT0 = s.intT0 := by rfl
@[simp] theorem State.setRsp_latchMerged (s : State) (c : RspCode) (d : Nat) : (s.setRsp c d).latchMerged = s.latchMerged := by rfl
@[simp] theorem State.setRsp_intOut (s : State) (c : RspCode) (d : Nat) : (s.setRsp c d).intOut = s.intOut := by rfl
@[simp] theorem State.setRsp_roles (s : State) (c : RspCode) (d : Nat) : (s.setRsp c d).roles = s.roles := by rfl
@[simp] theorem State.setRsp_ports (s : State) (c : RspCode) (d : Nat) : (s.setRsp c d).ports = s.ports := by rfl
@[simp] theorem State.setRsp_rads (s : State) (c : RspCode) (d : Nat) : (s.setRsp c d).rads = s.rads := by rfl
@[simp] theorem State.setRsp_mem (s : State) (c : RspCode) (d : Nat) : (s.setRsp c d).mem = s.mem := by rfl
@[simp] theorem State.setRsp_egr (s : State) (c : RspCode) (d : Nat) : (s.setRsp c d).egr = s.egr := by rfl
@[simp] theorem State.setRsp_time (s : State) (c : RspCode) (d : Nat) : (s.setRsp c d).time = s.time := by rfl
@[simp] theorem State.setRsp_bell (s : State) (c : RspCode) (d : Nat) : (s.setRsp c d).bell = s.bell := by rfl
@[simp] theorem State.setRsp_chip (s : State) (c : RspCode) (d : Nat) : (s.setRsp c d).chip = s.chip := by rfl
@[simp] theorem State.setRsp_ledger (s : State) (c : RspCode) (d : Nat) : (s.setRsp c d).ledger = s.ledger := by rfl
@[simp] theorem State.setRsp_crc (s : State) (c : RspCode) (d : Nat) : (s.setRsp c d).crc = s.crc := by rfl
@[simp] theorem State.setRsp_host (s : State) (c : RspCode) (d : Nat) : (s.setRsp c d).host = s.host := by rfl
@[simp] theorem State.setRsp_cls (s : State) (c : RspCode) (d : Nat) : (s.setRsp c d).cls = s.cls := by rfl
@[simp] theorem State.setRsp_cores (s : State) (c : RspCode) (d : Nat) : (s.setRsp c d).cores = s.cores := by rfl
@[simp] theorem State.setRsp_mbx (s : State) (c : RspCode) (d : Nat) : (s.setRsp c d).mbx = s.mbx := by rfl
@[simp] theorem State.setRsp_roll (s : State) (c : RspCode) (d : Nat) : (s.setRsp c d).roll = s.roll := by rfl
@[simp] theorem State.setRsp_cmdq (s : State) (c : RspCode) (d : Nat) : (s.setRsp c d).cmdq = s.cmdq := by rfl
@[simp] theorem State.setRsp_boot (s : State) (c : RspCode) (d : Nat) : (s.setRsp c d).boot = s.boot := by rfl
@[simp] theorem State.setRsp_nvm (s : State) (c : RspCode) (d : Nat) : (s.setRsp c d).nvm = s.nvm := by rfl
@[simp] theorem State.setRsp_pwr (s : State) (c : RspCode) (d : Nat) : (s.setRsp c d).pwr = s.pwr := by rfl
@[simp] theorem State.setRsp_panel (s : State) (c : RspCode) (d : Nat) : (s.setRsp c d).panel = s.panel := by rfl
@[simp] theorem State.setRsp_led (s : State) (c : RspCode) (d : Nat) : (s.setRsp c d).led = s.led := by rfl
@[simp] theorem State.setRsp_spi (s : State) (c : RspCode) (d : Nat) : (s.setRsp c d).spi = s.spi := by rfl
@[simp] theorem State.setRsp_spiOut (s : State) (c : RspCode) (d : Nat) : (s.setRsp c d).spiOut = s.spiOut := by rfl
@[simp] theorem State.setRsp_samples (s : State) (c : RspCode) (d : Nat) : (s.setRsp c d).samples = s.samples := by rfl

@[simp] theorem State.setPort_pending (s : State) (n : Nat) (p : PortSt) : (s.setPort n p).pending = s.pending := by rfl
@[simp] theorem State.setPort_regs (s : State) (n : Nat) (p : PortSt) : (s.setPort n p).regs = s.regs := by rfl
@[simp] theorem State.setPort_frc (s : State) (n : Nat) (p : PortSt) : (s.setPort n p).frc = s.frc := by rfl
@[simp] theorem State.setPort_free (s : State) (n : Nat) (p : PortSt) : (s.setPort n p).free = s.free := by rfl
@[simp] theorem State.setPort_intT0 (s : State) (n : Nat) (p : PortSt) : (s.setPort n p).intT0 = s.intT0 := by rfl
@[simp] theorem State.setPort_latchMerged (s : State) (n : Nat) (p : PortSt) : (s.setPort n p).latchMerged = s.latchMerged := by rfl
@[simp] theorem State.setPort_intOut (s : State) (n : Nat) (p : PortSt) : (s.setPort n p).intOut = s.intOut := by rfl
@[simp] theorem State.setPort_roles (s : State) (n : Nat) (p : PortSt) : (s.setPort n p).roles = s.roles := by rfl
@[simp] theorem State.setPort_rads (s : State) (n : Nat) (p : PortSt) : (s.setPort n p).rads = s.rads := by rfl
@[simp] theorem State.setPort_mem (s : State) (n : Nat) (p : PortSt) : (s.setPort n p).mem = s.mem := by rfl
@[simp] theorem State.setPort_egr (s : State) (n : Nat) (p : PortSt) : (s.setPort n p).egr = s.egr := by rfl
@[simp] theorem State.setPort_time (s : State) (n : Nat) (p : PortSt) : (s.setPort n p).time = s.time := by rfl
@[simp] theorem State.setPort_bell (s : State) (n : Nat) (p : PortSt) : (s.setPort n p).bell = s.bell := by rfl
@[simp] theorem State.setPort_chip (s : State) (n : Nat) (p : PortSt) : (s.setPort n p).chip = s.chip := by rfl
@[simp] theorem State.setPort_ledger (s : State) (n : Nat) (p : PortSt) : (s.setPort n p).ledger = s.ledger := by rfl
@[simp] theorem State.setPort_crc (s : State) (n : Nat) (p : PortSt) : (s.setPort n p).crc = s.crc := by rfl
@[simp] theorem State.setPort_host (s : State) (n : Nat) (p : PortSt) : (s.setPort n p).host = s.host := by rfl
@[simp] theorem State.setPort_cls (s : State) (n : Nat) (p : PortSt) : (s.setPort n p).cls = s.cls := by rfl
@[simp] theorem State.setPort_cores (s : State) (n : Nat) (p : PortSt) : (s.setPort n p).cores = s.cores := by rfl
@[simp] theorem State.setPort_mbx (s : State) (n : Nat) (p : PortSt) : (s.setPort n p).mbx = s.mbx := by rfl
@[simp] theorem State.setPort_roll (s : State) (n : Nat) (p : PortSt) : (s.setPort n p).roll = s.roll := by rfl
@[simp] theorem State.setPort_cmdq (s : State) (n : Nat) (p : PortSt) : (s.setPort n p).cmdq = s.cmdq := by rfl
@[simp] theorem State.setPort_boot (s : State) (n : Nat) (p : PortSt) : (s.setPort n p).boot = s.boot := by rfl
@[simp] theorem State.setPort_nvm (s : State) (n : Nat) (p : PortSt) : (s.setPort n p).nvm = s.nvm := by rfl
@[simp] theorem State.setPort_pwr (s : State) (n : Nat) (p : PortSt) : (s.setPort n p).pwr = s.pwr := by rfl
@[simp] theorem State.setPort_panel (s : State) (n : Nat) (p : PortSt) : (s.setPort n p).panel = s.panel := by rfl
@[simp] theorem State.setPort_led (s : State) (n : Nat) (p : PortSt) : (s.setPort n p).led = s.led := by rfl
@[simp] theorem State.setPort_rsp (s : State) (n : Nat) (p : PortSt) : (s.setPort n p).rsp = s.rsp := by rfl
@[simp] theorem State.setPort_spi (s : State) (n : Nat) (p : PortSt) : (s.setPort n p).spi = s.spi := by rfl
@[simp] theorem State.setPort_spiOut (s : State) (n : Nat) (p : PortSt) : (s.setPort n p).spiOut = s.spiOut := by rfl
@[simp] theorem State.setPort_samples (s : State) (n : Nat) (p : PortSt) : (s.setPort n p).samples = s.samples := by rfl

@[simp] theorem State.setRad_pending (s : State) (n : Nat) (r : RadSt) : (s.setRad n r).pending = s.pending := by rfl
@[simp] theorem State.setRad_regs (s : State) (n : Nat) (r : RadSt) : (s.setRad n r).regs = s.regs := by rfl
@[simp] theorem State.setRad_frc (s : State) (n : Nat) (r : RadSt) : (s.setRad n r).frc = s.frc := by rfl
@[simp] theorem State.setRad_free (s : State) (n : Nat) (r : RadSt) : (s.setRad n r).free = s.free := by rfl
@[simp] theorem State.setRad_intT0 (s : State) (n : Nat) (r : RadSt) : (s.setRad n r).intT0 = s.intT0 := by rfl
@[simp] theorem State.setRad_latchMerged (s : State) (n : Nat) (r : RadSt) : (s.setRad n r).latchMerged = s.latchMerged := by rfl
@[simp] theorem State.setRad_intOut (s : State) (n : Nat) (r : RadSt) : (s.setRad n r).intOut = s.intOut := by rfl
@[simp] theorem State.setRad_roles (s : State) (n : Nat) (r : RadSt) : (s.setRad n r).roles = s.roles := by rfl
@[simp] theorem State.setRad_ports (s : State) (n : Nat) (r : RadSt) : (s.setRad n r).ports = s.ports := by rfl
@[simp] theorem State.setRad_mem (s : State) (n : Nat) (r : RadSt) : (s.setRad n r).mem = s.mem := by rfl
@[simp] theorem State.setRad_egr (s : State) (n : Nat) (r : RadSt) : (s.setRad n r).egr = s.egr := by rfl
@[simp] theorem State.setRad_time (s : State) (n : Nat) (r : RadSt) : (s.setRad n r).time = s.time := by rfl
@[simp] theorem State.setRad_bell (s : State) (n : Nat) (r : RadSt) : (s.setRad n r).bell = s.bell := by rfl
@[simp] theorem State.setRad_chip (s : State) (n : Nat) (r : RadSt) : (s.setRad n r).chip = s.chip := by rfl
@[simp] theorem State.setRad_ledger (s : State) (n : Nat) (r : RadSt) : (s.setRad n r).ledger = s.ledger := by rfl
@[simp] theorem State.setRad_crc (s : State) (n : Nat) (r : RadSt) : (s.setRad n r).crc = s.crc := by rfl
@[simp] theorem State.setRad_host (s : State) (n : Nat) (r : RadSt) : (s.setRad n r).host = s.host := by rfl
@[simp] theorem State.setRad_cls (s : State) (n : Nat) (r : RadSt) : (s.setRad n r).cls = s.cls := by rfl
@[simp] theorem State.setRad_cores (s : State) (n : Nat) (r : RadSt) : (s.setRad n r).cores = s.cores := by rfl
@[simp] theorem State.setRad_mbx (s : State) (n : Nat) (r : RadSt) : (s.setRad n r).mbx = s.mbx := by rfl
@[simp] theorem State.setRad_roll (s : State) (n : Nat) (r : RadSt) : (s.setRad n r).roll = s.roll := by rfl
@[simp] theorem State.setRad_cmdq (s : State) (n : Nat) (r : RadSt) : (s.setRad n r).cmdq = s.cmdq := by rfl
@[simp] theorem State.setRad_boot (s : State) (n : Nat) (r : RadSt) : (s.setRad n r).boot = s.boot := by rfl
@[simp] theorem State.setRad_nvm (s : State) (n : Nat) (r : RadSt) : (s.setRad n r).nvm = s.nvm := by rfl
@[simp] theorem State.setRad_pwr (s : State) (n : Nat) (r : RadSt) : (s.setRad n r).pwr = s.pwr := by rfl
@[simp] theorem State.setRad_panel (s : State) (n : Nat) (r : RadSt) : (s.setRad n r).panel = s.panel := by rfl
@[simp] theorem State.setRad_led (s : State) (n : Nat) (r : RadSt) : (s.setRad n r).led = s.led := by rfl
@[simp] theorem State.setRad_rsp (s : State) (n : Nat) (r : RadSt) : (s.setRad n r).rsp = s.rsp := by rfl
@[simp] theorem State.setRad_spi (s : State) (n : Nat) (r : RadSt) : (s.setRad n r).spi = s.spi := by rfl
@[simp] theorem State.setRad_spiOut (s : State) (n : Nat) (r : RadSt) : (s.setRad n r).spiOut = s.spiOut := by rfl
@[simp] theorem State.setRad_samples (s : State) (n : Nat) (r : RadSt) : (s.setRad n r).samples = s.samples := by rfl

@[simp] theorem State.setRole_pending (s : State) (u : Nat) (r : Role) : (s.setRole u r).pending = s.pending := by rfl
@[simp] theorem State.setRole_regs (s : State) (u : Nat) (r : Role) : (s.setRole u r).regs = s.regs := by rfl
@[simp] theorem State.setRole_frc (s : State) (u : Nat) (r : Role) : (s.setRole u r).frc = s.frc := by rfl
@[simp] theorem State.setRole_free (s : State) (u : Nat) (r : Role) : (s.setRole u r).free = s.free := by rfl
@[simp] theorem State.setRole_intT0 (s : State) (u : Nat) (r : Role) : (s.setRole u r).intT0 = s.intT0 := by rfl
@[simp] theorem State.setRole_latchMerged (s : State) (u : Nat) (r : Role) : (s.setRole u r).latchMerged = s.latchMerged := by rfl
@[simp] theorem State.setRole_intOut (s : State) (u : Nat) (r : Role) : (s.setRole u r).intOut = s.intOut := by rfl
@[simp] theorem State.setRole_ports (s : State) (u : Nat) (r : Role) : (s.setRole u r).ports = s.ports := by rfl
@[simp] theorem State.setRole_rads (s : State) (u : Nat) (r : Role) : (s.setRole u r).rads = s.rads := by rfl
@[simp] theorem State.setRole_mem (s : State) (u : Nat) (r : Role) : (s.setRole u r).mem = s.mem := by rfl
@[simp] theorem State.setRole_egr (s : State) (u : Nat) (r : Role) : (s.setRole u r).egr = s.egr := by rfl
@[simp] theorem State.setRole_time (s : State) (u : Nat) (r : Role) : (s.setRole u r).time = s.time := by rfl
@[simp] theorem State.setRole_bell (s : State) (u : Nat) (r : Role) : (s.setRole u r).bell = s.bell := by rfl
@[simp] theorem State.setRole_chip (s : State) (u : Nat) (r : Role) : (s.setRole u r).chip = s.chip := by rfl
@[simp] theorem State.setRole_ledger (s : State) (u : Nat) (r : Role) : (s.setRole u r).ledger = s.ledger := by rfl
@[simp] theorem State.setRole_crc (s : State) (u : Nat) (r : Role) : (s.setRole u r).crc = s.crc := by rfl
@[simp] theorem State.setRole_host (s : State) (u : Nat) (r : Role) : (s.setRole u r).host = s.host := by rfl
@[simp] theorem State.setRole_cls (s : State) (u : Nat) (r : Role) : (s.setRole u r).cls = s.cls := by rfl
@[simp] theorem State.setRole_cores (s : State) (u : Nat) (r : Role) : (s.setRole u r).cores = s.cores := by rfl
@[simp] theorem State.setRole_mbx (s : State) (u : Nat) (r : Role) : (s.setRole u r).mbx = s.mbx := by rfl
@[simp] theorem State.setRole_roll (s : State) (u : Nat) (r : Role) : (s.setRole u r).roll = s.roll := by rfl
@[simp] theorem State.setRole_cmdq (s : State) (u : Nat) (r : Role) : (s.setRole u r).cmdq = s.cmdq := by rfl
@[simp] theorem State.setRole_boot (s : State) (u : Nat) (r : Role) : (s.setRole u r).boot = s.boot := by rfl
@[simp] theorem State.setRole_nvm (s : State) (u : Nat) (r : Role) : (s.setRole u r).nvm = s.nvm := by rfl
@[simp] theorem State.setRole_pwr (s : State) (u : Nat) (r : Role) : (s.setRole u r).pwr = s.pwr := by rfl
@[simp] theorem State.setRole_panel (s : State) (u : Nat) (r : Role) : (s.setRole u r).panel = s.panel := by rfl
@[simp] theorem State.setRole_led (s : State) (u : Nat) (r : Role) : (s.setRole u r).led = s.led := by rfl
@[simp] theorem State.setRole_rsp (s : State) (u : Nat) (r : Role) : (s.setRole u r).rsp = s.rsp := by rfl
@[simp] theorem State.setRole_spi (s : State) (u : Nat) (r : Role) : (s.setRole u r).spi = s.spi := by rfl
@[simp] theorem State.setRole_spiOut (s : State) (u : Nat) (r : Role) : (s.setRole u r).spiOut = s.spiOut := by rfl
@[simp] theorem State.setRole_samples (s : State) (u : Nat) (r : Role) : (s.setRole u r).samples = s.samples := by rfl

@[simp] theorem State.finish_regs (s : State) (t : State) : (s.finish t).regs = t.regs := by rfl
@[simp] theorem State.finish_frc (s : State) (t : State) : (s.finish t).frc = t.frc := by rfl
@[simp] theorem State.finish_free (s : State) (t : State) : (s.finish t).free = t.free := by rfl
@[simp] theorem State.finish_intT0 (s : State) (t : State) : (s.finish t).intT0 = t.intT0 := by rfl
@[simp] theorem State.finish_latchMerged (s : State) (t : State) : (s.finish t).latchMerged = t.latchMerged := by rfl
@[simp] theorem State.finish_roles (s : State) (t : State) : (s.finish t).roles = t.roles := by rfl
@[simp] theorem State.finish_ports (s : State) (t : State) : (s.finish t).ports = t.ports := by rfl
@[simp] theorem State.finish_rads (s : State) (t : State) : (s.finish t).rads = t.rads := by rfl
@[simp] theorem State.finish_mem (s : State) (t : State) : (s.finish t).mem = t.mem := by rfl
@[simp] theorem State.finish_egr (s : State) (t : State) : (s.finish t).egr = t.egr := by rfl
@[simp] theorem State.finish_time (s : State) (t : State) : (s.finish t).time = t.time := by rfl
@[simp] theorem State.finish_bell (s : State) (t : State) : (s.finish t).bell = t.bell := by rfl
@[simp] theorem State.finish_chip (s : State) (t : State) : (s.finish t).chip = t.chip := by rfl
@[simp] theorem State.finish_ledger (s : State) (t : State) : (s.finish t).ledger = t.ledger := by rfl
@[simp] theorem State.finish_crc (s : State) (t : State) : (s.finish t).crc = t.crc := by rfl
@[simp] theorem State.finish_host (s : State) (t : State) : (s.finish t).host = t.host := by rfl
@[simp] theorem State.finish_cls (s : State) (t : State) : (s.finish t).cls = t.cls := by rfl
@[simp] theorem State.finish_cores (s : State) (t : State) : (s.finish t).cores = t.cores := by rfl
@[simp] theorem State.finish_mbx (s : State) (t : State) : (s.finish t).mbx = t.mbx := by rfl
@[simp] theorem State.finish_roll (s : State) (t : State) : (s.finish t).roll = t.roll := by rfl
@[simp] theorem State.finish_cmdq (s : State) (t : State) : (s.finish t).cmdq = t.cmdq := by rfl
@[simp] theorem State.finish_boot (s : State) (t : State) : (s.finish t).boot = t.boot := by rfl
@[simp] theorem State.finish_nvm (s : State) (t : State) : (s.finish t).nvm = t.nvm := by rfl
@[simp] theorem State.finish_pwr (s : State) (t : State) : (s.finish t).pwr = t.pwr := by rfl
@[simp] theorem State.finish_panel (s : State) (t : State) : (s.finish t).panel = t.panel := by rfl
@[simp] theorem State.finish_led (s : State) (t : State) : (s.finish t).led = t.led := by rfl
@[simp] theorem State.finish_rsp (s : State) (t : State) : (s.finish t).rsp = t.rsp := by rfl
@[simp] theorem State.finish_spi (s : State) (t : State) : (s.finish t).spi = t.spi := by rfl
@[simp] theorem State.finish_spiOut (s : State) (t : State) : (s.finish t).spiOut = t.spiOut := by rfl
@[simp] theorem State.finish_samples (s : State) (t : State) : (s.finish t).samples = t.samples := by rfl

@[simp] theorem State.finish_pending (s t : State) : (s.finish t).pending = s.pending := by rfl
@[simp] theorem State.finish_intOut (s t : State) : (s.finish t).intOut = t.lines := by rfl
@[simp] theorem State.setRsp_rsp (s : State) (c : RspCode) (d : Nat) : (s.setRsp c d).rsp = ⟨c, BitVec.ofNat 64 d⟩ := by rfl

/-- The interrupt lines are a function of the registers. -/
theorem State.lines_congr (s t : State) (h : s.regs = t.regs) : s.lines = t.lines := by
  cases s
  cases t
  cases h
  rfl

/-- The lines of a finished command are the ones its interrupt controller drives. -/
@[simp] theorem State.finish_lines (s t : State) : (s.finish t).lines = t.lines := by rfl

end Sys2Proof.Machine
end

