-- ==== Sys2Proof/Laws/Port.lean ====
section
/-! SUPPORT. The frames of the commands: what each of them answers, in the states in which it acts and in those in which it does
not. -/

namespace Sys2Proof.Machine

open Sys2Proof

theorem State.answer_next (s t : State) : s.answer t = .next (s.finish t) := rfl

/-! The island, the main domain, the engines, the register port. -/

theorem State.always_next (s : State) (dt : Nat) (f : State → State) :
    s.always dt f = .next (s.finish (if s.alive then f (s.pass dt) else s)) := rfl

theorem State.always_alive (s : State) (dt : Nat) (f : State → State) (h : s.alive = true) :
    s.always dt f = .next (s.finish (f (s.pass dt))) := by simp [State.always_next, h]

theorem State.always_dead (s : State) (dt : Nat) (f : State → State) (h : s.alive = false) :
    s.always dt f = .next (s.finish s) := by simp [State.always_next, h]

theorem State.main_runs (s : State) (dt : Nat) (f : State → State) (h : s.runs dt = true) :
    s.main dt f = .next (s.finish (f (s.pass dt))) := by
  simp only [State.runs, Bool.and_eq_true, Bool.not_eq_true'] at h
  simp [State.main, State.always_next, h.1, h.2]

/-- In main-domain reset a command of the main domain lets the time pass and does nothing. -/
theorem State.main_reset (s : State) (dt : Nat) (f : State → State) (ha : s.alive = true)
    (h : (s.pass dt).chip.mainReset = true) : s.main dt f = .next (s.finish (s.pass dt)) := by
  simp [State.main, State.always_next, ha, h]

theorem State.engine_awake (s : State) (dt : Nat) (f : State → State) (h : s.awake dt = true) :
    s.engine dt f = .next (s.finish (f (s.pass dt))) := by
  simp only [State.awake, Bool.and_eq_true, Bool.not_eq_true'] at h
  simp [State.engine, State.main_runs _ _ _ h.1, h.2]

theorem State.engine_dozing (s : State) (dt : Nat) (f : State → State) (h : s.runs dt = true)
    (hd : (s.pass dt).dozing = true) : s.engine dt f = .next (s.finish (s.pass dt)) := by
  simp [State.engine, State.main_runs _ _ _ h, hd]

theorem State.portReq_up (s : State) (dt : Nat) (f : State → State) (h : s.portUp dt = true) :
    s.portReq dt f = .next (s.finish (f (s.pass dt))) := by
  simp only [State.portUp, Bool.and_eq_true] at h
  simp [State.portReq, State.main_runs _ _ _ h.1, h.2]

theorem State.portReq_stopped (s : State) (dt : Nat) (f : State → State) (h : s.runs dt = true)
    (hc : (s.pass dt).clkOn 4 = false) : s.portReq dt f = .next (s.finish (s.pass dt)) := by
  simp [State.portReq, State.main_runs _ _ _ h, hc]

/-! How an access is answered. -/

theorem State.respond_denied (s : State) (i : Nat) (wr : Bool) (a size v : Nat) (h : s.granted i wr a v = false) :
    s.respond i wr a size v = (s.denied i wr a, .denied) := by simp [State.respond, h]

theorem State.respond_asleep (s : State) (i : Nat) (wr : Bool) (a size v : Nat) (h : s.granted i wr a v = true)
    (hd : (s.dozing && !sleepReg a) = true) :
    s.respond i wr a size v = (if s.on PWR_CFG.ACC_WAKE then s.wake wkAccess 0 else s, .decode) := by
  simp only [State.respond, h, hd, if_true]

theorem State.respond_form (s : State) (i : Nat) (wr : Bool) (a size v : Nat) (h : s.granted i wr a v = true)
    (hd : (s.dozing && !sleepReg a) = false) :
    s.respond i wr a size v = (s, if badForm wr a size then .decode else .okay) := by
  simp only [State.respond, h, hd, if_true]
  rfl

/-- A write that the port takes has its effect and is answered with OKAY. -/
theorem State.writeReg_takes (s : State) (a : Access) (f : Fld) (i j v : Nat) (eff : Nat → State → State)
    (h : s.takes a true f i j v = true) :
    s.writeReg a f i j v eff = .next (s.finish ((eff (accMask a f i j) (s.pass a.dt)).setRsp .okay 0)) := by
  simp only [State.takes, Bool.and_eq_true, Bool.not_eq_true', decide_eq_true_eq] at h
  obtain ⟨⟨⟨⟨hu, hg⟩, hd⟩, hb⟩, hm⟩ := h
  have hd' : ((s.pass a.dt).dozing && !sleepReg (accAddr (f.key i j) a.up)) = false := by
    revert hd; cases (s.pass a.dt).dozing <;> cases sleepReg (accAddr (f.key i j) a.up) <;> simp
  simp [State.writeReg, State.portReq_up _ _ _ hu, State.busWrite, State.respond_form _ _ _ _ _ _ hg hd', hb, hm, accMask]

/-- A read that the port takes has its effect and is answered with OKAY and the bits it reaches. -/
theorem State.readReg_takes (s : State) (a : Access) (f : Fld) (i : Nat) (eff : State → State × Nat)
    (h : s.takes a false f i 0 0 = true) :
    s.readReg a f i eff =
      .next (s.finish ((eff (s.pass a.dt)).1.setRsp .okay ((eff (s.pass a.dt)).2.land (accMask a f i 0)))) := by
  simp only [State.takes, Bool.and_eq_true, Bool.not_eq_true', decide_eq_true_eq] at h
  obtain ⟨⟨⟨⟨hu, hg⟩, hd⟩, hb⟩, hm⟩ := h
  have hd' : ((s.pass a.dt).dozing && !sleepReg (accAddr (f.key i 0) a.up)) = false := by
    revert hd; cases (s.pass a.dt).dozing <;> cases sleepReg (accAddr (f.key i 0) a.up) <;> simp
  simp [State.readReg, State.portReq_up _ _ _ hu, State.busRead, State.respond_form _ _ _ _ _ _ hg hd', hb, hm, accMask]

/-- A queued command that the port takes is issued to the command engine. -/
theorem State.writeQueued_takes (s : State) (a : Access) (f : Fld) (i v : Nat) (h : s.takes a true f i 0 v = true) :
    s.writeQueued a f i v = .next (s.finish (((s.pass a.dt).queueCmd f.base i a.init.val v).setRsp .okay 0)) := by
  simp [State.writeQueued, State.writeReg_takes _ _ _ _ _ _ _ h]

/-- A command word in range enters the command engine (R13). -/
theorem State.queueCmd_range (s : State) (base i c v : Nat) (h : rangeOk base v = true) :
    s.queueCmd base i c v = s.command base i c v := by simp [State.queueCmd, h]

/-- A command word out of range is dropped: the write is answered and nothing else happens (R13). -/
theorem State.writeQueued_dropped (s : State) (a : Access) (f : Fld) (i v : Nat) (h : s.takes a true f i 0 v = true)
    (hr : rangeOk f.base v = false) : s.writeQueued a f i v = .next (s.finish ((s.pass a.dt).setRsp .okay 0)) := by
  simp [State.writeQueued_takes _ _ _ _ _ h, State.queueCmd, hr]

/-- Outside fixed work and SLEEP, with no command waiting, the command engine serves a command at once. -/
theorem State.command_served (s : State) (base i c w : Nat) (hq : s.cmdq.isEmpty = true) (hs : s.serving = true) :
    s.command base i c w = (s.cmdEffect (QCmd.mk base i c w (s.staged base c))).pmu evCmdServed 1 := by
  have h0 : s.cmdq = [] := by simpa using hq
  simp only [State.command, State.issue, h0, hs]
  rfl

/-- In fixed work and in SLEEP a command waits at the end of the queue. -/
theorem State.command_waits (s : State) (base i c w : Nat) (hq : s.cmdq.length < 16) (hs : s.serving = false) :
    s.command base i c w =
      { s.doneClear (QCmd.mk base i c w (s.staged base c)) with cmdq := s.cmdq ++ [QCmd.mk base i c w (s.staged base c)] } := by
  have h16 : ¬16 ≤ s.cmdq.length := by omega
  simp only [State.command, State.issue, hs, if_neg h16, Bool.false_and]
  rfl

/-- A queued command that is served at once has its effect, is counted by the performance monitor and answered with OKAY. -/
theorem State.writeQueued_serves (s : State) (a : Access) (f : Fld) (i v : Nat) (h : s.serves a f i v = true) :
    s.writeQueued a f i v = .next (s.finish
      ((((s.pass a.dt).cmdEffect (QCmd.mk f.base i a.init.val v ((s.pass a.dt).staged f.base a.init.val))).pmu evCmdServed 1).setRsp
        .okay 0)) := by
  simp only [State.serves, Bool.and_eq_true] at h
  rw [State.writeQueued_takes _ _ _ _ _ h.1.1.1, State.queueCmd_range _ _ _ _ _ h.1.1.2, State.command_served _ _ _ _ _ h.1.2 h.2]

/-- A plain access that the port takes acts on its register and is answered with OKAY. -/
theorem State.access_plain (s : State) (a : Access) (wr : Bool) (addr v d : Nat) (h : s.plainAccess a wr addr v = true) :
    s.portReq a.dt (fun s => s.access a.init.val wr addr a.size.toNat v d) = .next (s.finish
      (if wr then ((s.pass a.dt).writeAt a.init.val addr a.size.toNat v).setRsp .okay 0
       else ((s.pass a.dt).readAt a.init.val addr a.size.toNat).1.setRsp .okay
        ((s.pass a.dt).readAt a.init.val addr a.size.toNat).2)) := by
  simp only [State.plainAccess, Bool.and_eq_true, Bool.not_eq_true'] at h
  obtain ⟨⟨⟨⟨⟨hu, hg⟩, hd⟩, hb⟩, ha⟩, hp⟩ := h
  have hd' : ((s.pass a.dt).dozing && !sleepReg addr) = false := by
    revert hd; cases (s.pass a.dt).dozing <;> cases sleepReg addr <;> simp
  cases wr <;>
    simp [State.portReq_up _ _ _ hu, State.access, State.respond_form _ _ _ _ _ _ hg hd', hb, State.accessAt, ha, hp]

/-! The step. -/

theorem step_front (s : State) (c : Instr) (rest : List Instr) (h : s.pending = c :: rest) :
    step s = exec c { s with pending := rest } := by simp [step, h]

theorem step_empty (s : State) (h : s.pending = []) : step s = .next (s.finish (if s.alive then s.pass 1 else s)) := by
  simp [step, h, State.idle, State.always_next]

/-! What a port's receiver takes in. -/

theorem State.receive_hears (s : State) (dt u : Nat) (f : State → State) (h : s.hears dt u = true) :
    s.main dt (fun s => s.receive u f) = .next (s.finish (f (s.pass dt))) := by
  simp only [State.hears, Bool.and_eq_true, Bool.not_eq_true'] at h
  simp [State.main_runs _ _ _ h.1.1, State.receive, h.1.2, h.2]

/-- Outside DOZE and WATCH the LINK wake adds nothing. -/
theorem State.linkWatch_awake (s : State) (f : State → State) (h : s.dozing = false) : s.linkWatch f = f s := by
  simp [State.linkWatch, h]

end Sys2Proof.Machine
end

