-- ==== Sys2Proof/Laws/Queue.lean ====
section
/-! SUPPORT. What the command engine does with a queued command of each register (R94), and the words it captures. -/

namespace Sys2Proof.Machine

open Sys2Proof

/-! The effect, by register. -/

theorem State.cmdEffect_GLB_ROLE_CMD (p : State) (i c w : Nat) (stg : List Nat) :
    p.cmdEffect (QCmd.mk GLB_ROLE_CMD.reg.base i c w stg) = p.roleCmd w := by
  unfold State.cmdEffect
  rw [if_pos rfl]

theorem State.cmdEffect_PORT_GCL_CMD (p : State) (i c w : Nat) (stg : List Nat) :
    p.cmdEffect (QCmd.mk PORT_GCL_CMD.reg.base i c w stg) = p.gclCmd i w := by
  unfold State.cmdEffect
  rw [if_neg (show ¬PORT_GCL_CMD.reg.base = GLB_ROLE_CMD.reg.base by decide), if_pos rfl]

theorem State.cmdEffect_MEM_BANK_CMD (p : State) (i c w : Nat) (stg : List Nat) :
    p.cmdEffect (QCmd.mk MEM_BANK_CMD.reg.base i c w stg) = p.bankCmd w := by
  unfold State.cmdEffect
  rw [if_neg (show ¬MEM_BANK_CMD.reg.base = GLB_ROLE_CMD.reg.base by decide),
      if_neg (show ¬MEM_BANK_CMD.reg.base = PORT_GCL_CMD.reg.base by decide), if_pos rfl]

theorem State.cmdEffect_MEM_COL_CMD (p : State) (i c w : Nat) (stg : List Nat) :
    p.cmdEffect (QCmd.mk MEM_COL_CMD.reg.base i c w stg) = p.colCmd w := by
  unfold State.cmdEffect
  rw [if_neg (show ¬MEM_COL_CMD.reg.base = GLB_ROLE_CMD.reg.base by decide),
      if_neg (show ¬MEM_COL_CMD.reg.base = PORT_GCL_CMD.reg.base by decide),
      if_neg (show ¬MEM_COL_CMD.reg.base = MEM_BANK_CMD.reg.base by decide), if_pos rfl]

theorem State.cmdEffect_MEM_MARCH_CMD (p : State) (i c w : Nat) (stg : List Nat) :
    p.cmdEffect (QCmd.mk MEM_MARCH_CMD.reg.base i c w stg) = p.marchCmd w := by
  unfold State.cmdEffect
  rw [if_neg (show ¬MEM_MARCH_CMD.reg.base = GLB_ROLE_CMD.reg.base by decide),
      if_neg (show ¬MEM_MARCH_CMD.reg.base = PORT_GCL_CMD.reg.base by decide),
      if_neg (show ¬MEM_MARCH_CMD.reg.base = MEM_BANK_CMD.reg.base by decide),
      if_neg (show ¬MEM_MARCH_CMD.reg.base = MEM_COL_CMD.reg.base by decide), if_pos rfl]

theorem State.cmdEffect_POOL_CMD (p : State) (i c w : Nat) (stg : List Nat) :
    p.cmdEffect (QCmd.mk POOL_CMD.reg.base i c w stg) = p.poolCmd w := by
  unfold State.cmdEffect
  rw [if_neg (show ¬POOL_CMD.reg.base = GLB_ROLE_CMD.reg.base by decide),
      if_neg (show ¬POOL_CMD.reg.base = PORT_GCL_CMD.reg.base by decide),
      if_neg (show ¬POOL_CMD.reg.base = MEM_BANK_CMD.reg.base by decide),
      if_neg (show ¬POOL_CMD.reg.base = MEM_COL_CMD.reg.base by decide),
      if_neg (show ¬POOL_CMD.reg.base = MEM_MARCH_CMD.reg.base by decide), if_pos rfl]

theorem State.cmdEffect_CLS_RULE_CMD (p : State) (i c w : Nat) (stg : List Nat) :
    p.cmdEffect (QCmd.mk CLS_RULE_CMD.reg.base i c w stg) = p.ruleCmd c w stg := by
  unfold State.cmdEffect
  rw [if_neg (show ¬CLS_RULE_CMD.reg.base = GLB_ROLE_CMD.reg.base by decide),
      if_neg (show ¬CLS_RULE_CMD.reg.base = PORT_GCL_CMD.reg.base by decide),
      if_neg (show ¬CLS_RULE_CMD.reg.base = MEM_BANK_CMD.reg.base by decide),
      if_neg (show ¬CLS_RULE_CMD.reg.base = MEM_COL_CMD.reg.base by decide),
      if_neg (show ¬CLS_RULE_CMD.reg.base = MEM_MARCH_CMD.reg.base by decide),
      if_neg (show ¬CLS_RULE_CMD.reg.base = POOL_CMD.reg.base by decide), if_pos rfl]

theorem State.cmdEffect_CLS_FLOW_CMD (p : State) (i c w : Nat) (stg : List Nat) :
    p.cmdEffect (QCmd.mk CLS_FLOW_CMD.reg.base i c w stg) = p.flowCmd c w stg := by
  unfold State.cmdEffect
  rw [if_neg (show ¬CLS_FLOW_CMD.reg.base = GLB_ROLE_CMD.reg.base by decide),
      if_neg (show ¬CLS_FLOW_CMD.reg.base = PORT_GCL_CMD.reg.base by decide),
      if_neg (show ¬CLS_FLOW_CMD.reg.base = MEM_BANK_CMD.reg.base by decide),
      if_neg (show ¬CLS_FLOW_CMD.reg.base = MEM_COL_CMD.reg.base by decide),
      if_neg (show ¬CLS_FLOW_CMD.reg.base = MEM_MARCH_CMD.reg.base by decide),
      if_neg (show ¬CLS_FLOW_CMD.reg.base = POOL_CMD.reg.base by decide),
      if_neg (show ¬CLS_FLOW_CMD.reg.base = CLS_RULE_CMD.reg.base by decide), if_pos rfl]

theorem State.cmdEffect_BR_FDB_CMD (p : State) (i c w : Nat) (stg : List Nat) :
    p.cmdEffect (QCmd.mk BR_FDB_CMD.reg.base i c w stg) = p.fdbCmd c w stg := by
  unfold State.cmdEffect
  rw [if_neg (show ¬BR_FDB_CMD.reg.base = GLB_ROLE_CMD.reg.base by decide),
      if_neg (show ¬BR_FDB_CMD.reg.base = PORT_GCL_CMD.reg.base by decide),
      if_neg (show ¬BR_FDB_CMD.reg.base = MEM_BANK_CMD.reg.base by decide),
      if_neg (show ¬BR_FDB_CMD.reg.base = MEM_COL_CMD.reg.base by decide),
      if_neg (show ¬BR_FDB_CMD.reg.base = MEM_MARCH_CMD.reg.base by decide),
      if_neg (show ¬BR_FDB_CMD.reg.base = POOL_CMD.reg.base by decide),
      if_neg (show ¬BR_FDB_CMD.reg.base = CLS_RULE_CMD.reg.base by decide),
      if_neg (show ¬BR_FDB_CMD.reg.base = CLS_FLOW_CMD.reg.base by decide), if_pos rfl]

theorem State.cmdEffect_ROLL_NBR_CMD (p : State) (i c w : Nat) (stg : List Nat) :
    p.cmdEffect (QCmd.mk ROLL_NBR_CMD.reg.base i c w stg) = p.nbrCmd c w stg := by
  unfold State.cmdEffect
  rw [if_neg (show ¬ROLL_NBR_CMD.reg.base = GLB_ROLE_CMD.reg.base by decide),
      if_neg (show ¬ROLL_NBR_CMD.reg.base = PORT_GCL_CMD.reg.base by decide),
      if_neg (show ¬ROLL_NBR_CMD.reg.base = MEM_BANK_CMD.reg.base by decide),
      if_neg (show ¬ROLL_NBR_CMD.reg.base = MEM_COL_CMD.reg.base by decide),
      if_neg (show ¬ROLL_NBR_CMD.reg.base = MEM_MARCH_CMD.reg.base by decide),
      if_neg (show ¬ROLL_NBR_CMD.reg.base = POOL_CMD.reg.base by decide),
      if_neg (show ¬ROLL_NBR_CMD.reg.base = CLS_RULE_CMD.reg.base by decide),
      if_neg (show ¬ROLL_NBR_CMD.reg.base = CLS_FLOW_CMD.reg.base by decide),
      if_neg (show ¬ROLL_NBR_CMD.reg.base = BR_FDB_CMD.reg.base by decide), if_pos rfl]

theorem State.cmdEffect_NVM_CMD (p : State) (i c w : Nat) (stg : List Nat) :
    p.cmdEffect (QCmd.mk NVM_CMD.reg.base i c w stg) = p.nvmCmd w stg := by
  unfold State.cmdEffect
  rw [if_neg (show ¬NVM_CMD.reg.base = GLB_ROLE_CMD.reg.base by decide),
      if_neg (show ¬NVM_CMD.reg.base = PORT_GCL_CMD.reg.base by decide),
      if_neg (show ¬NVM_CMD.reg.base = MEM_BANK_CMD.reg.base by decide),
      if_neg (show ¬NVM_CMD.reg.base = MEM_COL_CMD.reg.base by decide),
      if_neg (show ¬NVM_CMD.reg.base = MEM_MARCH_CMD.reg.base by decide),
      if_neg (show ¬NVM_CMD.reg.base = POOL_CMD.reg.base by decide),
      if_neg (show ¬NVM_CMD.reg.base = CLS_RULE_CMD.reg.base by decide),
      if_neg (show ¬NVM_CMD.reg.base = CLS_FLOW_CMD.reg.base by decide),
      if_neg (show ¬NVM_CMD.reg.base = BR_FDB_CMD.reg.base by decide),
      if_neg (show ¬NVM_CMD.reg.base = ROLL_NBR_CMD.reg.base by decide), if_pos rfl]

theorem State.cmdEffect_PROT_CMD (p : State) (i c w : Nat) (stg : List Nat) :
    p.cmdEffect (QCmd.mk PROT_CMD.reg.base i c w stg) = p.protCmd c w stg := by
  unfold State.cmdEffect
  rw [if_neg (show ¬PROT_CMD.reg.base = GLB_ROLE_CMD.reg.base by decide),
      if_neg (show ¬PROT_CMD.reg.base = PORT_GCL_CMD.reg.base by decide),
      if_neg (show ¬PROT_CMD.reg.base = MEM_BANK_CMD.reg.base by decide),
      if_neg (show ¬PROT_CMD.reg.base = MEM_COL_CMD.reg.base by decide),
      if_neg (show ¬PROT_CMD.reg.base = MEM_MARCH_CMD.reg.base by decide),
      if_neg (show ¬PROT_CMD.reg.base = POOL_CMD.reg.base by decide),
      if_neg (show ¬PROT_CMD.reg.base = CLS_RULE_CMD.reg.base by decide),
      if_neg (show ¬PROT_CMD.reg.base = CLS_FLOW_CMD.reg.base by decide),
      if_neg (show ¬PROT_CMD.reg.base = BR_FDB_CMD.reg.base by decide),
      if_neg (show ¬PROT_CMD.reg.base = ROLL_NBR_CMD.reg.base by decide),
      if_neg (show ¬PROT_CMD.reg.base = NVM_CMD.reg.base by decide), if_pos rfl]

/-! A command that is served at once. -/

theorem State.served_GLB_ROLE_CMD (s : State) (a : Access) (i v : Nat) (h : s.serves a GLB_ROLE_CMD.reg i v = true) :
    s.writeQueued a GLB_ROLE_CMD.reg i v = .next (s.finish
      ((((s.pass a.dt).roleCmd v).pmu evCmdServed 1).setRsp .okay 0)) := by
  rw [State.writeQueued_serves s a _ i v h, State.cmdEffect_GLB_ROLE_CMD]

theorem State.served_PORT_GCL_CMD (s : State) (a : Access) (i v : Nat) (h : s.serves a PORT_GCL_CMD.reg i v = true) :
    s.writeQueued a PORT_GCL_CMD.reg i v = .next (s.finish
      ((((s.pass a.dt).gclCmd i v).pmu evCmdServed 1).setRsp .okay 0)) := by
  rw [State.writeQueued_serves s a _ i v h, State.cmdEffect_PORT_GCL_CMD]

theorem State.served_MEM_BANK_CMD (s : State) (a : Access) (i v : Nat) (h : s.serves a MEM_BANK_CMD.reg i v = true) :
    s.writeQueued a MEM_BANK_CMD.reg i v = .next (s.finish
      ((((s.pass a.dt).bankCmd v).pmu evCmdServed 1).setRsp .okay 0)) := by
  rw [State.writeQueued_serves s a _ i v h, State.cmdEffect_MEM_BANK_CMD]

theorem State.served_MEM_COL_CMD (s : State) (a : Access) (i v : Nat) (h : s.serves a MEM_COL_CMD.reg i v = true) :
    s.writeQueued a MEM_COL_CMD.reg i v = .next (s.finish
      ((((s.pass a.dt).colCmd v).pmu evCmdServed 1).setRsp .okay 0)) := by
  rw [State.writeQueued_serves s a _ i v h, State.cmdEffect_MEM_COL_CMD]

theorem State.served_MEM_MARCH_CMD (s : State) (a : Access) (i v : Nat) (h : s.serves a MEM_MARCH_CMD.reg i v = true) :
    s.writeQueued a MEM_MARCH_CMD.reg i v = .next (s.finish
      ((((s.pass a.dt).marchCmd v).pmu evCmdServed 1).setRsp .okay 0)) := by
  rw [State.writeQueued_serves s a _ i v h, State.cmdEffect_MEM_MARCH_CMD]

theorem State.served_POOL_CMD (s : State) (a : Access) (i v : Nat) (h : s.serves a POOL_CMD.reg i v = true) :
    s.writeQueued a POOL_CMD.reg i v = .next (s.finish
      ((((s.pass a.dt).poolCmd v).pmu evCmdServed 1).setRsp .okay 0)) := by
  rw [State.writeQueued_serves s a _ i v h, State.cmdEffect_POOL_CMD]

theorem State.served_CLS_RULE_CMD (s : State) (a : Access) (i v : Nat) (h : s.serves a CLS_RULE_CMD.reg i v = true) :
    s.writeQueued a CLS_RULE_CMD.reg i v = .next (s.finish
      ((((s.pass a.dt).ruleCmd a.init.val v ((s.pass a.dt).staged CLS_RULE_CMD.reg.base a.init.val)).pmu evCmdServed 1).setRsp .okay 0)) := by
  rw [State.writeQueued_serves s a _ i v h, State.cmdEffect_CLS_RULE_CMD]

theorem State.served_CLS_FLOW_CMD (s : State) (a : Access) (i v : Nat) (h : s.serves a CLS_FLOW_CMD.reg i v = true) :
    s.writeQueued a CLS_FLOW_CMD.reg i v = .next (s.finish
      ((((s.pass a.dt).flowCmd a.init.val v ((s.pass a.dt).staged CLS_FLOW_CMD.reg.base a.init.val)).pmu evCmdServed 1).setRsp .okay 0)) := by
  rw [State.writeQueued_serves s a _ i v h, State.cmdEffect_CLS_FLOW_CMD]

theorem State.served_BR_FDB_CMD (s : State) (a : Access) (i v : Nat) (h : s.serves a BR_FDB_CMD.reg i v = true) :
    s.writeQueued a BR_FDB_CMD.reg i v = .next (s.finish
      ((((s.pass a.dt).fdbCmd a.init.val v ((s.pass a.dt).staged BR_FDB_CMD.reg.base a.init.val)).pmu evCmdServed 1).setRsp .okay 0)) := by
  rw [State.writeQueued_serves s a _ i v h, State.cmdEffect_BR_FDB_CMD]

theorem State.served_ROLL_NBR_CMD (s : State) (a : Access) (i v : Nat) (h : s.serves a ROLL_NBR_CMD.reg i v = true) :
    s.writeQueued a ROLL_NBR_CMD.reg i v = .next (s.finish
      ((((s.pass a.dt).nbrCmd a.init.val v ((s.pass a.dt).staged ROLL_NBR_CMD.reg.base a.init.val)).pmu evCmdServed 1).setRsp .okay 0)) := by
  rw [State.writeQueued_serves s a _ i v h, State.cmdEffect_ROLL_NBR_CMD]

theorem State.served_NVM_CMD (s : State) (a : Access) (i v : Nat) (h : s.serves a NVM_CMD.reg i v = true) :
    s.writeQueued a NVM_CMD.reg i v = .next (s.finish
      ((((s.pass a.dt).nvmCmd v ((s.pass a.dt).staged NVM_CMD.reg.base a.init.val)).pmu evCmdServed 1).setRsp .okay 0)) := by
  rw [State.writeQueued_serves s a _ i v h, State.cmdEffect_NVM_CMD]

theorem State.served_PROT_CMD (s : State) (a : Access) (i v : Nat) (h : s.serves a PROT_CMD.reg i v = true) :
    s.writeQueued a PROT_CMD.reg i v = .next (s.finish
      ((((s.pass a.dt).protCmd a.init.val v ((s.pass a.dt).staged PROT_CMD.reg.base a.init.val)).pmu evCmdServed 1).setRsp .okay 0)) := by
  rw [State.writeQueued_serves s a _ i v h, State.cmdEffect_PROT_CMD]

end Sys2Proof.Machine
end

