-- ==== Sys2Proof/Laws/Sites.lean ====
section
/-! SUPPORT. What frame each command has: in which part of the block it acts, and after how many cycles. -/

namespace Sys2Proof.Machine

open Sys2Proof

/-- Every command but those of the reset pins and the tamper inputs acts through the frame of its part of the block, after its
cycles. -/
theorem exec_site (c : Instr) (s : State) :
    match (siteOf c).dom with
    | .chip => True
    | .island => ∃ f, exec c s = s.always (siteOf c).dt f
    | .main => ∃ f, exec c s = s.main (siteOf c).dt f
    | .engine => ∃ f, exec c s = s.engine (siteOf c).dt f
    | .port => ∃ f, exec c s = s.portReq (siteOf c).dt f := by
  cases c with
  | registerWrite a addr =>
    show ∃ f, _ = State.portReq s _ f
    simp only [exec, execRegisterWrite]
    exact ⟨_, rfl⟩
  | aonPor _ => trivial
  | porst _ _ => trivial
  | coreRail dt sram x =>
    show ∃ f, _ = State.always s _ f
    simp only [exec, execCoreRail]
    exact ⟨_, rfl⟩
  | ledgerRail dt low =>
    show ∃ f, _ = State.always s _ f
    simp only [exec, execLedgerRail]
    exact ⟨_, rfl⟩
  | ledgerRailReturn dt =>
    show ∃ f, _ = State.always s _ f
    simp only [exec, execLedgerRailReturn]
    exact ⟨_, rfl⟩
  | clockLoss dt d rxOpen =>
    show ∃ f, _ = State.always s _ f
    simp only [exec, execClockLoss]
    exact ⟨_, rfl⟩
  | clockReturn dt d =>
    show ∃ f, _ = State.always s _ f
    simp only [exec, execClockReturn]
    exact ⟨_, rfl⟩
  | glbRstCmd a =>
    show ∃ f, _ = State.portReq s _ f
    simp only [exec, execGlbRstCmd, State.writeReg]
    exact ⟨_, rfl⟩
  | swReset dt =>
    show ∃ f, _ = State.main s _ f
    simp only [exec, execSwReset]
    exact ⟨_, rfl⟩
  | mainResetEnd w =>
    show ∃ f, _ = State.always s _ f
    simp only [exec, execMainResetEnd]
    exact ⟨_, rfl⟩
  | bootCounterWrite dt =>
    show ∃ f, _ = State.main s _ f
    simp only [exec, execBootCounterWrite]
    exact ⟨_, rfl⟩
  | startMarch dt defects =>
    show ∃ f, _ = State.main s _ f
    simp only [exec, execStartMarch]
    exact ⟨_, rfl⟩
  | imageLoad dt flash0 flash1 =>
    show ∃ f, _ = State.main s _ f
    simp only [exec, execImageLoad]
    exact ⟨_, rfl⟩
  | poolBuild dt =>
    show ∃ f, _ = State.main s _ f
    simp only [exec, execPoolBuild]
    exact ⟨_, rfl⟩
  | gpioInput dt pin level =>
    show ∃ f, _ = State.always s _ f
    simp only [exec, execGpioInput]
    exact ⟨_, rfl⟩
  | hostReadResponse dt tag bad data =>
    show ∃ f, _ = State.main s _ f
    simp only [exec, execHostReadResponse]
    exact ⟨_, rfl⟩
  | hostWriteResponse dt tag bad =>
    show ∃ f, _ = State.main s _ f
    simp only [exec, execHostWriteResponse]
    exact ⟨_, rfl⟩
  | hostTimeout =>
    show ∃ f, _ = State.main s _ f
    simp only [exec, execHostTimeout]
    exact ⟨_, rfl⟩
  | write32 dt addr data x =>
    show ∃ f, _ = State.main s _ f
    simp only [exec, execWrite32]
    exact ⟨_, rfl⟩
  | write64 dt addr data x =>
    show ∃ f, _ = State.main s _ f
    simp only [exec, execWrite64]
    exact ⟨_, rfl⟩
  | read32 dt addr x =>
    show ∃ f, _ = State.main s _ f
    simp only [exec, execRead32]
    exact ⟨_, rfl⟩
  | read64 dt addr x =>
    show ∃ f, _ = State.main s _ f
    simp only [exec, execRead64]
    exact ⟨_, rfl⟩
  | regacc dt wr wide addr data =>
    show ∃ f, _ = State.main s _ f
    simp only [exec, execRegacc]
    exact ⟨_, rfl⟩
  | mbist dt =>
    show ∃ f, _ = State.main s _ f
    simp only [exec, execMbist]
    exact ⟨_, rfl⟩
  | jtagTrst w =>
    show ∃ f, _ = State.always s _ f
    simp only [exec, execJtagTrst]
    exact ⟨_, rfl⟩
  | tmScan dt mbist =>
    show ∃ f, _ = State.main s _ f
    simp only [exec, execTmScan]
    exact ⟨_, rfl⟩
  | roleCmd a =>
    show ∃ f, _ = State.portReq s _ f
    simp only [exec, execRoleCmd, State.writeQueued, State.writeReg]
    exact ⟨_, rfl⟩
  | requestTest a =>
    show ∃ f, _ = State.portReq s _ f
    simp only [exec, execRequestTest, State.writeReg]
    exact ⟨_, rfl⟩
  | requestService a =>
    show ∃ f, _ = State.portReq s _ f
    simp only [exec, execRequestService, State.writeReg]
    exact ⟨_, rfl⟩
  | requestStart a =>
    show ∃ f, _ = State.portReq s _ f
    simp only [exec, execRequestStart, State.writeReg]
    exact ⟨_, rfl⟩
  | requestSleep a =>
    show ∃ f, _ = State.portReq s _ f
    simp only [exec, execRequestSleep, State.writeReg]
    exact ⟨_, rfl⟩
  | haltRequest a =>
    show ∃ f, _ = State.portReq s _ f
    simp only [exec, execHaltRequest, State.writeReg]
    exact ⟨_, rfl⟩
  | bellEdge =>
    show ∃ f, _ = State.main s _ f
    simp only [exec, execBellEdge]
    exact ⟨_, rfl⟩
  | termBoundary =>
    show ∃ f, _ = State.main s _ f
    simp only [exec, execTermBoundary, State.onEdge]
    exact ⟨_, rfl⟩
  | rephaseEdge =>
    show ∃ f, _ = State.main s _ f
    simp only [exec, execRephaseEdge, State.onEdge]
    exact ⟨_, rfl⟩
  | glbBellCfgWrite a =>
    show ∃ f, _ = State.portReq s _ f
    simp only [exec, execGlbBellCfgWrite, State.writeReg]
    exact ⟨_, rfl⟩
  | preservingMarchStep w defects =>
    show ∃ f, _ = State.main s _ f
    simp only [exec, execPreservingMarchStep, State.stepOp]
    exact ⟨_, rfl⟩
  | scrubStep w =>
    show ∃ f, _ = State.main s _ f
    simp only [exec, execScrubStep]
    exact ⟨_, rfl⟩
  | fillStep dt =>
    show ∃ f, _ = State.main s _ f
    simp only [exec, execFillStep]
    exact ⟨_, rfl⟩
  | ruleBankSwapStep dt =>
    show ∃ f, _ = State.main s _ f
    simp only [exec, execRuleBankSwapStep, State.stepOp]
    exact ⟨_, rfl⟩
  | poolRebuildStep dt =>
    show ∃ f, _ = State.main s _ f
    simp only [exec, execPoolRebuildStep, State.stepOp]
    exact ⟨_, rfl⟩
  | ledgerWriteStep dt miss =>
    show ∃ f, _ = State.main s _ f
    simp only [exec, execLedgerWriteStep, State.stepOp]
    exact ⟨_, rfl⟩
  | flashStep dt bytes =>
    show ∃ f, _ = State.main s _ f
    simp only [exec, execFlashStep, State.stepOp]
    exact ⟨_, rfl⟩
  | secureZeroStep dt =>
    show ∃ f, _ = State.main s _ f
    simp only [exec, execSecureZeroStep, State.stepOp]
    exact ⟨_, rfl⟩
  | rxFrame dt n age lane c b =>
    show ∃ f, _ = State.main s _ f
    simp only [exec, execRxFrame]
    exact ⟨_, rfl⟩
  | rxJabber dt n =>
    show ∃ f, _ = State.main s _ f
    simp only [exec, execRxJabber]
    exact ⟨_, rfl⟩
  | localFault dt n c w =>
    show ∃ f, _ = State.main s _ f
    simp only [exec, execLocalFault]
    exact ⟨_, rfl⟩
  | linkStateChange dt n linkOk rxOpen =>
    show ∃ f, _ = State.always s _ f
    simp only [exec, execLinkStateChange]
    exact ⟨_, rfl⟩
  | upHoldExpiry n =>
    show ∃ f, _ = State.main s _ f
    simp only [exec, execUpHoldExpiry]
    exact ⟨_, rfl⟩
  | egressCopy dt u =>
    show ∃ f, _ = State.engine s _ f
    simp only [exec, execEgressCopy]
    exact ⟨_, rfl⟩
  | txFrameStart dt n extra =>
    show ∃ f, _ = State.main s _ f
    simp only [exec, execTxFrameStart]
    exact ⟨_, rfl⟩
  | terminate dt n =>
    show ∃ f, _ = State.main s _ f
    simp only [exec, execTerminate]
    exact ⟨_, rfl⟩
  | portnMacCtrlWrite a n =>
    show ∃ f, _ = State.portReq s _ f
    simp only [exec, execPortnMacCtrlWrite, State.writeReg]
    exact ⟨_, rfl⟩
  | losChg w n level =>
    show ∃ f, _ = State.main s _ f
    simp only [exec, execLosChg]
    exact ⟨_, rfl⟩
  | txflt w n =>
    show ∃ f, _ = State.main s _ f
    simp only [exec, execTxflt]
    exact ⟨_, rfl⟩
  | rxPause dt n own quanta =>
    show ∃ f, _ = State.main s _ f
    simp only [exec, execRxPause]
    exact ⟨_, rfl⟩
  | rxPfc dt n vec times =>
    show ∃ f, _ = State.main s _ f
    simp only [exec, execRxPfc]
    exact ⟨_, rfl⟩
  | pauseTimerExpiry n =>
    show ∃ f, _ = State.main s _ f
    simp only [exec, execPauseTimerExpiry]
    exact ⟨_, rfl⟩
  | pfcTimerExpiry n p =>
    show ∃ f, _ = State.main s _ f
    simp only [exec, execPfcTimerExpiry]
    exact ⟨_, rfl⟩
  | xoff dt n =>
    show ∃ f, _ = State.main s _ f
    simp only [exec, execXoff]
    exact ⟨_, rfl⟩
  | txPause w n =>
    show ∃ f, _ = State.main s _ f
    simp only [exec, execTxPause]
    exact ⟨_, rfl⟩
  | pauseRefresh n =>
    show ∃ f, _ = State.main s _ f
    simp only [exec, execPauseRefresh]
    exact ⟨_, rfl⟩
  | fcModeWrite a n =>
    show ∃ f, _ = State.portReq s _ f
    simp only [exec, execFcModeWrite, State.writeReg]
    exact ⟨_, rfl⟩
  | pauseWdog n =>
    show ∃ f, _ = State.main s _ f
    simp only [exec, execPauseWdog]
    exact ⟨_, rfl⟩
  | wdogTripClear a n =>
    show ∃ f, _ = State.portReq s _ f
    simp only [exec, execWdogTripClear, State.writeReg]
    exact ⟨_, rfl⟩
  | recessEntry n =>
    show ∃ f, _ = State.main s _ f
    simp only [exec, execRecessEntry]
    exact ⟨_, rfl⟩
  | recessExit dt n =>
    show ∃ f, _ = State.main s _ f
    simp only [exec, execRecessExit]
    exact ⟨_, rfl⟩
  | wakingEnd n =>
    show ∃ f, _ = State.main s _ f
    simp only [exec, execWakingEnd]
    exact ⟨_, rfl⟩
  | rxLpi dt n lpi =>
    show ∃ f, _ = State.main s _ f
    simp only [exec, execRxLpi]
    exact ⟨_, rfl⟩
  | switch a n =>
    show ∃ f, _ = State.portReq s _ f
    simp only [exec, execSwitch, State.writeQueued, State.writeReg]
    exact ⟨_, rfl⟩
  | cancel a n =>
    show ∃ f, _ = State.portReq s _ f
    simp only [exec, execCancel, State.writeQueued, State.writeReg]
    exact ⟨_, rfl⟩
  | gclEntryWrite a n l i =>
    show ∃ f, _ = State.portReq s _ f
    simp only [exec, execGclEntryWrite, State.writeReg]
    exact ⟨_, rfl⟩
  | portnGclCfgWrite a n =>
    show ∃ f, _ = State.portReq s _ f
    simp only [exec, execPortnGclCfgWrite, State.writeReg]
    exact ⟨_, rfl⟩
  | gateChange n =>
    show ∃ f, _ = State.main s _ f
    simp only [exec, execGateChange]
    exact ⟨_, rfl⟩
  | hold n =>
    show ∃ f, _ = State.main s _ f
    simp only [exec, execHold]
    exact ⟨_, rfl⟩
  | verifyStart dt n =>
    show ∃ f, _ = State.main s _ f
    simp only [exec, execVerifyStart]
    exact ⟨_, rfl⟩
  | verifyMsExpiry n =>
    show ∃ f, _ = State.main s _ f
    simp only [exec, execVerifyMsExpiry]
    exact ⟨_, rfl⟩
  | rxVerify dt n b =>
    show ∃ f, _ = State.main s _ f
    simp only [exec, execRxVerify]
    exact ⟨_, rfl⟩
  | rxRespond dt n b =>
    show ∃ f, _ = State.main s _ f
    simp only [exec, execRxRespond]
    exact ⟨_, rfl⟩
  | preemptCut dt n =>
    show ∃ f, _ = State.main s _ f
    simp only [exec, execPreemptCut]
    exact ⟨_, rfl⟩
  | preemptContinue dt n extra =>
    show ∃ f, _ = State.main s _ f
    simp only [exec, execPreemptContinue]
    exact ⟨_, rfl⟩
  | rxFragment dt n age lane smd cnt b =>
    show ∃ f, _ = State.main s _ f
    simp only [exec, execRxFragment]
    exact ⟨_, rfl⟩
  | launchAvailable n =>
    show ∃ f, _ = State.main s _ f
    simp only [exec, execLaunchAvailable]
    exact ⟨_, rfl⟩
  | radioRxFrame dt n md ago x b =>
    show ∃ f, _ = State.main s _ f
    simp only [exec, execRadioRxFrame]
    exact ⟨_, rfl⟩
  | radioTxSop dt n ready =>
    show ∃ f, _ = State.main s _ f
    simp only [exec, execRadioTxSop]
    exact ⟨_, rfl⟩
  | eop dt n ready =>
    show ∃ f, _ = State.main s _ f
    simp only [exec, execEop]
    exact ⟨_, rfl⟩
  | beaconReport dt n info =>
    show ∃ f, _ = State.main s _ f
    simp only [exec, execBeaconReport]
    exact ⟨_, rfl⟩
  | bcnMissed n =>
    show ∃ f, _ = State.main s _ f
    simp only [exec, execBcnMissed]
    exact ⟨_, rfl⟩
  | radnCtrlWrite a n =>
    show ∃ f, _ = State.portReq s _ f
    simp only [exec, execRadnCtrlWrite, State.writeReg]
    exact ⟨_, rfl⟩
  | procAccess dt core wr addr len data =>
    show ∃ f, _ = State.engine s _ f
    simp only [exec, execProcAccess]
    exact ⟨_, rfl⟩
  | on a =>
    show ∃ f, _ = State.portReq s _ f
    simp only [exec, execOn, State.writeQueued, State.writeReg]
    exact ⟨_, rfl⟩
  | off a =>
    show ∃ f, _ = State.portReq s _ f
    simp only [exec, execOff, State.writeQueued, State.writeReg]
    exact ⟨_, rfl⟩
  | eraseColumn a =>
    show ∃ f, _ = State.portReq s _ f
    simp only [exec, execEraseColumn, State.writeQueued, State.writeReg]
    exact ⟨_, rfl⟩
  | marchStart a =>
    show ∃ f, _ = State.portReq s _ f
    simp only [exec, execMarchStart, State.writeQueued, State.writeReg]
    exact ⟨_, rfl⟩
  | marchAbort a =>
    show ∃ f, _ = State.portReq s _ f
    simp only [exec, execMarchAbort, State.writeQueued, State.writeReg]
    exact ⟨_, rfl⟩
  | staffAccess dt core init sc host =>
    show ∃ f, _ = State.main s _ f
    simp only [exec, execStaffAccess]
    exact ⟨_, rfl⟩
  | withdraw a =>
    show ∃ f, _ = State.portReq s _ f
    simp only [exec, execWithdraw, State.writeQueued, State.writeReg]
    exact ⟨_, rfl⟩
  | restore a =>
    show ∃ f, _ = State.portReq s _ f
    simp only [exec, execRestore, State.writeQueued, State.writeReg]
    exact ⟨_, rfl⟩
  | redefine a =>
    show ∃ f, _ = State.portReq s _ f
    simp only [exec, execRedefine, State.writeQueued, State.writeReg]
    exact ⟨_, rfl⟩
  | poolAlloc a =>
    show ∃ f, _ = State.portReq s _ f
    simp only [exec, execPoolAlloc, State.writeReg]
    exact ⟨_, rfl⟩
  | poolAllocResult dt init same =>
    show ∃ f, _ = State.engine s _ f
    simp only [exec, execPoolAllocResult]
    exact ⟨_, rfl⟩
  | poolAllocResRead a =>
    show ∃ f, _ = State.portReq s _ f
    simp only [exec, execPoolAllocResRead, State.readReg]
    exact ⟨_, rfl⟩
  | poolFree a =>
    show ∃ f, _ = State.portReq s _ f
    simp only [exec, execPoolFree, State.writeReg]
    exact ⟨_, rfl⟩
  | parserPass dt same =>
    show ∃ f, _ = State.engine s _ f
    simp only [exec, execParserPass]
    exact ⟨_, rfl⟩
  | flowInsert a =>
    show ∃ f, _ = State.portReq s _ f
    simp only [exec, execFlowInsert, State.writeQueued, State.writeReg]
    exact ⟨_, rfl⟩
  | flowDelete a =>
    show ∃ f, _ = State.portReq s _ f
    simp only [exec, execFlowDelete, State.writeQueued, State.writeReg]
    exact ⟨_, rfl⟩
  | flowRead a =>
    show ∃ f, _ = State.portReq s _ f
    simp only [exec, execFlowRead, State.writeQueued, State.writeReg]
    exact ⟨_, rfl⟩
  | flowCfgWrite a i =>
    show ∃ f, _ = State.portReq s _ f
    simp only [exec, execFlowCfgWrite, State.writeReg]
    split <;> exact ⟨_, rfl⟩
  | commit a =>
    show ∃ f, _ = State.portReq s _ f
    simp only [exec, execCommit, State.writeQueued, State.writeReg]
    exact ⟨_, rfl⟩
  | invalidate a =>
    show ∃ f, _ = State.portReq s _ f
    simp only [exec, execInvalidate, State.writeQueued, State.writeReg]
    exact ⟨_, rfl⟩
  | ruleRead a =>
    show ∃ f, _ = State.portReq s _ f
    simp only [exec, execRuleRead, State.writeQueued, State.writeReg]
    exact ⟨_, rfl⟩
  | swap a =>
    show ∃ f, _ = State.portReq s _ f
    simp only [exec, execSwap, State.writeReg]
    exact ⟨_, rfl⟩
  | drainEnd dt =>
    show ∃ f, _ = State.engine s _ f
    simp only [exec, execDrainEnd]
    exact ⟨_, rfl⟩
  | storeComplete dt =>
    show ∃ f, _ = State.engine s _ f
    simp only [exec, execStoreComplete]
    exact ⟨_, rfl⟩
  | learnWrite dt =>
    show ∃ f, _ = State.engine s _ f
    simp only [exec, execLearnWrite]
    exact ⟨_, rfl⟩
  | fdbInsert a =>
    show ∃ f, _ = State.portReq s _ f
    simp only [exec, execFdbInsert, State.writeQueued, State.writeReg]
    exact ⟨_, rfl⟩
  | fdbDelete a =>
    show ∃ f, _ = State.portReq s _ f
    simp only [exec, execFdbDelete, State.writeQueued, State.writeReg]
    exact ⟨_, rfl⟩
  | fdbRead a =>
    show ∃ f, _ = State.portReq s _ f
    simp only [exec, execFdbRead, State.writeQueued, State.writeReg]
    exact ⟨_, rfl⟩
  | flush a =>
    show ∃ f, _ = State.portReq s _ f
    simp only [exec, execFlush, State.writeQueued, State.writeReg]
    exact ⟨_, rfl⟩
  | flushDone dt =>
    show ∃ f, _ = State.engine s _ f
    simp only [exec, execFlushDone]
    exact ⟨_, rfl⟩
  | mtrCfgWrite a m =>
    show ∃ f, _ = State.portReq s _ f
    simp only [exec, execMtrCfgWrite, State.writeReg]
    exact ⟨_, rfl⟩
  | partEnable a p =>
    show ∃ f, _ = State.portReq s _ f
    simp only [exec, execPartEnable, State.writeReg]
    exact ⟨_, rfl⟩
  | partReset a p =>
    show ∃ f, _ = State.portReq s _ f
    simp only [exec, execPartReset, State.writeReg]
    exact ⟨_, rfl⟩
  | run a p =>
    show ∃ f, _ = State.portReq s _ f
    simp only [exec, execRun, State.writeReg]
    exact ⟨_, rfl⟩
  | resetDone p =>
    show ∃ f, _ = State.main s _ f
    simp only [exec, execResetDone, State.onEdge]
    exact ⟨_, rfl⟩
  | ringBaseWrite a p ring =>
    show ∃ f, _ = State.portReq s _ f
    simp only [exec, execRingBaseWrite, State.writeReg]
    exact ⟨_, rfl⟩
  | txqDoorbell a p =>
    show ∃ f, _ = State.portReq s _ f
    simp only [exec, execTxqDoorbell, State.writeReg]
    exact ⟨_, rfl⟩
  | rxqDoorbell a p =>
    show ∃ f, _ = State.portReq s _ f
    simp only [exec, execRxqDoorbell, State.writeReg]
    exact ⟨_, rfl⟩
  | completionHeadWrite a p rx =>
    show ∃ f, _ = State.portReq s _ f
    simp only [exec, execCompletionHeadWrite, State.writeReg]
    exact ⟨_, rfl⟩
  | txPush dt init p off beats =>
    show ∃ f, _ = State.portReq s _ f
    simp only [exec, execTxPush]
    exact ⟨_, rfl⟩
  | rxPush dt init p off beats =>
    show ∃ f, _ = State.portReq s _ f
    simp only [exec, execRxPush]
    exact ⟨_, rfl⟩
  | txJob dt p same =>
    show ∃ f, _ = State.engine s _ f
    simp only [exec, execTxJob]
    exact ⟨_, rfl⟩
  | txJobRetry p =>
    show ∃ f, _ = State.main s _ f
    simp only [exec, execTxJobRetry, State.onEdge]
    exact ⟨_, rfl⟩
  | rxBuf dt p =>
    show ∃ f, _ = State.engine s _ f
    simp only [exec, execRxBuf]
    exact ⟨_, rfl⟩
  | rxDelivery dt p =>
    show ∃ f, _ = State.engine s _ f
    simp only [exec, execRxDelivery]
    exact ⟨_, rfl⟩
  | rxDone dt p =>
    show ∃ f, _ = State.engine s _ f
    simp only [exec, execRxDone]
    exact ⟨_, rfl⟩
  | coalTime n =>
    show ∃ f, _ = State.main s _ f
    simp only [exec, execCoalTime]
    exact ⟨_, rfl⟩
  | intTgttClaim a t =>
    show ∃ f, _ = State.portReq s _ f
    simp only [exec, execIntTgttClaim, State.readReg]
    exact ⟨_, rfl⟩
  | intTgttComplete a t =>
    show ∃ f, _ = State.portReq s _ f
    simp only [exec, execIntTgttComplete, State.writeReg]
    exact ⟨_, rfl⟩
  | intPend a k =>
    show ∃ f, _ = State.portReq s _ f
    simp only [exec, execIntPend, State.writeReg]
    exact ⟨_, rfl⟩
  | intSrcCfgWrite a tgt n =>
    show ∃ f, _ = State.portReq s _ f
    simp only [exec, execIntSrcCfgWrite, State.writeReg]
    split <;> exact ⟨_, rfl⟩
  | latchSet dt l rising =>
    show ∃ f, _ = State.always s _ f
    simp only [exec, execLatchSet]
    exact ⟨_, rfl⟩
  | latchTransfer dt l =>
    show ∃ f, _ = State.main s _ f
    simp only [exec, execLatchTransfer]
    exact ⟨_, rfl⟩
  | btmr k =>
    show ∃ f, _ = State.main s _ f
    simp only [exec, execBtmr, State.onEdge]
    exact ⟨_, rfl⟩
  | intBtmrWrite a k =>
    show ∃ f, _ = State.portReq s _ f
    simp only [exec, execIntBtmrWrite, State.writeReg]
    exact ⟨_, rfl⟩
  | rateChange a =>
    show ∃ f, _ = State.portReq s _ f
    simp only [exec, execRateChange, State.writeReg]
    exact ⟨_, rfl⟩
  | step a =>
    show ∃ f, _ = State.portReq s _ f
    simp only [exec, execStep, State.writeReg]
    exact ⟨_, rfl⟩
  | heldStep =>
    show ∃ f, _ = State.main s _ f
    simp only [exec, execHeldStep, State.onEdge]
    exact ⟨_, rfl⟩
  | acquire a =>
    show ∃ f, _ = State.portReq s _ f
    simp only [exec, execAcquire, State.writeReg]
    exact ⟨_, rfl⟩
  | lock a =>
    show ∃ f, _ = State.portReq s _ f
    simp only [exec, execLock, State.writeReg]
    exact ⟨_, rfl⟩
  | unlock a =>
    show ∃ f, _ = State.portReq s _ f
    simp only [exec, execUnlock, State.writeReg]
    exact ⟨_, rfl⟩
  | holdover a =>
    show ∃ f, _ = State.portReq s _ f
    simp only [exec, execHoldover, State.writeReg]
    exact ⟨_, rfl⟩
  | resume a =>
    show ∃ f, _ = State.portReq s _ f
    simp only [exec, execResume, State.writeReg]
    exact ⟨_, rfl⟩
  | servoTmo =>
    show ∃ f, _ = State.main s _ f
    simp only [exec, execServoTmo]
    exact ⟨_, rfl⟩
  | timeNowNs a =>
    show ∃ f, _ = State.portReq s _ f
    simp only [exec, execTimeNowNs, State.readReg]
    exact ⟨_, rfl⟩
  | captureEdge dt k rising =>
    show ∃ f, _ = State.main s _ f
    simp only [exec, execCaptureEdge]
    exact ⟨_, rfl⟩
  | timeCapkTs a k =>
    show ∃ f, _ = State.portReq s _ f
    simp only [exec, execTimeCapkTs, State.readReg]
    exact ⟨_, rfl⟩
  | outputEdge o =>
    show ∃ f, _ = State.main s _ f
    simp only [exec, execOutputEdge]
    exact ⟨_, rfl⟩
  | outputFall o =>
    show ∃ f, _ = State.main s _ f
    simp only [exec, execOutputFall]
    exact ⟨_, rfl⟩
  | refWindow edges =>
    show ∃ f, _ = State.main s _ f
    simp only [exec, execRefWindow]
    exact ⟨_, rfl⟩
  | checkpoint =>
    show ∃ f, _ = State.main s _ f
    simp only [exec, execCheckpoint, State.onEdge]
    exact ⟨_, rfl⟩
  | rollIntake dt =>
    show ∃ f, _ = State.engine s _ f
    simp only [exec, execRollIntake]
    exact ⟨_, rfl⟩
  | sweep dt =>
    show ∃ f, _ = State.engine s _ f
    simp only [exec, execSweep]
    exact ⟨_, rfl⟩
  | rollAbsent a =>
    show ∃ f, _ = State.portReq s _ f
    simp only [exec, execRollAbsent, State.readReg]
    exact ⟨_, rfl⟩
  | rollCfgWrite a =>
    show ∃ f, _ = State.portReq s _ f
    simp only [exec, execRollCfgWrite, State.writeReg]
    exact ⟨_, rfl⟩
  | insert a =>
    show ∃ f, _ = State.portReq s _ f
    simp only [exec, execInsert, State.writeQueued, State.writeReg]
    exact ⟨_, rfl⟩
  | delete a =>
    show ∃ f, _ = State.portReq s _ f
    simp only [exec, execDelete, State.writeQueued, State.writeReg]
    exact ⟨_, rfl⟩
  | read a =>
    show ∃ f, _ = State.portReq s _ f
    simp only [exec, execRead, State.writeQueued, State.writeReg]
    exact ⟨_, rfl⟩
  | dlClear a =>
    show ∃ f, _ = State.portReq s _ f
    simp only [exec, execDlClear, State.writeQueued, State.writeReg]
    exact ⟨_, rfl⟩
  | scRun a c =>
    show ∃ f, _ = State.portReq s _ f
    simp only [exec, execScRun, State.writeReg]
    exact ⟨_, rfl⟩
  | scRestart a c =>
    show ∃ f, _ = State.portReq s _ f
    simp only [exec, execScRestart, State.writeReg]
    exact ⟨_, rfl⟩
  | kick a c =>
    show ∃ f, _ = State.portReq s _ f
    simp only [exec, execKick, State.writeReg]
    exact ⟨_, rfl⟩
  | wdog c =>
    show ∃ f, _ = State.main s _ f
    simp only [exec, execWdog, State.onEdge]
    exact ⟨_, rfl⟩
  | debugHalt dt c =>
    show ∃ f, _ = State.engine s _ f
    simp only [exec, execDebugHalt]
    exact ⟨_, rfl⟩
  | debugResume dt c =>
    show ∃ f, _ = State.engine s _ f
    simp only [exec, execDebugResume]
    exact ⟨_, rfl⟩
  | scTxDesc1 a =>
    show ∃ f, _ = State.portReq s _ f
    simp only [exec, execScTxDesc1, State.writeReg]
    exact ⟨_, rfl⟩
  | scTxDone a =>
    show ∃ f, _ = State.portReq s _ f
    simp only [exec, execScTxDone, State.readReg]
    exact ⟨_, rfl⟩
  | scRxPop a =>
    show ∃ f, _ = State.portReq s _ f
    simp only [exec, execScRxPop, State.readReg]
    exact ⟨_, rfl⟩
  | mbxDb a =>
    show ∃ f, _ = State.portReq s _ f
    simp only [exec, execMbxDb, State.writeReg]
    exact ⟨_, rfl⟩
  | mbxDone a =>
    show ∃ f, _ = State.portReq s _ f
    simp only [exec, execMbxDone, State.writeReg]
    exact ⟨_, rfl⟩
  | mbxTimeout m =>
    show ∃ f, _ = State.main s _ f
    simp only [exec, execMbxTimeout, State.onEdge]
    exact ⟨_, rfl⟩
  | pmuOvf dt k n =>
    show ∃ f, _ = State.engine s _ f
    simp only [exec, execPmuOvf]
    exact ⟨_, rfl⟩
  | pmuSample dt core latency addr =>
    show ∃ f, _ = State.engine s _ f
    simp only [exec, execPmuSample]
    exact ⟨_, rfl⟩
  | crcRestart a u =>
    show ∃ f, _ = State.portReq s _ f
    simp only [exec, execCrcRestart, State.writeReg]
    exact ⟨_, rfl⟩
  | crcFlush a u =>
    show ∃ f, _ = State.portReq s _ f
    simp only [exec, execCrcFlush, State.writeReg]
    exact ⟨_, rfl⟩
  | crcuData a u =>
    show ∃ f, _ = State.portReq s _ f
    simp only [exec, execCrcuData, State.writeReg]
    exact ⟨_, rfl⟩
  | crcuData1 a u =>
    show ∃ f, _ = State.portReq s _ f
    simp only [exec, execCrcuData1, State.writeReg]
    exact ⟨_, rfl⟩
  | crcuCfgWrite a u which =>
    show ∃ f, _ = State.portReq s _ f
    simp only [exec, execCrcuCfgWrite, State.writeReg]
    exact ⟨_, rfl⟩
  | crcRes dt u =>
    show ∃ f, _ = State.engine s _ f
    simp only [exec, execCrcRes]
    exact ⟨_, rfl⟩
  | crcuFifoVal a u =>
    show ∃ f, _ = State.portReq s _ f
    simp only [exec, execCrcuFifoVal, State.readReg]
    exact ⟨_, rfl⟩
  | verify a =>
    show ∃ f, _ = State.portReq s _ f
    simp only [exec, execVerify, State.writeQueued, State.writeReg]
    exact ⟨_, rfl⟩
  | erase a =>
    show ∃ f, _ = State.portReq s _ f
    simp only [exec, execErase, State.writeQueued, State.writeReg]
    exact ⟨_, rfl⟩
  | program a =>
    show ∃ f, _ = State.portReq s _ f
    simp only [exec, execProgram, State.writeQueued, State.writeReg]
    exact ⟨_, rfl⟩
  | nvmDone dt timeout =>
    show ∃ f, _ = State.engine s _ f
    simp only [exec, execNvmDone]
    exact ⟨_, rfl⟩
  | ldgFwData a =>
    show ∃ f, _ = State.portReq s _ f
    simp only [exec, execLdgFwData, State.writeReg]
    exact ⟨_, rfl⟩
  | ldgRdData a =>
    show ∃ f, _ = State.portReq s _ f
    simp only [exec, execLdgRdData, State.readReg]
    exact ⟨_, rfl⟩
  | propCommit a =>
    show ∃ f, _ = State.portReq s _ f
    simp only [exec, execPropCommit, State.writeQueued, State.writeReg]
    exact ⟨_, rfl⟩
  | approve a =>
    show ∃ f, _ = State.portReq s _ f
    simp only [exec, execApprove, State.writeQueued, State.writeReg]
    exact ⟨_, rfl⟩
  | propCancel a =>
    show ∃ f, _ = State.portReq s _ f
    simp only [exec, execPropCancel, State.writeQueued, State.writeReg]
    exact ⟨_, rfl⟩
  | expired =>
    show ∃ f, _ = State.main s _ f
    simp only [exec, execExpired, State.onEdge]
    exact ⟨_, rfl⟩
  | applied =>
    show ∃ f, _ = State.main s _ f
    simp only [exec, execApplied, State.onEdge]
    exact ⟨_, rfl⟩
  | tamper _ _ => trivial
  | wipeDone dt =>
    show ∃ f, _ = State.main s _ f
    simp only [exec, execWipeDone]
    exact ⟨_, rfl⟩
  | doze a =>
    show ∃ f, _ = State.portReq s _ f
    simp only [exec, execDoze, State.writeReg]
    exact ⟨_, rfl⟩
  | watch a =>
    show ∃ f, _ = State.portReq s _ f
    simp only [exec, execWatch, State.writeReg]
    exact ⟨_, rfl⟩
  | deep a =>
    show ∃ f, _ = State.portReq s _ f
    simp only [exec, execDeep, State.writeReg]
    exact ⟨_, rfl⟩
  | wake a =>
    show ∃ f, _ = State.portReq s _ f
    simp only [exec, execWake, State.writeReg]
    exact ⟨_, rfl⟩
  | ack a =>
    show ∃ f, _ = State.portReq s _ f
    simp only [exec, execAck, State.writeReg]
    exact ⟨_, rfl⟩
  | stateReached =>
    show ∃ f, _ = State.main s _ f
    simp only [exec, execStateReached]
    exact ⟨_, rfl⟩
  | deepReset dt =>
    show ∃ f, _ = State.main s _ f
    simp only [exec, execDeepReset]
    exact ⟨_, rfl⟩
  | deepFail =>
    show ∃ f, _ = State.main s _ f
    simp only [exec, execDeepFail]
    exact ⟨_, rfl⟩
  | keepReturn =>
    show ∃ f, _ = State.main s _ f
    simp only [exec, execKeepReturn, State.onEdge]
    exact ⟨_, rfl⟩
  | sleepRxFrame dt n age lane b =>
    show ∃ f, _ = State.main s _ f
    simp only [exec, execSleepRxFrame]
    exact ⟨_, rfl⟩
  | aonTimer =>
    show ∃ f, _ = State.always s _ f
    simp only [exec, execAonTimer]
    exact ⟨_, rfl⟩
  | panelRawChange dt k level =>
    show ∃ f, _ = State.always s _ f
    simp only [exec, execPanelRawChange]
    exact ⟨_, rfl⟩
  | press k =>
    show ∃ f, _ = State.always s _ f
    simp only [exec, execPress]
    exact ⟨_, rfl⟩
  | long k =>
    show ∃ f, _ = State.always s _ f
    simp only [exec, execLong]
    exact ⟨_, rfl⟩
  | stuck k =>
    show ∃ f, _ = State.always s _ f
    simp only [exec, execStuck]
    exact ⟨_, rfl⟩
  | quarantineEnd k =>
    show ∃ f, _ = State.always s _ f
    simp only [exec, execQuarantineEnd]
    exact ⟨_, rfl⟩
  | registerRead a addr =>
    show ∃ f, _ = State.portReq s _ f
    simp only [exec, execRegisterRead]
    exact ⟨_, rfl⟩
  | vddAonFall _ => trivial
  | ageSweepEnd dt =>
    show ∃ f, _ = State.engine s _ f
    simp only [exec, execAgeSweepEnd]
    exact ⟨_, rfl⟩
  | bellOutFall =>
    show ∃ f, _ = State.main s _ f
    simp only [exec, execBellOutFall]
    exact ⟨_, rfl⟩
  | misalignedStart dt n =>
    show ∃ f, _ = State.main s _ f
    simp only [exec, execMisalignedStart]
    exact ⟨_, rfl⟩
  | radioStrayBeat dt n =>
    show ∃ f, _ = State.main s _ f
    simp only [exec, execRadioStrayBeat]
    exact ⟨_, rfl⟩
  | radioRxOverlong dt n =>
    show ∃ f, _ = State.main s _ f
    simp only [exec, execRadioRxOverlong]
    exact ⟨_, rfl⟩
  | modTxfltFall w n =>
    show ∃ f, _ = State.main s _ f
    simp only [exec, execModTxfltFall]
    exact ⟨_, rfl⟩

/-- A write, a read or an access that the port does not answer with OKAY ends in what the answer itself leaves. -/
theorem State.busWrite_refused (s : State) (a : Access) (k : Nat) (w : Bool) (v : Nat) (eff : Nat → State → State)
    (h : (s.respond a.init.val true (accAddr k a.up) a.size.toNat v).2 ≠ .okay) :
    s.busWrite a k w v eff = (s.respond a.init.val true (accAddr k a.up) a.size.toNat v).1.setRsp
      (s.respond a.init.val true (accAddr k a.up) a.size.toNat v).2 0 := by simp [State.busWrite, h]

theorem State.busRead_refused (s : State) (a : Access) (k : Nat) (w : Bool) (eff : State → State × Nat)
    (h : (s.respond a.init.val false (accAddr k a.up) a.size.toNat 0).2 ≠ .okay) :
    s.busRead a k w eff = (s.respond a.init.val false (accAddr k a.up) a.size.toNat 0).1.setRsp
      (s.respond a.init.val false (accAddr k a.up) a.size.toNat 0).2 0 := by simp [State.busRead, h]

theorem State.access_refused (s : State) (i : Nat) (wr : Bool) (a size v d : Nat)
    (h : (s.respond i wr a size v).2 ≠ .okay) :
    s.access i wr a size v d = (s.respond i wr a size v).1.setRsp (s.respond i wr a size v).2 0 := by simp [State.access, h]

/-- A request that the port does not answer with OKAY ends in what the answer itself leaves. -/
theorem exec_refused (c : Instr) (s : State) (q : PortReq) (hq : portOf c = some q) :
    ∃ f, exec c s = s.portReq q.dt f ∧ ∀ p : State, (p.respond q.init q.wr q.addr q.size q.data).2 ≠ .okay →
      f p = (p.respond q.init q.wr q.addr q.size q.data).1.setRsp (p.respond q.init q.wr q.addr q.size q.data).2 0 := by
  cases c with
  | registerWrite a addr =>
    simp only [portOf, Option.some.injEq] at hq
    subst hq
    simp only [exec, execRegisterWrite]
    exact ⟨_, rfl, fun p h => State.access_refused _ _ _ _ _ _ _ h⟩
  | glbRstCmd a =>
    simp only [portOf, writeOf, Option.some.injEq] at hq
    subst hq
    simp only [exec, execGlbRstCmd, State.writeReg]
    exact ⟨_, rfl, fun p h => State.busWrite_refused _ _ _ _ _ _ h⟩
  | roleCmd a =>
    simp only [portOf, writeOf, Option.some.injEq] at hq
    subst hq
    simp only [exec, execRoleCmd, State.writeQueued, State.writeReg]
    exact ⟨_, rfl, fun p h => State.busWrite_refused _ _ _ _ _ _ h⟩
  | requestTest a =>
    simp only [portOf, writeOf, Option.some.injEq] at hq
    subst hq
    simp only [exec, execRequestTest, State.writeReg]
    exact ⟨_, rfl, fun p h => State.busWrite_refused _ _ _ _ _ _ h⟩
  | requestService a =>
    simp only [portOf, writeOf, Option.some.injEq] at hq
    subst hq
    simp only [exec, execRequestService, State.writeReg]
    exact ⟨_, rfl, fun p h => State.busWrite_refused _ _ _ _ _ _ h⟩
  | requestStart a =>
    simp only [portOf, writeOf, Option.some.injEq] at hq
    subst hq
    simp only [exec, execRequestStart, State.writeReg]
    exact ⟨_, rfl, fun p h => State.busWrite_refused _ _ _ _ _ _ h⟩
  | requestSleep a =>
    simp only [portOf, writeOf, Option.some.injEq] at hq
    subst hq
    simp only [exec, execRequestSleep, State.writeReg]
    exact ⟨_, rfl, fun p h => State.busWrite_refused _ _ _ _ _ _ h⟩
  | haltRequest a =>
    simp only [portOf, writeOf, Option.some.injEq] at hq
    subst hq
    simp only [exec, execHaltRequest, State.writeReg]
    exact ⟨_, rfl, fun p h => State.busWrite_refused _ _ _ _ _ _ h⟩
  | glbBellCfgWrite a =>
    simp only [portOf, writeOf, Option.some.injEq] at hq
    subst hq
    simp only [exec, execGlbBellCfgWrite, State.writeReg]
    exact ⟨_, rfl, fun p h => State.busWrite_refused _ _ _ _ _ _ h⟩
  | portnMacCtrlWrite a n =>
    simp only [portOf, writeOf, Option.some.injEq] at hq
    subst hq
    simp only [exec, execPortnMacCtrlWrite, State.writeReg]
    exact ⟨_, rfl, fun p h => State.busWrite_refused _ _ _ _ _ _ h⟩
  | fcModeWrite a n =>
    simp only [portOf, writeOf, Option.some.injEq] at hq
    subst hq
    simp only [exec, execFcModeWrite, State.writeReg]
    exact ⟨_, rfl, fun p h => State.busWrite_refused _ _ _ _ _ _ h⟩
  | wdogTripClear a n =>
    simp only [portOf, writeOf, Option.some.injEq] at hq
    subst hq
    simp only [exec, execWdogTripClear, State.writeReg]
    exact ⟨_, rfl, fun p h => State.busWrite_refused _ _ _ _ _ _ h⟩
  | switch a n =>
    simp only [portOf, writeOf, Option.some.injEq] at hq
    subst hq
    simp only [exec, execSwitch, State.writeQueued, State.writeReg]
    exact ⟨_, rfl, fun p h => State.busWrite_refused _ _ _ _ _ _ h⟩
  | cancel a n =>
    simp only [portOf, writeOf, Option.some.injEq] at hq
    subst hq
    simp only [exec, execCancel, State.writeQueued, State.writeReg]
    exact ⟨_, rfl, fun p h => State.busWrite_refused _ _ _ _ _ _ h⟩
  | gclEntryWrite a n l i =>
    simp only [portOf, writeOf, Option.some.injEq] at hq
    subst hq
    simp only [exec, execGclEntryWrite, State.writeReg]
    exact ⟨_, rfl, fun p h => State.busWrite_refused _ _ _ _ _ _ h⟩
  | portnGclCfgWrite a n =>
    simp only [portOf, writeOf, Option.some.injEq] at hq
    subst hq
    simp only [exec, execPortnGclCfgWrite, State.writeReg]
    exact ⟨_, rfl, fun p h => State.busWrite_refused _ _ _ _ _ _ h⟩
  | radnCtrlWrite a n =>
    simp only [portOf, writeOf, Option.some.injEq] at hq
    subst hq
    simp only [exec, execRadnCtrlWrite, State.writeReg]
    exact ⟨_, rfl, fun p h => State.busWrite_refused _ _ _ _ _ _ h⟩
  | on a =>
    simp only [portOf, writeOf, Option.some.injEq] at hq
    subst hq
    simp only [exec, execOn, State.writeQueued, State.writeReg]
    exact ⟨_, rfl, fun p h => State.busWrite_refused _ _ _ _ _ _ h⟩
  | off a =>
    simp only [portOf, writeOf, Option.some.injEq] at hq
    subst hq
    simp only [exec, execOff, State.writeQueued, State.writeReg]
    exact ⟨_, rfl, fun p h => State.busWrite_refused _ _ _ _ _ _ h⟩
  | eraseColumn a =>
    simp only [portOf, writeOf, Option.some.injEq] at hq
    subst hq
    simp only [exec, execEraseColumn, State.writeQueued, State.writeReg]
    exact ⟨_, rfl, fun p h => State.busWrite_refused _ _ _ _ _ _ h⟩
  | marchStart a =>
    simp only [portOf, writeOf, Option.some.injEq] at hq
    subst hq
    simp only [exec, execMarchStart, State.writeQueued, State.writeReg]
    exact ⟨_, rfl, fun p h => State.busWrite_refused _ _ _ _ _ _ h⟩
  | marchAbort a =>
    simp only [portOf, writeOf, Option.some.injEq] at hq
    subst hq
    simp only [exec, execMarchAbort, State.writeQueued, State.writeReg]
    exact ⟨_, rfl, fun p h => State.busWrite_refused _ _ _ _ _ _ h⟩
  | withdraw a =>
    simp only [portOf, writeOf, Option.some.injEq] at hq
    subst hq
    simp only [exec, execWithdraw, State.writeQueued, State.writeReg]
    exact ⟨_, rfl, fun p h => State.busWrite_refused _ _ _ _ _ _ h⟩
  | restore a =>
    simp only [portOf, writeOf, Option.some.injEq] at hq
    subst hq
    simp only [exec, execRestore, State.writeQueued, State.writeReg]
    exact ⟨_, rfl, fun p h => State.busWrite_refused _ _ _ _ _ _ h⟩
  | redefine a =>
    simp only [portOf, writeOf, Option.some.injEq] at hq
    subst hq
    simp only [exec, execRedefine, State.writeQueued, State.writeReg]
    exact ⟨_, rfl, fun p h => State.busWrite_refused _ _ _ _ _ _ h⟩
  | poolAlloc a =>
    simp only [portOf, writeOf, Option.some.injEq] at hq
    subst hq
    simp only [exec, execPoolAlloc, State.writeReg]
    exact ⟨_, rfl, fun p h => State.busWrite_refused _ _ _ _ _ _ h⟩
  | poolAllocResRead a =>
    simp only [portOf, readOf, Option.some.injEq] at hq
    subst hq
    simp only [exec, execPoolAllocResRead, State.readReg]
    exact ⟨_, rfl, fun p h => State.busRead_refused _ _ _ _ _ h⟩
  | poolFree a =>
    simp only [portOf, writeOf, Option.some.injEq] at hq
    subst hq
    simp only [exec, execPoolFree, State.writeReg]
    exact ⟨_, rfl, fun p h => State.busWrite_refused _ _ _ _ _ _ h⟩
  | flowInsert a =>
    simp only [portOf, writeOf, Option.some.injEq] at hq
    subst hq
    simp only [exec, execFlowInsert, State.writeQueued, State.writeReg]
    exact ⟨_, rfl, fun p h => State.busWrite_refused _ _ _ _ _ _ h⟩
  | flowDelete a =>
    simp only [portOf, writeOf, Option.some.injEq] at hq
    subst hq
    simp only [exec, execFlowDelete, State.writeQueued, State.writeReg]
    exact ⟨_, rfl, fun p h => State.busWrite_refused _ _ _ _ _ _ h⟩
  | flowRead a =>
    simp only [portOf, writeOf, Option.some.injEq] at hq
    subst hq
    simp only [exec, execFlowRead, State.writeQueued, State.writeReg]
    exact ⟨_, rfl, fun p h => State.busWrite_refused _ _ _ _ _ _ h⟩
  | flowCfgWrite a i =>
    simp only [portOf] at hq
    simp only [exec, execFlowCfgWrite, State.writeReg]
    split at hq
    all_goals
      simp only [writeOf, Option.some.injEq] at hq
      subst hq
      simp only [*, if_true]
      exact ⟨_, rfl, fun p h => State.busWrite_refused _ _ _ _ _ _ h⟩
  | commit a =>
    simp only [portOf, writeOf, Option.some.injEq] at hq
    subst hq
    simp only [exec, execCommit, State.writeQueued, State.writeReg]
    exact ⟨_, rfl, fun p h => State.busWrite_refused _ _ _ _ _ _ h⟩
  | invalidate a =>
    simp only [portOf, writeOf, Option.some.injEq] at hq
    subst hq
    simp only [exec, execInvalidate, State.writeQueued, State.writeReg]
    exact ⟨_, rfl, fun p h => State.busWrite_refused _ _ _ _ _ _ h⟩
  | ruleRead a =>
    simp only [portOf, writeOf, Option.some.injEq] at hq
    subst hq
    simp only [exec, execRuleRead, State.writeQueued, State.writeReg]
    exact ⟨_, rfl, fun p h => State.busWrite_refused _ _ _ _ _ _ h⟩
  | swap a =>
    simp only [portOf, writeOf, Option.some.injEq] at hq
    subst hq
    simp only [exec, execSwap, State.writeReg]
    exact ⟨_, rfl, fun p h => State.busWrite_refused _ _ _ _ _ _ h⟩
  | fdbInsert a =>
    simp only [portOf, writeOf, Option.some.injEq] at hq
    subst hq
    simp only [exec, execFdbInsert, State.writeQueued, State.writeReg]
    exact ⟨_, rfl, fun p h => State.busWrite_refused _ _ _ _ _ _ h⟩
  | fdbDelete a =>
    simp only [portOf, writeOf, Option.some.injEq] at hq
    subst hq
    simp only [exec, execFdbDelete, State.writeQueued, State.writeReg]
    exact ⟨_, rfl, fun p h => State.busWrite_refused _ _ _ _ _ _ h⟩
  | fdbRead a =>
    simp only [portOf, writeOf, Option.some.injEq] at hq
    subst hq
    simp only [exec, execFdbRead, State.writeQueued, State.writeReg]
    exact ⟨_, rfl, fun p h => State.busWrite_refused _ _ _ _ _ _ h⟩
  | flush a =>
    simp only [portOf, writeOf, Option.some.injEq] at hq
    subst hq
    simp only [exec, execFlush, State.writeQueued, State.writeReg]
    exact ⟨_, rfl, fun p h => State.busWrite_refused _ _ _ _ _ _ h⟩
  | mtrCfgWrite a m =>
    simp only [portOf, writeOf, Option.some.injEq] at hq
    subst hq
    simp only [exec, execMtrCfgWrite, State.writeReg]
    exact ⟨_, rfl, fun p h => State.busWrite_refused _ _ _ _ _ _ h⟩
  | partEnable a p =>
    simp only [portOf, writeOf, Option.some.injEq] at hq
    subst hq
    simp only [exec, execPartEnable, State.writeReg]
    exact ⟨_, rfl, fun p h => State.busWrite_refused _ _ _ _ _ _ h⟩
  | partReset a p =>
    simp only [portOf, writeOf, Option.some.injEq] at hq
    subst hq
    simp only [exec, execPartReset, State.writeReg]
    exact ⟨_, rfl, fun p h => State.busWrite_refused _ _ _ _ _ _ h⟩
  | run a p =>
    simp only [portOf, writeOf, Option.some.injEq] at hq
    subst hq
    simp only [exec, execRun, State.writeReg]
    exact ⟨_, rfl, fun p h => State.busWrite_refused _ _ _ _ _ _ h⟩
  | ringBaseWrite a p ring =>
    simp only [portOf, writeOf, Option.some.injEq] at hq
    subst hq
    simp only [exec, execRingBaseWrite, State.writeReg]
    exact ⟨_, rfl, fun p h => State.busWrite_refused _ _ _ _ _ _ h⟩
  | txqDoorbell a p =>
    simp only [portOf, writeOf, Option.some.injEq] at hq
    subst hq
    simp only [exec, execTxqDoorbell, State.writeReg]
    exact ⟨_, rfl, fun p h => State.busWrite_refused _ _ _ _ _ _ h⟩
  | rxqDoorbell a p =>
    simp only [portOf, writeOf, Option.some.injEq] at hq
    subst hq
    simp only [exec, execRxqDoorbell, State.writeReg]
    exact ⟨_, rfl, fun p h => State.busWrite_refused _ _ _ _ _ _ h⟩
  | completionHeadWrite a p rx =>
    simp only [portOf, writeOf, Option.some.injEq] at hq
    subst hq
    simp only [exec, execCompletionHeadWrite, State.writeReg]
    exact ⟨_, rfl, fun p h => State.busWrite_refused _ _ _ _ _ _ h⟩
  | txPush dt init p off beats =>
    simp only [portOf, Option.some.injEq] at hq
    subst hq
    simp only [exec, execTxPush]
    exact ⟨_, rfl, fun p h => State.access_refused _ _ _ _ _ _ _ h⟩
  | rxPush dt init p off beats =>
    simp only [portOf, Option.some.injEq] at hq
    subst hq
    simp only [exec, execRxPush]
    exact ⟨_, rfl, fun p h => State.access_refused _ _ _ _ _ _ _ h⟩
  | intTgttClaim a t =>
    simp only [portOf, readOf, Option.some.injEq] at hq
    subst hq
    simp only [exec, execIntTgttClaim, State.readReg]
    exact ⟨_, rfl, fun p h => State.busRead_refused _ _ _ _ _ h⟩
  | intTgttComplete a t =>
    simp only [portOf, writeOf, Option.some.injEq] at hq
    subst hq
    simp only [exec, execIntTgttComplete, State.writeReg]
    exact ⟨_, rfl, fun p h => State.busWrite_refused _ _ _ _ _ _ h⟩
  | intPend a k =>
    simp only [portOf, writeOf, Option.some.injEq] at hq
    subst hq
    simp only [exec, execIntPend, State.writeReg]
    exact ⟨_, rfl, fun p h => State.busWrite_refused _ _ _ _ _ _ h⟩
  | intSrcCfgWrite a tgt n =>
    simp only [portOf] at hq
    simp only [exec, execIntSrcCfgWrite, State.writeReg]
    split at hq
    all_goals
      simp only [writeOf, Option.some.injEq] at hq
      subst hq
      simp only [*, if_true]
      exact ⟨_, rfl, fun p h => State.busWrite_refused _ _ _ _ _ _ h⟩
  | intBtmrWrite a k =>
    simp only [portOf, writeOf, Option.some.injEq] at hq
    subst hq
    simp only [exec, execIntBtmrWrite, State.writeReg]
    exact ⟨_, rfl, fun p h => State.busWrite_refused _ _ _ _ _ _ h⟩
  | rateChange a =>
    simp only [portOf, writeOf, Option.some.injEq] at hq
    subst hq
    simp only [exec, execRateChange, State.writeReg]
    exact ⟨_, rfl, fun p h => State.busWrite_refused _ _ _ _ _ _ h⟩
  | step a =>
    simp only [portOf, writeOf, Option.some.injEq] at hq
    subst hq
    simp only [exec, execStep, State.writeReg]
    exact ⟨_, rfl, fun p h => State.busWrite_refused _ _ _ _ _ _ h⟩
  | acquire a =>
    simp only [portOf, writeOf, Option.some.injEq] at hq
    subst hq
    simp only [exec, execAcquire, State.writeReg]
    exact ⟨_, rfl, fun p h => State.busWrite_refused _ _ _ _ _ _ h⟩
  | lock a =>
    simp only [portOf, writeOf, Option.some.injEq] at hq
    subst hq
    simp only [exec, execLock, State.writeReg]
    exact ⟨_, rfl, fun p h => State.busWrite_refused _ _ _ _ _ _ h⟩
  | unlock a =>
    simp only [portOf, writeOf, Option.some.injEq] at hq
    subst hq
    simp only [exec, execUnlock, State.writeReg]
    exact ⟨_, rfl, fun p h => State.busWrite_refused _ _ _ _ _ _ h⟩
  | holdover a =>
    simp only [portOf, writeOf, Option.some.injEq] at hq
    subst hq
    simp only [exec, execHoldover, State.writeReg]
    exact ⟨_, rfl, fun p h => State.busWrite_refused _ _ _ _ _ _ h⟩
  | resume a =>
    simp only [portOf, writeOf, Option.some.injEq] at hq
    subst hq
    simp only [exec, execResume, State.writeReg]
    exact ⟨_, rfl, fun p h => State.busWrite_refused _ _ _ _ _ _ h⟩
  | timeNowNs a =>
    simp only [portOf, readOf, Option.some.injEq] at hq
    subst hq
    simp only [exec, execTimeNowNs, State.readReg]
    exact ⟨_, rfl, fun p h => State.busRead_refused _ _ _ _ _ h⟩
  | timeCapkTs a k =>
    simp only [portOf, readOf, Option.some.injEq] at hq
    subst hq
    simp only [exec, execTimeCapkTs, State.readReg]
    exact ⟨_, rfl, fun p h => State.busRead_refused _ _ _ _ _ h⟩
  | rollAbsent a =>
    simp only [portOf, readOf, Option.some.injEq] at hq
    subst hq
    simp only [exec, execRollAbsent, State.readReg]
    exact ⟨_, rfl, fun p h => State.busRead_refused _ _ _ _ _ h⟩
  | rollCfgWrite a =>
    simp only [portOf, writeOf, Option.some.injEq] at hq
    subst hq
    simp only [exec, execRollCfgWrite, State.writeReg]
    exact ⟨_, rfl, fun p h => State.busWrite_refused _ _ _ _ _ _ h⟩
  | insert a =>
    simp only [portOf, writeOf, Option.some.injEq] at hq
    subst hq
    simp only [exec, execInsert, State.writeQueued, State.writeReg]
    exact ⟨_, rfl, fun p h => State.busWrite_refused _ _ _ _ _ _ h⟩
  | delete a =>
    simp only [portOf, writeOf, Option.some.injEq] at hq
    subst hq
    simp only [exec, execDelete, State.writeQueued, State.writeReg]
    exact ⟨_, rfl, fun p h => State.busWrite_refused _ _ _ _ _ _ h⟩
  | read a =>
    simp only [portOf, writeOf, Option.some.injEq] at hq
    subst hq
    simp only [exec, execRead, State.writeQueued, State.writeReg]
    exact ⟨_, rfl, fun p h => State.busWrite_refused _ _ _ _ _ _ h⟩
  | dlClear a =>
    simp only [portOf, writeOf, Option.some.injEq] at hq
    subst hq
    simp only [exec, execDlClear, State.writeQueued, State.writeReg]
    exact ⟨_, rfl, fun p h => State.busWrite_refused _ _ _ _ _ _ h⟩
  | scRun a c =>
    simp only [portOf, writeOf, Option.some.injEq] at hq
    subst hq
    simp only [exec, execScRun, State.writeReg]
    exact ⟨_, rfl, fun p h => State.busWrite_refused _ _ _ _ _ _ h⟩
  | scRestart a c =>
    simp only [portOf, writeOf, Option.some.injEq] at hq
    subst hq
    simp only [exec, execScRestart, State.writeReg]
    exact ⟨_, rfl, fun p h => State.busWrite_refused _ _ _ _ _ _ h⟩
  | kick a c =>
    simp only [portOf, writeOf, Option.some.injEq] at hq
    subst hq
    simp only [exec, execKick, State.writeReg]
    exact ⟨_, rfl, fun p h => State.busWrite_refused _ _ _ _ _ _ h⟩
  | scTxDesc1 a =>
    simp only [portOf, writeOf, Option.some.injEq] at hq
    subst hq
    simp only [exec, execScTxDesc1, State.writeReg]
    exact ⟨_, rfl, fun p h => State.busWrite_refused _ _ _ _ _ _ h⟩
  | scTxDone a =>
    simp only [portOf, readOf, Option.some.injEq] at hq
    subst hq
    simp only [exec, execScTxDone, State.readReg]
    exact ⟨_, rfl, fun p h => State.busRead_refused _ _ _ _ _ h⟩
  | scRxPop a =>
    simp only [portOf, readOf, Option.some.injEq] at hq
    subst hq
    simp only [exec, execScRxPop, State.readReg]
    exact ⟨_, rfl, fun p h => State.busRead_refused _ _ _ _ _ h⟩
  | mbxDb a =>
    simp only [portOf, writeOf, Option.some.injEq] at hq
    subst hq
    simp only [exec, execMbxDb, State.writeReg]
    exact ⟨_, rfl, fun p h => State.busWrite_refused _ _ _ _ _ _ h⟩
  | mbxDone a =>
    simp only [portOf, writeOf, Option.some.injEq] at hq
    subst hq
    simp only [exec, execMbxDone, State.writeReg]
    exact ⟨_, rfl, fun p h => State.busWrite_refused _ _ _ _ _ _ h⟩
  | crcRestart a u =>
    simp only [portOf, writeOf, Option.some.injEq] at hq
    subst hq
    simp only [exec, execCrcRestart, State.writeReg]
    exact ⟨_, rfl, fun p h => State.busWrite_refused _ _ _ _ _ _ h⟩
  | crcFlush a u =>
    simp only [portOf, writeOf, Option.some.injEq] at hq
    subst hq
    simp only [exec, execCrcFlush, State.writeReg]
    exact ⟨_, rfl, fun p h => State.busWrite_refused _ _ _ _ _ _ h⟩
  | crcuData a u =>
    simp only [portOf, writeOf, Option.some.injEq] at hq
    subst hq
    simp only [exec, execCrcuData, State.writeReg]
    exact ⟨_, rfl, fun p h => State.busWrite_refused _ _ _ _ _ _ h⟩
  | crcuData1 a u =>
    simp only [portOf, writeOf, Option.some.injEq] at hq
    subst hq
    simp only [exec, execCrcuData1, State.writeReg]
    exact ⟨_, rfl, fun p h => State.busWrite_refused _ _ _ _ _ _ h⟩
  | crcuCfgWrite a u which =>
    simp only [portOf, writeOf, Option.some.injEq] at hq
    subst hq
    simp only [exec, execCrcuCfgWrite, State.writeReg]
    exact ⟨_, rfl, fun p h => State.busWrite_refused _ _ _ _ _ _ h⟩
  | crcuFifoVal a u =>
    simp only [portOf, readOf, Option.some.injEq] at hq
    subst hq
    simp only [exec, execCrcuFifoVal, State.readReg]
    exact ⟨_, rfl, fun p h => State.busRead_refused _ _ _ _ _ h⟩
  | verify a =>
    simp only [portOf, writeOf, Option.some.injEq] at hq
    subst hq
    simp only [exec, execVerify, State.writeQueued, State.writeReg]
    exact ⟨_, rfl, fun p h => State.busWrite_refused _ _ _ _ _ _ h⟩
  | erase a =>
    simp only [portOf, writeOf, Option.some.injEq] at hq
    subst hq
    simp only [exec, execErase, State.writeQueued, State.writeReg]
    exact ⟨_, rfl, fun p h => State.busWrite_refused _ _ _ _ _ _ h⟩
  | program a =>
    simp only [portOf, writeOf, Option.some.injEq] at hq
    subst hq
    simp only [exec, execProgram, State.writeQueued, State.writeReg]
    exact ⟨_, rfl, fun p h => State.busWrite_refused _ _ _ _ _ _ h⟩
  | ldgFwData a =>
    simp only [portOf, writeOf, Option.some.injEq] at hq
    subst hq
    simp only [exec, execLdgFwData, State.writeReg]
    exact ⟨_, rfl, fun p h => State.busWrite_refused _ _ _ _ _ _ h⟩
  | ldgRdData a =>
    simp only [portOf, readOf, Option.some.injEq] at hq
    subst hq
    simp only [exec, execLdgRdData, State.readReg]
    exact ⟨_, rfl, fun p h => State.busRead_refused _ _ _ _ _ h⟩
  | propCommit a =>
    simp only [portOf, writeOf, Option.some.injEq] at hq
    subst hq
    simp only [exec, execPropCommit, State.writeQueued, State.writeReg]
    exact ⟨_, rfl, fun p h => State.busWrite_refused _ _ _ _ _ _ h⟩
  | approve a =>
    simp only [portOf, writeOf, Option.some.injEq] at hq
    subst hq
    simp only [exec, execApprove, State.writeQueued, State.writeReg]
    exact ⟨_, rfl, fun p h => State.busWrite_refused _ _ _ _ _ _ h⟩
  | propCancel a =>
    simp only [portOf, writeOf, Option.some.injEq] at hq
    subst hq
    simp only [exec, execPropCancel, State.writeQueued, State.writeReg]
    exact ⟨_, rfl, fun p h => State.busWrite_refused _ _ _ _ _ _ h⟩
  | doze a =>
    simp only [portOf, writeOf, Option.some.injEq] at hq
    subst hq
    simp only [exec, execDoze, State.writeReg]
    exact ⟨_, rfl, fun p h => State.busWrite_refused _ _ _ _ _ _ h⟩
  | watch a =>
    simp only [portOf, writeOf, Option.some.injEq] at hq
    subst hq
    simp only [exec, execWatch, State.writeReg]
    exact ⟨_, rfl, fun p h => State.busWrite_refused _ _ _ _ _ _ h⟩
  | deep a =>
    simp only [portOf, writeOf, Option.some.injEq] at hq
    subst hq
    simp only [exec, execDeep, State.writeReg]
    exact ⟨_, rfl, fun p h => State.busWrite_refused _ _ _ _ _ _ h⟩
  | wake a =>
    simp only [portOf, writeOf, Option.some.injEq] at hq
    subst hq
    simp only [exec, execWake, State.writeReg]
    exact ⟨_, rfl, fun p h => State.busWrite_refused _ _ _ _ _ _ h⟩
  | ack a =>
    simp only [portOf, writeOf, Option.some.injEq] at hq
    subst hq
    simp only [exec, execAck, State.writeReg]
    exact ⟨_, rfl, fun p h => State.busWrite_refused _ _ _ _ _ _ h⟩
  | registerRead a addr =>
    simp only [portOf, Option.some.injEq] at hq
    subst hq
    simp only [exec, execRegisterRead]
    exact ⟨_, rfl, fun p h => State.access_refused _ _ _ _ _ _ _ h⟩
  | _ => exact nomatch hq

end Sys2Proof.Machine
end

