-- ==== Sys2Proof/Machine/Pads.lean ====
section
/-! DEFINITION. The pad ring (R44, R49 to R51, R64): the level at each output of the block, as a function of the state. -/

namespace Sys2Proof.Machine

open Sys2Proof

/-- The level at an output pad: driven low or high, released for the pull of R64, or not driven at all (R51). -/
inductive Level where
  | low | high | hiZ | undriven
  deriving DecidableEq, Repr

def Level.of (b : Bool) : Level := if b then .high else .low

/-- The outputs and bidirectional signals of the four tables of R64. -/
inductive Pad where
  | nvmCs (i : Fin 2) | nvmSck | nvmIo (i : Fin 4) | nvmWp
  | mdc (i : Fin 2) | mdio (i : Fin 2) | modScl (u : Fin 2) | modSda (u : Fin 2)
  | modTxdis (u : Fin 2) | modRs (u : Fin 2) | phyRst (n : Fin 8)
  | led (n : Fin 8) (i : Fin 3) | ppsOut (i : Fin 2) | evtOut (i : Fin 4) | bellOut | wakeOut
  | jtagTdo | trcCk | trcD (i : Fin 8) | mspiSdo | mspiIrq | gpio (i : Fin 32)
  deriving DecidableEq, Repr

/-- The clamp and reset value of a pad (R64). -/
def Pad.clamp : Pad → Level
  | .nvmCs _ => .high
  | .nvmIo _ => .hiZ
  | .mdio _ => .hiZ
  | .modScl _ => .hiZ
  | .modSda _ => .hiZ
  | .modTxdis _ => .high
  | .jtagTdo => .hiZ
  | .mspiSdo => .hiZ
  | .mspiIrq => .hiZ
  | .gpio _ => .hiZ
  | _ => .low

/-- Is the pad driven from the always-on island (R50, R64)? -/
def Pad.aon : Pad → Bool
  | .phyRst _ => true
  | .wakeOut => true
  | _ => false

/-- A number for each pad, for the levels that the spec does not describe. -/
def Pad.num : Pad → Nat
  | .nvmCs i => i.val
  | .nvmSck => 2
  | .nvmIo i => 3 + i.val
  | .nvmWp => 7
  | .mdc i => 8 + i.val
  | .mdio i => 10 + i.val
  | .modScl u => 12 + u.val
  | .modSda u => 14 + u.val
  | .modTxdis u => 16 + u.val
  | .modRs u => 18 + u.val
  | .phyRst n => 20 + n.val
  | .led n i => 28 + 3 * n.val + i.val
  | .ppsOut i => 52 + i.val
  | .evtOut i => 54 + i.val
  | .bellOut => 58
  | .wakeOut => 59
  | .jtagTdo => 60
  | .trcCk => 61
  | .trcD i => 62 + i.val
  | .mspiSdo => 70
  | .mspiIrq => 71
  | .gpio i => 72 + i.val

/-- A level that the spec does not describe (log entry 140). -/
def State.padFree (s : State) (p : Pad) : Level := Level.of (Config.pad p.num s.frc)

/-- Does service core 0, whose firmware drives the MDIO and two-wire buses, run (R419)? -/
def State.busFirmware (s : State) : Bool := s.coreState 0 == coreRunning

/-- Is a flash command between its steps, with its slot selected (R465)? -/
def State.nvmSelected (s : State) (i : Nat) : Bool :=
  match s.nvm with
  | some j => j.phase != .poll && j.done != 0 && getBits j.word 2 1 == i
  | none => false

/-- JTAG_TDO: driven in Shift-IR and Shift-DR only (R64). -/
def State.tdo (s : State) : Level :=
  match s.chip.tap.state with
  | .shiftIr => Level.of (s.chip.tap.irShift.getLsbD 0)
  | .shiftDr => Level.of (s.chip.tap.dr.getLsbD 0)
  | _ => .hiZ

/-- A trace output carries trace where SCDBG is permitted and trace enabled, and is 0 elsewhere (R79). -/
def State.traceLevel (s : State) (p : Pad) : Level :=
  if s.testAllowed && Config.traceOn s.frc then s.padFree p else .low

/-- The level that the powered block gives a pad outside main-domain reset, between two commands. -/
def State.padRun (s : State) (p : Pad) : Level :=
  match p with
  | .nvmCs i => Level.of (!s.nvmSelected i.val)
  | .nvmSck => .low
  | .nvmIo _ => if s.nvmSelected 0 || s.nvmSelected 1 then s.padFree p else .hiZ
  | .nvmWp => Level.of (s.on NVM_STAT.WP)
  | .mdc _ => if s.busFirmware then s.padFree p else .low
  | .mdio _ => if s.busFirmware then s.padFree p else .hiZ
  | .modScl _ => if s.busFirmware && !Config.pad p.num s.frc then .low else .hiZ
  | .modSda _ => if s.busFirmware && !Config.pad p.num s.frc then .low else .hiZ
  | .modTxdis u => Level.of (s.on PORT_MOD_CTRL.TXDIS_OUT u.val)
  | .modRs u => Level.of (s.on PORT_MOD_CTRL.RS u.val)
  | .phyRst n => Level.of (s.on PORT_PHY_CTRL.RST_N n.val)
  | .led n i => Level.of (bitAt s.led.lit (3 * n.val + i.val))
  | .ppsOut i => Level.of (mapGet (fun _ => OutState.idle) s.time.outs (4 + i.val)).level
  | .evtOut i => Level.of (mapGet (fun _ => OutState.idle) s.time.outs i.val).level
  | .bellOut => Level.of s.bell.outLevel
  | .wakeOut => Level.of (s.on PWR_STAT.WAKE_OUT)
  | .jtagTdo => s.tdo
  | .trcCk => s.traceLevel p
  | .trcD _ => s.traceLevel p
  | .mspiSdo => .hiZ
  | .mspiIrq => if s.intOut.getLsbD 15 then .low else .hiZ
  | .gpio i => if bitAt (s.get GLB_GPIO_OE.OE) i.val then Level.of (bitAt (s.get GLB_GPIO_OUT.OUT) i.val) else .hiZ

/-- The level at a pad (R49 to R51): nothing is driven while VDD_AON is off; main-domain reset holds the main domain's outputs at
their clamp values; in manufacturing test the level is open (R80). -/
def State.pad (s : State) (p : Pad) : Level :=
  if !s.chip.aonOn then .undriven
  else if p.aon then s.padRun p
  else if s.chip.mainReset then p.clamp
  else if s.chip.mfgTest then s.padFree p
  else s.padRun p

/-- The on-chip outputs of the power controller (R46, R508), 0 for a request that the unpowered island does not drive. -/
def State.pwrReq (s : State) : Bool × Bool × BitVec 11 :=
  if s.chip.aonOn then (s.chip.reqMain, s.chip.reqLedger, s.pwr.reqPort) else (false, false, 0)

end Sys2Proof.Machine
end

