-- ==== Sys2Proof/Tests/Slice0.lean ====
section
/-! SUPPORT. Tests: ill-formed commands refused, examples of the spec, and for every obligation a state and operands that meet
its hypotheses. -/

section

-- One theorem at a time: a thread for each would ask for more memory than a check may take.
set_option Elab.async false

open Sys2Proof Sys2Proof.Machine

/-! Witnesses. SERVICE after reset, with nothing stored; `at_` adds registers. -/

/-- A running block in SERVICE mode. -/
def Tests.svc : State := { State.reset with chip.mainReset := false, regs := [(0x80008, 2)] }

/-- The same with other registers set. -/
def Tests.at_ (l : List (Nat × Nat)) : State := l.foldl (fun s e => s.setRg e.1 e.2) Tests.svc

/-- An access of the administrative host. -/
def Tests.acc (size : BitVec 2) (v : Word) : Access := ⟨0, 0x010, size, false, v⟩

theorem Tests.witness_StepRunsFrontCommand : (Tests.svc.pending = []) := by decide

theorem Tests.witness_StepIdlesOneCycle : Tests.svc.pending = [] ∧ Tests.svc.alive = true := by decide

theorem Tests.witness_DeadBlockIsStill :
    ({ Tests.svc with chip.mfgTest := true }.chip.mfgTest = true) ∧ (siteOf .bellEdge).dom ≠ .chip := by decide

theorem Tests.witness_ResetHoldsTheMainDomain :
    State.reset.alive = true ∧ (State.reset.pass (siteOf .bellEdge).dt).chip.mainReset = true ∧
      (siteOf .bellEdge).dom = .main ∧ (siteOf (.drainEnd 0)).dom = .engine ∧ (siteOf (.doze (Tests.acc 0 0))).dom = .port := by
  decide

theorem Tests.witness_RegisterPortNeedsItsClock :
    ({ Tests.svc with chip.clkUp := 0x1FEF }.runs 0 = true) ∧ (siteOf (.doze (Tests.acc 0 0))).dom = .port ∧
      ({ Tests.svc with chip.clkUp := 0x1FEF }.pass 0).clkOn 4 = false := by decide +kernel

theorem Tests.witness_DozeStopsTheEngines :
    (Tests.at_ [(0x80008, 4), (0x80418, 2)]).runs 0 = true ∧ (siteOf (.drainEnd 0)).dom = .engine ∧
      ((Tests.at_ [(0x80008, 4), (0x80418, 2)]).pass 0).dozing = true := by decide +kernel

theorem Tests.witness_DeniedAccessHasNoEffect :
    portOf (.doze ⟨0, 0x0FE, 0, false, 0⟩) = some ⟨0, 0x0FE, true, 0x80410, 0, 1⟩ ∧ Tests.svc.portUp 0 = true ∧
      (Tests.svc.pass 0).granted 0x0FE true 0x80410 1 = false := by decide +kernel

theorem Tests.witness_MisformedAccessIsDecoded :
    portOf (.registerRead (Tests.acc 0 0) 0x80002) = some ⟨0, 0x010, false, 0x80002, 0, 0⟩ ∧ Tests.svc.portUp 0 = true ∧
      (Tests.svc.pass 0).granted 0x010 false 0x80002 0 = true ∧
      ((Tests.svc.pass 0).dozing && !sleepReg 0x80002) = false ∧ badForm false 0x80002 0 = true ∧
    portOf (.registerRead (Tests.acc 0 0) 0x80210) = some ⟨0, 0x010, false, 0x80210, 0, 0⟩ ∧
      (Tests.at_ [(0x80008, 4), (0x80418, 2)]).portUp 0 = true ∧
      ((Tests.at_ [(0x80008, 4), (0x80418, 2)]).pass 0).granted 0x010 false 0x80210 0 = true ∧
      (((Tests.at_ [(0x80008, 4), (0x80418, 2)]).pass 0).dozing && !sleepReg 0x80210) = true := by decide +kernel

theorem Tests.witness_MainResetKeepsOnlyTheIsland :
    (0x80100 ≠ TAMPER_STAT.reg.key 0 0 ∧ 0x80100 ≠ PWR_STAT.reg.key 0 0 ∧ isAon 0x80100 = true) ∧
      (0x80008 ≠ TAMPER_STAT.reg.key 0 0 ∧ 0x80008 ≠ PWR_STAT.reg.key 0 0 ∧ isAon 0x80008 = false) := by decide +kernel

theorem Tests.witness_PowerPinsResetTheBlock :
    Tests.svc.chip.aonOn = true ∧ Tests.svc.alive = true ∧ (Tests.svc.pass 0).chip.reqMain = true ∧ isAon 0x80008 = false ∧
      (Tests.svc.pass 0).chip.porst = true ∧ (Tests.svc.pass 0).railLevel true = true ∧ (Tests.svc.pass 0).railLevel false = true ∧
      (State.pass { Tests.svc with chip.reqMain := false } 0).chip.reqMain = false := by
  decide +kernel

theorem Tests.witness_LedgerRailAndClocks :
    Tests.svc.alive = true ∧ (Tests.svc.pass 0).chip.pgLedger = true ∧ (Tests.svc.pass 0).chip.reqLedger = true ∧
      (Tests.svc.pass 0).chip.mainReset = false ∧ (Tests.svc.pass 0).chip.start.held = [] ∧ (Tests.svc.pass 0).ledger.queue = [] ∧
      State.reset.alive = true ∧ (State.reset.pass 0).chip.mainReset = true ∧ (State.reset.pass 0).clkOn 6 = true ∧
      (State.pass { Tests.svc with ledger.queue := [⟨.fw 0 0, none⟩] } 0).ledger.queue ≠ [] ∧
      (∀ d ∈ [0, 1, 2, 5, 3, 4, 6, 7, 8, 9, 10, 12], (Tests.svc.pass 0).clkOn d = true) ∧
      (∀ d ∈ [3, 4, 6, 7, 8, 9, 10, 12],
        State.lossExpected { Tests.svc.pass 0 with chip.clkUp := (Tests.svc.pass 0).chip.clkUp &&& ~~~(1#13 <<< d) } d = false) ∧
      (let r := State.pass { Tests.svc with pwr.reqPort := 0 } 0
       (∀ d ∈ [6, 7, 8, 9, 10], State.lossExpected { r with chip.clkUp := r.chip.clkUp &&& ~~~(1#13 <<< d) } d = true)) := by
  decide +kernel

theorem Tests.witness_SoftwareResetAndRelease :
    Tests.svc.takes (Tests.acc 0 0xB10C) true GLB_RST_CMD.reg 0 0 0xB10C = true ∧
      State.runs { Tests.svc with chip.rstPend := true } 0 = true ∧
      (State.pass { Tests.svc with chip.rstPend := true } 0).chip.rstPend = true ∧ State.reset.alive = true ∧
      (State.reset.pass 0).chip.mainReset = true ∧ (State.reset.pass 0).chip.reqMain = true ∧
      (State.reset.pass 0).chip.pgLedger = true ∧ (∀ d < 6, (State.reset.pass 0).clkOn d = true) ∧
      (State.reset.pass 0).chip.porst = true ∧ (State.reset.pass 0).chip.pgCore = true ∧
      (State.reset.pass 0).chip.pgSram = true := by decide +kernel

/-- START after the ledger read. -/
def Tests.start : State := { State.reset with chip.mainReset := false, chip.start.ledgerDone := true }
theorem Tests.witness_StartSteps :
    Tests.start.runs 0 = true ∧ (Tests.start.pass 0).mode = 0 ∧ (Tests.start.pass 0).chip.start.ledgerDone = true ∧
      (Tests.start.pass 0).chip.start.countDone = false ∧ (Tests.start.pass 0).deferredTampers = [] ∧
      (Tests.start.pass 0).chip.pgLedger = true ∧ (Tests.start.pass 0).chip.start.marchDone = false ∧
      (Tests.start.pass 0).chip.start.imageDone = false ∧ (Tests.start.pass 0).hdrCheck (flashBytes [] 64) ≠ irOk ∧
      (let r := State.pass { Tests.start with chip.start.countDone := true, chip.start.marchDone := true, chip.start.imageDone := true } 0
       r.chip.start.countDone = true ∧ r.chip.start.marchDone = true ∧ r.chip.start.imageDone = true ∧ r.chip.start.built = false) := by
  decide +kernel

theorem Tests.witness_RegisterFieldsTakeWritesByType : (0xFF00 &&& 0x00FF = 0) ∧ 5 < 64 := by decide

/-- Is register slot `k` held by a row without a write effect of its own? -/
def Tests.plainReg (k : Nat) (wr : Bool) : Option Bool :=
  (findReg k).map (fun r => (if wr then (writeHooks.find? (fun e => e.1 == r.base)).isNone
    else (readHooks.find? (fun e => e.1 == r.base)).isNone) && decide (reachMask r.wide k 0 ≠ 0))
theorem Tests.witness_RegisterAccesses :
    Tests.svc.plainAccess (Tests.acc 0 5) true 0x80128 5 = true ∧ Tests.plainReg 0x80128 true = some true ∧
      Tests.svc.plainAccess (Tests.acc 0 5) true 0x80010 5 = true ∧ Tests.plainReg 0x80010 true = some false ∧
      Tests.svc.plainAccess (Tests.acc 0 5) true 0x80300 5 = true ∧ Tests.plainReg 0x80300 true = none ∧
      Tests.svc.plainAccess (Tests.acc 0 0) false 0x80128 0 = true ∧ Tests.plainReg 0x80128 false = some true ∧
      Tests.svc.plainAccess (Tests.acc 0 0) false 0x80130 0 = true ∧ Tests.plainReg 0x80130 false = some false ∧
      Tests.svc.plainAccess (Tests.acc 0 0) false 0x80300 0 = true := by decide +kernel

theorem Tests.witness_ManagementAndTestAccess :
    Tests.svc.portUp 0 = true ∧ Tests.svc.runs 0 = true ∧ Tests.svc.alive = true ∧ (Tests.svc.pass 0).clkOn 4 = true ∧
      3 < (Tests.svc.pass 0).lifeCycle ∧ (Tests.at_ [(0xE0800, 1)]).runs 0 = true ∧
      ((Tests.at_ [(0xE0800, 1)]).pass 0).lifeCycle = 1 ∧ ((Tests.at_ [(0xE0800, 1)]).pass 0).clkOn 4 = true ∧
      (let r : State := { Tests.at_ [(0xE0800, 1)] with chip.clkUp := 0x1FEF }
       r.runs 0 = true ∧ (r.pass 0).lifeCycle = 1 ∧ (r.pass 0).clkOn 4 = false) ∧ State.reset.alive = true ∧
      (State.reset.pass 0).chip.mainReset = true ∧ (Tests.svc.pass 0).chip.mainReset = false ∧
      (let r : State := { Tests.svc with chip.tap.state := .captureDr, chip.tap.ir := 0x01 }
       r.chip.tap.state = .captureDr ∧ r.chip.tap.ir = 0x01) := by
  decide +kernel

theorem Tests.witness_ModeRequests :
    Tests.svc.takes (Tests.acc 0 1) true GLB_MODE_REQ.reg 0 0 (setBits 1 0 3 1) = true ∧ (Tests.svc.pass 0).mode = 2 ∧
      (Tests.svc.pass 0).lifeCycle ≠ 1 ∧ (Tests.at_ [(0xE0800, 1)]).takes (Tests.acc 0 1) true GLB_MODE_REQ.reg 0 0 1 = true ∧
      ((Tests.at_ [(0xE0800, 1)]).pass 0).mode = 2 ∧ ((Tests.at_ [(0xE0800, 1)]).pass 0).lifeCycle ≤ 1 ∧
      Tests.svc.takes (Tests.acc 0 1) true GLB_MODE_REQ.reg 0 0 (setBits 1 0 3 2) = true ∧
      Tests.svc.takes (Tests.acc 0 1) true GLB_MODE_REQ.reg 0 0 (setBits 1 0 3 4) = true ∧
      Tests.svc.takes (Tests.acc 0 1) true GLB_MODE_REQ.reg 0 0 (setBits 1 0 3 5) = true := by decide +kernel

theorem Tests.witness_RoleCommand :
    Tests.svc.serves (Tests.acc 1 0x1F0020) GLB_ROLE_CMD.reg 0 0x1F0020 = true ∧
      UnitFunc.ofCode (getBits 0x1F0020 20 4) = some .owned ∧ unitValid 0x20 = true ∧
      getBits 0x1F0020 16 4 = ownerCode ((Tests.svc.pass 0).role 0x20).owner ∧
      getBits 0x1F0020 32 16 = ((Tests.svc.pass 0).role 0x20).gen.toNat ∧ ((Tests.svc.pass 0).role 0x20).pend = none ∧
    Tests.svc.serves (Tests.acc 1 0x100440020) GLB_ROLE_CMD.reg 0 0x100440020 = true ∧
      UnitFunc.ofCode (getBits 0x100440020 20 4) = some .diag ∧ (Tests.svc.pass 0).mode = 2 ∧
      getBits 0x100440020 16 4 ≠ ownerCode ((Tests.svc.pass 0).role 0x20).owner ∧
      getBits 0x100440020 32 16 ≠ ((Tests.svc.pass 0).role 0x20).gen.toNat ∧
      (State.pass { Tests.svc with roles := [(0x20, ⟨none, .owned, 0, some (none, .idle)⟩)] } 0).mode = 2 ∧
      ((State.pass { Tests.svc with roles := [(0x20, ⟨none, .owned, 0, some (none, .idle)⟩)] } 0).role 0x20).pend ≠ none := by
  decide +kernel

theorem Tests.witness_RoleChangeCountsGeneration : (0x21 : Nat) ≠ 0x20 := by decide

theorem Tests.witness_BellEdges :
    Tests.svc.runs 0 = true ∧ (Tests.svc.pass 0).on GLB_BELL_STAT.SRC = false ∧ (Tests.svc.pass 0).on GLB_BELL_STAT.ARMED = false ∧
      (Tests.svc.pass 0).get GLB_TERM_BELL.INDEX + 1 < (Tests.svc.pass 0).bell.termBells ∧
      (let r := State.pass { Tests.svc with bell.termBells := 1 } 0
       r.on GLB_BELL_STAT.SRC = false ∧ r.on GLB_BELL_STAT.ARMED = false ∧ r.bell.termBells ≤ r.get GLB_TERM_BELL.INDEX + 1) ∧
      (let r := State.pass (Tests.svc.put GLB_BELL_STAT.SRC 1) 0
       r.on GLB_BELL_STAT.SRC = true) ∧
      (let r := State.pass (State.put { Tests.svc with bell.rephaseAt := 5 } GLB_BELL_STAT.ARMED 1) 0
       r.on GLB_BELL_STAT.SRC = false ∧ r.on GLB_BELL_STAT.ARMED = true ∧
         r.bell.rephaseAt < r.stNsAt (r.bell.origin + (r.bell.k + 1) * r.bell.period) + r.bell.period) := by decide +kernel

theorem Tests.witness_BellNumbersNeverJump :
    Tests.svc.endsTerm ⟨125000, 125000, true⟩ = true ∧ Tests.svc.endsTerm ⟨125000, 125000, false⟩ = false := by decide +kernel

/-- The word GLB_BELL_CFG of reset, with PERIOD `p` and ALIGN `a`. -/
def Tests.bellCfg (p a : Nat) : Nat := setBits (setBits (Tests.svc.rg (GLB_BELL_CFG.reg.key 0 0)) 0 21 p) 48 1 a
/-- The new word that a whole write of `v` makes in state `s`. -/
def Tests.bellNew (s : State) (v : Nat) : Nat :=
  (s.pass 0).merged GLB_BELL_CFG.reg (accMask (Tests.acc 1 (BitVec.ofNat 64 v)) GLB_BELL_CFG.reg 0 0) v
/-- A state with these bits of GLB_BELL_STAT, and ALIGN as given. -/
def Tests.bellState (src armed align : Nat) : State :=
  ((Tests.svc.setRg (GLB_BELL_CFG.reg.key 0 0) (Tests.bellCfg 125000 align)).put GLB_BELL_STAT.SRC src).put GLB_BELL_STAT.ARMED armed
theorem Tests.witness_BellConfiguration :
    (∀ x ∈ [7999, 8000, 1048576, 1048577].map (fun p => (0, 0, p, 0)) ++ [(1, 0, 8000, 0), (0, 1, 8000, 0)] ++
        [(0, 0, 125000, 1), (0, 1, 125000, 0), (1, 0, 125000, 0)],
      (Tests.bellState x.1 x.2.1 1).takes (Tests.acc 1 (BitVec.ofNat 64 (Tests.bellCfg x.2.2.1 x.2.2.2))) true GLB_BELL_CFG.reg 0 0
          (Tests.bellCfg x.2.2.1 x.2.2.2) = true ∧
        getBits (Tests.bellNew (Tests.bellState x.1 x.2.1 1) (Tests.bellCfg x.2.2.1 x.2.2.2)) 0 21 = x.2.2.1 ∧
        bitAt (Tests.bellNew (Tests.bellState x.1 x.2.1 1) (Tests.bellCfg x.2.2.1 x.2.2.2)) 48 = (x.2.2.2 == 1) ∧
        getBits (Tests.bellNew (Tests.bellState x.1 x.2.1 1) (Tests.bellCfg x.2.2.1 x.2.2.2)) 32 16 ≠ 0) ∧
    Tests.svc.runs 0 = true ∧ (State.pass { Tests.svc with bell.outFallAt := some 9 } 0).bell.outFallAt = some 9 := by
  decide +kernel

/-- A wipe of two pages under way, 7,000 cycles after the first edge. -/
def Tests.wiping : State := State.wipeStart { Tests.svc with frc := 7000 } 1 3
theorem Tests.witness_LongOperationSteps :
    Tests.wiping.runs 0 = true ∧ Tests.wiping.stepReady 0 7 = true ∧ Tests.wiping.stepReady 0 6 = false ∧
      (Tests.wiping.pass 0).filling = false ∧ ((Tests.wiping.put MEM_BANK_STAT.POWER 3 2).pass 0).filling = true ∧
      (Tests.wiping.put MEM_BANK_STAT.POWER 3 2).runs 0 = true ∧ (Tests.wiping.put MEM_BANK_STAT.POWER 3 2).stepReady 0 2 = true ∧
      State.stepReady { Tests.svc with frc := 7000, ledger.queue := [⟨.fw 0x200 0, none⟩] } 0 5 = true := by
  decide +kernel

/-- Wired port 0 UP at MAX_FRAME 1,522, its other registers at reset. -/
def Tests.up0 : State := Tests.svc.put PORT_MAC_STAT.LINK linkUp 0
/-- The same with MAX_FRAME 64, OVS_DROP as given, and a receive FIFO of `k` frames of 1,000 bytes. -/
def Tests.upWith (ovs k : Nat) : State :=
  ((Tests.up0.put PORT_MAX_FRAME.MAX_FRAME 64 0).put PORT_MAC_CTRL.OVS_DROP ovs 0).onPort 0 (fun p =>
    { p with rxFifo := List.replicate k ⟨List.replicate 1000 0, false, 0, none, 0⟩ })
/-- A frame of zero bytes with FCS, of `n + 4` bytes. -/
def Tests.zeros (n : Nat) : List Nat := List.replicate n 0 ++ fcsBytes (List.replicate n 0)
/-- The lanes of a packet with its delimiter, as RX_FRAME gives them. -/
def Tests.sent (b : List Nat) : List (Bool × Byte) := (framePacket 0xD5 b).map (fun l => (l.ctl, BitVec.ofNat 8 l.val))
theorem Tests.witness_WiredReception :
    Tests.up0.hears 0 0 = true ∧ (Tests.up0.pass 0).isUp 0 = true ∧ Tests.svc.hears 0 0 = true ∧ (Tests.svc.pass 0).isUp 0 = false ∧
      (Tests.up0.pass 0).on PORT_MAC_CTRL.LOOP 0 = false ∧ ((Tests.up0.put PORT_MAC_CTRL.LOOP 1 0).pass 0).on PORT_MAC_CTRL.LOOP 0 = true ∧
      ((Tests.up0.pass 0).port 0).rxOpen = false ∧ ((Tests.up0.pass 0).port 0).gate = .take ∧
      (((Tests.up0.onPort 0 (fun x => { x with gate := .jabber })).pass 0).port 0).gate = .jabber ∧
      rxRead false .take (laneList [] []) = .nothing .take ∧ rxRead false .take (laneList [true] [0xFB]) = .opened ∧
      rxRead false .take (laneList [true, true] [0xFB, 0xFE]) = .fault [] ∧
      rxRead ((Tests.up0.pass 0).on PORT_PM_CFG.EN 0) .take (laneList ((Tests.sent [1, 2]).map Prod.fst) ((Tests.sent [1, 2]).map Prod.snd)) = .packet 0xD5 [1, 2] ∧
    (∀ x ∈ [(0, 0), (1, 0), (0, 33)], (Tests.upWith x.1 x.2).hears 0 0 = true ∧ ((Tests.upWith x.1 x.2).pass 0).isUp 0 = true ∧
      ((Tests.upWith x.1 x.2).pass 0).maxAt 0 0 = 64) ∧
      -- no room; 63 bytes; a bad FCS; 65 bytes with OVS_DROP 0 and 1; 64 bytes; a MAC control frame
      fifoBytes 0 < ((Tests.upWith 0 33).pass 0).fifoFill 0 ∧ ((Tests.upWith 0 0).pass 0).fifoFill 0 = 0 ∧ (Tests.zeros 59).length = 63 ∧
      (List.replicate 64 0).drop 60 ≠ fcsBytes (List.replicate 60 0) ∧ (Tests.zeros 61).length = 65 ∧
      (Tests.zeros 61).drop 61 = fcsBytes ((Tests.zeros 61).take 61) ∧
      ((Tests.upWith 0 0).pass 0).on PORT_MAC_CTRL.OVS_DROP 0 = false ∧ ((Tests.upWith 1 0).pass 0).on PORT_MAC_CTRL.OVS_DROP 0 = true ∧
      ((Tests.zeros 60).drop 12).take 2 ≠ [0x88, 0x08] ∧ ((pfcIn 0 0).drop 12).take 2 = [0x88, 0x08] ∧ (pfcIn 0 0).length = 64 ∧
      (pfcIn 0 0).drop 60 = fcsBytes ((pfcIn 0 0).take 60) := by decide +kernel

theorem Tests.witness_MacControlTable :
    (let s := Tests.up0
     let b := (s.pauseIn 0 false 7)
     beNat ((b.drop 14).take 2) = 1 ∧ b.take 6 = [0x01, 0x80, 0xC2, 0, 0, 1] ∧ (s.port 0).fcMode = 0 ∧ s.on PORT_FC_CTRL.RX_EN 0 = true ∧
       s.on PORT_FC_STAT.WDOG_ACTIVE 0 = false) ∧
    (let s := Tests.up0.onPort 0 (fun x => { x with fcMode := 1 })
     let b := (s.pauseIn 0 true 0)
     beNat ((b.drop 14).take 2) = 1 ∧ b.take 6 = beBytes (s.get PORT_MAC_ADDR.ADDR 0) 6 ∧ (s.port 0).fcMode = 1 ∧
       s.on PORT_FC_CTRL.RX_EN 0 = true ∧ s.on PORT_FC_STAT.WDOG_ACTIVE 0 = false) ∧
    (let s := Tests.up0.onPort 0 (fun x => { x with fcMode := 2 })
     let b := pfcIn 0x81 5
     beNat ((b.drop 14).take 2) = 0x101 ∧ b.take 6 = [0x01, 0x80, 0xC2, 0, 0, 1] ∧ (s.port 0).fcMode = 2 ∧
       s.on PORT_FC_CTRL.RX_EN 0 = true ∧ s.on PORT_FC_STAT.WDOG_ACTIVE 0 = false) ∧
    beNat (((Tests.zeros 60).drop 14).take 2) = 0 ∧
    (Tests.up0.put PORT_FC_STAT.WDOG_ACTIVE 1 0).on PORT_FC_STAT.WDOG_ACTIVE 0 = true := by decide +kernel

theorem Tests.witness_PauseReception :
    Tests.up0.hears 0 0 = true ∧ (Tests.up0.pass 0).isUp 0 = true ∧ Tests.up0.runs 0 = true ∧
      (Tests.up0.pass 0).on PORT_MAC_CTRL.LOOP 0 = false ∧
      64 ≤ (Tests.up0.pass 0).maxAt 0 (Tests.up0.pass 0).frc.toNat ∧ (Tests.up0.pass 0).fifoFill 0 + 60 ≤ fifoBytes 0 ∧
      ((Tests.up0.pass 0).port 0).pauseEnd = 0 ∧
      (((Tests.up0.onPort 0 (fun x => { x with pauseEnd := 5, pfcEnd := [0, 7] })).pass 0).port 0).pauseEnd ≠ 0 ∧
      (((Tests.up0.onPort 0 (fun x => { x with pauseEnd := 5, pfcEnd := [0, 7] })).pass 0).port 0).pfcEnd.getD 1 0 ≠ 0 ∧
      (((Tests.up0.onPort 0 (fun x => { x with pauseEnd := 5, pfcEnd := [0, 7] })).pass 0).port 0).pfcEnd.getD 0 0 = 0 := by
  decide +kernel

/-- Port `n` with this link code, EN at 1, its PCS link good. -/
def Tests.linkAt (n c : Nat) : State :=
  (((Tests.svc.put PORT_MAC_STAT.LINK c n).put PORT_MAC_CTRL.EN 1 n).onPort n (fun x => { x with linkOk := true })).setRole n ⟨none, .owned, 0, none⟩
theorem Tests.witness_LinkStateEvents :
    (∀ c < 6, (Tests.linkAt 2 c).runs 0 = true ∧ ((Tests.linkAt 2 c).pass 0).dozing = false ∧ ((Tests.linkAt 2 c).pass 0).link 2 = c) ∧
      ((Tests.linkAt 2 0).pass 0).on PORT_MAC_CTRL.LOOP 2 = false ∧ ((Tests.linkAt 2 0).pass 0).clkOn (rxClk 2) = true ∧
      (((Tests.linkAt 2 0).put PORT_MAC_CTRL.LOOP 1 2).pass 0).on PORT_MAC_CTRL.LOOP 2 = true ∧
      (Tests.linkAt 2 0).linkCond 2 = linkArming ∧ (Tests.linkAt 2 0).get PORT_LINK_CFG.UP_HOLD 2 ≠ 0 ∧
      ((Tests.linkAt 2 0).put PORT_LINK_CFG.UP_HOLD 0 2).get PORT_LINK_CFG.UP_HOLD 2 = 0 ∧
      ((Tests.linkAt 2 0).put PORT_MAC_STAT.LF_RX 1 2).linkCond 2 = linkLocal ∧
      ((Tests.linkAt 2 0).put PORT_MAC_STAT.RF_RX 1 2).linkCond 2 = linkRemote ∧
      ((Tests.linkAt 2 0).onPort 2 (fun x => { x with linkOk := false })).linkCond 2 = linkDown ∧
      Tests.svc.linkCond 2 = linkDisabled := by decide +kernel

/-- A frame, an entry and a transmission with nothing in them. -/
def Tests.frame : Frame :=
  { ptr := 0, size := 0, len := 0, src := 0, flags := 0, tc := 0, vlan := 0, tci := 0, tagged := false, ts := 0,
    launch := none, job := none, downlink := none, pass := 0, bank := 0, rule := 0, flow := 0, l3off := 0, l4off := 0,
    l3type := 0, l4type := 0, cookie := 0, rmeta := 0, bell := 0, red := none, mirrored := 0, strip := 0, skip := 0, mac := 0 }
def Tests.entry : QEntry := ⟨Tests.frame, false, 0, true⟩
def Tests.txf : TxFrame := ⟨Tests.entry, [], false, 0, 0, 0, false, 0, false, 0, [], true⟩
/-- A whole write of `v` to PORT2_MAC_CTRL from link state UP of a port whose function is `f`. -/
def Tests.macNew (s : State) (v : Nat) : Nat :=
  (s.pass 0).merged PORT_MAC_CTRL.reg (accMask (Tests.acc 0 (BitVec.ofNat 64 v)) PORT_MAC_CTRL.reg 2 0) v 2
theorem Tests.witness_ModuleSignalsAndMacControl :
    Tests.svc.runs 0 = true ∧ (Tests.svc.pass 0).dozing = false ∧ (Tests.svc.pass 0).on PORT_MOD_CTRL.LOS 0 = true ∧
      (Tests.svc.pass 0).filtered 10000 = false ∧ (State.pass { Tests.svc with frc := 10000 } 0).filtered 10000 = true ∧
      State.runs { Tests.svc with frc := 10000 } 0 = true ∧ (State.pass { Tests.svc with frc := 10000 } 0).on PORT_MOD_CTRL.LOS 0 = true ∧
      (Tests.svc.pass 0).on PORT_MOD_CTRL.TXFLT 0 = false ∧ ((Tests.svc.put PORT_MOD_CTRL.TXFLT 1 0).pass 0).on PORT_MOD_CTRL.TXFLT 0 = true ∧
      (Tests.svc.put PORT_MOD_CTRL.TXFLT 1 0).runs 0 = true ∧
    (∀ v ∈ [0x60, 0x50, 0x51, 0x251, 0x200, 0], Tests.svc.takes (Tests.acc 0 (BitVec.ofNat 64 v)) true PORT_MAC_CTRL.reg 2 0 v = true ∧
      Tests.macNew Tests.svc v = v) ∧
      speedOk 2 6 = false ∧ speedOk 2 5 = true ∧ getBits ((Tests.svc.pass 0).rg (PORT_MAC_CTRL.reg.key 2 0)) 4 3 = 5 ∧
      bitAt ((Tests.svc.pass 0).rg (PORT_MAC_CTRL.reg.key 2 0)) 0 = false ∧
      (let t := (Tests.linkAt 2 5).onPort 2 (fun x => { x with tx := some Tests.txf })
       t.takes (Tests.acc 0 0x50) true PORT_MAC_CTRL.reg 2 0 0x50 = true ∧ Tests.macNew t 0x50 = 0x50 ∧
         bitAt ((t.pass 0).rg (PORT_MAC_CTRL.reg.key 2 0)) 0 = true ∧ ((t.pass 0).port 2).tx.isSome = true) := by decide +kernel

/-- Wired port 0 UP with flow-control mode `m`, TX_EN at 1, XOFF mask `x` and FORCE mask `f`. -/
def Tests.flow (m x f : Nat) : State :=
  (((Tests.up0.put PORT_FC_CTRL.TX_EN 1 0).put PORT_FC_CTRL.FORCE f 0).put PORT_FC_STAT.XOFF x 0).onPort 0 (fun y => { y with fcMode := m })
theorem Tests.witness_FlowControlFrames :
    (∀ x ∈ [0, 1].flatMap (fun a => [(1, a, 0), (1, a, 1)]) ++ [(2, 0, 4), (2, 4, 4), (0, 0, 0)],
      (Tests.flow x.1 x.2.1 x.2.2).runs 0 = true ∧ ((Tests.flow x.1 x.2.1 x.2.2).pass 0).isUp 0 = true ∧
        ((Tests.flow x.1 x.2.1 x.2.2).pass 0).on PORT_FC_CTRL.TX_EN 0 = true ∧
        (((Tests.flow x.1 x.2.1 x.2.2).pass 0).port 0).fcMode = x.1 ∧
        ((Tests.flow x.1 x.2.1 x.2.2).pass 0).get PORT_FC_STAT.XOFF 0 = x.2.1 ∧
        ((Tests.flow x.1 x.2.1 x.2.2).pass 0).xoffWanted 0 (if x.1 = 2 then 2 else 0) = (x.2.2 != 0) ∧
        ((Tests.flow x.1 x.2.1 x.2.2).pass 0).xonWanted 0 (if x.1 = 2 then 2 else 0) = (x.2.2 == 0)) ∧
    ((Tests.up0.pass 0).port 0).ctrlQ = [] ∧ (Tests.up0.pass 0).txFree 0 = true ∧ (Tests.up0.pass 0).ctrlSlot 0 = true ∧
    (∀ k ∈ [CtrlKind.pause, CtrlKind.verify], (((Tests.up0.onPort 0 (fun y => { y with ctrlQ := [⟨k, []⟩] })).pass 0).port 0).ctrlQ = [⟨k, []⟩] ∧
      ((Tests.up0.onPort 0 (fun y => { y with ctrlQ := [⟨k, []⟩] })).pass 0).txFree 0 = true ∧
      ((Tests.up0.onPort 0 (fun y => { y with ctrlQ := [⟨k, []⟩] })).pass 0).ctrlSlot 0 = true) ∧
    (∀ v ∈ [0x7FFFFFFF0001, 0xFFFFFFFF0001], Tests.svc.takes (Tests.acc 1 (BitVec.ofNat 64 v)) true PORT_FC_CTRL.reg 0 0 v = true ∧
      getBits ((Tests.svc.pass 0).merged PORT_FC_CTRL.reg (accMask (Tests.acc 1 (BitVec.ofNat 64 v)) PORT_FC_CTRL.reg 0 0) v 0) 32 16 = v / 2 ^ 32) ∧
    ((Tests.svc.pass 0).port 0).tx.isSome = false ∧
      (((Tests.svc.onPort 0 (fun y => { y with tx := some Tests.txf })).pass 0).port 0).tx.isSome = true ∧
      (Tests.svc.onPort 0 (fun y => { y with tx := some Tests.txf })).takes (Tests.acc 1 0x7FFFFFFF0001) true PORT_FC_CTRL.reg 0 0 0x7FFFFFFF0001 = true := by
  decide +kernel

/-- Port 2 UP with recess enabled, in transmit state `t`. -/
def Tests.recess (t en : Nat) : State :=
  ((Tests.svc.put PORT_MAC_STAT.LINK linkUp 2).put PORT_LPI_CFG.EN en 2).put PORT_LPI_STAT.TX_STATE t 2
/-- Port 0 UP, paused for long, with a budget of 1 µs used up but for 500 ns. -/
def Tests.paused (budget act : Nat) : State :=
  ((Tests.up0.put PORT_FC_WDOG.BUDGET budget 0).put PORT_FC_STAT.WDOG_ACTIVE act 0).onPort 0 (fun x => { x with pauseEnd := 100000000, wdogNs := 500 })
theorem Tests.witness_PauseWatchdogAndRecess :
    (Tests.paused 1 0).runs 0 = true ∧ ((Tests.paused 1 0).pass 0).get PORT_FC_WDOG.BUDGET 0 = 1 ∧
      ((Tests.paused 1 0).pass 0).on PORT_FC_STAT.WDOG_ACTIVE 0 = false ∧ ((Tests.paused 1 1).pass 0).on PORT_FC_STAT.WDOG_ACTIVE 0 = true ∧
      501 ≤ ((Tests.paused 1 0).pass 0).rxTimersEnd 0 ∧ ((Tests.paused 1 0).pass 0).frc.toNat + (1000 + 1 - 500) = 501 ∧
      1000 < ((((Tests.paused 1 0).pass 0).advanceTo 501).port 0).wdogNs ∧
      Tests.svc.takes (Tests.acc 1 0x100000000) true PORT_FC_STAT.reg 0 0 (setBits 0x100000000 32 1 1) = true ∧
      bitAt (accMask (Tests.acc 1 0x100000000) PORT_FC_STAT.reg 0 0) 32 = true ∧
      (∀ t < 3, (Tests.recess t 1).runs 0 = true ∧ ((Tests.recess t 1).pass 0).get PORT_LPI_STAT.TX_STATE 2 = t) ∧
      ((Tests.recess 0 1).pass 0).idleOk 2 = true ∧ ((Tests.recess 0 0).pass 0).idleOk 2 = false ∧
      (let p := (Tests.recess 0 1).pass 0
       (p.advanceTo ((p.port 2).idleAt + p.get PORT_LPI_CFG.ENTRY_IDLE 2 * 1000)).recessOk 2 = true) ∧
      ((Tests.recess 0 1).pass 0).on PORT_MAC_CTRL.LOOP 2 = false ∧
      (((Tests.recess 0 1).put PORT_MAC_CTRL.LOOP 1 2).pass 0).on PORT_MAC_CTRL.LOOP 2 = true ∧
      ((Tests.recess 1 0).pass 0).wakeCause 2 = true ∧ ((Tests.recess 1 1).pass 0).wakeCause 2 = false ∧
      ((Tests.recess 1 0).pass 0).get PWR_STAT.STATE < 2 := by decide +kernel

/-- Wired port 0's timetable unit owned, list 0 with one good entry, and the list and switch state `v`, `x`. -/
def Tests.gcl (v x : Nat) : State :=
  { ((Tests.svc.setRg (PORT_GCL0_E.reg.key 0 0) 0x40000000FF).put PORT_GCL_STAT.VALID v 0).put PORT_GCL_STAT.PEND x 0 with
    roles := [(0x20, ⟨none, .owned, 0, none⟩)] }
theorem Tests.witness_TimetableListsAndCancel :
    (∀ v < 2, (Tests.gcl v 0).takes (Tests.acc 1 0) true PORT_GCL0_E.reg 0 0 0 = true ∧ ((Tests.gcl v 0).pass 0).get PORT_GCL_STAT.VALID 0 = v ∧
      ((Tests.gcl v 0).pass 0).get PORT_GCL_STAT.ACTIVE 0 = 0) ∧
    (Tests.gcl 0 1).takes (Tests.acc 1 0) true PORT_GCL1_E.reg 7 95 0 = true ∧
    (∀ w ∈ [0x10001, 1, 0x610001, 0x100010001], (Tests.gcl 0 0).serves (Tests.acc 1 (BitVec.ofNat 64 w)) PORT_GCL_CMD.reg 0 (setBits w 0 2 1) = true) ∧
    (∀ x < 2, (Tests.gcl 0 x).serves (Tests.acc 1 0x10001) PORT_GCL_CMD.reg 0 (setBits 0x10001 0 2 1) = true ∧
      (Tests.gcl 0 x).serves (Tests.acc 1 2) PORT_GCL_CMD.reg 0 (setBits 2 0 2 2) = true ∧
      ((Tests.gcl 0 x).pass 0).get PORT_GCL_STAT.PEND 0 = x) ∧
    (Tests.gcl 1 0).serves (Tests.acc 1 0x10001) PORT_GCL_CMD.reg 0 (setBits 0x10001 0 2 1) = true ∧
    ((Tests.gcl 0 0).pass 0).listBad 0 0 1 = false ∧ ((Tests.gcl 0 0).pass 0).listBad 0 0 2 = true ∧
    (Tests.gcl 0 0).serves (Tests.acc 1 0x20001) PORT_GCL_CMD.reg 0 (setBits 0x20001 0 2 1) = true ∧
    (((Tests.gcl 0 0).pass 0).role 0x20).func ≠ .idle ∧ (((Tests.gcl 0 0).pass 0).role 0x20).gen.toNat = 0 ∧
    ((Tests.svc.pass 0).role 0x21).func = .idle ∧ Tests.svc.serves (Tests.acc 1 0x10001) PORT_GCL_CMD.reg 1 (setBits 0x10001 0 2 1) = true := by
  decide +kernel

/-- Wired port 0's timetable running a list of two entries of 64 ns, the second with operation `op`. -/
def Tests.gclRunning (op e : Nat) : State :=
  ((((((Tests.svc.setRg (PORT_GCL0_E.reg.key 0 0) 0x40000000FF).setRg (PORT_GCL0_E.reg.key 0 1) (0x40000000FE + op * 256)).put PORT_GCL_CFG.EN 1 0).put
    PORT_GCL_STAT.VALID 1 0).put PORT_GCL_STAT.RUN 1 0).put PORT_GCL_STAT.ENTRY e 0).onPort 0 (fun x => { x with gclCount := 2 })
def Tests.gclNew (s : State) (v : Nat) : Nat :=
  (s.pass 0).merged PORT_GCL_CFG.reg (accMask (Tests.acc 0 (BitVec.ofNat 64 v)) PORT_GCL_CFG.reg 0 0) v 0
theorem Tests.witness_TimetableRunsItsEntries :
    (∀ v ∈ [0x01010000, 0, 0x01000000, 0x01000001, 0x2, 0x00010000], Tests.svc.takes (Tests.acc 0 (BitVec.ofNat 64 v)) true PORT_GCL_CFG.reg 0 0 v = true ∧
      Tests.gclNew Tests.svc v % 2 ^ 32 = v) ∧ getBits 0x01000000 16 9 = 256 ∧ getBits 0x01010000 16 9 = 257 ∧ getBits 0x00010000 16 9 = 1 ∧
      bitAt ((Tests.svc.pass 0).rg (PORT_GCL_CFG.reg.key 0 0)) 0 = false ∧
    (∀ op < 4, ∀ e < 2, (Tests.gclRunning op e).runs 0 = true ∧ ((Tests.gclRunning op e).pass 0).gclRun 0 = true ∧
      ((Tests.gclRunning op e).pass 0).nextEntryAt 0 = (if e = 0 then some 64 else none) ∧
      ((Tests.gclRunning op e).pass 0).gclOp 0 0 1 = op ∧ ((Tests.gclRunning op e).pass 0).on PORT_GCL_STAT.HOLD 0 = false ∧
      ((((Tests.gclRunning op e).pass 0).holdTimes 0).filter (fun t => decide (t ≤ 64)) ≠ [] ↔ op = 1 ∧ e = 0)) ∧
    (Tests.svc.pass 0).gclRun 0 = false ∧ (Tests.svc.pass 0).nextEntryAt 0 = none := by decide +kernel

/-- Wired port 0 UP with preemption enabled, VERIFY_DIS `d`, verify state `v` after `a` attempts. -/
def Tests.pm (d v a : Nat) : State :=
  (((Tests.up0.put PORT_PM_CFG.EN 1 0).put PORT_PM_CFG.VERIFY_DIS d 0).put PORT_PM_STAT.VSTATE v 0).put PORT_PM_STAT.ATTEMPTS a 0
def Tests.mpacket : List Byte := ((List.replicate 60 0) ++ mcrcBytes (List.replicate 60 0)).map (BitVec.ofNat 8)
theorem Tests.witness_PreemptionVerification :
    (∀ d < 2, ∀ v < 3, ∀ a ∈ [2, 3], (Tests.pm d v a).runs 0 = true ∧ (Tests.pm d v a).hears 0 0 = true ∧ ((Tests.pm d v a).pass 0).on PORT_PM_CFG.EN 0 = true ∧
      ((Tests.pm d v a).pass 0).isUp 0 = true ∧ ((Tests.pm d v a).pass 0).on PORT_PM_CFG.VERIFY_DIS 0 = (d == 1) ∧
      ((Tests.pm d v a).pass 0).on PORT_MAC_CTRL.LOOP 0 = false ∧ (((Tests.pm d v a).pass 0).port 0).gate = .take ∧
      ((Tests.pm d v a).pass 0).get PORT_PM_STAT.VSTATE 0 = v ∧
      (((Tests.pm d v a).pass 0).advanceTo ((((Tests.pm d v a).pass 0).port 0).verifyAt +
        ((Tests.pm d v a).pass 0).get PORT_PM_CFG.VERIFY_MS 0 * 1000000)).get PORT_PM_STAT.ATTEMPTS 0 = a) ∧
    Tests.up0.hears 0 0 = true ∧ (Tests.up0.pass 0).isUp 0 = true ∧ (Tests.up0.pass 0).on PORT_PM_CFG.EN 0 = false ∧
    Tests.svc.hears 0 0 = true ∧ (Tests.svc.pass 0).isUp 0 = false ∧
    (nats Tests.mpacket).take 60 = List.replicate 60 0 ∧ (nats Tests.mpacket).drop 60 = mcrcBytes (List.replicate 60 0) ∧
    (nats (List.replicate 64 0)).drop 60 ≠ mcrcBytes (List.replicate 60 0) := by decide +kernel

/-- Wired port 0 with preemption active: a preemptable frame of 200 bytes in transmission for 200 bytes' time, a hold `h`; or that frame cut. -/
def Tests.pmFrame (p : Bool) : TxFrame := { Tests.txf with data := List.replicate 200 0, preempt := p }
def Tests.pmTx (p : Bool) (h : Nat) : State := ((Tests.pm 0 2 1).put PORT_GCL_STAT.HOLD h 0).onPort 0 (fun x => { x with tx := some (Tests.pmFrame p) })
def Tests.pmSplit (h : Nat) : State := ((Tests.pm 0 2 1).put PORT_GCL_STAT.HOLD h 0).onPort 0 (fun x => { x with split := some (Tests.pmFrame true) })
def Tests.pmAssy (i : Nat) : State := (Tests.pm 0 2 1).onPort 0 (fun x => { x with assy := some ⟨i, 0, List.replicate 60 0, 0, 0⟩ })
theorem Tests.witness_PreemptionFragments :
    (∀ p h, (Tests.pmTx p (b2n h)).runs 0 = true ∧ (((Tests.pmTx p (b2n h)).pass 0).port 0).tx = some (Tests.pmFrame p) ∧
      (((Tests.pmTx p (b2n h)).pass 0).legalPoint 0 (Tests.pmFrame p)).isSome = true ∧
      ((Tests.pmTx p (b2n h)).pass 0).cutCause 0 (Tests.pmFrame p) = h ∧
      (∀ k, ((Tests.pmTx p (b2n h)).pass 0).lastPoint 0 (Tests.pmFrame p) k = false ∨ ((Tests.pmTx p (b2n h)).pass 0).gclRun 0 = true)) ∧
    ((Tests.pm 0 2 1).pass 0).legalPoint 0 Tests.txf = none ∧
    (∀ h < 2, (Tests.pmSplit h).runs 0 = true ∧ (((Tests.pmSplit h).pass 0).port 0).split = some (Tests.pmFrame true) ∧
      ((Tests.pmSplit h).pass 0).txFree 0 = true ∧ ((Tests.pmSplit h).pass 0).on PORT_GCL_STAT.HOLD 0 = (h == 1) ∧
      ((Tests.pmSplit h).pass 0).gateOpen 0 0 = true ∧ (((Tests.pmSplit h).pass 0).port 0).ctrlQ = [] ∧
      (((Tests.pmSplit h).pass 0).port 0).wait = none) ∧
    (∀ i < 2, (Tests.pmAssy i).hears 0 0 = true ∧ (((Tests.pmAssy i).pass 0).port 0).assy = some ⟨i, 0, List.replicate 60 0, 0, 0⟩ ∧
      ((Tests.pmAssy i).pass 0).isUp 0 = true ∧ ((Tests.pmAssy i).pass 0).on PORT_MAC_CTRL.LOOP 0 = false ∧
      (((Tests.pmAssy i).pass 0).port 0).gate = .take ∧ ((Tests.pmAssy i).pass 0).on PORT_PM_CFG.EN 0 = true) ∧
    (Tests.pm 0 2 1).hears 0 0 = true ∧ (((Tests.pm 0 2 1).pass 0).port 0).assy = none ∧
    fcsBytes (List.replicate 64 0) ≠ mcrcBytes (List.replicate 64 0) ∧ (mcrcBytes (List.replicate 64 0)).length = 4 := by
  refine ⟨?_, by decide +kernel⟩
  intro p h
  refine ⟨?_, ?_, ?_, ?_, fun k => .inl ?_⟩
  · revert p h; decide +kernel
  · revert p h; decide +kernel
  · revert p h; decide +kernel
  · revert p h; decide +kernel
  · have : ((Tests.pmTx p (b2n h)).pass 0).gclRun 0 = false := by revert p h; decide +kernel
    simp [State.lastPoint, this]

/-- Wired port 0 with a frame, launched at `lt`, queued in class 7; with a waiting copy; with a frame in transmission. -/
def Tests.launched (lt : Option Nat) : QEntry := ⟨{ Tests.frame with launch := lt }, false, 7, true⟩
def Tests.queued (s : State) (lt : Option Nat) : State := s.setCq 0 7 [Tests.launched lt]
def Tests.waiting (s : State) : State := s.onPort 0 (fun x => { x with wait := some Tests.txf })
def Tests.sending (d : Bool) : State := Tests.up0.onPort 0 (fun x => { x with tx := some Tests.txf, disabling := d })
theorem Tests.witness_TransmitFrames :
    Tests.svc.awake 0 = true ∧ (Tests.svc.pass 0).takesWork = true ∧ (Tests.svc.setRg 0x80008 5).awake 0 = true ∧
      ((Tests.svc.setRg 0x80008 5).pass 0).takesWork = false ∧
      (Tests.waiting Tests.up0).awake 0 = true ∧ ((Tests.waiting Tests.up0).pass 0).isUp 0 = true ∧
      (((Tests.waiting Tests.up0).pass 0).port 0).wait = some Tests.txf ∧
      (Tests.queued Tests.svc none).awake 0 = true ∧ ((Tests.queued Tests.svc none).pass 0).isUp 0 = false ∧
      (((Tests.queued Tests.svc none).pass 0).schedule 0 (fun c => (((Tests.queued Tests.svc none).pass 0).cq 0 c).head?.map
        (((Tests.queued Tests.svc none).pass 0).wireLen 0))).2 = some 7 ∧
      ((Tests.waiting Tests.up0).pass 0).startReady 0 Tests.txf 0 = true ∧ ((Tests.waiting Tests.up0).pass 0).isLate 0 Tests.txf.e 0 0 = false ∧
      ((Tests.waiting Tests.svc).pass 0).startReady 0 Tests.txf 0 = false ∧ (Tests.waiting Tests.svc).runs 0 = true ∧
      (∀ d, (Tests.sending d).runs 0 = true ∧ (((Tests.sending d).pass 0).port 0).tx = some Tests.txf ∧ (((Tests.sending d).pass 0).port 0).disabling = d) ∧
      (let p := (Tests.queued Tests.up0 none).pass 0
       let r := p.schedule 0 (p.copyElig 0)
       let q := (r.1.setCq 0 7 []).headReached 0 7
       (Tests.queued Tests.up0 none).awake 0 = true ∧ p.takesWork = true ∧ p.isUp 0 = true ∧ (p.port 0).wait = none ∧ (p.port 0).tx = none ∧
         r.2 = some 7 ∧ p.txRoom 0 7 = true ∧ r.1.cq 0 7 = [Tests.launched none] ∧
         q.wireLen 0 (Tests.launched none) ≤ q.get PORT_MAX_FRAME.MAX_FRAME 0 ∧
         (q.fetchFrame 0 (Tests.launched none)).2 = some []) ∧
      (let t : TxFrame := { Tests.txf with e := Tests.launched (some 0) }
       let p := State.pass { Tests.up0.onPort 0 (fun x => { x with wait := some t }) with frc := 5000 } 0
       p.startReady 0 t 0 = true ∧ p.isLate 0 t.e 0 0 = true ∧ (p.port 0).wait = some t) ∧
      (Tests.queued Tests.svc (some 5000)).runs 0 = true ∧ ((Tests.queued Tests.svc (some 5000)).pass 0).cq 0 7 = [Tests.launched (some 5000)] := by
  decide +kernel

/-- Radio port 0 in state `st` after `m` misses, with a deadline at 1,000. -/
def Tests.rad0 (st m : Nat) : State :=
  ((Tests.svc.put RAD_STAT.STATE st 0).put RAD_STAT.MISSES m 0).onRad 0 (fun r => { r with due := 1000 })
/-- Radio port 0 in state `st` at FRC 9,000 with the open receive frame `o` and RX credit `c`. -/
def Tests.radRx (st : Nat) (o : Option RadPart) (c : Int) (skip : Bool) : State :=
  { Tests.svc with frc := 9000 }.put RAD_STAT.STATE st 0 |>.onRad 0 (fun r => { r with rxOpen := o, rxCredit := c, rxCreditAt := 9000, rxSkip := skip })
/-- Radio port 0 in UP at FRC 9,000 with a frame on the stream from `f` on, or in transfer with credit from `f` on. -/
def Tests.radTx (wait tx : Bool) (f : Nat) : State :=
  let x := if tx then some Tests.txf else none
  let y := if wait then some Tests.txf else none
  let o := if wait then some f else none
  { Tests.svc with frc := 9000 }.put RAD_STAT.STATE 3 0 |>.onRad 0 (fun r => { r with wait := y, offer := o, tx := x, txCreditAt := f })
def Tests.rpart (b : List Nat) (max : Nat) : RadPart := ⟨0, 0, false, max, b⟩
/-- What the receive clauses assume of a state: the port's state, the open frame, and whether beats of `len` bytes get through. -/
def Tests.radAsks (s : State) (ago len : Nat) (sop : Bool) : Nat × Bool × Bool × Bool :=
  ((s.pass 0).radState 0, s.hears 0 8, (s.pass 0).radTakes 0 ago len sop, (((s.pass 0).rxBeats 0 ago len sop).rad 0).rxOpen.isSome)
def Tests.beaconed (s : State) (st : Nat) : Bool :=
  s.runs 0 && (s.pass 0).radState 0 == st && ((s.pass 0).rad 0).lastSeq == none
def Tests.radNew (v : Nat) : Nat :=
  (Tests.svc.pass 0).merged RAD_CTRL.reg (accMask (Tests.acc 0 (BitVec.ofNat 64 v)) RAD_CTRL.reg 0 0) v 0
-- Beats on the receive stream: discarded in DISABLED, held in DOWN and by a credit below 0, taken with or without an open frame.
theorem Tests.witness_RadioPortsReceive :
    Tests.radAsks (Tests.radRx 0 none 512 false) 0 32 true = (0, true, true, false) ∧
    Tests.radAsks (Tests.radRx 1 none 512 false) 0 32 true = (1, true, false, false) ∧
    Tests.radAsks (Tests.radRx 2 none (-1) false) 0 32 true = (2, true, false, false) ∧
    Tests.radAsks (Tests.radRx 3 none 0 false) 0 1 true = (3, true, true, false) ∧
    Tests.radAsks (Tests.radRx 3 (some (Tests.rpart [1] 1514)) 0 false) 0 32 true = (3, true, true, true) ∧
    Tests.radAsks (Tests.radRx 4 (some (Tests.rpart [1] 1514)) 512 false) 0 3 false = (4, true, true, true) := by
  decide +kernel
-- Frames at their EOP: under 64 bytes, of 64 bytes with a right or a wrong FCS, and beyond MAX_FRAME.
theorem Tests.witness_RadioPortsFrame :
    ((Tests.rpart [1] 1514).bytes ++ [2, 3, 4]).length < 64 ∧
    (Tests.zeros 60).length = 64 ∧ (Tests.zeros 60).drop 60 = fcsBytes ((Tests.zeros 60).take 60) ∧
    (List.replicate 64 0).drop 60 ≠ fcsBytes ((List.replicate 64 0).take 60) ∧ (Tests.rpart [] 63).max < (Tests.zeros 60).length := by
  decide +kernel
theorem Tests.radTakes_open (s : State) (n ago len : Nat) (p : RadPart) (ho : (s.rad n).rxOpen = some p) (a : s.radState n ≠ radDown)
    (b : (s.rad n).rxCreditAt ≤ s.frc.toNat - ago) (c : 2 * ((s.rxRun n ago len false).1 - 1) ≤ ago) (e : (s.rad n).rxFifo = [])
    (d : p.max ≤ 32000) : s.radTakes n ago len false = true := by
  have h : s.radFill n = p.held := by unfold State.radFill; rw [ho, e]; simp
  unfold State.radTakes
  rw [ho, h]
  simp only [b, c, radFifo, bne_iff_ne, ne_eq, a, not_false_eq_true, decide_true, Bool.and_true, Bool.and_eq_true,
    decide_eq_true_eq, if_false, Bool.false_eq_true, true_and]
  omega
-- A frame that has grown to 65,536 bytes takes another one: it is overlong.
theorem Tests.witness_RadioPortsOverlong :
    let o := Tests.rpart (List.replicate 65536 0) 1514
    let s := Tests.radRx 3 (some o) 0 false
    s.hears 0 8 = true ∧ (s.pass 0).radState 0 ≠ radDisabled ∧ (s.pass 0).radTakes 0 0 1 false = true ∧
      (((s.pass 0).rxBeats 0 0 1 false).rad 0).rxOpen = some o ∧ 65536 < (o.bytes ++ nats [(0 : Byte)]).length := by
  have r : ((Tests.radRx 3 (some (Tests.rpart (List.replicate 65536 0) 1514)) 0 false).pass 0).radState 0 = 3 := by decide +kernel
  refine ⟨by decide +kernel, by rw [r]; decide, Tests.radTakes_open _ _ _ _ _ rfl (by rw [r]; decide) (by decide +kernel) (by decide +kernel) rfl
    (by decide), rfl, ?_⟩
  show 65536 < (List.replicate 65536 0 ++ nats [(0 : Byte)]).length
  rw [List.length_append, List.length_replicate]; decide
theorem Tests.witness_RadioPorts :
    (∀ st < 5, ∀ o ∈ [none, some (Tests.rpart [] 64)], ∀ b, let p := (Tests.radRx st o 0 b).pass 0
      p.radRxOn 0 = decide (2 ≤ st) ∧ (p.rad 0).rxOpen = o ∧ (p.rad 0).rxSkip = b) ∧
    (∀ st < 5, Tests.beaconed (Tests.rad0 st 0) st = true ∧ (((Tests.rad0 st 0).pass 0).rad 0).due = 1000) ∧
    ((Tests.svc.pass 0).rad 0).due = 0 ∧ Tests.svc.runs 0 = true ∧
    (∀ m < 4, (Tests.rad0 3 m).runs 0 = true ∧ ((Tests.rad0 3 m).pass 0).get RAD_STAT.MISSES 0 = m) ∧
    (∀ f ∈ [9000, 9001], ∀ w t, (Tests.radTx w t f).runs 0 = true ∧ ((Tests.radTx w t f).pass 0).frc = 9000 ∧
      ((Tests.radTx w t f).pass 0).sopOffered 0 = (w && !t && f == 9000) ∧ (((Tests.radTx w t f).pass 0).rad 0).tx.isSome = t ∧
      (((Tests.radTx w t f).pass 0).rad 0).txCreditAt = f) ∧
    (∀ v ∈ [0, 0x810, 0x811, 0x890, 0x910], Tests.svc.takes (Tests.acc 0 (BitVec.ofNat 64 v)) true RAD_CTRL.reg 0 0 v = true) ∧
    [0, 0x810, 0x811, 0x890, 0x910].map (fun v => (within RAD_CTRL.RX_INC 1 8 (Tests.radNew v), within RAD_CTRL.TX_INC 1 8 (Tests.radNew v))) =
      [(false, false), (true, true), (true, true), (false, true), (true, false)] := by
  decide +kernel

/-- A block in SERVICE with bank 3 in power state `w`, and a march in state `m`. -/
def Tests.bank (w m : Nat) : State := (Tests.svc.put MEM_BANK_STAT.POWER w 3).put MEM_MARCH_STAT.STATE m
/-- Bank 3 with the ERASED columns of mask `e`. -/
def Tests.worn (e : Nat) : State := (Tests.bank 0 0).put MEM_BANK_STAT.ERASED e 3
theorem Tests.witness_BankColumnAndMarchCommands :
    (∀ w < 3, (Tests.bank w 0).serves (Tests.acc 1 3) MEM_BANK_CMD.reg 0 (setBits 3 8 2 0) = true ∧
      (Tests.bank w 0).serves (Tests.acc 1 0x203) MEM_BANK_CMD.reg 0 (setBits 0x203 8 2 2) = true ∧
      ((Tests.bank w 0).pass 0).get MEM_BANK_STAT.POWER 3 = w) ∧
    ((Tests.bank 0 0).pass 0).inUse 3 = false ∧ ((Tests.bank 0 0).pass 0).marchIn 3 = false ∧ ((Tests.bank 0 0).pass 0).mem.offPend = [] ∧
    (State.pass { Tests.bank 0 0 with mem.offPend := [3] } 0).mem.offPend = [3] ∧
    State.serves { Tests.bank 0 0 with mem.offPend := [3] } (Tests.acc 1 0x203) MEM_BANK_CMD.reg 0 (setBits 0x203 8 2 2) = true ∧
    (∀ e < 4, (Tests.worn e).serves (Tests.acc 1 0x193) MEM_COL_CMD.reg 0 0x193 = true ∧ ((Tests.worn e).pass 0).erasedCols 3 = (List.range 2).filter (bitAt e) ∧
      (Tests.worn e).serves (Tests.acc 1 0x931) MEM_MARCH_CMD.reg 0 0x931 = true) ∧
    Tests.svc.takes (Tests.acc 1 0x1A3) true MEM_COL_CMD.reg 0 0 0x1A3 = true ∧ rangeOk MEM_COL_CMD.reg.base 0x1A3 = false ∧
    Tests.svc.serves (Tests.acc 1 0xA31) MEM_MARCH_CMD.reg 0 0xA31 = true ∧
    (∀ m < 4, (Tests.bank 0 m).serves (Tests.acc 1 2) MEM_MARCH_CMD.reg 0 (setBits 2 0 2 2) = true ∧
      ((Tests.bank 0 m).pass 0).get MEM_MARCH_STAT.STATE = m) ∧ ((Tests.bank 0 0).pass 0).mode = 2 := by decide +kernel

/-- A write of 1 to staff-room word 0 or 0xC000 (the secure region), or a read. -/
def Tests.sreq (wr : Bool) (a : BitVec 18) (d : Word) : StaffReq := ⟨wr, a, 8, d⟩
theorem Tests.witness_ProcessorMemoryAccesses :
    Tests.svc.awake 0 = true ∧ Tests.svc.runs 0 = true ∧ (Tests.svc.pass 0).dozing = false ∧ (Tests.svc.pass 0).clkOn 4 = true ∧
    ((Tests.svc.pass 0).pmuOn evStaff 1 1).scReaches 0 0 = true ∧ (((Tests.svc.put PROT_SECPAGE.SC_MASK 0 15).pass 0).pmuOn evStaff 1 1).scReaches 0 0x3FFFF = false ∧ (Tests.svc.put PROT_SECPAGE.SC_MASK 0 15).runs 0 = true ∧
    (((Tests.svc.pass 0).pmuOn evStaff 1 1).staffRead 0).2 = some 0 ∧
    (State.staffRead ({ Tests.svc.pass 0 with mem.staff := [(0, 1), (1, 1)] }) 0).2 = none ∧
    (Tests.svc.pass 0).staffGranted 0x0FE true 0 = false ∧ (Tests.svc.pass 0).staffGranted 0x010 true 0 = true ∧
    sameBytes (Tests.sreq true 0 1) (Tests.sreq true 0 1) = true ∧ sameBytes (Tests.sreq true 0 1) (Tests.sreq true 0 2) = false ∧
    srWord (Tests.sreq true 8 1) ≠ srWord (Tests.sreq true 0 1) ∧
    (State.pass { Tests.svc with mem.staffRun := (0, 2) } 0).blockWrote (Tests.sreq true 0 1) = true ∧
    State.runs { Tests.svc with mem.staffRun := (0, 2) } 0 = true ∧ (Tests.svc.pass 0).scReaches 0 0 = true ∧
    (Tests.svc.put PWR_STAT.STATE 2).runs 0 = true ∧ ((Tests.svc.put PWR_STAT.STATE 2).pass 0).dozing = true ∧
    ((Tests.svc.put PWR_STAT.STATE 2).pass 0).clkOn 4 = true ∧ ((Tests.svc.put PWR_STAT.STATE 2).pass 0).staffGranted 0x010 true 0 = true ∧
    ((Tests.svc.put PWR_STAT.STATE 2).pass 0).on PWR_CFG.ACC_WAKE = false := by decide +kernel

/-- A block in SERVICE with pool 0 of 512-byte buffers in bank 0, WITHDRAWN mask `m`; its first buffer has `r` references. -/
def Tests.pooled (m r : Nat) : State :=
  State.put { Tests.svc with mem.pools := [(0, ⟨2, 0, 1⟩)], mem.bufs := if r = 0 then [] else [(0, ⟨r, 0, 0⟩)] } POOL_STAT.WITHDRAWN m 0
/-- The same with a definition of pool 0 of two banks staged. -/
def Tests.stagedPool (m r : Nat) : State :=
  (((Tests.pooled m r).put POOL_CFG.SIZE 2 0).put POOL_CFG.FIRST_BANK 0 0).put POOL_CFG.BANKS 2 0
theorem Tests.witness_PoolCommandsAndBuffers :
    (∀ m < 2, (∀ v ∈ [1, 0x51], (Tests.pooled m 0).serves (Tests.acc 1 (BitVec.ofNat 64 v)) POOL_CMD.reg 0 (setBits v 0 2 1) = true ∧
        (Tests.pooled m 0).serves (Tests.acc 1 (BitVec.ofNat 64 (v + 1))) POOL_CMD.reg 0 (setBits (v + 1) 0 2 2) = true) ∧
      ((Tests.pooled m 0).pass 0).poolOfBank 0 = some 0 ∧ ((Tests.pooled m 0).pass 0).poolOfBank 5 = none ∧
      ((Tests.pooled m 0).pass 0).withdrawn 0 0 = (m == 1)) ∧ ((Tests.pooled 1 0).pass 0).bankOn 0 = true ∧
    (Tests.stagedPool 1 0).serves (Tests.acc 1 3) POOL_CMD.reg 0 (setBits 3 0 2 3) = true ∧
      ((Tests.stagedPool 1 0).pass 0).pool 0 = ⟨2, 0, 1⟩ ∧ ((Tests.stagedPool 1 0).pass 0).bankBusy 0 = false ∧
      ((Tests.stagedPool 1 0).pass 0).redefineBad 0 [] false = false ∧
      (∀ q ∈ [1, 2, 3, 4], ((Tests.stagedPool 1 0).pass 0).poolOn q = false) ∧
      (Tests.stagedPool 0 0).serves (Tests.acc 1 3) POOL_CMD.reg 0 (setBits 3 0 2 3) = true ∧ ((Tests.stagedPool 0 0).pass 0).withdrawn 0 0 = false ∧
    (∀ v ∈ [16320, 16321], Tests.svc.takes (Tests.acc 1 (BitVec.ofNat 64 v)) true POOL_ALLOC.reg 0 0 v = true) ∧
      (Tests.svc.pass 0).get (POOL_ALLOC_RES.PENDING.of 0x010) = 0 ∧
      ((Tests.svc.put (POOL_ALLOC_RES.PENDING.of 0x010) 1).pass 0).get (POOL_ALLOC_RES.PENDING.of 0x010) = 1 ∧
      (Tests.svc.put (POOL_ALLOC_RES.PENDING.of 0x010) 1).awake 0 = true ∧
      (((Tests.svc.put (POOL_ALLOC_RES.PENDING.of 0x010) 1).pass 0).alloc .core false 0 0x40 0).2.2 = none ∧
      Tests.svc.takes (Tests.acc 1 0) false POOL_ALLOC_RES.reg 0 0 0 = true ∧
    (∀ r < 3, ∀ v ∈ [0, 0x1000000, 0x80000, 1], (Tests.pooled 0 r).takes (Tests.acc 1 (BitVec.ofNat 64 v)) true POOL_FREE.reg 0 0 v = true ∧
      ((Tests.pooled 0 r).pass 0).poolOn 0 = true ∧ (((Tests.pooled 0 r).pass 0).buf 0).refs = r) ∧
      ((Tests.pooled 0 0).pass 0).poolOn 1 = false := by decide +kernel
/-- A pool whose 32 buffers of 16 KiB are all free grants a request. -/
def Tests.granting : State :=
  ({ Tests.svc with mem.pools := [(0, ⟨7, 0, 1⟩)], mem.joined := [(0, 32)], mem.avail := [(0, 32)] } : State).put (POOL_ALLOC_RES.PENDING.of 0x010) 1
    |>.put POOL_CFG.RESERVE 0
theorem Tests.witness_PoolGrant :
    Tests.granting.awake 0 = true ∧ (((Tests.granting.pass 0).allocCycle .core 0x40 false).pickBuf 0).isSome = true ∧
      ((Tests.granting.pass 0).allocCycle .core 0x40 false).fitPool 64 = some 0 ∧ ((Tests.granting.pass 0).allocCycle .core 0x40 false).mem.allocStart.getD 0 0 = 32 ∧
      ((Tests.granting.pass 0).allocCycle .core 0x40 false).get POOL_CFG.RESERVE 0 < 32 := by
  refine ⟨by decide +kernel, ?_, by decide +kernel, by decide +kernel, by decide +kernel⟩
  have hall : ∀ i < 32, ((Tests.granting.pass 0).allocCycle .core 0x40 false).bufFree 0 i = true := by decide +kernel
  have hc : (((Tests.granting.pass 0).allocCycle .core 0x40 false).pool 0).count = 32 := by decide +kernel
  unfold State.pickBuf
  rw [hc, List.find?_isSome]
  refine ⟨(0 + Config.pick ((Tests.granting.pass 0).allocCycle .core 0x40 false).free) % 32, List.mem_map.mpr ⟨0, by decide, rfl⟩, hall _ (Nat.mod_lt _ (by decide))⟩

/-- A block in SERVICE with a flow entry of key 0 in way `i` of its bucket, or with its bucket full. -/
def Tests.flowAt (is : List Nat) (k : Nat) : State :=
  let s := Tests.svc
  State.put { s with cls.flows := is.map (fun i => (4 * s.flowBucket 0 + i, ⟨k, 5, true⟩)) } CLS_FLOW_STAT.COUNT is.length
def Tests.parsing (r : List RxFrame) (j b : List Work) : State :=
  { Tests.svc with ports := [(3, { Tests.svc.port 3 with rxFifo := r })], cls.jobs := j, cls.subs := b }
theorem Tests.witness_FlowTableAndPasses :
    (∀ v ∈ [1, 2, 3], (Tests.flowAt [] 0).serves (Tests.acc 1 (BitVec.ofNat 64 v)) CLS_FLOW_CMD.reg 0 (setBits v 0 2 v) = true ∧
      (Tests.flowAt [0] 0).serves (Tests.acc 1 (BitVec.ofNat 64 v)) CLS_FLOW_CMD.reg 0 (setBits v 0 2 v) = true ∧
      (Tests.flowAt [0, 1, 2, 3] 7).serves (Tests.acc 1 (BitVec.ofNat 64 v)) CLS_FLOW_CMD.reg 0 (setBits v 0 2 v) = true) ∧
    (((Tests.flowAt [] 0).pass 0).staged CLS_FLOW_CMD.reg.base 0x010).take 5 = [0, 0, 0, 0, 0] ∧
    ((Tests.flowAt [] 0).pass 0).flowFind 0 = none ∧ (((Tests.flowAt [0] 0).pass 0).flowFind 0).isSome = true ∧
    ((Tests.flowAt [0, 1, 2, 3] 7).pass 0).flowFind 0 = none ∧
    ([0, 1, 2, 3].map (· + 4 * ((Tests.flowAt [] 0).pass 0).flowBucket 0)).all (fun i => (Tests.flowAt [0, 1, 2, 3] 7).cls.flows.any (fun e => e.1 == i)) = true ∧
    (∀ l ∈ [[], [0]], (Tests.flowAt l 0).takes (Tests.acc 1 0) true CLS_FLOW_MASK.reg 4 0 0 = true ∧
      (Tests.flowAt l 0).takes (Tests.acc 1 0) true CLS_FLOW_CFG.reg 0 0 0 = true ∧ (Tests.flowAt l 0).takes (Tests.acc 0 0) true CLS_FLOW_CFG.reg 0 0 0 = true ∧
      ((Tests.flowAt l 0).pass 0).get CLS_FLOW_STAT.COUNT = l.length) ∧
    accMask (Tests.acc 1 0) CLS_FLOW_CFG.reg 0 0 / 2 ^ 32 ≠ 0 ∧ accMask (Tests.acc 0 0) CLS_FLOW_CFG.reg 0 0 / 2 ^ 32 = 0 ∧
    (let v := 3 + 4 * Tests.svc.flowBucket 0 * 65536
     (Tests.flowAt [0] 0).serves (Tests.acc 1 (BitVec.ofNat 64 v)) CLS_FLOW_CMD.reg 0 (setBits v 0 2 3) = true ∧
       (((Tests.flowAt [0] 0).pass 0).cls.flows.find? (fun e => e.1 == getBits (setBits v 0 2 3) 16 16)).isSome = true) ∧
    Tests.svc.awake 0 = true ∧ (Tests.svc.pass 0).forwards = true ∧ ((Tests.svc.setRg 0x80008 5).pass 0).forwards = false ∧
      (Tests.svc.setRg 0x80008 5).awake 0 = true ∧ (Tests.svc.pass 0).cls.recirc = [] ∧ (Tests.svc.pass 0).cls.lastPort = 0 ∧
      (∀ d < 11, (Tests.svc.pass 0).rxFifoOf d = []) ∧ ((Tests.parsing [⟨[], false, 0, none, 0⟩] [] []).pass 0).rxFifoOf 3 = [⟨[], false, 0, none, 0⟩] ∧
      (∀ d < 3, ((Tests.parsing [⟨[], false, 0, none, 0⟩] [] []).pass 0).rxFifoOf d = []) := by decide +kernel

/-- A block in SERVICE whose bank 1 is in state `b`, with PEND `d` and MIRROR_PEND `m`. -/
def Tests.banks (b d m : Nat) : State :=
  ((Tests.svc.put CLS_BANK_STAT.STATE1 b).put CLS_BANK_STAT.PEND d).put CLS_BANK_STAT.MIRROR_PEND m
theorem Tests.witness_RuleCommandsAndBankSwap :
    (∀ b < 4, (∀ v ∈ [1, 5, 9, 0xFFFD], (Tests.banks b 0 0).serves (Tests.acc 1 (BitVec.ofNat 64 v)) CLS_RULE_CMD.reg 0 (setBits v 0 2 1) = true ∧
        (Tests.banks b 0 0).serves (Tests.acc 1 (BitVec.ofNat 64 v)) CLS_RULE_CMD.reg 0 (setBits v 0 2 2) = true ∧
        (Tests.banks b 0 0).serves (Tests.acc 1 (BitVec.ofNat 64 v)) CLS_RULE_CMD.reg 0 (setBits v 0 2 3) = true) ∧
      ((Tests.banks b 0 0).pass 0).bankState 1 = b) ∧ ((Tests.banks 1 0 0).pass 0).bankState 0 = 0 ∧ ((Tests.banks 1 0 0).pass 0).activeBank = 0 ∧
    ((Tests.banks 1 0 0).pass 0).staged CLS_RULE_CMD.reg.base 0x010 = List.replicate 18 0 ∧
      ruleKeyErr 0 0 = false ∧ ruleKeyErr 1 0 = true ∧ ruleActErr ⟨0, 0⟩ = false ∧ ruleActErr ⟨0x1800, 0⟩ = true ∧
    (∀ d < 2, ∀ v ∈ [1, 5], (Tests.banks 1 d 0).takes (Tests.acc 0 (BitVec.ofNat 64 v)) true CLS_BANK_CMD.reg 0 0 (setBits v 0 2 1) = true ∧
      ((Tests.banks 1 d 0).pass 0).get CLS_BANK_STAT.PEND = d) ∧
    (∀ m < 2, (Tests.banks 2 0 m).awake 0 = true ∧ ((Tests.banks 2 0 m).pass 0).pinned = 0 ∧ ((Tests.banks 2 0 m).pass 0).get CLS_BANK_STAT.MIRROR_PEND = m) := by
  decide +kernel

/-- A block in SERVICE with a stored frame `x`, VLAN 1 valid, and database entries `l`. -/
def Tests.bridging (x : Fwd) (l : List (Nat × FdbEntry)) : State :=
  ({ Tests.svc with cls.stored := [x], cls.fdb := l } : State).put BR_VLAN.VALID 1 1
def Tests.fwd (bridge : Bool) (src mac : Nat) : Fwd :=
  { Fwd.of { Tests.frame with src := src, vlan := 1, mac := mac * 2 ^ 48 } with bridge := bridge }
def Tests.learning (l : List (Nat × FdbEntry)) : State := { Tests.svc with cls.learn := [⟨5, 1, 3, false⟩], cls.fdb := l }
theorem Tests.witness_BridgeForwarding :
    Tests.svc.awake 0 = true ∧ (Tests.svc.pass 0).forwards = true ∧ (Tests.svc.pass 0).cls.stored = [] ∧ (Tests.svc.pass 0).cls.learn = [] ∧
    (∀ src ∈ [0x10, 0x20], ∀ mac ∈ [5, 0x0180C2000000, 0x0180C200000F], ∀ b,
      (Tests.bridging (Tests.fwd b src mac) []).awake 0 = true ∧ ((Tests.bridging (Tests.fwd b src mac) []).pass 0).cls.stored = [Tests.fwd b src mac] ∧
      ((Tests.bridging (Tests.fwd b src mac) []).pass 0).forwards = true ∧
      ((Tests.bridging (Tests.fwd b src mac) []).pass 0).vlanBars src 1 = false ∧ ((Tests.bridging (Tests.fwd b src mac) []).pass 0).vlanBars src 2 = true) ∧
    isLinkLocal 0x0180C2000000 = true ∧ isLinkLocal 0x0180C200000F = true ∧ isLinkLocal 0x0180C2000010 = false ∧
    (∀ l ∈ [[], [(7, ⟨5, 1, 8⟩)], [(7, (⟨5, 1, 2 ^ 19⟩ : FdbEntry))]], (Tests.learning l).awake 0 = true ∧ ((Tests.learning l).pass 0).cls.learn = [⟨5, 1, 3, false⟩] ∧
      ((Tests.learning l).pass 0).fdbFind 5 1 = l.head?) ∧ ((Tests.svc.pass 0).fdbFree 5 1).isSome = true ∧
    (∀ w < 2, ((Tests.svc.put BR_FDB_STAT.SWEEP w).pass 0).on BR_FDB_STAT.SWEEP = (w == 1) ∧ (Tests.svc.put BR_FDB_STAT.SWEEP w).awake 0 = true) ∧
    (∀ t ∈ [1, 2, 3, 4], Tests.svc.serves (Tests.acc 1 (BitVec.ofNat 64 t)) BR_FDB_CMD.reg 0 (setBits t 0 3 t) = true ∧
      (Tests.learning [(0, ⟨0, 0, 8⟩)]).serves (Tests.acc 1 (BitVec.ofNat 64 t)) BR_FDB_CMD.reg 0 (setBits t 0 3 t) = true) ∧
    (Tests.svc.pass 0).staged BR_FDB_CMD.reg.base 0x010 = [0, 0] ∧ ((Tests.learning [(0, ⟨0, 0, 8⟩)]).pass 0).fdbFind 0 0 = some (0, ⟨0, 0, 8⟩) ∧
    Tests.svc.takes (Tests.acc 1 0) true MTR_CFG.reg 63 0 0 = true := by
  decide +kernel

/-- A block in SERVICE whose partition 0 is in state `st` with EN `en`; `own` says whether its two ring pairs are its own. -/
def Tests.part (st en : Nat) (own : Bool) : State :=
  let s := (Tests.svc.put PART_STAT.STATE st 0).put PART_CTRL.EN en 0
  if own then (s.setRole 0x80 ⟨some 0, .owned, 3, none⟩).setRole 0x81 ⟨some 0, .shared, 4, none⟩ else s
/-- The same with a host read of partition 0 that waits. -/
def Tests.partBusy : State := { Tests.part 3 1 true with host.reads := [(0, ⟨0, .gone, 0, 0, [], 0, false⟩)] }
theorem Tests.witness_PartitionCommands :
    (∀ st < 5, ∀ en < 2, ∀ own, (Tests.part st en own).get PART_STAT.STATE 0 = st ∧ (Tests.part st en own).get PART_CTRL.EN 0 = en ∧
      (∀ v ∈ [0, 1, 2, 3], (Tests.part st en own).takes (Tests.acc 0 (BitVec.ofNat 64 v)) true PART_CTRL.reg 0 0 v = true ∧
        (Tests.part st en own).takes (Tests.acc 0 (BitVec.ofNat 64 v)) true PART_CMD.reg 0 0 (setBits v 0 2 1) = true ∧
        (Tests.part st en own).takes (Tests.acc 0 (BitVec.ofNat 64 v)) true PART_CMD.reg 0 0 (setBits v 0 2 2) = true ∧
        getBits ((Tests.part st en own).merged PART_CTRL.reg (accMask (Tests.acc 0 (BitVec.ofNat 64 v)) PART_CTRL.reg 0 0) v 0) 0 2 = v)) ∧
      (∀ own, ((Tests.part 0 0 own).pass 0).pairServed 0 0x80 = own ∧ ((Tests.part 0 0 own).pass 0).pairServed 0 0x81 = own ∧
        ((Tests.part 0 0 own).pass 0).mode = 2) ∧
    (∀ st < 2, ∀ f ∈ [PART_TXQ_BASE.reg, PART_RXQ_BASE.reg, PART_TXC_BASE.reg, PART_RXC_BASE.reg],
      ∀ v ∈ [0x0006000000000400, 0x0005000000000400, 0x000F000000000001], (Tests.part st 0 false).takes (Tests.acc 1 (BitVec.ofNat 64 v)) true f 0 0 v = true) ∧
    (∀ v ∈ [0, 1, 64, 65, 127, 128], (Tests.part 1 1 true).takes (Tests.acc 0 (BitVec.ofNat 64 v)) true PART_TXQ_DB.reg 0 0 v = true ∧
      (Tests.part 1 1 true).takes (Tests.acc 0 (BitVec.ofNat 64 v)) true PART_RXQ_DB.reg 0 0 v = true ∧
      (Tests.part 1 1 true).takes (Tests.acc 0 (BitVec.ofNat 64 v)) true PART_TXC_HEAD.reg 0 0 v = true ∧
      (Tests.part 1 1 true).takes (Tests.acc 0 (BitVec.ofNat 64 v)) true PART_RXC_HEAD.reg 0 0 v = true ∧
      ((Tests.part 1 1 true).pass 0).tailOk 0 false v = (0 < v && v ≤ 64)) ∧
    (Tests.part 3 1 true).runs 0 = true ∧ ((Tests.part 3 1 true).pass 0).resetDoneNext 0 = true ∧ Tests.partBusy.runs 0 = true ∧
      (Tests.partBusy.pass 0).resetDoneNext 0 = false := by decide +kernel

/-- The partition above, ACTIVE, with the first slots of TXQ (`rx`: of RXQ) fetched and the tail at `tail`. -/
def Tests.ringed (rx : Bool) (l : List Slot) (tail : Nat) : State :=
  let s := (Tests.part 1 1 true).onPart 0 (fun q => q.withSlots rx (l.zipIdx.map (fun e => (e.2, e.1))))
  s.setTail 0 rx tail
/-- A first slot: PHASE 1, LEN, TYPE, GEN, and the rest of its 16 bytes. -/
def Tests.head (len type gen rest : Nat) : Nat := 1 + len * 2 + type * 2 ^ 8 + gen * 2 ^ 16 + rest * 2 ^ 32
/-- A push with tail 3 and count `c`. -/
def Tests.burst (tail c : Nat) : BitVec 512 := BitVec.ofNat 512 (tail + c * 2 ^ 32)
theorem Tests.witness_HostEntries_push :
    ∀ rx, ∀ k ∈ [0, 3, 4], let s := (Tests.part 1 1 true).onPart 0 (fun q => q.withPushes rx ((List.range k).map (fun i => (i, []))))
      s.portUp 0 = true ∧ (s.pass 0).dozing = false ∧ (∀ off ∈ [0, 31], (s.pass 0).granted 0x010 true ((if rx then 0xF800 else 0xF000) + off * 64) 0 = true) ∧
      (((s.pass 0).part 0).pushes rx).length = k ∧
      (∀ t ∈ [0, 1, 64, 65], (s.pass 0).tailOk 0 rx t = (0 < t && t ≤ 64)) ∧
      (∀ c ∈ [0, 1, 3, 4, 255], getBits (Tests.burst 64 c).toNat 0 17 = 64 ∧ getBits (Tests.burst 64 c).toNat 32 8 = c ∧
        getBits (Tests.burst 64 c).toNat 17 15 = 0 ∧ getBits (Tests.burst 64 c).toNat 40 88 = 0) := by decide +kernel
theorem Tests.witness_HostEntries_entry :
    ((Tests.ringed false [] 1).entryAt 0 false [1]) = .wait ∧ ((Tests.ringed false [.timeout] 1).entryAt 0 false [1]) = .bad 7 1 0 ∧
    ((Tests.ringed false [.fault] 1).entryAt 0 false [1]) = .bad 8 1 0 ∧
    ((Tests.ringed false [.data (Tests.head 2 1 3 0), .timeout] 2).entryAt 0 false [1]) = .bad 7 2 0 ∧
    ((Tests.ringed false [.data (Tests.head 2 1 3 0), .fault] 2).entryAt 0 false [1]) = .bad 8 2 0 ∧
    ((Tests.ringed false [.data (Tests.head 2 1 3 0 - 1), .data 0] 2).entryAt 0 false [1]) = .bad 2 2 0 ∧
    ((Tests.ringed false [.data (Tests.head 2 2 3 0), .data 0] 2).entryAt 0 false [1]) = .bad 3 2 0 ∧
    ((Tests.ringed false [.data (Tests.head 17 1 3 0), .data 0] 2).entryAt 0 false [1]) = .bad 4 2 0 ∧
    ((Tests.ringed false [.data (Tests.head 1 1 3 0), .data 0] 2).entryAt 0 false [1]) = .bad 4 1 0 ∧
    ((Tests.ringed false [.data (Tests.head 3 1 3 0), .data 0] 2).entryAt 0 false [1]) = .wait ∧
    ((Tests.ringed false [.data (Tests.head 3 1 3 0), .data 0] 3).entryAt 0 false [1]) = .wait ∧
    ((Tests.ringed false [.data (Tests.head 2 1 3 0), .data 5] 2).entryAt 0 false [1]) = .whole 2 [Tests.head 2 1 3 0, 5] := by decide +kernel
/-- A TX_JOB's first slot and segment: LEN 2, GEN `gen`, FRAME_LEN `n`, NSEG `k`, CONT `c`, DEST 0. -/
def Tests.job (gen n k c : Nat) : List Slot := [.data (Tests.head 2 1 gen (n * 2 ^ 16 + k * 2 ^ 32 + c * 2 ^ 36)), .data (64 + 14 * 2 ^ 64)]
/-- A job of `e` entries that waits for a TX_CONT, stale or not. -/
def Tests.gathering (l : List Slot) (e : Nat) (st : Bool) : State :=
  (Tests.ringed false l 2).onPart 0 (fun q => { q with gather := some ⟨0, 0, Tests.head 2 1 3 0, 3, [], e, true, st, 0, none, [], 0, []⟩ })
theorem Tests.witness_HostEntries_job :
    (Tests.ringed false (Tests.job 3 14 1 0) 2).awake 0 = true ∧ ((Tests.ringed false (Tests.job 3 14 1 0) 2).pass 0).takesEntries 0 false = true ∧
    ((Tests.part 0 0 true).pass 0).takesEntries 0 false = false ∧ (Tests.part 0 0 true).awake 0 = true ∧
    ((Tests.ringed false (Tests.job 3 14 1 0) 2).pass 0).mayTake 0 = true ∧ ((Tests.ringed false (Tests.job 3 14 1 0) 2).role 0x80).gen = 3 ∧
    (∀ g ∈ [3, 4], ∀ n ∈ [13, 14], ∀ k < 3, ∀ c < 2, (Tests.ringed false (Tests.job g n k c) 2).entryAt 0 false [0x0F, 1] =
        .whole 2 [Tests.head 2 1 g (n * 2 ^ 16 + k * 2 ^ 32 + c * 2 ^ 36), 64 + 14 * 2 ^ 64] ∧
      jobLenBad (Tests.head 2 1 g (n * 2 ^ 16 + k * 2 ^ 32 + c * 2 ^ 36)) = (n == 13) ∧
      jobFieldBad 2 (Tests.head 2 1 g (n * 2 ^ 16 + k * 2 ^ 32 + c * 2 ^ 36)) [64 + 14 * 2 ^ 64] = (k != 1) ∧
      jobCont (Tests.head 2 1 g (n * 2 ^ 16 + k * 2 ^ 32 + c * 2 ^ 36)) = (c == 1)) ∧
    (∀ r ∈ [0, 1], (Tests.ringed false [.data (Tests.head 1 0x0F 9 0 + r * 2 ^ 6)] 1).entryAt 0 false [0x0F, 1] = .whole 1 [Tests.head 1 0x0F 9 0 + r * 2 ^ 6] ∧
      (Tests.ringed true [.data (Tests.head 1 0x0F 9 0 + r * 2 ^ 6)] 1).entryAt 0 true [0x0F, 0x10] = .whole 1 [Tests.head 1 0x0F 9 0 + r * 2 ^ 6]) ∧
    (∀ e ∈ [1, 3], ∀ st, ∀ tag < 2, ∀ c < 2, let w := Tests.head 2 2 3 (tag + 1 * 2 ^ 32 + c * 2 ^ 36)
      (Tests.gathering [.data w, .data (14 * 2 ^ 64)] e st).entryAt 0 false [0x0F, 2] = .whole 2 [w, 14 * 2 ^ 64] ∧
      contFieldBad 0 2 w [14 * 2 ^ 64] = (tag == 1)) ∧
    (Tests.gathering [.fault] 1 false).entryAt 0 false [0x0F, 2] = .bad 8 1 0 ∧ ((Tests.ringed false (Tests.job 3 14 1 0) 2).pass 0).oldWork 0 false = false ∧
    ((Tests.part 1 1 true).alloc .host false 64 0x10 0).2.2 = none := by decide +kernel
/-- The partition above with a job that waits for a buffer. -/
def Tests.heldJob : State :=
  (Tests.part 1 1 true).onPart 0 (fun q => { q with held := some ⟨0, 0, 0, 3, [], 1, false, false, 0, none, [], 0, []⟩ })
/-- An RX_BUF slot of LEN 1 with GEN `gen`, BUF_SIZE `z` and address 64. -/
def Tests.rxBufSlot (gen z : Nat) : Nat := Tests.head 1 0x10 gen z + 64 * 2 ^ 64
theorem Tests.witness_HostEntries_rest :
    Tests.heldJob.runs 0 = true ∧ ((Tests.heldJob.pass 0).part 0).held.isSome = true ∧ (Tests.heldJob.pass 0).fixedRuns = true ∧
    (Tests.part 1 1 true).runs 0 = true ∧ (((Tests.part 1 1 true).pass 0).part 0).held = none ∧
    (Tests.ringed true [.data (Tests.rxBufSlot 4 64)] 1).awake 0 = true ∧
    ((Tests.ringed true [.data (Tests.rxBufSlot 4 64)] 1).pass 0).takesEntries 0 true = true ∧ ((Tests.part 0 0 true).pass 0).takesEntries 0 true = false ∧ ((Tests.ringed true [.data (Tests.rxBufSlot 4 64)] 1).pass 0).oldWork 0 true = false ∧
    (∀ g ∈ [3, 4], ∀ z ∈ [0, 64, 16384, 16448], (Tests.ringed true [.data (Tests.rxBufSlot g z)] 1).entryAt 0 true [0x0F, 0x10] = .whole 1 [Tests.rxBufSlot g z] ∧
      rxBufBad [Tests.rxBufSlot g z] = (z == 0 || z == 16448)) ∧ ((Tests.ringed true [] 1).role 0x81).gen = 4 ∧
    (rxAddrs [Tests.rxBufSlot 4 64]).length = 1 ∧ ((Tests.ringed true [.data (Tests.rxBufSlot 4 64)] 1).part 0).rxBufs = [] := by decide +kernel
/-- A list of 65,535 buffers has no room for one more. -/
theorem Tests.witness_HostEntries_full :
    65535 < (((Tests.ringed true [.data (Tests.rxBufSlot 4 64)] 1).onPart 0 (fun q => { q with rxBufs := List.replicate 65535 (0, 64) })).part 0).rxBufs.length + 1 ∧
    ((Tests.ringed true [.data (Tests.rxBufSlot 4 64)] 1).onPart 0 (fun q => { q with rxBufs := List.replicate 65535 (0, 64) })).entryAt 0 true [0x0F, 0x10] =
      .whole 1 [Tests.rxBufSlot 4 64] := by
  refine ⟨?_, by decide +kernel⟩
  show 65535 < (List.replicate 65535 (0, 64)).length + 1
  rw [List.length_replicate]; decide

/-- The partition above, ACTIVE, with a queued frame of `n` bytes, `k` buffers of 64 bytes, and TX requests `rd`, `wr` that wait. -/
def Tests.delivering (n k : Nat) (rd wr : List HostReq) : State :=
  let s := (Tests.part 1 1 true).onPart 0 (fun q => { q with
    rxq := [{ Tests.frame with len := n }], rxBufs := List.replicate k (4096, 64),
    deliv := [⟨7, Tests.frame, 0, 0, 1, 4, []⟩], cpls := [⟨9, true, [0], false, false, true, 0, 5, 0⟩] })
  { s with host.reads := rd.zipIdx.map (fun e => (e.2, e.1)), host.writes := wr.zipIdx.map (fun e => (e.2, e.1)), frc := 16001 }
/-- A request of partition 0 issued at `t`. -/
def Tests.hreq (o : HostOp) (t : Nat) (dead : Bool) : HostReq := ⟨0, o, 64, 0, [], t, dead⟩
/-- Requests that are late at 16,001, in time, for a segment, and timed out. -/
def Tests.reads : List HostReq := [Tests.hreq (.ring false 3 1) 0 false, Tests.hreq (.ring true 3 1) 1 false, Tests.hreq (.seg 5 0 0 64) 1 false, Tests.hreq .gone 1 true]
def Tests.writes : List HostReq := [Tests.hreq (.data 7) 0 false, Tests.hreq (.data 7) 1 false, Tests.hreq (.cpl true 9) 1 false, Tests.hreq .gone 1 true]
def Tests.noHostClk : State := { Tests.svc with chip.clkUp := 0x1FF7#13 }
theorem Tests.witness_HostDeliveryAndResponses :
    (∀ k ∈ [0, 1, 2], ∀ n ∈ [0, 64, 65], (Tests.delivering n k [] []).awake 0 = true ∧ ((Tests.delivering n k [] []).pass 0).takesEntries 0 true = true ∧
      ((Tests.delivering n k [] []).pass 0).get PART_STAT.RXC_STALL 0 = 0 ∧
      (takeBufs (((Tests.delivering n k [] []).pass 0).part 0).rxBufs n).isSome = (n ≤ 64 * k)) ∧
    ((Tests.part 0 0 true).pass 0).takesEntries 0 true = false ∧ (((Tests.part 1 1 true).pass 0).part 0).deliv = [] ∧
    (((Tests.delivering 1 1 [] []).pass 0).part 0).deliv.find? (fun d => d.left == 0) = some ⟨7, Tests.frame, 0, 0, 1, 4, []⟩ ∧
    ((Tests.delivering 1 1 [] []).bufRead .mover 0 64).2.ok = true ∧ ((Tests.delivering 1 1 [] []).fetchPayload 0 1).2 = some [0] ∧
    ((((Tests.delivering 1 1 [] []).putRaw 0 0 3 0).putRaw 0 1 3 0).putRaw 0 2 3 0 |>.bufRead .mover 0 64).2.ok = false ∧
    (Tests.delivering 1 1 Tests.reads Tests.writes).runs 0 = true ∧
    ((Tests.delivering 1 1 Tests.reads Tests.writes).pass 0).clkOn 3 = true ∧ ((Tests.delivering 1 1 [] []).pass 0).oldWork 0 true = false ∧
    (State.pass (Tests.noHostClk) 0).clkOn 3 = false ∧ Tests.noHostClk.runs 0 = true ∧
    (∀ t ∈ [0, 1], (16000 + t < ((Tests.delivering 1 1 Tests.reads Tests.writes).pass 0).frc.toNat) = (t = 0)) ∧
    (∀ k < 4, (((Tests.delivering 1 1 Tests.reads Tests.writes).pass 0).host.reads.find? (fun e => e.1 == k)).isSome = true ∧
      (((Tests.delivering 1 1 Tests.reads Tests.writes).pass 0).host.writes.find? (fun e => e.1 == k)).isSome = true) ∧
    ((Tests.delivering 1 1 Tests.reads Tests.writes).pass 0).host.reads.find? (fun e => e.1 == 5) = none ∧
    ((Tests.delivering 1 1 Tests.reads Tests.writes).pass 0).host.writes.find? (fun e => e.1 == 5) = none ∧
    (((Tests.delivering 1 1 [] []).part 0).cpls.find? (fun c => c.rx == true && c.id == 9)).isSome = true ∧
    (Tests.delivering 1 1 [] []).runs 0 = true ∧ ((Tests.delivering 1 1 [] []).pass 0).oldestAt = none ∧
    ((Tests.delivering 1 1 Tests.reads Tests.writes).pass 0).oldestAt = some 0 ∧
    (((Tests.delivering 1 1 Tests.reads Tests.writes).pass 0).advanceTo 16001).host.reads.find? (fun e => !e.2.dead && e.2.at_ == 0) =
      some (0, Tests.hreq (.ring false 3 1) 0 false) ∧
    (((Tests.delivering 1 1 [] Tests.writes).pass 0).advanceTo 16001).host.writes.find? (fun e => !e.2.dead && e.2.at_ == 0) =
      some (0, Tests.hreq (.data 7) 0 false) ∧ (Tests.delivering 1 1 [] Tests.writes).runs 0 = true := by decide +kernel

/-- Source `n` of the block in SERVICE: enabled to targets 0 and 3 with priority `pr`, COAL_CNT `c`, and `st` in INT_SRC_STAT; both
targets enabled. -/
def Tests.src (s : State) (n pr c st : Nat) : State :=
  ((s.setRg (INT_SRC_CFG.reg.key n 0) (1 + pr * 2 + c * 2 ^ 8 + 1 * 2 ^ 16 + 9 * 2 ^ 32)).setRg (INT_SRC_STAT.reg.key n 0) (st + 15 * 2 ^ 16)).put INT_TGT_CTRL.EN 1 0
    |>.put INT_TGT_CTRL.EN 1 3
/-- Two edge sources presented to target 0, of priorities 3 and `pr`. -/
def Tests.two (pr : Nat) : State := Tests.src (Tests.src Tests.svc 0x20 3 1 (5 + 2 ^ 8)) 0x21 pr 1 (5 + 2 ^ 8)
/-- Eight sources claimed by target 0, and one presented to it. -/
def Tests.eight : State := (List.range 8).foldl (fun s i => Tests.src s (0xA0 + i) 1 1 8) (Tests.src Tests.svc 0x20 3 1 (5 + 2 ^ 8))
theorem Tests.witness_InterruptDelivery_present :
    (Tests.src Tests.svc 0x20 3 1 (1 + 2 ^ 8)).deliverable 0x20 = true ∧ (Tests.src Tests.svc 0x20 3 1 (1 + 2 ^ 8)).get INT_SRC_STAT.LAST 0x20 = 15 ∧
    (∀ j < 16, (Tests.src Tests.svc 0x20 3 1 (1 + 2 ^ 8)).tgtOpen 0x20 j = (j == 0 || j == 3)) ∧ isEdgeSrc 0x20 = true ∧ isEdgeSrc 0x60 = false ∧
    ((Tests.src Tests.svc 0x60 0 1 0).put TIME_EVT.reg 1).deliverable 0x60 = true ∧
    ((Tests.src Tests.svc 0x20 3 2 (1 + 2 ^ 8)).put INT_SRC_CFG.COAL_TIME 0 0x20).deliverable 0x20 = true ∧
    (Tests.src Tests.svc 0x20 3 2 (1 + 2 ^ 8)).deliverable 0x20 = false ∧ Tests.svc.deliverable 0x20 = false ∧
    ((Tests.src Tests.svc 0x20 0 1 5).put INT_SRC_CFG.EN 0 0x20).get INT_SRC_STAT.PRESENTED 0x20 = 1 := by decide +kernel
theorem Tests.witness_InterruptDelivery_claim :
    (∀ pr < 8, (Tests.two pr).takes (Tests.acc 0 0) false INT_TGT_CLAIM.reg 0 0 0 = true ∧ ((Tests.two pr).pass 0).presentedOn 0 = [0x20, 0x21] ∧
      ((Tests.two pr).pass 0).claimedBy 0 = [] ∧ ((Tests.two pr).pass 0).get INT_SRC_CFG.PRIO 0x20 = 3 ∧ ((Tests.two pr).pass 0).get INT_SRC_CFG.PRIO 0x21 = pr) ∧
    ((Tests.src Tests.svc 0x60 3 1 4).pass 0).presentedOn 0 = [0x60] ∧ (Tests.src Tests.svc 0x60 3 1 4).takes (Tests.acc 0 0) false INT_TGT_CLAIM.reg 0 0 0 = true ∧
    (Tests.eight.pass 0).claimedBy 0 = [0xA0, 0xA1, 0xA2, 0xA3, 0xA4, 0xA5, 0xA6, 0xA7] ∧ (Tests.eight.pass 0).presentedOn 0 = [0x20] ∧
    Tests.eight.takes (Tests.acc 0 0) false INT_TGT_CLAIM.reg 0 0 0 = true ∧ (Tests.svc.pass 0).presentedOn 0 = [] ∧
    (∀ v ∈ [0xA0, 0xA8, 0x3FF], Tests.eight.takes (Tests.acc 0 (BitVec.ofNat 64 v)) true INT_TGT_COMPLETE.reg 0 0 v = true ∧
      ((Tests.eight.pass 0).get INT_SRC_STAT.CLAIMED v = 1 ↔ v = 0xA0)) ∧
    (∀ v ∈ [1, 2 ^ 63], Tests.eight.takes (Tests.acc 1 (BitVec.ofNat 64 v)) true INT_PEND.reg 0 0 v = true) ∧
    (∀ v ∈ [0, 0x100], Tests.svc.takes (Tests.acc 1 (BitVec.ofNat 64 v)) true INT_SRC_CFG.reg 0 0 v = true ∧
      Tests.svc.takes (Tests.acc 0 (BitVec.ofNat 64 v)) true INT_TGT_CTRL.reg 15 0 v = true) := by decide +kernel
theorem Tests.witness_InterruptDelivery_latch :
    (∀ st ∈ [0, 1, 1 + 2 ^ 8], (Tests.src Tests.svc 0x20 3 2 st).runs 0 = true ∧ (((Tests.src Tests.svc 0x20 3 2 st).pass 0).get INT_SRC_STAT.PEND 0x20 = 1 ↔ st ≠ 0) ∧
      (((Tests.src Tests.svc 0x20 3 2 st).pass 0).get INT_SRC_STAT.HELD 0x20 ≠ 0 ↔ st = 1 + 2 ^ 8)) ∧
    Tests.svc.alive = true ∧ (∀ r, (∀ l ∈ [0, 1], ((Tests.svc.pass 0).latchEdge l r) = !r) ∧
      (∀ l ∈ [2, 9], ((Tests.svc.put TAMPER_STAT.LEVEL 0).latchEdge l r) = true) ∧ (∀ l ∈ [0x12, 0x18], (Tests.svc.pass 0).latchEdge l r = r) ∧
      (Tests.svc.pass 0).latchEdge 0x19 r = false ∧ (Tests.svc.pass 0).latchEdge 0x0A r = !r) ∧
    (∀ e < 2, bitAt ((Tests.svc.put PWR_WAKE_EN.EN (e * 2 ^ 0x0A)).get PWR_WAKE_EN.EN) 0x0A = (e == 1)) ∧
    (Tests.svc.put INT_AON_LATCH.SET 5).runs 0 = true ∧ ((Tests.svc.put INT_AON_LATCH.SET 5).pass 0).chip.clkUp.getLsbD 0 = true ∧
    ((Tests.svc.put INT_AON_LATCH.SET 5).pass 0).chip.mainReset = false ∧
    (∀ l < 3, bitAt (((Tests.svc.put INT_AON_LATCH.SET 5).pass 0).get INT_AON_LATCH.SET) l = (l != 1)) ∧
    (∀ l < 3, ((State.pass { Tests.svc.put INT_AON_LATCH.SET 5 with latchMerged := 1 } 0).latchMerged.getLsbD l) = (l == 0)) ∧
    (∀ n ∈ [0, 1, 2], ((Tests.svc.put INT_BTMR.EN 1 0).put INT_BTMR.LEFT n 0).runs 0 = true ∧
      (((Tests.svc.put INT_BTMR.EN 1 0).put INT_BTMR.LEFT n 0).pass 0).timerNext 0 = (n == 1)) ∧
    (∀ v ∈ [0, 1, 0x10000, 0x10001], Tests.svc.takes (Tests.acc 1 (BitVec.ofNat 64 v)) true INT_BTMR.reg 0 0 v = true) ∧
    (Tests.svc.pass 0).get INT_BTMR.EN 0 = 0 := by decide +kernel

/-- A block in SERVICE in sync state `st`, with STEP_PEND `sp` and bell source `src`. -/
def Tests.sync (st sp src : Nat) : State :=
  ((Tests.svc.put TIME_STAT.STATE st).put TIME_STAT.STEP_PEND sp).put GLB_BELL_STAT.SRC src
theorem Tests.witness_SyncStatesAndRates :
    (∀ st < 5, ∀ sp < 2, (∀ v ∈ [0, 56294995342, 56294995343, 2 ^ 40 - 56294995342, 2 ^ 40 - 56294995343],
        (Tests.sync st sp 0).takes (Tests.acc 1 (BitVec.ofNat 64 v)) true TIME_RATE.reg 0 0 v = true) ∧
      (∀ src < 2, ∀ v ∈ [0, 2 ^ 63], (Tests.sync st sp src).takes (Tests.acc 1 (BitVec.ofNat 64 v)) true TIME_STEP.reg 0 0 v = true) ∧
      ((Tests.sync st sp 0).pass 0).get TIME_STAT.STATE = st ∧ ((Tests.sync st sp 0).pass 0).get TIME_STAT.STEP_PEND = sp ∧
      (∀ c ∈ [1, 2, 3, 4, 5], ∀ x ∈ [0, 0x10, 0x20, 0x30, 0x100 + 56294995342 * 2 ^ 16, 0x100 + 56294995343 * 2 ^ 16],
        (Tests.sync st sp 0).takes (Tests.acc 1 (BitVec.ofNat 64 x)) true TIME_CMD.reg 0 0 (setBits x 0 4 c) = true)) ∧
    (∀ v ∈ [0, 56294995342, 56294995343, 2 ^ 40 - 56294995342, 2 ^ 40 - 56294995343],
      rateOk (sext 40 ((Tests.svc.pass 0).merged TIME_RATE.reg (accMask (Tests.acc 1 (BitVec.ofNat 64 v)) TIME_RATE.reg 0 0) v % 2 ^ 40)) =
        (v != 56294995343 && v != 2 ^ 40 - 56294995343)) ∧
    (∀ src < 2, ∀ hs ∈ [none, some 5], (State.runs { Tests.sync 1 1 src with time.heldStep := hs } 0) = true ∧
      (State.pass { Tests.sync 1 1 src with time.heldStep := hs } 0).heldNext = (src == 0 && hs.isSome)) ∧
    (let s : State := { (Tests.sync 3 0 0).put TIME_CFG.SERVO_TMO_MS 1 with frc := 1000000 }
     s.takes (Tests.acc 1 0) true TIME_RATE.reg 0 0 0 = true ∧ (s.pass 0).servoDue = true) ∧ (Tests.svc.pass 0).servoDue = false ∧
    (∀ ms < 2, (((Tests.sync 3 0 0).put TIME_CFG.SERVO_TMO_MS ms).runs 0) = true ∧
      (((Tests.sync 3 0 0).put TIME_CFG.SERVO_TMO_MS ms).pass 0).get TIME_CFG.SERVO_TMO_MS = ms) ∧
    ((Tests.sync 3 0 0).pass 0).get PWR_STAT.STATE = 0 := by decide +kernel

/-- Output `o` 0 of the block in SERVICE in sync state `st`: enabled, mode `m`, gated where `g`, level `l`, next edge at `n`. -/
def Tests.output (st m : Nat) (g l : Bool) (n : Option Nat) : State :=
  ((Tests.svc.put TIME_STAT.STATE st).setRg (TIME_OUT_CFG.reg.key 0 0) (1 + m * 2 + b2n g * 8 + 100 * 2 ^ 32)).setOut 0 ⟨l, n, some 500⟩
theorem Tests.witness_TimeReadingsAndEdges :
    Tests.svc.takes (Tests.acc 1 0) false TIME_NOW_NS.reg 0 0 0 = true ∧ Tests.svc.takes (Tests.acc 1 0) false TIME_CAP_TS.reg 5 0 0 = true ∧
    (∀ n ∈ [0, 7, 8], ∀ e < 4, let s := (State.put { Tests.svc with time.caps := if n = 0 then [] else [(5, List.replicate n ⟨9, true⟩)] } TIME_CAP_CTRL.EN 1 5).put TIME_CAP_CTRL.EDGE e 5
      s.runs 0 = true ∧ (mapGet (fun _ => []) (s.pass 0).time.caps 5).length = n ∧ (s.pass 0).get TIME_CAP_CTRL.EN 5 = 1 ∧ (s.pass 0).get TIME_CAP_CTRL.EDGE 5 = e ∧
      s.takes (Tests.acc 1 0) false TIME_CAP_TS.reg 5 0 0 = true) ∧
    (∀ m < 3, ∀ n ∈ [none, some 1000], (Tests.output 3 m true true n).runs 0 = true ∧ ((Tests.output 3 m true true n).pass 0).outEn 0 = true ∧
      (((Tests.output 3 m true true n).pass 0).outSt 0).next = n ∧ (((Tests.output 3 m true true n).pass 0).outSt 0).fallAt = some 500 ∧
      ((Tests.output 3 m true true n).pass 0).outMode 0 = m) ∧ (Tests.svc.pass 0).outEn 0 = false ∧ ((Tests.svc.pass 0).outSt 0).fallAt = none ∧ Tests.svc.runs 0 = true ∧
    (∀ st < 5, ∀ g, (Tests.output st 2 g true none).outGated 0 = (g && st != 3 && st != 4)) ∧
    (∀ x ∈ [499, 500, 501], (0 ≤ wrapDiff 64 x 500 ∧ wrapDiff 64 x Tests.svc.stNs ≤ 0) = False) ∧
    (let q : State := { Tests.output 3 1 false false (some 1000) with frc := 2000 }; q.stNs = 2000 ∧ 0 ≤ wrapDiff 64 1000 500 ∧ wrapDiff 64 1000 q.stNs ≤ 0 ∧ wrapDiff 64 1000 1001 < 0) ∧
    (∀ en < 2, ∀ pr < 2, ((Tests.svc.put TIME_REF.EN en).put TIME_REF.PRESENT pr).runs 0 = true ∧
      (((Tests.svc.put TIME_REF.EN en).put TIME_REF.PRESENT pr).pass 0).get TIME_REF.EN = en ∧
      ((((Tests.svc.put TIME_REF.EN en).put TIME_REF.PRESENT pr).pass 0).advanceTo 5).get TIME_REF.PRESENT = pr) := by decide +kernel
theorem Tests.witness_Checkpoint :
    (∀ k < 2, let s := ((Tests.svc.put TIME_STAT.STATE 3).put TIME_CFG.CKPT_S k).put TIME_OFFSET.VALUE 999999999
      s.runs 0 = true ∧ (s.pass 0).ckptNext = (k == 1)) := by decide +kernel

/-- A block in SERVICE whose roster is served, with neighbour 1 in state `st`, last number 3, interval `iv`, downlink pending where `pd`. -/
def Tests.roster (st iv : Nat) (pd : Bool) : State :=
  let s := ((Tests.svc.setRole 0x40 ⟨none, .shared, 7, none⟩).setRg (ROLL_CFG.reg.key 0 0) (1 + 0xF0 + 16 * 2 ^ 16)).setRg (ROLL_DEST_CFG.reg.key 0 0) 1
  let s : State := { s with roll.cfg := [(0, (0x05EA0001, 0))] }
  s.nbrWrite (4 * nbrBucket 1) 0 ⟨1, 3, st, 0, pd, 0, 0, iv, 0, 0, 0⟩
/-- The entry of neighbour 1 as it reads. -/
def Tests.nbr (st iv : Nat) (pd : Bool) : Nbr := ⟨1, 3, st, 0, pd, 0, 0, iv, 0, 0, 0⟩
/-- A report from neighbour `id` with number `q` on radio port 0, of `n` bytes after its type field. -/
def Tests.rep (id q n : Nat) : Frame := { Tests.frame with src := 8, l3type := l3Roll, l3off := 14, len := 14 + n, rmeta := id + q * 2 ^ 96 }
/-- The same block with intake frames. -/
def Tests.taking (l : List Frame) : State := { Tests.roster 2 5 false with roll.intake := l }
theorem Tests.witness_RollCall_reports :
    (Tests.taking [Tests.rep 1 4 3]).awake 0 = true ∧ ((Tests.taking [Tests.rep 1 4 3]).pass 0).forwards = true ∧ (Tests.taking []).awake 0 = true ∧
      ((Tests.taking [Tests.rep 1 4 3]).pass 0).roll.intake = [Tests.rep 1 4 3] ∧
    (∀ en < 2, ((Tests.roster 2 5 false).put ROLL_CFG.EN en).get ROLL_CFG.EN = en) ∧ ((Tests.roster 2 5 false).role 0x40).func ≠ .idle ∧
      (Tests.roster 2 5 false).get ROLL_CFG.MAX_PAYLOAD = 16 ∧ (Tests.rep 1 4 17).len - 14 = 17 ∧
    (∀ st ∈ [1, 2, 3, 4, 5], ∀ pd, ((Tests.roster st 5 pd).nbrFind 1).2 = .entry (4 * nbrBucket 1) (Tests.nbr st 5 pd)) ∧
      ((Tests.roster 0 5 false).nbrFind 1).2 = .way (4 * nbrBucket 1) ∧ (((Tests.roster 0 5 false).put ROLL_CFG.BANKS 0).nbrFind 1).2 = .bankOff ∧
    (∀ q ∈ [3, 4, 0x8002, 0x8003, 2], (0 < wrapDiff 16 (getBits (Tests.rep 1 q 3).rmeta 96 16) 3) = (q = 4 ∨ q = 0x8002) ∧
      (wrapDiff 16 (getBits (Tests.rep 1 q 3).rmeta 96 16) 3 < 0) = (q = 0x8003 ∨ q = 2)) ∧
    ((Tests.roster 2 5 false).rollCfg 0).1.testBit 0 = true ∧ ((Tests.roster 2 5 false).rollCfg 1).1.testBit 0 = false ∧
      ((Tests.roster 2 5 false).rollRoom 0 3).2 = false ∧
      (State.rollRoom { Tests.roster 2 5 false with roll.opened := [(0, ⟨0, 2048, 0, 0, 0, false, 0, []⟩)] } 0 3).2 = true := by decide +kernel
/-- A bucket whose four ways are in use by others. -/
def Tests.crowded : State :=
  [0, 1, 2, 3].foldl (fun s k => s.nbrWrite (4 * nbrBucket 1 + k) 0 ⟨100 + k, 0, 2, 0, false, 0, 0, 0, 0, 0, 0⟩) (Tests.roster 0 5 false)
theorem Tests.witness_RollCall_downlinks :
    (Tests.crowded.nbrFind 1).2 = .full ∧
    (∀ fl ∈ [0, 1, 2], ∀ z ∈ [0, 1], (2 ≤ [0x81, fl, 0, 0, 0, 0, 0, 0, 0, 1, z, 0].getD 1 0 ∨ [0x81, fl, 0, 0, 0, 0, 0, 0, 0, 1, z, 0].getD 10 0 ≠ 0 ∨
      [0x81, fl, 0, 0, 0, 0, 0, 0, 0, 1, z, 0].getD 11 0 ≠ 0) = (fl = 2 ∨ z = 1) ∧ beNat (([0x81, fl, 0, 0, 0, 0, 0, 0, 0, 1, z, 0].drop 2).take 8) = 1) ∧
    (∀ m ∈ [0, 4], let t := (Tests.roster 2 5 false).put ROLL_LIM.DL_MAX m
      (t.get ROLL_STAT.DL_HELD = t.get ROLL_LIM.DL_MAX) = (m = 0)) := by decide +kernel
theorem Tests.witness_RollCall_sweep :
    Tests.svc.awake 0 = true ∧ ((Tests.svc.pass 0).roll.swept = true ∨ (Tests.svc.pass 0).mode = 2) ∧
    (State.awake { Tests.svc with roll.swept := false } 0 = true) ∧ (State.awake { Tests.svc with roll.swept := true } 0 = true) ∧
    (∀ st ∈ [0, 1, 2, 3, 4, 5], ∀ iv ∈ [0, 5], (Tests.roster st iv false).nbrUsable (4 * nbrBucket 1) = true ∧
      ((Tests.roster st iv false).nbrRead (4 * nbrBucket 1)).2.st = st ∧ (st ≠ 0 → ((Tests.roster st iv false).nbrRead (4 * nbrBucket 1)).2.interval = iv)) ∧
    (∀ b ∈ [0, 6, 7, 16, 17, 2 ^ 30 - 1, 2 ^ 30], wrapDiff 32 (((Tests.roster 2 5 false).put ROLL_BELL.BELL b).get ROLL_BELL.BELL) 0 = b) ∧
    ((Tests.roster 2 5 false).put ROLL_CFG.BANKS 0).nbrUsable (4 * nbrBucket 1) = false ∧
    (∀ l ∈ [[], [7], [7, 8]], State.takes { Tests.svc with roll.absent := l } (Tests.acc 0 0) false ROLL_ABSENT.reg 0 0 0 = true) ∧
    (∀ v ∈ [0x00F00000, 0x00F10000, 0x000000F0], (Tests.roster 2 5 false).takes (Tests.acc 1 (BitVec.ofNat 64 v)) true ROLL_CFG.reg 0 0 v = true) ∧
    mapGet (fun _ => 0) ((Tests.roster 2 5 false).pass 0).roll.used (nbrBank (4 * nbrBucket 1)) = 1 := by decide +kernel
theorem Tests.witness_RollCall_commands :
    (∀ c ∈ [1, 2, 3, 4], ∀ g ∈ [7, 8], (Tests.roster 2 5 false).serves (Tests.acc 1 (BitVec.ofNat 64 (g * 2 ^ 32))) ROLL_NBR_CMD.reg 0 (setBits (g * 2 ^ 32) 0 3 c) = true ∧
      getBits (setBits (g * 2 ^ 32) 0 3 c) 32 16 = g) ∧ (((Tests.roster 2 5 false).pass 0).role 0x40).gen = 7 ∧
    (Tests.roster 2 5 false).get ROLL_NBR_RES.reg = 0 ∧ (Tests.svc.role 0x40).func = .idle ∧
    Tests.svc.serves (Tests.acc 1 0) ROLL_NBR_CMD.reg 0 (setBits 0 0 3 1) = true := by decide +kernel

def Tests.coreAt (st bells left : Nat) : State :=
  ((Tests.svc.put SC_STAT.STATE st 1).put SC_CTRL.WDOG_BELLS bells 1).put SC_STAT.WDOG_LEFT left 1
/-- Counters 0 and 2 count event 0x42, counter 1 the carries of counter 0; 0 and 1 are about to carry. -/
def Tests.monitor : State :=
  ([0, 1, 2].foldl (fun s k => (s.put PMU_EVSEL.EN 1 k).put PMU_EVSEL.EVENT 0x42 k) (Tests.svc.put PMU_CTRL.EN 1)).put PMU_EVSEL.CHAIN 1 1
    |>.put PMU_CNT.COUNT (2 ^ 32 - 1) 0 |>.put PMU_CNT.COUNT (2 ^ 32 - 1) 1
def Tests.sampler (next full n : Nat) : State :=
  { (((Tests.svc.put PMU_SAMP_CFG.EN 1).put PMU_SAMP_CFG.CORE 2).put PMU_SAMP_STAT.NEXT next).put PMU_SAMP_STAT.FULL full with samples := n }
theorem Tests.witness_CoreStatesAndMonitor :
    (∀ w ∈ [0, 1, 6, 11], ∀ c < 2, Tests.svc.takes (Tests.acc 0 (BitVec.ofNat 64 w)) true SC_CTRL.reg c 0 w = true) ∧
    (∀ k < 4, (Tests.coreAt k 5 1).runs 0 = true ∧ (Tests.coreAt k 5 1).awake 0 = true ∧ ((Tests.coreAt k 5 1).pass 0).get SC_STAT.STATE 1 = k) ∧
    ((Tests.coreAt 1 5 1).pass 0).get SC_CTRL.WDOG_BELLS 1 = 5 ∧ ((Tests.coreAt 1 5 1).pass 0).get SC_STAT.WDOG_LEFT 1 = 1 ∧
    ((Tests.coreAt 1 5 1).pass 0).mode = 2 ∧ ((Tests.coreAt 1 5 1).pass 0).dozing = false ∧
    ((Tests.coreAt 1 5 2).get SC_STAT.WDOG_LEFT 1 = 2) ∧ (Tests.coreAt 1 0 0).get SC_CTRL.WDOG_BELLS 1 = 0 ∧
    ((Tests.coreAt 0 5 1).setCore 1 { (Tests.coreAt 0 5 1).core 1 with fw := true }).mode = 2 ∧
    (((Tests.coreAt 0 5 1).setCore 1 { (Tests.coreAt 0 5 1).core 1 with fw := true }).core 1).fw = true ∧
    (((Tests.coreAt 1 5 1).put SC_CTRL.AUTO_RESTART 1 1).put SC_CTRL.RESTART_MAX 1 1).get SC_CTRL.AUTO_RESTART 1 = 1 ∧
    (((Tests.coreAt 1 5 1).put SC_CTRL.AUTO_RESTART 1 1).put SC_CTRL.RESTART_MAX 1 1).get SC_CTRL.RESTART_MAX 1 = 1 ∧
    ((Tests.coreAt 1 5 1).core 1).restarts = 0 ∧
    (∀ lc < 4, (((Tests.coreAt 1 5 1).put LDG_STAT.LC lc).pass 0).get LDG_STAT.LC = lc ∧ ((Tests.coreAt 1 5 1).put LDG_STAT.LC lc).awake 0 = true) ∧
    (∀ k < 3, Tests.monitor.awake 0 = true ∧ (Tests.monitor.pass 0).get PMU_CTRL.EN = 1 ∧ (Tests.monitor.pass 0).get PMU_EVSEL.EN k = 1 ∧
      (Tests.monitor.pass 0).get PMU_EVSEL.CHAIN k = (if k = 1 then 1 else 0) ∧ (Tests.monitor.pass 0).get PMU_EVSEL.EVENT k = 0x42) ∧
    (Tests.monitor.pass 0).get PMU_EVSEL.EN 3 = 0 ∧ Tests.monitor.get PMU_CNT.COUNT 0 = 2 ^ 32 - 1 ∧ Tests.monitor.get PMU_CNT.COUNT 1 = 2 ^ 32 - 1 ∧
    Tests.monitor.get PMU_CNT.COUNT 2 = 0 ∧
    (∀ i ∈ [0, 255], (Tests.sampler i 0 127).awake 0 = true ∧ ((Tests.sampler i 0 127).pass 0).get PMU_SAMP_CFG.EN = 1 ∧
      bitAt (((Tests.sampler i 0 127).pass 0).get PMU_SAMP_CFG.CORE) 1 = true ∧ bitAt (((Tests.sampler i 0 127).pass 0).get PMU_SAMP_CFG.CORE) 0 = false ∧
      ((Tests.sampler i 0 127).pass 0).get PMU_SAMP_STAT.FULL = 0 ∧ ((Tests.sampler i 0 127).pass 0).get PMU_SAMP_STAT.NEXT = i ∧
      ((Tests.sampler i 0 127).pass 0).samples = 127) := by decide +kernel

def Tests.coreAcc (v : Word) : Access := ⟨0, 0x101, 1, false, v⟩
/-- Core 1 with `n` completions held, a frame of `len` bytes in buffer 0 of pool 0, which has `r` references. -/
def Tests.submitting (n len r : Nat) : State :=
  (({ Tests.pooled 0 r with mem.pools := [(0, ⟨1, 0, 1⟩)] } : State).setCore 1 { CoreSt.init with done := List.replicate n (1, 0) }).setRg ((SC_TX_DESC0.reg.of 1).key 0 0) (len * 2 ^ 32)
def Tests.mailbox (f : UnitFunc) (o : Option (Fin 8)) (st : Nat) : State :=
  ({ Tests.svc with roles := [(0x35, { (Tests.svc.role 0x35) with func := f, owner := o, gen := 7 })] } : State).put MBX_STAT.STATE st 5
theorem Tests.witness_CoreQueuesAndMailboxes :
    (∀ x ∈ [(32, 64, 1), (31, 64, 0), (31, 13, 1), (31, 14, 1), (31, 16320, 1), (31, 960, 1)], ∀ w ∈ [0xA, 0xB, 0x210, 0x1B, 0x20, 0x0],
      (Tests.submitting x.1 x.2.1 x.2.2).takes (Tests.coreAcc (BitVec.ofNat 64 w)) true SC_TX_DESC1.reg 0 0 w = true) ∧
    ((((Tests.submitting 31 64 1).pass 0).core 1).done.length = 31) ∧ (((Tests.submitting 32 64 1).pass 0).core 1).done.length = 32 ∧
    (((Tests.submitting 31 64 1).pass 0).ptrCheck 0).isSome = false ∧ ((((Tests.submitting 31 64 1).pass 0).buf 0).refs = 1) ∧
    (((Tests.submitting 31 64 0).pass 0).ptrCheck 0).isSome = true ∧ bufBytes (((Tests.submitting 31 64 1).pass 0).pool 0).size = 256 ∧
    (((Tests.submitting 31 64 1).pass 0).fetchPayload 0 64).2.isSome = true ∧
    (((((Tests.submitting 31 64 1).pass 0).putRaw 1 0 3 0).putRaw 1 1 3 0).putRaw 1 2 3 0 |>.fetchPayload 0 64).2 = none ∧
    (Tests.submitting 1 64 1).takes (Tests.coreAcc 0) false SC_TX_DONE.reg 0 0 0 = true ∧
    (Tests.submitting 1 64 1).takes (Tests.coreAcc 0) false SC_RX_POP.reg 0 0 0 = true ∧
    (∀ f ∈ [UnitFunc.firmware, UnitFunc.owned], ∀ st < 3, (Tests.mailbox f (some 2) st).takes (Tests.acc 1 0x700000005) true MBX_DB.reg 0 0 0x700000005 = true ∧
      ((Tests.mailbox f (some 2) st).pass 0).role 0x35 = { (Tests.svc.role 0x35) with func := f, owner := some 2, gen := 7 } ∧
      ((Tests.mailbox f (some 2) st).pass 0).get MBX_STAT.STATE 5 = st ∧
      (Tests.mailbox f (some 2) st).takes (Tests.coreAcc 5) true MBX_DONE.reg 0 0 5 = true) ∧
    (((Tests.mailbox .firmware (some 2) 0).pass 0).staffWords 640 2).2 = [0, 0] ∧
    (Tests.mailbox .firmware (some 2) 1).runs 0 = true ∧ ((Tests.mailbox .firmware (some 2) 1).pass 0).mode = 2 ∧
    ((Tests.mailbox .firmware (some 2) 1).pass 0).dozing = false ∧
    (((Tests.mailbox .firmware (some 2) 1).put GLB_BELL_NUM.BELL 7999).pass 0).get SC_SVC_CFG.MBX_TMO_BELLS ≤ (7999 + 1 + 2 ^ 32 - 0) % 2 ^ 32 ∧
    ¬ ((Tests.mailbox .firmware (some 2) 1).pass 0).get SC_SVC_CFG.MBX_TMO_BELLS ≤ (7998 + 1 + 2 ^ 32 - 0) % 2 ^ 32 := by decide +kernel

/-- Unit 2 enabled in mode `mode` with tag source `src`, `n` results in its FIFO and one due. -/
def Tests.crc (en mode src n : Nat) : State :=
  (((({ Tests.svc with crc.due := [(1, ⟨5, 6, 7⟩), (2, ⟨8, 9, 10⟩)] } : State).setCrcFifo 2 (List.replicate n ⟨1, 2, 3⟩)).put CRC_CFG.EN en 2).put CRC_CFG.MODE mode 2).put CRC_CFG.TAG_SRC src 2
def Tests.crcNew (which v : Nat) : Nat :=
  ((Tests.crc 0 0 0 0).pass 0).merged (crcCfgReg which) (accMask (Tests.acc 1 (BitVec.ofNat 64 v)) (crcCfgReg which) 2 0) v 2
theorem Tests.witness_CheckUnits :
    (∀ m < 2, (Tests.crc 1 m 0 0).get CRC_CFG.MODE 2 = m) ∧ (∀ x < 3, (Tests.crc 1 0 x 0).get CRC_CFG.TAG_SRC 2 = x) ∧
    (∀ w ∈ [0, 1, 2, 3], (Tests.crc 1 0 0 0).takes (Tests.acc 0 (BitVec.ofNat 64 w)) true CRC_CMD.reg 2 0 w = true) ∧
    (∀ e < 2, ∀ k < 2, (Tests.crc e 0 0 0).takes (Tests.acc (BitVec.ofNat 2 k) 0x1122334455667788) true CRC_DATA.reg 2 0 0x1122334455667788 = true ∧
      (Tests.crc e 0 0 0).takes (Tests.acc 0 0x88) true CRC_DATA1.reg 2 0 0x88 = true ∧ ((Tests.crc e 0 0 0).pass 0).get CRC_CFG.EN 2 = e ∧
      ((Tests.crc e 0 0 0).pass 0).get CRC_CFG.TAP 2 = 0) ∧
    accMask (Tests.acc 0 0) CRC_DATA.reg 2 0 = 2 ^ 32 - 1 ∧ accMask (Tests.acc 1 0) CRC_DATA.reg 2 0 = 2 ^ 64 - 1 ∧
    (∀ e < 2, ∀ x ∈ [(0, 0x2000), (0, 0x2001), (1, 3), (2, 1), (3, 0x100000000)],
      (Tests.crc e 0 0 0).takes (Tests.acc 1 (BitVec.ofNat 64 x.2)) true (crcCfgReg x.1) 2 0 x.2 = true) ∧
    crcCfgOk (Tests.crcNew 0 0x2001) 0x1EDC6F41 0 0 = true ∧ crcCfgOk 0x2000 (Tests.crcNew 1 3) 0 0 = true ∧ crcCfgOk 0x2000 3 (Tests.crcNew 2 1) 0 = true ∧
    crcCfgOk 0x2000 3 0 (Tests.crcNew 3 0x100000000) = false ∧ crcCfgOk 0x4000 (2 ^ 64 - 1) 0 0 = true ∧ crcCfgOk 0x4100 3 0 0 = false ∧
    crcCfgOk 0 3 0 0 = false ∧ (Tests.crc 1 0 0 0).rg (CRC_CFG.reg.key 2 0) = 0x2001 ∧ (Tests.crc 0 0 0 0).rg (CRC_CFG.reg.key 2 0) = 0x2000 ∧
    (∀ n ∈ [15, 16], (Tests.crc 1 1 0 n).awake 0 = true ∧ ((Tests.crc 1 1 0 n).pass 0).crc.due.find? (fun d => d.1 == 2) = some (2, ⟨8, 9, 10⟩) ∧
      (((Tests.crc 1 1 0 n).pass 0).crcFifo 2).length = n) ∧
    ((Tests.crc 1 1 0 0).pass 0).crc.due.find? (fun d => d.1 == 3) = none ∧
    (∀ n < 2, (Tests.crc 1 1 0 n).takes (Tests.acc 1 0) false CRC_FIFO_VAL.reg 2 0 0 = true ∧ (((Tests.crc 1 1 0 n).pass 0).crcFifo 2) = List.replicate n ⟨1, 2, 3⟩) := by
  decide +kernel

/-- A flash command under way, or none; slot 1 loaded in mode `m`. -/
def Tests.flash (m : Nat) (j : Option NvmJob) : State :=
  { ((Tests.svc.put GLB_MODE.MODE m).put LDR_STAT.LOADED 1).put LDR_STAT.SLOT 1 with nvm := j }
def Tests.polling (ph : NvmPhase) : NvmJob := ⟨2, ph, [], 0, 0, 0, 1, 48, 100⟩
def Tests.ledgerAt (used n : Nat) : State :=
  { Tests.svc with ledger.fwUsed := used, ledger.queue := List.replicate n ⟨.fw 0 0, none⟩ }
theorem Tests.witness_FlashCommandsAndLedgerRegisters :
    (∀ x ∈ [(1, 5), (2, 0x1000002), (2, 0x1000102), (2, 0x1000006), (3, 0x103), (3, 0x83), (3, 7)],
      (Tests.flash 2 none).serves (Tests.acc 1 (BitVec.ofNat 64 x.2)) NVM_CMD.reg 0 (setBits x.2 0 2 x.1) = true) ∧
    ((Tests.flash 2 none).pass 0).nvm = none ∧ ((Tests.flash 2 (some (Tests.polling .poll))).pass 0).nvm = some (Tests.polling .poll) ∧
    (∀ m ∈ [0, 2, 5], ((Tests.flash m none).pass 0).mode = m) ∧
    (Tests.flash 0 none).serves (Tests.acc 1 1) NVM_CMD.reg 0 1 = true ∧ (Tests.flash 5 none).serves (Tests.acc 1 1) NVM_CMD.reg 0 1 = true ∧
    ((Tests.flash 2 none).pass 0).get LDR_STAT.LOADED = 1 ∧ ((Tests.flash 2 none).pass 0).get LDR_STAT.SLOT = 1 ∧
    (Tests.flash 2 none).awake 0 = true ∧ (Tests.flash 2 (some (Tests.polling .poll))).awake 0 = true ∧
    ((Tests.flash 2 (some (Tests.polling .send))).pass 0).nvm = some (Tests.polling .send) ∧ (Tests.flash 2 (some (Tests.polling .send))).awake 0 = true ∧
    (∀ x ∈ [(15, 15), (15, 16), (16, 0)], (Tests.ledgerAt x.1 x.2).takes (Tests.acc 1 77) true LDG_FW_DATA.reg 0 0 77 = true ∧
      ((Tests.ledgerAt x.1 x.2).pass 0).ledger.fwUsed = x.1 ∧ ((Tests.ledgerAt x.1 x.2).pass 0).ledger.queue.length = x.2) ∧
    Tests.svc.takes (Tests.acc 1 0) false LDG_RD_DATA.reg 0 0 0 = true ∧
    innerDecode 0 0 = (0, .good) ∧ (innerDecode 1 0).2 = .corrected ∧ (innerDecode 3 0).2 = .bad ∧
    (Tests.svc.pass 0).ldgRaw 0 = (0, 0) ∧
    (State.pass { Tests.svc with ledger.cells := [(0, 1)] } 0).ldgRaw 0 = (1, 0) ∧ (State.pass { Tests.svc with ledger.cells := [(0, 3)] } 0).ldgRaw 0 = (3, 0) := by
  decide +kernel

/-- The proposal slot in state `st`, number 6, of kind 3 for unit 0x35, proposed by 0x100, in mode `m`. -/
def Tests.slot (m st : Nat) : State :=
  (Tests.svc.put GLB_MODE.MODE m).setRg (PROT_PROP_STAT.reg.key 0 0) (st + 3 * 2 ^ 2 + 0x35 * 2 ^ 6 + 0x100 * 2 ^ 16 + 6 * 2 ^ 32)
/-- The staging of the administrative host: kind `k`, target `t`, first value `v`. -/
def Tests.staging (s : State) (k t v : Nat) : State :=
  (s.setRg ((PROT_STG_CTRL.reg.of 0x010).key 0 0) (k + t * 2 ^ 16)).setRg ((PROT_STG_VAL.reg.of 0x010).key 0 0) v
theorem Tests.witness_HallPassAndTamper :
    (∀ st < 3, ∀ x ∈ [(1, 0), (2, 0), (2, 6), (3, 0), (3, 6)],
      (Tests.slot 2 st).serves (Tests.acc 1 (BitVec.ofNat 64 (x.1 + x.2 * 2 ^ 32))) PROT_CMD.reg 0 (setBits (x.1 + x.2 * 2 ^ 32) 0 2 x.1) = true ∧
      ((Tests.slot 2 st).pass 0).get PROT_PROP_STAT.STATE = st) ∧
    (Tests.slot 5 0).serves (Tests.acc 1 1) PROT_CMD.reg 0 (setBits 1 0 2 1) = true ∧ ((Tests.slot 5 0).pass 0).mode = 5 ∧ ((Tests.slot 2 0).pass 0).mode = 2 ∧
    ((Tests.slot 2 1).pass 0).get PROT_PROP_STAT.PROP_NUM = 6 ∧ getBits (setBits (2 + 6 * 2 ^ 32) 0 2 2) 32 32 = 6 ∧
    ((Tests.slot 2 1).pass 0).get PROT_PROP_STAT.PROPOSER = 0x100 ∧
    (((Tests.slot 2 1).put PROT_PROP_STAT.PROPOSER 0x10).pass 0).get PROT_PROP_STAT.PROPOSER = 0x10 ∧
    (((Tests.slot 2 1).put PROT_PROP_DIGEST.DIGEST 5 3).pass 0).get PROT_PROP_DIGEST.DIGEST 3 = 5 ∧
    ((Tests.slot 2 1).staged PROT_CMD.reg.base 0x10).getD 7 0 = 0 ∧
    (∀ x ∈ [(3, 0x35, 0x34, false), (3, 0x35, 0x44, true), (3, 0x35, 0x38, true), (2, 15, 0x3F, false), (2, 16, 0, true), (5, 0, 1, false), (5, 0, 3, true),
        (6, 0, 2 ^ 32, false), (6, 0, 2 ^ 33, true), (4, 1, 0, false), (4, 2, 0, true), (7, 0, 0, true)],
      let st := (Tests.staging (Tests.slot 2 0) x.1 x.2.1 x.2.2.1).staged PROT_CMD.reg.base 0x10
      ((Tests.slot 2 0).put LDG_STAT.LC 0).propBad (st.getD 0 0 % 2 ^ 4) (getBits (st.getD 0 0) 16 10) ((st.drop 1).take 6) = x.2.2.2) ∧
    Tests.svc.runs 0 = true ∧
    (let s := (((Tests.slot 2 1).put GLB_TERM_BELL.INDEX 0xFFFF).put PROT_PROP_INFO.EXPIRE_TERM 1)
     s.runs 0 = true ∧ (s.pass 0).endsTerm (s.pass 0).nextEdge = true ∧ (s.pass 0).get PROT_PROP_STAT.STATE = 1 ∧
     (s.pass 0).get PROT_PROP_INFO.EXPIRE_TERM = ((s.pass 0).get GLB_TERM_NUM.TERM + 1) % 2 ^ 32) ∧
    (let s := (Tests.slot 2 2).put GLB_RAIL_STAT.LEDGER_AVAIL 1
     s.runs 0 = true ∧ (s.pass 0).changesApply = true ∧ (s.pass 0).get PROT_PROP_STAT.STATE = 2 ∧ (s.pass 0).get GLB_RAIL_STAT.LEDGER_AVAIL = 1 ∧
     (s.pass 0).ledger.queue.length = 0) ∧
    (Tests.slot 2 2).get PROT_PROP_STAT.KIND = 3 ∧ ((Tests.slot 2 2).role 0x35).gen.toNat = 0 ∧
    getBits (((Tests.slot 2 2).put PROT_PROP_VAL.VAL 0x10034 0).get PROT_PROP_VAL.VAL 0) 16 16 = 1 ∧
    (∀ k ∈ [1, 2], ((Tests.slot 2 2).put PROT_PROP_STAT.KIND k).get PROT_PROP_STAT.KIND = k) ∧
    (∀ e < 2, let s := Tests.svc.put TAMPER_CFG.EN e
      s.chip.aonOn = true ∧ (5 : BitVec 8).toNat.land ((s.pass 0).get TAMPER_CFG.EN) = e ∧ (s.pass 0).chip.mainReset = false) ∧
    (State.pass { Tests.svc with chip.mainReset := true } 0).chip.mainReset = true ∧
    (∀ m < 3, let j := (List.range 8).find? (fun j => bitAt m j && bitAt ((Tests.svc.put PWR_WAKE_EN.EN 8).get PWR_WAKE_EN.EN) (2 + j))
      j = if m = 2 then some 1 else none) ∧
    (let s := State.wipeStart Tests.svc 3 0xFFFF
     s.runs 0 = true ∧ (s.pass 0).get PROT_SEC_STAT.WIPING = 1 ∧ (s.pass 0).get PROT_SEC_STAT.CAUSE = 3) ∧
    (Tests.wiping.runs 0 = true ∧ (Tests.wiping.pass 0).get PROT_SEC_STAT.CAUSE ≠ 3 ∧ (Tests.wiping.pass 0).get PROT_SEC_STAT.PENDING ≠ 0) := by
  decide +kernel

def Tests.power (m st pend : Nat) : State :=
  ((Tests.svc.put GLB_MODE.MODE m).put PWR_STAT.STATE st).put PWR_STAT.PEND pend
def Tests.aonClock (on : Bool) : State := { Tests.svc with chip.clkUp := if on then 0x1FFF#13 else 0xFFF#13 }
def Tests.entering (e0 e1 : Bool) (w : Option Nat) : State := { Tests.power 4 1 1 with pwr.e0 := e0, pwr.e1 := e1, pwr.deepWait := w }
def Tests.deepSleep : State := { Tests.svc with chip.reqMain := false, chip.mainReset := true }
/-- Asleep in DOZE, port 0 UP and in the filtering set, pattern 0 of one byte enabled where `pat`, the frame `f` in its FIFO. -/
def Tests.heard (pat en ports : Nat) : State :=
  State.setRxFifo ((((((((Tests.power 4 2 0).put PORT_MAC_STAT.LINK linkUp 0).put PWR_CFG.WAKE_PORTS ports).put WAKE_PAT_CFG.EN pat 0).put WAKE_PAT_CFG.PORTS 1 0).put
    WAKE_PAT_MASK0.MASK 1 0).put WAKE_PAT_CFG.CRC (crc32c [0]) 0).put PWR_CFG.KEEP_FRAME en) 0
    [⟨List.replicate 60 0, false, 0, none, 0⟩]
def Tests.magicFrame : RxFrame := ⟨magicBytes 0 ++ [7], false, 0, none, 0⟩
theorem Tests.witness_PowerControl :
    (∀ act < 6, ∀ x ∈ [(2, 0, 1), (4, 2, 1)] ++ [(2, 0), (5, 0), (4, 1), (4, 2), (4, 3), (4, 4)].map (fun y => (y.1, y.2, 0)),
      (Tests.power x.1 x.2.1 x.2.2).takes (Tests.acc 0 (BitVec.ofNat 64 act)) true PWR_CMD.reg 0 0 act = true ∧
      ((Tests.power x.1 x.2.1 x.2.2).pass 0).get PWR_STAT.STATE = x.2.1 ∧ ((Tests.power x.1 x.2.1 x.2.2).pass 0).mode = x.1 ∧
      ((Tests.power x.1 x.2.1 x.2.2).pass 0).get PWR_STAT.PEND = x.2.2) ∧
    ((Tests.aonClock true).pass 0).clkOn 12 = true ∧ ((Tests.aonClock false).pass 0).clkOn 12 = false ∧
    (Tests.aonClock true).takes (Tests.acc 0 3) true PWR_CMD.reg 0 0 3 = true ∧ (Tests.aonClock false).takes (Tests.acc 0 3) true PWR_CMD.reg 0 0 3 = true ∧
    ((Tests.svc.put PWR_WATCH.KEEP_EN 1).put PWR_WATCH.WATCH_PORTS 0).get PWR_WATCH.KEEP_EN = 1 ∧
    Tests.deepSleep.chip.reqMain = false ∧ Tests.svc.chip.reqMain = true ∧ Tests.svc.chip.mainReset = false ∧
    (Tests.entering true true none).runs 0 = true ∧ ((Tests.entering true true none).pass 0).pwr.e1 = true ∧ ((Tests.entering true true none).pass 0).pwr.deepWait = none ∧
    (∀ k ∈ [1, 2], ((Tests.entering true true none).put PWR_STAT.TARGET k).get PWR_STAT.TARGET = k) ∧
    (Tests.entering true true (some 9)).runs 0 = true ∧ ((Tests.entering true true (some 9)).pass 0).pwr.deepWait = some 9 ∧
    ((Tests.entering true true (some 9)).pass 0).get PWR_STAT.STATE = 1 ∧ ((Tests.entering true true (some 9)).pass 0).ledger.queue = [] ∧
    ((Tests.entering true true (some 9)).pass 0).chip.start.held = [] ∧
    (let s : State := { Tests.svc with pwr.keepLeft := some 1 }
     s.runs 0 = true ∧ (s.pass 0).pwr.keepLeft = some 1 ∧ (s.pass 0).get PWR_STAT.STATE = 0 ∧ (s.pass 0).mode = 2) ∧
    (Tests.heard 0 0 1).runs 0 = true ∧ ((Tests.heard 0 0 1).pass 0).mode = 4 ∧ ((Tests.heard 0 0 1).pass 0).get PWR_STAT.STATE = 2 ∧
    ((Tests.heard 0 0 1).pass 0).pwr.released = 0 ∧
    (((Tests.heard 0 0 1).put PORT_MAC_CTRL.EN 1 0).pass 0 |>.rxFifoOf 0).length <
      ((((Tests.heard 0 0 1).put PORT_MAC_CTRL.EN 1 0).pass 0).rxFrame 0 0 0 (Tests.zeros 60) |>.rxFifoOf 0).length ∧
    (List.range 16).filter ((Tests.heard 1 0 1).patternHit 0 (List.replicate 60 0)) = [0] ∧
    (List.range 16).filter ((Tests.heard 0 0 1).patternHit 0 (List.replicate 60 0)) = [] ∧
    (Tests.heard 0 0 1).filters 0 = true ∧ (Tests.heard 0 0 0).filters 0 = false ∧ ((Tests.heard 0 0 1).put PWR_CFG.MAGIC_EN 1).get PWR_CFG.MAGIC_EN = 1 ∧
    holdsAt (magicBytes 0) Tests.magicFrame.bytes = true ∧ (Tests.heard 0 1 1).get PWR_CFG.KEEP_FRAME = 1 ∧
    (((((Tests.heard 0 0 1).put PWR_STAT.STATE 3).put PWR_WATCH.KEEP_EN 1).put PWR_WATCH.KEEP_PTP 1).put PWR_WATCH.KEEP_PORT 0).keeper 0
      (List.replicate 12 0 ++ [0x88, 0xF7]) = true ∧
    (∀ e < 2, let s := ((Tests.aonClock true).put PWR_AON_ALARM.EN e).put PWR_AON_ALARM.ALARM 1
      s.alive = true ∧ (s.pass 0).get PWR_AON_ALARM.EN = e ∧ (s.pass 0).clkOn 12 = true ∧ (s.pass 0).get PWR_AON_CNT.COUNT ≤ (s.pass 0).get PWR_AON_ALARM.ALARM) := by
  decide +kernel

/-- Panel input 1 in state `st`, with its raw level, debounced level and the changes counted in window 0. -/
def Tests.panelAt (st : Nat) (raw level : Bool) (n : Nat) : State :=
  State.setPanelIn (((Tests.aonClock true).put (panelStateF 1) st).put (panelLevelF 1) (b2n level)) 1
    { (Tests.svc.panelIn 1) with raw := raw, changes := n, window := 0 }
theorem Tests.witness_PanelInputs :
    (∀ n ∈ [49, 50], (Tests.panelAt 0 true true n).alive = true ∧ (((Tests.panelAt 0 true true n).pass 0).panelIn 1).changes = n ∧
      (((Tests.panelAt 0 true true n).pass 0).panelIn 1).raw = true ∧ (((Tests.panelAt 0 true true n).pass 0).panelIn 1).window = 0 ∧
      ((Tests.panelAt 0 true true n).pass 0).get PANEL_CFG.CHATTER_CNT 1 = 50 ∧ ((Tests.panelAt 0 true true n).pass 0).get PWR_AON_CNT.COUNT = 0) ∧
    ((Tests.panelAt 0 true true 0).pass 0).clkOn 12 = true ∧ (Tests.aonClock false).alive = true ∧ ((Tests.aonClock false).pass 0).clkOn 12 = false ∧
    (((Tests.aonClock false).pass 0).panelIn 1).raw = true ∧
    (((Tests.panelAt 0 false true 0).pass 0).panelIn 1).raw ≠ ((Tests.panelAt 0 false true 0).pass 0).panelLevel 1 ∧
    (((Tests.panelAt 0 true true 0).pass 0).panelIn 1).raw = ((Tests.panelAt 0 true true 0).pass 0).panelLevel 1 ∧
    (∀ st < 4, (Tests.panelAt st true false 0).panelState 1 = st) ∧
    (((Tests.panelAt 1 false false 0).pass 0).panelIn 1).longDone = false ∧
    ((Tests.panelAt 1 false false 0).pass 0).get PANEL_CFG.LONG_S 1 ≠ 0 ∧ ((Tests.panelAt 1 false false 0).pass 0).get PANEL_CFG.STUCK_S 1 ≠ 0 ∧
    ((Tests.panelAt 1 false false 0).pass 0).get PANEL_CFG.LONG_S 1 ≤ ((Tests.panelAt 1 false false 0).pass 0).get PANEL_CFG.STUCK_S 1 ∧
    ((Tests.panelAt 1 false false 0).pass 0).panelState 1 = 1 ∧ ((((Tests.panelAt 1 false false 0).put PANEL_CFG.LONG_S 0 1).pass 0).get PANEL_CFG.LONG_S 1) = 0 ∧
    (((Tests.panelAt 3 false false 0).pass 0).panelState 1 = 3) ∧ (((Tests.panelAt 3 false false 0).pass 0).panelIn 1).chatLevel = true ∧
    ((((Tests.panelAt 3 false false 0).pass 0).advanceAon ((((Tests.panelAt 3 false false 0).pass 0).panelIn 1).since +
      ((Tests.panelAt 3 false false 0).pass 0).get PANEL_CFG.QUAR_S 1 * 32768)).panelLevel 1) = false ∧
    ((((Tests.panelAt 3 true true 0).pass 0).advanceAon ((((Tests.panelAt 3 true true 0).pass 0).panelIn 1).since +
      ((Tests.panelAt 3 true true 0).pass 0).get PANEL_CFG.QUAR_S 1 * 32768)).panelLevel 1) = true ∧
    Tests.svc.chip.mainReset = false := by decide +kernel

def Tests.mfg : State := { Tests.svc with chip.mfgTest := true, pending := [.bellEdge, .tamper 0 3, .porst 0 ⟨1000, true⟩] }

theorem Tests.mfg_step (s : State) (rest : List Instr) (h : s.chip.mfgTest = true) (hp : s.pending = .bellEdge :: rest) :
    step s = .next { s with pending := rest, intOut := s.lines } := by
  have e : step s = exec .bellEdge { s with pending := rest } := by
    unfold step
    rw [hp]
  have ha : State.alive { s with pending := rest } = false := by simp [State.alive, h]
  rw [e]
  unfold exec Sys2Proof.Machine.execBellEdge State.main
  exact State.always_dead _ _ _ ha

theorem Tests.witness_ManufacturingTestEndsByReset : Tests.mfg.chip.mfgTest = true ∧ Tests.mfg.pending = [.bellEdge, .tamper 0 3, .porst 0 ⟨1000, true⟩] ∧
    step Tests.mfg = .next { Tests.mfg with pending := [.tamper 0 3, .porst 0 ⟨1000, true⟩], intOut := Tests.mfg.lines } ∧
    (siteOf .bellEdge).dom ≠ .chip :=
  ⟨rfl, rfl, Tests.mfg_step _ _ rfl rfl, by decide⟩


/-! A command that no pin, lane or field can give is refused, for each check of Instr.wf. -/
theorem Tests.test_wf_clockLoss_nvmSck : Instr.wf (.clockLoss 0 11 0) = false ∧ Instr.wf (.clockLoss 0 12 0) = true := by decide
theorem Tests.test_wf_clockReturn_nvmSck : Instr.wf (.clockReturn 0 11) = false ∧ Instr.wf (.clockReturn 0 10) = true := by decide
theorem Tests.test_wf_mainResetEnd_window : Instr.wf (.mainResetEnd ⟨0, 104⟩) = false ∧ Instr.wf (.mainResetEnd ⟨0, 551⟩) = false ∧
    Instr.wf (.mainResetEnd ⟨0, 105⟩) = true ∧ Instr.wf (.mainResetEnd ⟨0, 550⟩) = true := by decide
theorem Tests.test_wf_scrubStep_length : Instr.wf (.scrubStep ⟨0, [⟨0, 0, 0, 0⟩]⟩) = false ∧ Instr.wf (.scrubStep ⟨0, [⟨0, 0, 1, 0⟩]⟩) = true := by decide
theorem Tests.test_wf_preservingMarchStep_length : Instr.wf (.preservingMarchStep ⟨0, [⟨1, 0, 0, 0⟩]⟩ []) = false ∧
    Instr.wf (.preservingMarchStep ⟨0, [⟨1, 0, 8, 0⟩]⟩ []) = true := by decide
theorem Tests.test_wf_flashStep_length :
    Instr.wf (.flashStep 0 (List.replicate 100 0)) = false ∧ Instr.wf (.flashStep 0 (List.replicate 99 0)) = true := by
  decide +kernel
theorem Tests.test_wf_rxFrame_pairs : Instr.wf (.rxFrame 0 0 0 7 [true] []) = false ∧ Instr.wf (.rxFrame 0 0 0 7 [true] [0xFB]) = true := by decide
theorem Tests.test_wf_localFault_pairs : Instr.wf (.localFault 0 0 [1] []) = false ∧ Instr.wf (.localFault 0 0 [1] [0x9C]) = true := by decide
theorem Tests.test_wf_rxFrame_lane : Instr.wf (.rxFrame 0 2 0 8 [] []) = false ∧ Instr.wf (.rxFrame 0 1 0 15 [] []) = true := by decide
theorem Tests.test_wf_sleepRxFrame_lane : Instr.wf (.sleepRxFrame 0 7 0 9 []) = false ∧ Instr.wf (.sleepRxFrame 0 7 0 7 []) = true := by
  decide
theorem Tests.test_wf_sleepRxFrame_length (b : List Byte) (h : b.length = 65536) : Instr.wf (.sleepRxFrame 0 0 0 0 b) = false := by
  simp [Instr.wf, h]
theorem Tests.test_wf_rxFragment_lane : Instr.wf (.rxFragment 0 3 0 8 0x61 0xE6 []) = false ∧ Instr.wf (.rxFragment 0 3 0 7 0x61 0xE6 []) = true := by
  decide
theorem Tests.test_wf_rxFragment_length (b : List Byte) (h : b.length = 65536) : Instr.wf (.rxFragment 0 0 0 0 0x61 0xE6 b) = false := by
  simp [Instr.wf, h]
theorem Tests.test_wf_radioRxFrame_length (b : List Byte) (h : b.length = 65536) : Instr.wf (.radioRxFrame 0 0 0 0 ⟨true, true, false⟩ b) = false := by
  simp [Instr.wf, h]
theorem Tests.test_wf_rxVerify_length (b : List Byte) (h : b.length = 65536) : Instr.wf (.rxVerify 0 0 b) = false := by
  simp [Instr.wf, h]
theorem Tests.test_wf_rxRespond_length (b : List Byte) (h : b.length = 65536) : Instr.wf (.rxRespond 0 0 b) = false := by
  simp [Instr.wf, h]
theorem Tests.test_wf_procAccess_length : Instr.wf (.procAccess 0 0 true 0 0 0) = false ∧ Instr.wf (.procAccess 0 0 true 0 1 0) = true := by decide
theorem Tests.test_wf_staffAccess_none : Instr.wf (.staffAccess 0 0 0x010 none .block) = false := by decide
theorem Tests.test_wf_staffAccess_core : Instr.wf (.staffAccess 0 0 0x010 (some ⟨true, 0, 0, 0⟩) .idle) = false ∧
    Instr.wf (.staffAccess 0 0 0x010 (some ⟨true, 0, 1, 0⟩) .idle) = true := by decide
theorem Tests.test_wf_staffAccess_host : Instr.wf (.staffAccess 0 0 0x010 none (.port ⟨false, 0, 0, 0⟩)) = false ∧
    Instr.wf (.staffAccess 0 0 0x010 none (.port ⟨false, 0, 8, 0⟩)) = true := by decide
theorem Tests.test_wf_intSrcCfgWrite_target : Instr.wf (.intSrcCfgWrite (Tests.acc 0 0) true 16) = false ∧
    Instr.wf (.intSrcCfgWrite (Tests.acc 0 0) true 15) = true ∧ Instr.wf (.intSrcCfgWrite (Tests.acc 0 0) false 255) = true := by decide
theorem Tests.test_wf_latchSet_source : Instr.wf (.latchSet 0 0x19 true) = false ∧ Instr.wf (.latchSet 0 0x18 true) = true := by decide
theorem Tests.test_wf_latchTransfer_source : Instr.wf (.latchTransfer 0 0x19) = false ∧ Instr.wf (.latchTransfer 0 0x18) = true := by decide

/-! Reset, decoder, register map. -/

/-- The memories of the reset state are in their canonical form. -/
theorem Tests.test_reset_memories_wf : State.reset.memoriesWf = true := by decide
/-- No row of the opcode table gives bits. -/
theorem Tests.test_no_word_is_a_command (s : State) : decodeTableWord 32 5 = none ∧ s.withFetchWord 32 5 = s := ⟨rfl, rfl⟩
/-- The addresses of the example under R537: TX_FRAMES of L3, the TXQ doorbell of P3, the claim register of target 15. -/
theorem Tests.test_register_addresses : PORT_CNT.COUNT.key 5 15 = 0x95878 ∧ PART_TXQ_DB.reg.key 3 0 = 0x30048 ∧
    INT_TGT_CLAIM.reg.key 15 0 = 0xCCF08 := by decide
/-- GLB_BELL_CFG resets to 0x0003_1F40_0001_E848 (example in 20_register_reference.md). -/
theorem Tests.test_bellCfg_reset : State.reset.rg (GLB_BELL_CFG.reg.key 0 0) = 0x00031F400001E848 := by decide +kernel

/-! One step each. `run` is the state after one command. -/

/-- The state after command `c`. -/
def Tests.run (c : Instr) (s : State) : State :=
  match step { s with pending := [c] } with
  | .next t => t
  | _ => s

/-- GLB_ID reads 0x0002_0100, and a 64-bit read has zeros above (R1, R2). -/
theorem Tests.test_glbId_reads : (Tests.run (.registerRead (Tests.acc 1 0) 0x80000) Tests.svc).rsp = ⟨.okay, 0x00020100⟩ := by decide +kernel
/-- A write to GLB_ID has no effect (R2). -/
theorem Tests.test_glbId_write : (Tests.run (.registerWrite (Tests.acc 1 0xFFFF) 0x80000) Tests.svc).regs = Tests.svc.regs := by decide +kernel
/-- A 32-bit read at 0x8_0204 returns the upper half of GLB_BELL_CFG, 0x0003_1F40 (example in 20_register_reference.md). -/
theorem Tests.test_bellCfg_upper_half : (Tests.run (.registerRead (Tests.acc 0 0) 0x80204) Tests.svc).rsp.data = 0x00031F4000000000 := by
  decide +kernel
/-- An access that is not aligned is answered DECODE (R68). -/
theorem Tests.test_unaligned_decode : (Tests.run (.registerRead (Tests.acc 1 0) 0x80204) Tests.svc).rsp.code = .decode := by decide +kernel

/-- Unit 2 of the example under R446: TAP SW, MODE CONT, WIDTH 8, POLY 0x07, FOLD as given, TAG_BYTES 1, tag 5. -/
def Tests.crc8 (fold value : Nat) : State :=
  Tests.at_ [(CRC_CFG.reg.key 2 0, 1 + fold * 4 + 8 * 2 ^ 8 + 1 * 2 ^ 34), (CRC_POLY.reg.key 2 0, 7), (CRC_INIT.reg.key 2 0, 0), (CRC_XOROUT.reg.key 2 0, 0),
    (CRC_TAG.reg.key 2 0, 5),
    (CRC_VALUE.reg.key 2 0, value)]
/-- With FOLD PRE, RESTART feeds the tag byte: 0x1B. -/
theorem Tests.test_crcRestart_pre : (Tests.run (.crcRestart (Tests.acc 0 1) 2) (Tests.crc8 1 0xFF)).get CRC_VALUE.VALUE 2 = 0x1B := by
  decide +kernel
/-- With FOLD INIT, RESTART loads 0x05. -/
theorem Tests.test_crcRestart_init : (Tests.run (.crcRestart (Tests.acc 0 1) 2) (Tests.crc8 2 0xFF)).get CRC_VALUE.VALUE 2 = 0x05 := by
  decide +kernel
/-- The byte 0x01 takes 0x1B to 0x46. -/
theorem Tests.test_crcuData1_first : (Tests.run (.crcuData1 (Tests.acc 0 1) 2) (Tests.crc8 1 0x1B)).get CRC_VALUE.VALUE 2 = 0x46 := by
  decide +kernel
/-- The byte 0x02 takes 0x46 to 0xDB. -/
theorem Tests.test_crcuData1_second : (Tests.run (.crcuData1 (Tests.acc 0 2) 2) (Tests.crc8 1 0x46)).get CRC_VALUE.VALUE 2 = 0xDB := by
  decide +kernel
/-- The check values over "123456789" of the table under R439. -/
theorem Tests.test_crc32_check : crc32 [0x31, 0x32, 0x33, 0x34, 0x35, 0x36, 0x37, 0x38, 0x39] = 0xCBF43926 ∧
    crc32c [0x31, 0x32, 0x33, 0x34, 0x35, 0x36, 0x37, 0x38, 0x39] = 0xE3069283 := by decide +kernel

/-- The code of the example under R211: lane 0 of a stripe with its q0 and q1, and q0 and q1 after the byte write 0xA5 to C3. -/
theorem Tests.test_column_code : (outerQ0 [0x11, 0x22, 0x33, 0x44, 0x55, 0x66, 0x77, 0x88], outerQ1 0 [0x11, 0x22, 0x33, 0x44, 0x55, 0x66, 0x77, 0x88]) = (0x88, 0x0D) ∧
    (outerQ0 [0x11, 0x22, 0x33, 0xA5, 0x55, 0x66, 0x77, 0x88], outerQ1 0 [0x11, 0x22, 0x33, 0xA5, 0x55, 0x66, 0x77, 0x88]) = (0x69, 0x56) := by
  decide +kernel

/-- The state of the example under R365 before its rate change, FRC 2,500,000,000. -/
def Tests.timed : State :=
  { Tests.at_ [(TIME_RATE.reg.key 0 0, 2814749767), (TIME_OFFSET.reg.key 0 0, 1750000100000000000), (TIME_ANCHOR.reg.key 0 0, 2000000000)] with
    frc := 2500000000 }
/-- ST under the old parameters (first row of the example under R365). -/
theorem Tests.test_st_before_rate_change : Tests.timed.st80 = 1750000100500004999 * 2 ^ 16 + 0xFFFF := by decide +kernel
/-- The new rate -1,407,374,884 re-anchors O and A, and ST at FRC 2,800,000,000 is that of the last row. -/
theorem Tests.test_rateChange : (fun t : State => (t.get TIME_OFFSET.VALUE, t.get TIME_OFFSET_FRAC.FRAC, t.get TIME_ANCHOR.VALUE, t.st80At 2800000000))
      (Tests.run (.rateChange (Tests.acc 1 (BitVec.ofInt 64 (2 ^ 40 - 1407374884)))) Tests.timed) =
    (1750000100500004999, 0xFFFF, 2500000000, 1750000100800003499 * 2 ^ 16 + 0xFFFE) := by decide +kernel

/-- Mailbox 5, unit 0x035, of P2 with function FIRMWARE at generation 0x01A7 (example under R24). -/
def Tests.mbx5 (pend : Option (Option (Fin 8) × UnitFunc)) : State :=
  { Tests.svc with roles := [(0x35, ⟨some 2, .firmware, 0x01A7, pend⟩)] }
/-- The role command with owner and function unchanged is accepted and waits for the edge. -/
theorem Tests.test_roleCmd_waits : ((Tests.run (.roleCmd ⟨0, 0x002, 1, false, 0x000001A700320035⟩) (Tests.mbx5 none)).role 0x35) =
    ⟨some 2, .firmware, 0x01A7, some (some 2, .firmware)⟩ := by decide +kernel
/-- At the edge the generation becomes 0x01A8. -/
theorem Tests.test_bellEdge_applies_role : ((Tests.run .bellEdge (Tests.mbx5 (some (some 2, .firmware)))).role 0x35).gen = 0x01A8 := by
  decide +kernel
/-- A doorbell with another generation is dropped and counted. -/
theorem Tests.test_mbxDb_stale : (fun t : State => (t.get GLB_STALE_CNT.COUNT, (t.get MBX_STAT.STATE 5)))
    (Tests.run (.mbxDb ⟨0, 0x002, 1, false, 0x000001A600000005⟩) (Tests.mbx5 none)) = (1, 0) := by decide +kernel

/-- Source 0x59, of priority 6, is claimed over 0x49, of priority 2 (example in 12_interrupts.md). -/
def Tests.claims : State :=
  ((Tests.svc.setRg (INT_SRC_CFG.reg.key 0x49 0) (1 + 2 * 2 + 8 * 2 ^ 8 + 50 * 2 ^ 16 + 0xC * 2 ^ 32)).setRg (INT_SRC_STAT.reg.key 0x49 0) (5 + 3 * 16 + 6 * 2 ^ 8 + 3 * 2 ^ 16)
    |>.setRg (INT_SRC_CFG.reg.key 0x59 0) (1 + 6 * 2 + 8 * 2 ^ 32)
    |>.setRg (INT_SRC_STAT.reg.key 0x59 0) (7 + 3 * 16 + 3 * 2 ^ 16)).put INT_TGT_CTRL.EN 1 3
theorem Tests.test_intTgttClaim : (fun t : State => (t.rsp.data, t.intOut))
    (Tests.run (.intTgttClaim (Tests.acc 0 0) 3) Tests.claims) = (0x59, 0) := by decide +kernel
theorem Tests.test_intTgt_line_before : Tests.claims.lines = 8 := by decide +kernel

/-- The bell of the reset values rings at FRC 125,000 (R81, R88). -/
theorem Tests.test_bellEdge_period : (fun t : State => (t.frc, t.get GLB_BELL_NUM.BELL)) (Tests.run .bellEdge Tests.svc) = (125000, 1) := by
  decide +kernel

/-- The two records of the example under R404. -/
theorem Tests.test_roll_records :
    rollRecord 0x70B3D5FFFE123401 0x0102 0x10 0x18 0x9F 0x0640 [0x01, 0x09, 0x2C, 0x00, 0x41, 0x7E] =
      [0x70, 0xB3, 0xD5, 0xFF, 0xFE, 0x12, 0x34, 0x01, 0x01, 0x02, 0x10, 0x18, 0x9F, 0x06, 0x06, 0x40, 0x01, 0x09, 0x2C, 0x00, 0x41, 0x7E] := by
  decide +kernel
/-- RX_OFF of reports received 51,200 ns after and 6,400 ns before the edge (the same example). -/
theorem Tests.test_roll_rxOff : (fun s : State => (s.rxOff 1051200, s.rxOff 993600)) { Tests.svc with roll.edgeSt := 1000000 } = (0x0640, 0xFF38) := by
  decide +kernel

/-- Partition P3 of the example under R328: TXQ of 256 slots at 0x12_3400_0000, head and tail at 0x0FA, TX generation 0x2C41. -/
def Tests.p3 : State :=
  ((((Tests.svc.put PART_STAT.STATE 1 3).put PART_CTRL.EN 1 3).setRg (PART_TXQ_BASE.reg.key 3 0) (0x1234000000 + 8 * 2 ^ 48)).put PART_TXQ_DB.TAIL 0x0FA 3
    |>.put PART_TXQ_HEAD.HEAD 0x0FA 3).setRole 0x86 ⟨some 3, .owned, 0x2C41, none⟩
/-- The eight beats of its push burst, beat 0 lowest. -/
def Tests.beats : BitVec 512 :=
  BitVec.ofNat 512 (leNat ([0x00000003000000FD, 0, 0x03E805172C410107, 0x00000000000541C2, 0x0000001234800000, 0x80, 0x0000001234801000, 0x368].flatMap (fun b => leBytes b 8)))
/-- The push moves the tail to 0x0FD and its copy holds slots 250 to 252. -/
theorem Tests.test_txPush : (fun t : State => (t.get PART_TXQ_DB.TAIL 3, (t.part 3).txPush))
    (Tests.run (.txPush 0 0x003 3 0 Tests.beats) Tests.p3) =
      (0x0FD, [(250, [leNat [0x07, 0x01, 0x41, 0x2C, 0x17, 0x05, 0xE8, 0x03, 0xC2, 0x41, 0x05, 0, 0, 0, 0, 0],
        leNat [0x00, 0x00, 0x80, 0x34, 0x12, 0, 0, 0, 0x80, 0, 0, 0, 0, 0, 0, 0],
        leNat [0x00, 0x10, 0x80, 0x34, 0x12, 0, 0, 0, 0x68, 0x03, 0, 0, 0, 0, 0, 0]])]) := by decide +kernel
/-- The same with the burst's copy in place. -/
def Tests.p3job : State :=
  (Tests.p3.put PART_TXQ_DB.TAIL 0x0FD 3).onPart 3 (fun q => { q with txPush :=
    [(250, [leNat [0x07, 0x01, 0x41, 0x2C, 0x17, 0x05, 0xE8, 0x03, 0xC2, 0x41, 0x05, 0, 0, 0, 0, 0],
        leNat [0x00, 0x00, 0x80, 0x34, 0x12, 0, 0, 0, 0x80, 0, 0, 0, 0, 0, 0, 0],
        leNat [0x00, 0x10, 0x80, 0x34, 0x12, 0, 0, 0, 0x68, 0x03, 0, 0, 0, 0, 0, 0]])] })
/-- The job is taken with its two segments, and the head moves to 0x0FD (it is held: no pool is built here). -/
theorem Tests.test_txJob : (fun t : State => (t.get PART_TXQ_HEAD.HEAD 3, (t.part 3).held.map (fun j => j.segs)))
    (Tests.run (.txJob 0 3 false) Tests.p3job) = (0x0FD, some [(0x1234800000, 128), (0x1234801000, 872)]) := by decide +kernel

end
end

section
/-! SUPPORT. The bits of a register word after a write by field types (R9, R68). -/

namespace Sys2Proof.Proofs

open Sys2Proof Sys2Proof.Machine

theorem mix_eq (old new m : Nat) : mix old new m = (old - (old &&& m)) + (new &&& m) := rfl

/-- The low bit of a mixed word, and the word above it: no borrow and no carry crosses. -/
theorem mix_bit_step (a c m : Nat) :
    mix a c m % 2 = (if m % 2 = 1 then c % 2 else a % 2) ∧ mix a c m / 2 = mix (a / 2) (c / 2) (m / 2) := by
  have half (x : Nat) : (x &&& m) / 2 = x / 2 &&& m / 2 := Nat.and_div_two
  have low (x : Nat) : (x &&& m) % 2 = if m % 2 = 1 then x % 2 else 0 := by
    have h : (x &&& m) % 2 = x % 2 &&& m % 2 := by simpa using Nat.and_mod_two_pow (n := 1)
    rcases Nat.mod_two_eq_zero_or_one m with hm | hm <;>
      rcases Nat.mod_two_eq_zero_or_one x with hx | hx <;> simp [h, hm, hx]
  have below : a / 2 &&& m / 2 ≤ a / 2 := Nat.and_le_left
  have halfA := half a
  have halfC := half c
  have lowA := low a
  have lowC := low c
  rw [mix_eq, mix_eq]
  by_cases hm : m % 2 = 1
  · rw [if_pos hm] at lowA lowC ⊢
    omega
  · rw [if_neg hm] at lowA lowC ⊢
    omega

/-- A mixed word takes the bits of the mask from the new word and the others from the old one. -/
theorem testBit_mix (a c m i : Nat) : (mix a c m).testBit i = if m.testBit i then c.testBit i else a.testBit i := by
  induction i generalizing a c m with
  | zero =>
    simp only [Nat.testBit_zero, (mix_bit_step a c m).1, decide_eq_true_eq]
    split <;> rfl
  | succ i ih => simp only [Nat.testBit_succ, (mix_bit_step a c m).2, ih]

/-- Taking a word's own bits of a mask away clears them and no other. -/
theorem testBit_sub_land (a m i : Nat) : (a - a.land m).testBit i = (a.testBit i && !m.testBit i) := by
  have h : a - a.land m = mix a 0 m := by simp [mix_eq]
  rw [h, testBit_mix]
  cases m.testBit i <;> simp

/-- Settles O16: bit by bit, through the mixed word and the cleared bits. -/
theorem registerFieldsTakeWritesByType : Obligations.RegisterFieldsTakeWritesByType := by
  intro s k m v rw w1c i hdisj hi
  refine ⟨?_, fun k' hk' => ?_⟩
  · have apart : (rw.testBit i && w1c.testBit i) = false := by
      rw [← Nat.testBit_and, hdisj, Nat.zero_testBit]
    have land (a b : Nat) : (a.land b).testBit i = (a.testBit i && b.testBit i) := Nat.testBit_and a b i
    simp only [State.clearBits, State.rg_setRg_same, Nat.testBit_mod_two_pow, testBit_sub_land, testBit_mix, land, hi]
    revert apart
    cases m.testBit i <;> cases rw.testBit i <;> cases w1c.testBit i <;> simp
  · rw [State.clearBits, State.rg_setRg_other _ _ _ _ hk', State.rg_setRg_other _ _ _ _ hk']

end Sys2Proof.Proofs
end


section
/-! SUPPORT. What a plain register access does: by whether a register stands at its address and has an effect of its own (R9,
R12, R13). -/

namespace Sys2Proof.Proofs

open Sys2Proof Sys2Proof.Machine

variable (s : State) (i addr size v : Nat)

theorem writeAt_no_register (h : findReg (slotOf addr) = none) : s.writeAt i addr size v = s := by
  simp [State.writeAt, h]

theorem writeAt_stored (r : RegRow) (h : findReg (slotOf addr) = some r) (hm : reachMask r.wide addr size ≠ 0)
    (hk : writeHooks.find? (fun e => e.1 == r.base) = none) :
    s.writeAt i addr size v = s.storeWord r (copyKey r (copyOf r i) (slotOf addr)) (reachMask r.wide addr size) v := by
  simp only [State.writeAt, h, hk, if_neg hm]

theorem writeAt_effect (r : RegRow) (e : Nat × WrEff) (h : findReg (slotOf addr) = some r) (hm : reachMask r.wide addr size ≠ 0)
    (hk : writeHooks.find? (fun e => e.1 == r.base) = some e) :
    s.writeAt i addr size v =
      e.2 (copyOf r i) (r.idx1 (slotOf addr)) (r.idx2 (slotOf addr)) (reachMask r.wide addr size) v s := by
  simp only [State.writeAt, h, hk, if_neg hm]

theorem readAt_no_register (h : findReg (slotOf addr) = none) : s.readAt i addr size = (s, 0) := by
  simp [State.readAt, h]

theorem readAt_stored (r : RegRow) (h : findReg (slotOf addr) = some r) (hm : reachMask r.wide addr size ≠ 0)
    (hk : readHooks.find? (fun e => e.1 == r.base) = none) :
    s.readAt i addr size = ((s.regRead r (copyKey r (copyOf r i) (slotOf addr))).1,
      (s.regRead r (copyKey r (copyOf r i) (slotOf addr))).2.land (reachMask r.wide addr size)) := by
  simp only [State.readAt, h, hk, if_neg hm]

theorem readAt_effect (r : RegRow) (e : Nat × RdEff) (h : findReg (slotOf addr) = some r) (hm : reachMask r.wide addr size ≠ 0)
    (hk : readHooks.find? (fun e => e.1 == r.base) = some e) :
    s.readAt i addr size = ((e.2 (copyOf r i) (r.idx1 (slotOf addr)) (r.idx2 (slotOf addr)) s).1,
      (e.2 (copyOf r i) (r.idx1 (slotOf addr)) (r.idx2 (slotOf addr)) s).2.land (reachMask r.wide addr size)) := by
  simp only [State.readAt, h, hk, if_neg hm]

theorem exec_registerWrite_plain (a : Access) (adr : BitVec 20) (h : s.plainAccess a true adr.toNat (wdata a) = true) :
    exec (.registerWrite a adr) s = .next (s.finish
      (((s.pass a.dt).writeAt a.init.val adr.toNat a.size.toNat (wdata a)).setRsp .okay 0)) :=
  State.access_plain s a true adr.toNat (wdata a) (burstOf (wdata a)) h

theorem exec_registerRead_plain (a : Access) (adr : BitVec 20) (h : s.plainAccess a false adr.toNat 0 = true) :
    exec (.registerRead a adr) s = .next (s.finish
      (((s.pass a.dt).readAt a.init.val adr.toNat a.size.toNat).1.setRsp .okay
        ((s.pass a.dt).readAt a.init.val adr.toNat a.size.toNat).2)) :=
  State.access_plain s a false adr.toNat 0 0 h

end Sys2Proof.Proofs

namespace Sys2Proof.Proofs

open Sys2Proof Sys2Proof.Machine

/-- Settles O17: a plain access is `writeAt` or `readAt`, and those act by the register at the address. -/
theorem registerAccesses : Obligations.RegisterAccesses := by
  refine fun a addr s => ⟨fun hw => ?_, fun hr => ?_⟩
  · rw [exec_registerWrite_plain s a addr hw]
    refine ⟨fun h => ?_, fun r h hm => ⟨fun hk => ?_, fun e hk => ?_⟩⟩
    · rw [writeAt_no_register _ _ _ _ _ h]
    · rw [writeAt_stored _ _ _ _ _ r h hm hk]
    · rw [writeAt_effect _ _ _ _ _ r e h hm hk]
  · rw [exec_registerRead_plain s a addr hr]
    refine ⟨fun h => ?_, fun r h hm => ⟨fun hk => ?_, fun e hk => ?_⟩⟩
    · rw [readAt_no_register _ _ _ _ h]
    · rw [readAt_stored _ _ _ _ r h hm hk]
      rfl
    · rw [readAt_effect _ _ _ _ r e h hm hk]

end Sys2Proof.Proofs
end


section
/-! SUPPORT. Fields read after the update of another register, and of another field. -/

namespace Sys2Proof.Proofs

open Sys2Proof Sys2Proof.Machine

theorem get_setRg_other (s : State) (f : Fld) (k v i j : Nat) (h : f.key i j ≠ k) : (s.setRg k v).get f i j = s.get f i j := by
  rw [State.get, State.get, State.rg_setRg_other _ _ _ _ h]

theorem on_setRg_other (s : State) (f : Fld) (k v i j : Nat) (h : f.key i j ≠ k) : (s.setRg k v).on f i j = s.on f i j := by
  rw [State.on, State.on, get_setRg_other s f k v i j h]

theorem on_put_other (s : State) (f g : Fld) (v i j i' j' : Nat)
    (h : g.key i' j' ≠ f.key i j) : (s.put f v i j).on g i' j' = s.on g i' j' := by
  rw [State.on, State.on, State.get_put_key _ _ _ _ _ _ _ _ h]

theorem on_put_bits (s : State) (f g : Fld) (v i j i' j' : Nat) (hk : g.key i' j' = f.key i j) (hf : f.lo + f.w ≤ 64)
    (h : f.lo + f.w ≤ g.lo ∨ g.lo + g.w ≤ f.lo) : (s.put f v i j).on g i' j' = s.on g i' j' := by
  rw [State.on, State.on, State.get_put_bits _ _ _ _ _ _ _ _ hk hf h]

/-! The bell's configuration (R13, R83, R88). -/

/-- Are PERIOD and TERM_BELLS of the word in their ranges (R88)? -/
def BellCfgValid (new : Nat) : Prop := 8000 ≤ getBits new 0 21 ∧ getBits new 0 21 ≤ 1048576 ∧ getBits new 32 16 ≠ 0

/-- Do PERIOD or TERM_BELLS change between two words? -/
def BellCfgChanges (old new : Nat) : Prop := getBits old 0 21 ≠ getBits new 0 21 ∨ getBits old 32 16 ≠ getBits new 32 16

/-- Is the bell source ARMED or ALIGNED? -/
def BellBound (s : State) : Prop := s.on GLB_BELL_STAT.ARMED = true ∨ s.on GLB_BELL_STAT.SRC = true

theorem bellCfg_valid_iff (new : Nat) :
    (!within GLB_BELL_CFG.PERIOD 8000 1048576 new || !nonzero GLB_BELL_CFG.TERM_BELLS new) = false ↔ BellCfgValid new := by
  simp only [within, nonzero, Bool.or_eq_false_iff, Bool.not_eq_false', Bool.and_eq_true, decide_eq_true_eq, bne_iff_ne, and_assoc]
  rfl

theorem bellCfg_changes_iff (old new : Nat) :
    (getBits old 0 21 != getBits new 0 21 || getBits old 32 16 != getBits new 32 16) = true ↔ BellCfgChanges old new := by
  simp [BellCfgChanges]

theorem exec_glbBellCfgWrite (s : State) (a : Access) (h : s.takes a true GLB_BELL_CFG.reg 0 0 (wdata a) = true) :
    exec (.glbBellCfgWrite a) s = .next (s.finish
      (((s.pass a.dt).bellCfgWrite ((s.pass a.dt).merged GLB_BELL_CFG.reg (accMask a GLB_BELL_CFG.reg 0 0) (wdata a))).setRsp .okay 0)) :=
  State.writeReg_takes s a _ 0 0 _ _ h

variable (p : State) (new : Nat)

theorem bellCfgWrite_invalid (h : ¬ BellCfgValid new) : p.bellCfgWrite new = p := by
  rw [← bellCfg_valid_iff, Bool.not_eq_false] at h
  simp only [State.bellCfgWrite, h, if_true]

theorem bellCfgWrite_refused (hv : BellCfgValid new) (hc : BellCfgChanges (p.rg (GLB_BELL_CFG.reg.key 0 0)) new) (hb : BellBound p) :
    p.bellCfgWrite new = p.put GLB_BELL_STAT.CFG_REFUSED 1 := by
  rw [← bellCfg_valid_iff] at hv
  rw [← bellCfg_changes_iff] at hc
  have hb' : (p.on GLB_BELL_STAT.ARMED || p.on GLB_BELL_STAT.SRC) = true := by simpa [BellBound] using hb
  simp only [State.bellCfgWrite, hv, hc, hb', Bool.and_self, if_true, Bool.false_eq_true, if_false]

theorem bellStat_on_stored (f : Fld) (hf : f = GLB_BELL_STAT.ARMED ∨ f = GLB_BELL_STAT.SRC) :
    (p.setRg (GLB_BELL_CFG.reg.key 0 0) new).on f = p.on f := by
  rcases hf with rfl | rfl <;> exact on_setRg_other _ _ _ _ _ _ (by decide)

theorem bellStat_on_pending (q : State) (f : Fld) (hf : f = GLB_BELL_STAT.ARMED ∨ f = GLB_BELL_STAT.SRC) :
    (q.put GLB_BELL_STAT.CFG_PEND 1).on f = q.on f := by
  rcases hf with rfl | rfl <;> exact on_put_bits _ _ _ _ _ _ _ _ rfl (by decide) (by decide)

/-- In FREE the register takes the word, and CFG_PEND tells of a change. -/
theorem bellCfgWrite_pending (hv : BellCfgValid new) (hc : BellCfgChanges (p.rg (GLB_BELL_CFG.reg.key 0 0)) new) (hb : ¬ BellBound p) :
    p.bellCfgWrite new = (p.setRg (GLB_BELL_CFG.reg.key 0 0) new).put GLB_BELL_STAT.CFG_PEND 1 := by
  rw [← bellCfg_valid_iff] at hv
  rw [← bellCfg_changes_iff] at hc
  obtain ⟨harm, hsrc⟩ : p.on GLB_BELL_STAT.ARMED = false ∧ p.on GLB_BELL_STAT.SRC = false := by simpa [BellBound] using hb
  simp [State.bellCfgWrite, hv, hc, bellStat_on_pending, bellStat_on_stored, harm, hsrc]

/-- With PERIOD and TERM_BELLS unchanged, clearing ALIGN ends ARMED at once, and ALIGNED at the next edge. -/
theorem bellCfgWrite_unchanged (hv : BellCfgValid new) (hc : ¬ BellCfgChanges (p.rg (GLB_BELL_CFG.reg.key 0 0)) new) :
    p.bellCfgWrite new =
      let q := p.setRg (GLB_BELL_CFG.reg.key 0 0) new
      if bitAt (p.rg (GLB_BELL_CFG.reg.key 0 0)) 48 && !bitAt new 48 then
        if p.on GLB_BELL_STAT.ARMED then q.disarm
        else if p.on GLB_BELL_STAT.SRC then { q with bell.unalign := true } else q
      else q := by
  rw [← bellCfg_valid_iff] at hv
  rw [← bellCfg_changes_iff, Bool.not_eq_true] at hc
  simp [State.bellCfgWrite, hv, hc, bellStat_on_stored]

end Sys2Proof.Proofs

namespace Sys2Proof.Proofs

open Sys2Proof Sys2Proof.Machine

/-- Settles O25: the write is `bellCfgWrite`, case by case. -/
theorem bellConfiguration : Obligations.BellConfiguration := by
  refine ⟨fun a s h => ?_, fun s t hr hf => ?_⟩
  · rw [exec_glbBellCfgWrite s a h]
    refine ⟨fun hv => ?_, fun hv hc hb => ?_, fun hv hc hb => ?_, fun hv hc hal => ?_, fun hv hc hold hnew => ⟨fun harm => ?_, fun harm hsrc => ?_⟩⟩
    · rw [bellCfgWrite_invalid _ _ hv]
    · rw [bellCfgWrite_refused _ _ hv hc hb]
    · rw [bellCfgWrite_pending _ _ hv hc hb]
    · rw [bellCfgWrite_unchanged _ _ hv hc]
      rcases hal with hal | hal | hal
      · simp [hal]
      · simp [hal]
      · obtain ⟨harm, hsrc⟩ := not_or.mp hal
        simp [harm, hsrc]
    · rw [bellCfgWrite_unchanged _ _ hv hc]
      simp [hold, hnew, harm]
    · rw [bellCfgWrite_unchanged _ _ hv hc]
      simp [hold, hnew, harm, hsrc]
  · rw [show exec .bellOutFall s = s.main 0 State.bellOutFall from rfl, State.main_runs _ _ _ hr, State.bellOutFall, hf]

end Sys2Proof.Proofs
end


section
/-! SUPPORT. The filtered module signals of the uplinks, and a write of PORTn_MAC_CTRL (R123, R124). -/

namespace Sys2Proof.Proofs

open Sys2Proof Sys2Proof.Machine

variable (p : State) (n : Nat)

/-! The hidden state of a port is no register's. -/

@[simp] theorem port_setRg (k v m : Nat) : (p.setRg k v).port m = p.port m := rfl

@[simp] theorem port_put (f : Fld) (v i j m : Nat) : (p.put f v i j).port m = p.port m := rfl

/-! Module signals. -/

theorem losChange_acts (level : Bool) (held : Nat) (hn : n < 2) (hf : p.filtered held = true)
    (hl : p.on PORT_MOD_CTRL.LOS n ≠ level) :
    p.losChange n level held = ((p.put PORT_MOD_CTRL.LOS (b2n level) n).pevt PORT_EVT.LOS_CHG n).linkEval n :=
  if_pos ⟨hn, hf, hl⟩

theorem losChange_idle (level : Bool) (held : Nat) (h : p.filtered held = false ∨ p.on PORT_MOD_CTRL.LOS n = level) :
    p.losChange n level held = p := by
  refine if_neg fun ⟨_, hf, hl⟩ => ?_
  rcases h with h | h
  · simp [hf] at h
  · exact hl h

theorem txfltChange_acts (level : Bool) (held : Nat) (hn : n < 2) (hf : p.filtered held = true)
    (hl : p.on PORT_MOD_CTRL.TXFLT n ≠ level) :
    p.txfltChange n level held =
      if level then ((p.put PORT_MOD_CTRL.TXFLT (b2n level) n).modDrive n).pevt PORT_EVT.TXFLT n
      else (p.put PORT_MOD_CTRL.TXFLT (b2n level) n).modDrive n :=
  if_pos ⟨hn, hf, hl⟩

theorem txfltChange_idle (level : Bool) (held : Nat) (h : p.filtered held = false ∨ p.on PORT_MOD_CTRL.TXFLT n = level) :
    p.txfltChange n level held = p := by
  refine if_neg fun ⟨_, hf, hl⟩ => ?_
  rcases h with h | h
  · simp [hf] at h
  · exact hl h

/-- On an uplink MOD_TXDIS follows TXDIS OR (AUTO_TXDIS AND (ABS OR TXFLT)). -/
theorem modDrive_uplink (hn : n < 2) : p.modDrive n = p.put PORT_MOD_CTRL.TXDIS_OUT (b2n (p.on PORT_MOD_CTRL.TXDIS n ||
    (p.on PORT_MOD_CTRL.AUTO_TXDIS n && (p.on PORT_MOD_CTRL.ABS n || p.on PORT_MOD_CTRL.TXFLT n)))) n :=
  if_pos hn

/-- Outside DOZE and WATCH a filtered MOD_LOS acts alone. -/
theorem exec_losChg (dt held : Nat) (m : Fin 2) (level : Bool) (hr : p.runs dt = true) (hd : (p.pass dt).dozing = false) :
    exec (.losChg ⟨dt, held⟩ m level) p = .next (p.finish ((p.pass dt).losChange m.val level held)) := by
  rw [show exec (.losChg ⟨dt, held⟩ m level) p = p.main dt (fun s => s.linkWatch (fun s => s.losChange m.val level held)) from rfl,
    State.main_runs _ _ _ hr, State.linkWatch_awake _ _ hd]

theorem exec_txflt (dt held : Nat) (m : Fin 2) (hr : p.runs dt = true) :
    exec (.txflt ⟨dt, held⟩ m) p = .next (p.finish ((p.pass dt).txfltChange m.val true held)) :=
  State.main_runs _ _ _ hr

theorem exec_modTxfltFall (dt held : Nat) (m : Fin 2) (hr : p.runs dt = true) :
    exec (.modTxfltFall ⟨dt, held⟩ m) p = .next (p.finish ((p.pass dt).txfltChange m.val false held)) :=
  State.main_runs _ _ _ hr

/-! PORTn_MAC_CTRL. -/

/-- Does the write of `new` over `old` change SPEED or LOOP with EN at 1 before or after it, or set LOOP on a unit whose function is
not DIAG (R123)? -/
def MacCtrlRefused (old new : Nat) : Prop :=
  ((getBits old 4 3 ≠ getBits new 4 3 ∨ bitAt old 9 ≠ bitAt new 9) ∧ (bitAt old 0 = true ∨ bitAt new 0 = true)) ∨
    (bitAt new 9 = true ∧ bitAt old 9 = false ∧ (p.role n).func ≠ .diag)

theorem macCtrl_refused_iff (old new : Nat) :
    (((getBits old 4 3 != getBits new 4 3 || bitAt old 9 != bitAt new 9) && (bitAt old 0 || bitAt new 0)) ||
      (bitAt new 9 && (p.role n).func != .diag && (!bitAt old 9))) = true ↔ MacCtrlRefused p n old new := by
  simp only [MacCtrlRefused, Bool.or_eq_true, Bool.and_eq_true, bne_iff_ne, Bool.not_eq_true']
  exact or_congr Iff.rfl ⟨fun ⟨⟨hset, hfunc⟩, hclear⟩ => ⟨hset, hclear, hfunc⟩, fun ⟨hset, hclear, hfunc⟩ => ⟨⟨hset, hfunc⟩, hclear⟩⟩

/-- The register with the new word, and with the receiver at its own Idle where LOOP sets. -/
def macCtrlStored (new : Nat) : State :=
  if bitAt new 9 = true ∧ bitAt (p.rg (PORT_MAC_CTRL.reg.key n 0)) 9 = false then
    (p.setRg (PORT_MAC_CTRL.reg.key n 0) new).loopIdle n
  else p.setRg (PORT_MAC_CTRL.reg.key n 0) new

theorem loopIdle_tx : ((p.loopIdle n).port n).tx = (p.port n).tx := by
  simp [State.loopIdle]

/-- The store leaves the frame in transmission. -/
theorem macCtrlStored_tx (new : Nat) : ((macCtrlStored p n new).port n).tx = (p.port n).tx := by
  unfold macCtrlStored
  split <;> simp [loopIdle_tx]

theorem macCtrlWrite_speed (new : Nat) (h : speedOk n (getBits new 4 3) = false) : p.macCtrlWrite n new = p := by
  simp [State.macCtrlWrite, h]

theorem macCtrlWrite_refused (new : Nat) (hs : speedOk n (getBits new 4 3) = true)
    (h : MacCtrlRefused p n (p.rg (PORT_MAC_CTRL.reg.key n 0)) new) :
    p.macCtrlWrite n new = p.put PORT_MAC_STAT.CFG_REFUSED 1 n := by
  rw [← macCtrl_refused_iff] at h
  simp only [State.macCtrlWrite, hs, h, Bool.not_true, Bool.false_eq_true, if_false, if_true]

/-- A write that is not refused stores, and a cleared EN waits for the frame in transmission. -/
theorem macCtrlWrite_stored (new : Nat) (hs : speedOk n (getBits new 4 3) = true)
    (h : ¬ MacCtrlRefused p n (p.rg (PORT_MAC_CTRL.reg.key n 0)) new) :
    p.macCtrlWrite n new = State.linkEval
      (if bitAt (p.rg (PORT_MAC_CTRL.reg.key n 0)) 0 && !bitAt new 0 && (p.port n).tx.isSome then
        (macCtrlStored p n new).onPort n (fun x => { x with disabling := true })
      else if bitAt new 0 then (macCtrlStored p n new).onPort n (fun x => { x with disabling := false })
      else macCtrlStored p n new) n := by
  rw [← macCtrl_refused_iff, Bool.not_eq_true] at h
  have hq : (if bitAt new 9 && !bitAt (p.rg (PORT_MAC_CTRL.reg.key n 0)) 9 then (p.setRg (PORT_MAC_CTRL.reg.key n 0) new).loopIdle n
      else p.setRg (PORT_MAC_CTRL.reg.key n 0) new) = macCtrlStored p n new := by simp [macCtrlStored]
  rw [← macCtrlStored_tx p n new]
  simp only [State.macCtrlWrite, hs, h, Bool.not_true, Bool.false_eq_true, if_false, hq]

theorem exec_portnMacCtrlWrite (a : Access) (m : Fin 8) (h : p.takes a true PORT_MAC_CTRL.reg m.val 0 (wdata a) = true) :
    exec (.portnMacCtrlWrite a m) p = .next (p.finish (((p.pass a.dt).macCtrlWrite m.val
      ((p.pass a.dt).merged PORT_MAC_CTRL.reg (accMask a PORT_MAC_CTRL.reg m.val 0) (wdata a) m.val)).setRsp .okay 0)) :=
  State.writeReg_takes p a _ _ _ _ _ h

end Sys2Proof.Proofs

namespace Sys2Proof.Proofs

open Sys2Proof Sys2Proof.Machine

/-- Settles O31: the filtered levels, then the write of PORTn_MAC_CTRL by its refusals. -/
theorem moduleSignalsAndMacControl : Obligations.ModuleSignalsAndMacControl := by
  refine ⟨fun dt held n level s hr hd => ⟨fun h => ?_, fun hf hl => ?_⟩,
    fun dt held n s hr => ⟨fun hf hl => ?_, fun hf hl => ?_, fun h => ?_, fun h => ?_⟩,
    fun a n s h => ?_⟩
  · rw [exec_losChg s dt held n level hr hd, losChange_idle _ _ _ _ h]
  · rw [exec_losChg s dt held n level hr hd, losChange_acts _ _ _ _ n.isLt hf hl]
  · rw [exec_txflt s dt held n hr, txfltChange_acts _ _ _ _ n.isLt hf (by simp [hl]), modDrive_uplink _ _ n.isLt]
    rfl
  · rw [exec_modTxfltFall s dt held n hr, txfltChange_acts _ _ _ _ n.isLt hf (by simp [hl]), modDrive_uplink _ _ n.isLt]
    rfl
  · rw [exec_modTxfltFall s dt held n hr, txfltChange_idle _ _ _ _ h]
  · rw [exec_txflt s dt held n hr, txfltChange_idle _ _ _ _ h]
  · rw [exec_portnMacCtrlWrite s a n h]
    refine ⟨fun hs => ?_, fun hs hf => ?_, fun hs hf => ⟨fun hen => ?_, fun hold hen htx => ?_, fun hen hwait => ?_⟩⟩
    · rw [macCtrlWrite_speed _ _ _ hs]
    · rw [macCtrlWrite_refused _ _ _ hs hf]
    · simp [macCtrlWrite_stored _ _ _ hs hf, hen, macCtrlStored]
    · simp [macCtrlWrite_stored _ _ _ hs hf, hold, hen, htx, macCtrlStored]
    · rcases hwait with hold | htx
      · simp [macCtrlWrite_stored _ _ _ hs hf, hold, hen, macCtrlStored]
      · simp [macCtrlWrite_stored _ _ _ hs hf, htx, hen, macCtrlStored]

end Sys2Proof.Proofs
end


section
/-! SUPPORT. The block's own flow control: XOFF states, generated frames, and PORTn_FC_CTRL (R130 to R133). -/

namespace Sys2Proof.Proofs

open Sys2Proof Sys2Proof.Machine

variable (p : State) (n : Nat)

/-- Updates of a port that agree on its present state agree. -/
theorem onPort_congr (f g : PortSt → PortSt) (h : f (p.port n) = g (p.port n)) : p.onPort n f = p.onPort n g := by
  rw [State.onPort, State.onPort, h]

/-! XOFF (R131, R132). -/

/-- Does priority `i` stand in XOFF after its conditions are looked at, where `old` are the states before (R131)? -/
def xoffStays (old i : Nat) : Bool := if bitAt old i then !p.xonWanted n i else p.xoffWanted n i

/-- The XOFF states of the priorities `l` as a mask, where `old` are those before. -/
def xoffMask (old : Nat) (l : List Nat) : Nat := l.foldl (fun m i => m + if xoffStays p n old i then 2 ^ i else 0) 0

/-- XOFF acts with TX_EN set, a mode of flow control, and the link UP. -/
def XoffActs : Prop := p.on PORT_FC_CTRL.TX_EN n = true ∧ (p.port n).fcMode ≠ 0 ∧ p.isUp n = true

theorem xoffMask_eq (old : Nat) (l : List Nat) :
    l.foldl (fun m i => if bitAt old i then (if p.xonWanted n i then m else m + 2 ^ i)
      else (if p.xoffWanted n i then m + 2 ^ i else m)) 0 = xoffMask p n old l := by
  unfold xoffMask xoffStays
  congr 1
  funext m i
  cases bitAt old i <;> cases p.xonWanted n i <;> cases p.xoffWanted n i <;> rfl

theorem fcEval_idle (h : ¬ XoffActs p n) : p.fcEval n = p := if_neg h

theorem fcEval_acts (h : XoffActs p n) :
    p.fcEval n =
      let old := p.get PORT_FC_STAT.XOFF n
      let new := xoffMask p n old (if (p.port n).fcMode = 1 then [0] else List.range 8)
      if new = old then p else (p.put PORT_FC_STAT.XOFF new n).fcFrame n new := by
  refine (if_pos h).trans ?_
  simp only [xoffMask_eq, State.fcMode]
  rfl

/-- Showing the XOFF states leaves the registers that a generated frame is made of. -/
theorem fcFrame_after_show (new x : Nat) :
    (p.put PORT_FC_STAT.XOFF new n).fcFrame n x = (p.put PORT_FC_STAT.XOFF new n).onPort n (fun q =>
      if q.fcMode = 1 then { q with ctrlQ := q.ctrlQ ++
        [⟨.pause, pauseFrame (p.get PORT_MAC_ADDR.ADDR n) (if x = 0 then 0 else p.get PORT_FC_CTRL.QUANTA n)⟩] }
      else { q with ctrlQ := q.ctrlQ ++ [⟨.pfc, pfcFrame (p.get PORT_MAC_ADDR.ADDR n) (q.pfcSent - q.pfcSent.land x) x
        (p.get PORT_FC_CTRL.QUANTA n)⟩], pfcSent := x }) := by
  have haddr : (p.put PORT_FC_STAT.XOFF new n).get PORT_MAC_ADDR.ADDR n = p.get PORT_MAC_ADDR.ADDR n :=
    State.get_put_key _ _ _ _ _ _ _ _ (by simp [Fld.key, PORT_MAC_ADDR.ADDR, PORT_FC_STAT.XOFF])
  have hq : (p.put PORT_FC_STAT.XOFF new n).get PORT_FC_CTRL.QUANTA n = p.get PORT_FC_CTRL.QUANTA n :=
    State.get_put_key _ _ _ _ _ _ _ _ (by simp [Fld.key, PORT_FC_CTRL.QUANTA, PORT_FC_STAT.XOFF])
  rw [State.fcFrame, haddr, hq]

/-- In pause mode the frame carries QUANTA on entry to XOFF and 0 on leaving it. -/
theorem fcFrame_pause (new x : Nat) (h : (p.port n).fcMode = 1) :
    (p.put PORT_FC_STAT.XOFF new n).fcFrame n x = (p.put PORT_FC_STAT.XOFF new n).onPort n (fun q => { q with ctrlQ := q.ctrlQ ++
      [⟨.pause, pauseFrame (p.get PORT_MAC_ADDR.ADDR n) (if x = 0 then 0 else p.get PORT_FC_CTRL.QUANTA n)⟩] }) := by
  rw [fcFrame_after_show]
  exact onPort_congr _ _ _ _ (if_pos (by rw [port_put, h]))

/-- In PFC mode the frame names the priorities that are or were in XOFF. -/
theorem fcFrame_pfc (new x : Nat) (h : (p.port n).fcMode ≠ 1) :
    (p.put PORT_FC_STAT.XOFF new n).fcFrame n x = (p.put PORT_FC_STAT.XOFF new n).onPort n (fun q => { q with ctrlQ := q.ctrlQ ++
      [⟨.pfc, pfcFrame (p.get PORT_MAC_ADDR.ADDR n) (q.pfcSent - q.pfcSent.land x) x (p.get PORT_FC_CTRL.QUANTA n)⟩], pfcSent := x }) := by
  rw [fcFrame_after_show]
  exact onPort_congr _ _ _ _ (if_neg (by rwa [port_put]))

theorem xoffMask_pause (old : Nat) : xoffMask p n old [0] = if xoffStays p n old 0 then 1 else 0 := by
  simp [xoffMask]

theorem xoffStays_from_xon (i : Nat) : xoffStays p n 0 i = p.xoffWanted n i := by
  simp [xoffStays, bitAt]

theorem xoffStays_from_xoff : xoffStays p n 1 0 = !p.xonWanted n 0 := by
  simp [xoffStays, bitAt]

/-! TX_PAUSE (R130, R132, R159). -/

theorem txCtrl_waits (extra : Nat) (h : (p.port n).ctrlQ = [] ∨ p.txFree n = false ∨ p.ctrlSlot n = false) : p.txCtrl n extra = p := by
  unfold State.txCtrl
  rcases h with h | h | h
  · rw [h]
  · cases (p.port n).ctrlQ <;> simp [h]
  · cases (p.port n).ctrlQ <;> simp [h]

/-- The state in which the frame at the front has left port `n` as the packet `w`. -/
def ctrlSent (extra : Nat) (rest : List CtrlFrame) (w : List Lane) : State :=
  (p.placeStart n extra).1.onPort n (fun x => { x with
    ctrlQ := rest, wire := w, startLane := (p.placeStart n extra).2, idleAt := p.frc.toNat, txPos := (x.txPos + 72) % 16 })

theorem txCtrl_sends (extra : Nat) (f : CtrlFrame) (rest : List CtrlFrame) (hq : (p.port n).ctrlQ = f :: rest)
    (hf : p.txFree n = true) (hs : p.ctrlSlot n = true) :
    p.txCtrl n extra =
      if f.kind = .pause ∨ f.kind = .pfc then
        ((((ctrlSent p n extra rest f.packet).onPort n (fun x => { x with fcSentAt := p.frc.toNat })).count PORT_CNT.COUNT n
          pcTxPause).loopBack n p.frc.toNat)
      else (ctrlSent p n extra rest f.packet).loopBack n p.frc.toNat := by
  unfold State.txCtrl
  rw [hq]
  simp only [hf, hs, Bool.and_self, if_true]
  cases hk : f.kind <;> simp only [reduceCtorEq, or_false, or_true, or_self, if_true, if_false] <;> rfl

theorem exec_txPause (dt extra : Nat) (m : Fin 8) (hr : p.runs dt = true) :
    exec (.txPause ⟨dt, extra⟩ m) p = .next (p.finish ((p.pass dt).txCtrl m.val extra)) :=
  State.main_runs p dt (fun s => s.txCtrl m.val extra) hr

theorem exec_xoff (dt : Nat) (m : Fin 8) (hr : p.runs dt = true) :
    exec (.xoff dt m) p = .next (p.finish ((p.pass dt).fcEval m.val)) :=
  State.main_runs p dt (fun s => s.fcEval m.val) hr

/-! PAUSE_REFRESH (R132). -/

theorem exec_pauseRefresh (m : Fin 8) (hr : p.runs 0 = true) :
    exec (.pauseRefresh m) p = .next (p.finish ((p.pass 0).fcRefresh m.val)) :=
  State.main_runs p 0 (fun s => s.fcRefresh m.val) hr

/-! PORTn_FC_CTRL (R13, R133). -/

/-- MODE is no reserved code, and REFRESH lies below QUANTA. -/
def FcCtrlValid (new : Nat) : Prop := getBits new 0 2 ≤ 2 ∧ getBits new 32 16 < getBits new 16 16

/-- The register with the new word; TX_EN is noted as it was where MODE changes. -/
def fcCtrlStored (new : Nat) : State :=
  (if getBits (p.rg (PORT_FC_CTRL.reg.key n 0)) 0 2 = getBits new 0 2 then p
   else p.onPort n (fun x => { x with fcTx := bitAt (p.rg (PORT_FC_CTRL.reg.key n 0)) 3 })).setRg (PORT_FC_CTRL.reg.key n 0) new

theorem fcCtrlStored_tx (new : Nat) : ((fcCtrlStored p n new).port n).tx = (p.port n).tx := by
  unfold fcCtrlStored
  split <;> simp

theorem fcCtrl_valid_iff (new : Nat) :
    (within PORT_FC_CTRL.MODE 0 2 new && decide (getBits new 32 16 < getBits new 16 16)) = true ↔ FcCtrlValid new := by
  simp only [within, Bool.and_eq_true, decide_eq_true_eq, Nat.zero_le, true_and]
  rfl

theorem fcCtrlWrite_invalid (new : Nat) (h : ¬ FcCtrlValid new) : p.fcCtrlWrite n new = p := by
  rw [← fcCtrl_valid_iff, Bool.not_eq_true] at h
  simp only [State.fcCtrlWrite, h, Bool.false_eq_true, if_false]

theorem fcCtrlWrite_valid (new : Nat) (h : FcCtrlValid new) :
    p.fcCtrlWrite n new =
      if (p.port n).tx.isSome then fcCtrlStored p n new else (fcCtrlStored p n new).applyFcMode n := by
  rw [← fcCtrl_valid_iff] at h
  have : p.fcCtrlWrite n new =
      if ((fcCtrlStored p n new).port n).tx.isNone then (fcCtrlStored p n new).applyFcMode n else fcCtrlStored p n new := by
    simp only [State.fcCtrlWrite, h, if_true]
    rfl
  rw [this, fcCtrlStored_tx]
  cases (p.port n).tx <;> rfl

theorem exec_fcModeWrite (a : Access) (m : Fin 8) (h : p.takes a true PORT_FC_CTRL.reg m.val 0 (wdata a) = true) :
    exec (.fcModeWrite a m) p = .next (p.finish (((p.pass a.dt).fcCtrlWrite m.val
      ((p.pass a.dt).merged PORT_FC_CTRL.reg (accMask a PORT_FC_CTRL.reg m.val 0) (wdata a) m.val)).setRsp .okay 0)) :=
  State.writeReg_takes p a _ _ _ _ _ h

end Sys2Proof.Proofs

namespace Sys2Proof.Proofs

open Sys2Proof Sys2Proof.Machine

/-- Settles O32: XOFF by the mode in force, TX_PAUSE by the kind of the frame at the front, PAUSE_REFRESH, and the write. -/
theorem flowControlFrames : Obligations.FlowControlFrames := by
  refine ⟨fun dt n s hr => ⟨fun h => ?_, fun h hm => ⟨fun hold hw => ?_, fun hold hw => ?_, fun hw => ?_⟩, fun h hm => ⟨fun hn => ?_, fun hn => ?_⟩⟩,
    fun dt n s hr extra => ⟨fun h => ?_, fun f rest hq hf hs => ⟨fun hk => ?_, fun hk => ?_, fun hk => ?_⟩⟩,
    fun n s hr => ⟨fun hen hx => ?_, fun hx => ?_⟩,
    fun a n s h => ?_⟩
  · rw [exec_xoff s dt n hr, fcEval_idle _ _ h]
  · rw [exec_xoff s dt n hr, fcEval_acts _ _ h]
    simp [hm, hold, hw, xoffMask_pause, xoffStays_from_xon, fcFrame_pause]
  · rw [exec_xoff s dt n hr, fcEval_acts _ _ h]
    simp [hm, hold, hw, xoffMask_pause, xoffStays_from_xoff, fcFrame_pause]
  · rw [exec_xoff s dt n hr, fcEval_acts _ _ h]
    rcases hw with ⟨hold, hw⟩ | ⟨hold, hw⟩
    · simp [hm, hold, hw, xoffMask_pause, xoffStays_from_xon]
    · simp [hm, hold, hw, xoffMask_pause, xoffStays_from_xoff]
  · rw [exec_xoff s dt n hr, fcEval_acts _ _ h]
    have hn' : xoffMask (s.pass dt) n.val _ (List.range 8) = _ := hn
    simp [hm, hn']
  · rw [exec_xoff s dt n hr, fcEval_acts _ _ h]
    have hn' : xoffMask (s.pass dt) n.val _ (List.range 8) ≠ _ := hn
    simp only [hm, Nat.reduceEqDiff, if_false, if_neg hn', fcFrame_pfc _ _ _ _ (show ((s.pass dt).port n.val).fcMode ≠ 1 by simp [hm])]
    rfl
  · rw [exec_txPause s dt extra n hr, txCtrl_waits _ _ _ h]
  · rw [exec_txPause s dt extra n hr, txCtrl_sends _ _ _ f rest hq hf hs, if_pos hk]
    rcases hk with hk | hk <;> simp only [CtrlFrame.packet, hk] <;> rfl
  · rw [exec_txPause s dt extra n hr, txCtrl_sends _ _ _ f rest hq hf hs, if_neg (by simp [hk])]
    simp only [CtrlFrame.packet, hk]
    rfl
  · rw [exec_txPause s dt extra n hr, txCtrl_sends _ _ _ f rest hq hf hs, if_neg (by simp [hk])]
    simp only [CtrlFrame.packet, hk]
    rfl
  · rw [exec_pauseRefresh s n hr, State.fcRefresh, if_pos ⟨hen, hx⟩]
  · rw [exec_pauseRefresh s n hr, State.fcRefresh, if_neg (fun h => h.2 hx)]
  · rw [exec_fcModeWrite s a n h]
    refine ⟨fun hv => ?_, fun hv htx => ?_, fun hv htx => ?_⟩
    · rw [fcCtrlWrite_invalid _ _ _ hv]
    · rw [fcCtrlWrite_valid _ _ _ hv, if_pos htx]
      rfl
    · rw [fcCtrlWrite_valid _ _ _ hv, if_neg (by simp [htx])]
      rfl

end Sys2Proof.Proofs
end


section
/-! SUPPORT. The timetable of a wired port: PORTn_GCL_CFG, gate changes, and the hold of preemption (R140, R142, R149, R162). -/

namespace Sys2Proof.Proofs

open Sys2Proof Sys2Proof.Machine

variable (p : State) (n : Nat)

/-! PORTn_GCL_CFG (R13, R149, R155). -/

/-- CYCLE_BELLS of the word is 1 to 256. -/
def GclCfgInRange (new : Nat) : Prop := 1 ≤ getBits new 16 9 ∧ getBits new 16 9 ≤ 256

/-- Does the write change SLOT or CYCLE_BELLS with EN at 1 before or after it, or set SLOT with preemption enabled (R149, R155)? -/
def GclCfgRefused (old new : Nat) : Prop :=
  ((getBits old 1 1 ≠ getBits new 1 1 ∨ getBits old 16 9 ≠ getBits new 16 9) ∧ (bitAt old 0 = true ∨ bitAt new 0 = true)) ∨
    (bitAt new 1 = true ∧ bitAt old 1 = false ∧ bitAt (p.pmWord n) 0 = true)

theorem gclCfg_inRange_iff (new : Nat) : within PORT_GCL_CFG.CYCLE_BELLS 1 256 new = true ↔ GclCfgInRange new := by
  simp only [within, Bool.and_eq_true, decide_eq_true_eq]
  rfl

theorem gclCfg_refused_iff (old new : Nat) :
    ((getBits old 1 1 != getBits new 1 1 || getBits old 16 9 != getBits new 16 9) && (bitAt old 0 || bitAt new 0) ||
      (bitAt new 1 && !bitAt old 1 && bitAt (p.pmWord n) 0)) = true ↔ GclCfgRefused p n old new := by
  simp only [GclCfgRefused, Bool.or_eq_true, Bool.and_eq_true, bne_iff_ne, Bool.not_eq_true', and_assoc]

theorem gclCfgRange_out (new : Nat) (h : ¬ GclCfgInRange new) : p.gclCfgRange n new = p := by
  rw [← gclCfg_inRange_iff] at h
  exact if_neg h

theorem gclCfgRange_refused (new : Nat) (h : GclCfgInRange new) (hf : GclCfgRefused p n (p.rg (PORT_GCL_CFG.reg.key n 0)) new) :
    p.gclCfgRange n new = p.evt PORT_GCL_EVT.CFG_REFUSED (0x38 + n) n := by
  rw [← gclCfg_inRange_iff] at h
  rw [← gclCfg_refused_iff] at hf
  simp only [State.gclCfgRange, State.gclCfgWrite, h, hf, if_true]
  rfl

/-- Whether the timetable runs is no matter of its configuration register. -/
theorem gclRun_stored (new : Nat) : (p.setRg (PORT_GCL_CFG.reg.key n 0) new).gclRun n = p.gclRun n :=
  on_setRg_other _ _ _ _ _ _ (by simp [Fld.key, PORT_GCL_STAT.RUN, PORT_GCL_CFG.reg])

theorem gclCfgRange_stored (new : Nat) (h : GclCfgInRange new) (hf : ¬ GclCfgRefused p n (p.rg (PORT_GCL_CFG.reg.key n 0)) new) :
    p.gclCfgRange n new =
      if bitAt (p.rg (PORT_GCL_CFG.reg.key n 0)) 0 = bitAt new 0 then p.setRg (PORT_GCL_CFG.reg.key n 0) new
      else (p.setRg (PORT_GCL_CFG.reg.key n 0) new).put PORT_GCL_STAT.EN_PEND (if bitAt new 0 = p.gclRun n then 0 else 1) n := by
  rw [← gclCfg_inRange_iff] at h
  rw [← gclCfg_refused_iff, Bool.not_eq_true] at hf
  simp only [State.gclCfgRange, State.gclCfgWrite, h, hf, if_true, Bool.false_eq_true, if_false, gclRun_stored]
  cases bitAt (p.rg (PORT_GCL_CFG.reg.key n 0)) 0 <;> cases bitAt new 0 <;> cases p.gclRun n <;> rfl

theorem exec_portnGclCfgWrite (a : Access) (m : Fin 8) (h : p.takes a true PORT_GCL_CFG.reg m.val 0 (wdata a) = true) :
    exec (.portnGclCfgWrite a m) p = .next (p.finish (((p.pass a.dt).gclCfgRange m.val
      ((p.pass a.dt).merged PORT_GCL_CFG.reg (accMask a PORT_GCL_CFG.reg m.val 0) (wdata a) m.val)).setRsp .okay 0)) :=
  State.writeReg_takes p a _ _ _ _ _ h

/-! GATE_CHANGE (R142, R144, R152, R153). -/

theorem exec_gateChange (m : Fin 8) (h : p.runs 0 = true) :
    exec (.gateChange m) p = .next (p.finish ((p.pass 0).gateChange m.val)) :=
  State.main_runs p 0 (fun s => s.gateChange m.val) h

theorem gateChange_none (h : p.nextEntryAt n = none) : p.gateChange n = p := by rw [State.gateChange, h]

theorem gateChange_some (t : Nat) (h : p.nextEntryAt n = some t) :
    p.gateChange n = p.heldNote ((p.advanceTo (p.gridFrc t)).applyEntry n (p.get PORT_GCL_STAT.ENTRY n + 1)) n := by
  rw [State.gateChange, h]

/-- The idle time of a port is no register. -/
theorem heldNote_regs (t : State) : (p.heldNote t n).regs = t.regs := by
  unfold State.heldNote
  split <;> rfl

theorem pushFront_regs (e : QEntry) : (p.pushFront n e).regs = p.regs := by
  unfold State.pushFront
  dsimp only
  split <;> rfl

theorem discardWait_regs : (p.discardWait n).regs = p.regs := by
  unfold State.discardWait
  split
  · rw [pushFront_regs]
    rfl
  · rfl

/-- Judging the waiting copy again changes no register. -/
theorem copyRecheck_regs : (p.copyRecheck n).regs = p.regs := by
  unfold State.copyRecheck
  split
  · rfl
  · dsimp only
    split
    · split <;> rfl
    · split
      · exact discardWait_regs p n
      · rfl

/-- After a change of gates PORTn_GCL_EVT is the one register below the interrupt controller that may have changed. -/
theorem get_gateChanged (f : Fld) (i j : Nat) (hlow : f.key i j < 0xC8800) (hk : f.key i j ≠ PORT_GCL_EVT.GATE_OVERRUN.key n 0) :
    (p.gateChanged n).get f i j = p.get f i j := by
  have hc : (p.copyRecheck n).get f i j = p.get f i j := State.get_congr f i j (copyRecheck_regs p n)
  unfold State.gateChanged
  dsimp only
  split
  · split
    · exact hc
    · rw [State.get_evt _ _ _ _ _ _ _ hlow hk, hc]
  · exact hc

/-- An entry's words stand in other registers than PORTn_GCL_STAT. -/
theorem gclGates_put_entry (l i v : Nat) (hi : i ≤ 128) :
    (p.put PORT_GCL_STAT.ENTRY v n).gclGates n l i = p.gclGates n l i := by
  have h0 : PORT_GCL0_E.reg.key n i ≠ PORT_GCL_STAT.ENTRY.key n 0 := by
    simp only [Fld.key, PORT_GCL0_E.reg, PORT_GCL_STAT.ENTRY]; omega
  have h1 : PORT_GCL1_E.reg.key n i ≠ PORT_GCL_STAT.ENTRY.key n 0 := by
    simp only [Fld.key, PORT_GCL1_E.reg, PORT_GCL_STAT.ENTRY]; omega
  simp only [State.gclGates, State.gclWord, State.rg_put_other _ _ _ _ _ _ h0, State.rg_put_other _ _ _ _ _ _ h1]

/-- The register with the entry and its gates shown, and the hold as the entry sets it (R142, R162). -/
def entryShown (i : Nat) : State :=
  let q := (p.put PORT_GCL_STAT.ENTRY i n).put PORT_GCL_STAT.GATES ((p.put PORT_GCL_STAT.ENTRY i n).gclGates n (p.gclList n) i) n
  if q.gclOp n (p.gclList n) i = 1 then q.put PORT_GCL_STAT.HOLD 1 n
  else if q.gclOp n (p.gclList n) i = 2 then q.put PORT_GCL_STAT.HOLD 0 n else q

theorem applyEntry_eq (i : Nat) : p.applyEntry n i = (entryShown p n i).gateChanged n := rfl

/-- The hold leaves the other fields of PORTn_GCL_STAT. -/
theorem get_entryShown (f : Fld) (i : Nat) (hk : f.key n 0 = PORT_GCL_STAT.HOLD.key n 0) (hf : 8 ≤ f.lo) :
    (entryShown p n i).get f n = ((p.put PORT_GCL_STAT.ENTRY i n).put PORT_GCL_STAT.GATES
      ((p.put PORT_GCL_STAT.ENTRY i n).gclGates n (p.gclList n) i) n).get f n := by
  have hold (q : State) (v : Nat) : (q.put PORT_GCL_STAT.HOLD v n).get f n = q.get f n :=
    State.get_put_bits _ _ _ _ _ _ _ _ hk (by decide) (Or.inl hf)
  unfold entryShown
  dsimp only
  split
  · exact hold _ _
  · split
    · exact hold _ _
    · rfl

theorem entryShown_entry (i : Nat) : (entryShown p n i).get PORT_GCL_STAT.ENTRY n = i % 128 := by
  rw [get_entryShown p n PORT_GCL_STAT.ENTRY i rfl (by decide), State.get_put_bits _ PORT_GCL_STAT.GATES PORT_GCL_STAT.ENTRY _ _ _ _ _ rfl (by decide) (by decide),
    State.get_put_same _ _ _ _ _ (by decide)]
  rfl

theorem entryShown_gates (i : Nat) (hi : i ≤ 128) :
    (entryShown p n i).get PORT_GCL_STAT.GATES n = p.gclGates n (p.gclList n) i := by
  rw [get_entryShown p n PORT_GCL_STAT.GATES i rfl (by decide), State.get_put_same _ _ _ _ _ (by decide), gclGates_put_entry _ _ _ _ _ hi]
  exact Nat.mod_eq_of_lt (getBits_lt _ _ _)

/-- After an entry has taken effect PORTn_GCL_STAT reads as it was shown. -/
theorem get_applyEntry (f : Fld) (i : Nat) (hn : n < 8) (hb : f.base = PORT_GCL_STAT.reg.base) (h1 : f.s1 = 0x1000) :
    (p.applyEntry n i).get f n = (entryShown p n i).get f n := by
  rw [applyEntry_eq]
  refine get_gateChanged _ _ _ _ _ ?_ ?_
  · simp only [Fld.key, hb, h1, PORT_GCL_STAT.reg]; omega
  · simp only [Fld.key, hb, h1, PORT_GCL_STAT.reg, PORT_GCL_EVT.GATE_OVERRUN]; omega

/-! HOLD (R162). -/

theorem exec_hold (m : Fin 8) (h : p.runs 0 = true) :
    exec (.hold m) p = .next (p.finish ((p.pass 0).holdEvent m.val)) :=
  State.main_runs p 0 (fun s => s.holdEvent m.val) h

/-- The moments of the hold that come before the next gate change. -/
def holdDue : List Nat := (p.holdTimes n).filter (fun t => decide (t ≤ (p.nextEntryAt n).getD (p.nextCycleAt n)))

/-- The moments of the hold: before the SET_HOLD entries still to come, and before the next cycle. -/
theorem mem_holdTimes (t : Nat) :
    t ∈ p.holdTimes n ↔
      (p.on PORT_GCL_STAT.CUT n = false ∧ ∃ i < (p.cycleEntries n).length, p.gclOp n (p.gclList n) i = 1 ∧
        p.get PORT_GCL_STAT.ENTRY n < i ∧
        t = (p.port n).cycleAt + p.entryStart n (p.gclList n) i - p.get PORT_PM_CFG.HOLD_ADV n) ∨
      (t = p.nextCycleAt n - p.get PORT_PM_CFG.HOLD_ADV n ∧ ∃ i < (p.cycleEntries n).length, p.gclOp n (p.gclList n) i = 1 ∧
        (i = 0 ∨ p.entryStart n (p.gclList n) i < p.get PORT_PM_CFG.HOLD_ADV n)) := by
  unfold State.holdTimes
  dsimp only
  rw [List.mem_append]
  refine or_congr ?_ ?_
  · cases p.on PORT_GCL_STAT.CUT n
    · simp only [Bool.false_eq_true, if_false, List.mem_map, List.mem_filter, List.mem_range, beq_iff_eq, decide_eq_true_eq,
        true_and, and_assoc, eq_comm (a := t)]
    · simp
  · split
    case isTrue h =>
      simpa [and_assoc] using fun _ => h
    case isFalse h =>
      simpa [and_assoc] using fun _ => h

theorem holdEvent_stopped (h : p.gclRun n = false) : p.holdEvent n = p := by
  simp [State.holdEvent, h]

theorem holdEvent_asserts (t : Nat) (ts : List Nat) (hr : p.gclRun n = true) (hh : p.on PORT_GCL_STAT.HOLD n = false)
    (hd : holdDue p n = t :: ts) :
    p.holdEvent n = (p.advanceTo (p.gridFrc (ts.foldl min t))).put PORT_GCL_STAT.HOLD 1 n := by
  unfold holdDue at hd
  simp [State.holdEvent, hr, hd, hh]

theorem holdEvent_releases (hr : p.gclRun n = true) (h : p.on PORT_GCL_STAT.HOLD n = true ∨ holdDue p n = []) :
    p.holdEvent n = p.holdRelease n := by
  unfold holdDue at h
  simp only [State.holdEvent, hr, if_true]
  rcases h with h | h
  · simp only [h, if_true]
    split <;> rfl
  · rw [h]

end Sys2Proof.Proofs

namespace Sys2Proof.Proofs

open Sys2Proof Sys2Proof.Machine

/-- Settles O35: the write by its range and refusals, the gate change by the entry it shows, the hold by what is due. -/
theorem timetableRunsItsEntries : Obligations.TimetableRunsItsEntries := by
  refine ⟨fun a n s h => ?_, fun n s h => ⟨fun hn => ?_, fun t ht => ?_⟩, fun n s h => ⟨fun t => mem_holdTimes _ _ t, fun hr => ?_,
    fun hr hh t ts hd => ?_, fun hr hd => ⟨fun hrel => ?_, fun hrel => ?_⟩⟩⟩
  · rw [exec_portnGclCfgWrite s a n h]
    refine ⟨fun hv => ?_, fun hv hf => ?_, fun hv hf => ⟨fun he => ?_, fun he => ?_⟩⟩
    · rw [gclCfgRange_out _ _ _ hv]
    · rw [gclCfgRange_refused _ _ _ hv hf]
    · rw [gclCfgRange_stored _ _ _ hv hf, if_pos he]
    · rw [gclCfgRange_stored _ _ _ hv hf, if_neg he]
  · rw [exec_gateChange s n h, gateChange_none _ _ hn]
  · have hentry : (s.pass 0).get PORT_GCL_STAT.ENTRY n.val + 1 ≤ 128 := (s.pass 0).get_lt PORT_GCL_STAT.ENTRY n.val 0
    refine ⟨_, exec_gateChange s n h, ?_, ?_⟩
    · rw [gateChange_some _ _ t ht, State.get_congr _ _ _ (heldNote_regs _ _ _), get_applyEntry _ _ PORT_GCL_STAT.ENTRY _ n.isLt rfl rfl,
        entryShown_entry]
    · rw [gateChange_some _ _ t ht, State.get_congr _ _ _ (heldNote_regs _ _ _), get_applyEntry _ _ PORT_GCL_STAT.GATES _ n.isLt rfl rfl,
        entryShown_gates _ _ _ hentry]
  · rw [exec_hold s n h, holdEvent_stopped _ _ hr]
  · rw [exec_hold s n h, holdEvent_asserts _ _ t ts hr hh hd]
  · rw [exec_hold s n h, exec_gateChange s n h, holdEvent_releases _ _ hr hd, State.holdRelease, if_pos hrel]
  · rw [exec_hold s n h, holdEvent_releases _ _ hr hd, State.holdRelease, if_neg hrel]

end Sys2Proof.Proofs
end


section
/-! SUPPORT. Reception on a radio port: framing, the rows of a received frame, and what is discarded (R173 to R177). -/

namespace Sys2Proof.Proofs

open Sys2Proof Sys2Proof.Machine

variable (p : State) (n : Nat)

theorem exec_radioRxFrame (dt : Nat) (m : Fin 3) (md : BitVec 128) (ago : Nat) (sop eop err : Bool) (b : List Byte)
    (h : p.hears dt (8 + m.val) = true) :
    exec (.radioRxFrame dt m md ago ⟨sop, eop, err⟩ b) p =
      .next (p.finish ((p.pass dt).radRx m.val md.toNat ago sop eop err (nats b))) :=
  State.receive_hears p dt (8 + m.val) (fun s => s.radRx m.val md.toNat ago sop eop err (nats b)) h

theorem exec_radioStrayBeat (dt : Nat) (m : Fin 3) (h : p.hears dt (8 + m.val) = true) :
    exec (.radioStrayBeat dt m) p = .next (p.finish ((p.pass dt).radStray m.val)) :=
  State.receive_hears p dt (8 + m.val) (fun s => s.radStray m.val) h

theorem exec_radioRxOverlong (dt : Nat) (m : Fin 3) (h : p.hears dt (8 + m.val) = true) :
    exec (.radioRxOverlong dt m) p = .next (p.finish ((p.pass dt).radOverlong m.val)) :=
  State.receive_hears p dt (8 + m.val) (fun s => s.radOverlong m.val) h

@[simp] theorem nats_length (b : List Byte) : (nats b).length = b.length := by simp [nats]

/-! The framing. -/

section
variable (md ago : Nat) (sop eop err : Bool) (b : List Nat)

theorem radRx_disabled (h : p.radState n = radDisabled) : p.radRx n md ago sop eop err b = p := if_pos h

theorem radRx_stands (h : p.radState n ≠ radDisabled) (ht : p.radTakes n ago b.length sop = false) :
    p.radRx n md ago sop eop err b = p.onRad n (fun r => { r with rxValid := true }) := by
  simp [State.radRx, h, ht]

/-- Beats that READY lets through grow a frame: an SOP beat opens one, with a framing fault where one is open, and other beats join the
open one (R174). -/
theorem radRx_grows (p2 : State) (part : RadPart) (h : p.radState n ≠ radDisabled) (ht : p.radTakes n ago b.length sop = true)
    (hopen : (sop = true ∧ ((p.rxBeats n ago b.length sop).rad n).rxOpen = none ∧ p2 = p.rxBeats n ago b.length sop ∧
        part = (p.rxBeats n ago b.length sop).radPart n md ago) ∨
      (sop = true ∧ ((p.rxBeats n ago b.length sop).rad n).rxOpen ≠ none ∧ p2 = (p.rxBeats n ago b.length sop).radProto n ∧
        part = (p.rxBeats n ago b.length sop).radPart n md ago) ∨
      (sop = false ∧ ((p.rxBeats n ago b.length sop).rad n).rxOpen = some part ∧ p2 = p.rxBeats n ago b.length sop)) :
    p.radRx n md ago sop eop err b = p2.radGrow n part eop err b := by
  simp only [State.radRx, h, ht, if_false, Bool.not_true, Bool.false_eq_true]
  generalize p.rxBeats n ago b.length sop = p1 at hopen
  rcases hopen with ⟨rfl, ho, rfl, rfl⟩ | ⟨rfl, ho, rfl, rfl⟩ | ⟨rfl, ho, rfl⟩
  · rw [ho]
  · obtain ⟨q, hq⟩ := Option.ne_none_iff_exists'.mp ho
    rw [hq]
  · rw [ho]

end

/-- The bytes join the open frame, which an EOP beat closes. -/
def radJoined (part : RadPart) (eop : Bool) : State :=
  p.onRad n (fun r => { r with rxOpen := if eop then none else some part, rxSkip := false })

section
variable (part : RadPart) (b : List Nat) (eop err : Bool)

/-- Is a frame still open after 65,536 bytes (R174)? -/
def RadLong (len : Nat) (eop : Bool) : Prop := 65536 < len ∨ (len = 65536 ∧ eop = false)

theorem radLong_iff (len : Nat) :
    (decide (65536 < len) || (decide (len = 65536) && !eop)) = true ↔ RadLong len eop := by
  simp [RadLong]

theorem radGrow_long (h : RadLong (part.bytes ++ b).length eop) :
    p.radGrow n part eop err b = (radJoined p n { part with bytes := part.bytes ++ b } eop).radTooLong n := by
  rw [← radLong_iff] at h
  simp only [State.radGrow, h, if_true]
  rfl

theorem radGrow_open (h : ¬ RadLong (part.bytes ++ b).length false) :
    p.radGrow n part false err b = radJoined p n { part with bytes := part.bytes ++ b } false := by
  rw [← radLong_iff, Bool.not_eq_true] at h
  simp only [State.radGrow, h, if_false, Bool.false_eq_true]
  rfl

theorem radGrow_ends (h : ¬ RadLong (part.bytes ++ b).length true) :
    p.radGrow n part true err b =
      (radJoined p n { part with bytes := part.bytes ++ b } true).radFrame n { part with bytes := part.bytes ++ b } err := by
  rw [← radLong_iff, Bool.not_eq_true] at h
  simp only [State.radGrow, h, if_false, if_true, Bool.false_eq_true]
  rfl

end

/-! The rows of a frame that has ended (R113, R116, R177). -/

section
variable (r : RadPart) (err : Bool)

/-- The bytes before the check sequence, and the part of them that is stored. -/
def radBody : List Nat := r.bytes.take (r.bytes.length - 4)
def radStored : List Nat := (radBody r).take (r.max - 4)

/-- Is the check sequence right? -/
def radGood : Bool := r.bytes.drop (r.bytes.length - 4) == fcsBytes (radBody r)

/-- Is the frame longer than MAX_FRAME and dropped for it? -/
def radDrops : Bool := decide (r.max < r.bytes.length) && p.on RAD_CTRL.OVS_DROP n

theorem radGood_iff : radGood r = true ↔ r.bytes.drop (r.bytes.length - 4) = fcsBytes (radBody r) := beq_iff_eq

theorem radDrops_iff : radDrops p n r = true ↔ r.max < r.bytes.length ∧ p.on RAD_CTRL.OVS_DROP n = true := by
  simp [radDrops]

/-- The state in which the check units have seen the frame; `ok` says that it is accepted. -/
def radTapped (ok : Bool) : State := p.crcTapRx (8 + n) (radStored r) ok

/-- An oversized frame counts. -/
def radOversized (q : State) : State := if r.max < r.bytes.length then q.count RAD_CNT.COUNT n rcRxOversize else q

/-- The counters of an accepted frame (R177, R185). -/
def radCounted (q : State) : State :=
  let q2 := (q.count RAD_CNT.COUNT n rcRxFrames).countN RAD_CNT.COUNT r.bytes.length n rcRxOctets
  let q3 := if bitAt r.md 125 then q2.count RAD_CNT.COUNT n rcRxRetry else q2
  if bitAt r.md 126 = false then q3.count RAD_CNT.COUNT n rcRxTimeInvalid
  else if r.ahead then q3.count RAD_CNT.COUNT n rcRxTimeAhead else q3

/-- An accepted frame counts and joins the RX FIFO. -/
def radAccepted (q : State) : State :=
  (radCounted n r q).onRad n (fun x => { x with rxFifo := x.rxFifo ++
    [⟨radStored r, decide (r.max < r.bytes.length), r.ts, some r.md, (radCounted n r q).get GLB_BELL_NUM.BELL⟩] })

/-- A frame that has ended counts in the first row that holds. -/
theorem radFrame_eq (ok : Bool)
    (hok : ok = true ↔ err = false ∧ 64 ≤ r.bytes.length ∧ radGood r = true ∧ ¬ radDrops p n r = true) :
    p.radFrame n r err =
      if err then (radTapped p n r ok).count RAD_CNT.COUNT n rcRxAbort
      else if r.bytes.length < 64 then (radTapped p n r ok).count RAD_CNT.COUNT n rcRxRunt
      else if !radGood r then (radTapped p n r ok).count RAD_CNT.COUNT n rcRxFcsErr
      else if radDrops p n r then (radOversized n r (radTapped p n r ok)).count RAD_CNT.COUNT n rcRxOversizeDrop
      else radAccepted n r (radOversized n r (radTapped p n r ok)) := by
  have hflag : (!err && decide (64 ≤ r.bytes.length) && radGood r && !radDrops p n r) = ok := by
    rw [Bool.eq_iff_iff, hok]
    simp [and_assoc]
  rw [← hflag]
  simp only [State.radFrame, radOversized, radAccepted, radCounted, radTapped, decide_eq_true_eq, Bool.not_eq_true']
  rfl

/-- The rows of a frame that has ended, from the length, the check sequence and the bound as the spec states them. -/
theorem radFrame_row (ok : Bool)
    (hok : ok = true ↔ err = false ∧ 64 ≤ r.bytes.length ∧ r.bytes.drop (r.bytes.length - 4) = fcsBytes (radBody r) ∧
      ¬ (r.max < r.bytes.length ∧ p.on RAD_CTRL.OVS_DROP n = true)) :
    (err = true → p.radFrame n r err = (radTapped p n r ok).count RAD_CNT.COUNT n rcRxAbort) ∧
    (err = false → r.bytes.length < 64 → p.radFrame n r err = (radTapped p n r ok).count RAD_CNT.COUNT n rcRxRunt) ∧
    (err = false → 64 ≤ r.bytes.length → ¬ r.bytes.drop (r.bytes.length - 4) = fcsBytes (radBody r) →
      p.radFrame n r err = (radTapped p n r ok).count RAD_CNT.COUNT n rcRxFcsErr) ∧
    (err = false → 64 ≤ r.bytes.length → r.bytes.drop (r.bytes.length - 4) = fcsBytes (radBody r) →
      (r.max < r.bytes.length ∧ p.on RAD_CTRL.OVS_DROP n = true) →
      p.radFrame n r err = (radOversized n r (radTapped p n r ok)).count RAD_CNT.COUNT n rcRxOversizeDrop) ∧
    (err = false → 64 ≤ r.bytes.length → r.bytes.drop (r.bytes.length - 4) = fcsBytes (radBody r) →
      ¬ (r.max < r.bytes.length ∧ p.on RAD_CTRL.OVS_DROP n = true) →
      p.radFrame n r err = radAccepted n r (radOversized n r (radTapped p n r ok))) := by
  rw [← radGood_iff, ← radDrops_iff] at *
  rw [radFrame_eq p n r err ok hok]
  refine ⟨fun he => ?_, fun he hl => ?_, fun he hl hg => ?_, fun he hl hg hd => ?_, fun he hl hg hd => ?_⟩
  · rw [if_pos he]
  · rw [if_neg (by simp [he]), if_pos hl]
  · rw [if_neg (by simp [he]), if_neg (by omega), if_pos (by simpa using hg)]
  · rw [if_neg (by simp [he]), if_neg (by omega), if_neg (by simp [hg]), if_pos hd]
  · rw [if_neg (by simp [he]), if_neg (by omega), if_neg (by simp [hg]), if_neg hd]

end

end Sys2Proof.Proofs
end

section
/-! SUPPORT. Transmission on a radio port, beacon supervision, and RADn_CTRL (R173, R175, R178, R181 to R184). -/

namespace Sys2Proof.Proofs

open Sys2Proof Sys2Proof.Machine

variable (p : State) (n : Nat)

/-! Beats outside a frame, and overlong frames (R174). -/

theorem radStray_counts (hon : p.radRxOn n = true) (ho : (p.rad n).rxOpen = none) (hs : (p.rad n).rxSkip = false) :
    p.radStray n = (p.onRad n (fun r => { r with rxSkip := true })).radProto n := by
  simp [State.radStray, State.radStrayBeat, hon, ho, hs]

theorem radStray_idle (h : p.radRxOn n = false ∨ (p.rad n).rxOpen ≠ none ∨ (p.rad n).rxSkip = true) : p.radStray n = p := by
  unfold State.radStray State.radStrayBeat
  rcases h with h | h | h <;> simp [h]

theorem radOverlong_on (h : p.radRxOn n = true) : p.radOverlong n = p.radTooLong n := by
  rw [State.radOverlong, if_pos h]

theorem radOverlong_off (h : p.radRxOn n = false) : p.radOverlong n = p := by
  rw [State.radOverlong, if_neg (by simp [h])]

/-! The transmit stream (R171, R175). -/

theorem exec_radioTxSop (dt : Nat) (m : Fin 3) (ready : Bool) (h : p.runs dt = true) :
    exec (.radioTxSop dt m ready) p = .next (p.finish (if ready then (p.pass dt).radSop m.val else p.pass dt)) :=
  State.main_runs p dt (fun s => if ready then s.radSop m.val else s) h

theorem exec_eop (dt : Nat) (m : Fin 3) (ready : Bool) (h : p.runs dt = true) :
    exec (.eop dt m ready) p = .next (p.finish (if ready then (p.pass dt).radEop m.val else p.pass dt)) :=
  State.main_runs p dt (fun s => if ready then s.radEop m.val else s) h

theorem radSop_idle (h : (p.rad n).wait = none ∨ p.sopOffered n = false) : p.radSop n = p := by
  unfold State.radSop
  rcases h with h | h
  · rw [h]
  · cases (p.rad n).wait <;> simp [h]

theorem radSop_transfers (t : TxFrame) (hw : (p.rad n).wait = some t) (ho : p.sopOffered n = true) :
    p.radSop n =
      let f := p.frc.toNat
      let inc := p.get RAD_CTRL.TX_INC n
      let run := beatRun inc ((beatCosts (t.data.length + 4) true).dropLast) (p.txCreditAt n f) 0
      let w := creditWait run.2.2 inc
      p.onRad n (fun r =>
        { r with wait := none, offer := none, tx := some { t with startAt := f }, txBeats := run.1.map (fun o => f + 2 * o),
                 txCredit := creditUp run.2.2 inc w, txCreditAt := f + 2 * (run.2.1 + w),
                 wire := t.data ++ txFcs t.e t.data, metaOut := txMeta t.e r.tag, tag := (r.tag + 1) % 65536 }) := by
  simp only [State.radSop, hw, ho, if_true]
  rfl

theorem radEop_idle (h : (p.rad n).tx = none ∨ p.frc.toNat < (p.rad n).txCreditAt) : p.radEop n = p := by
  unfold State.radEop
  rcases h with h | h
  · rw [h]
  · cases (p.rad n).tx
    · rfl
    · exact if_neg (by omega)

theorem radEop_transfers (t : TxFrame) (ht : (p.rad n).tx = some t) (hc : (p.rad n).txCreditAt ≤ p.frc.toNat) :
    p.radEop n =
      let f := p.frc.toNat
      let len := t.data.length + 4
      let credit := p.txCreditAt n f - ((len - 1) % 32 + 1 : Nat) + p.get RAD_CTRL.TX_INC n
      let q := ((p.onRad n (fun r => { r with tx := none, txCredit := min 512 credit, txCreditAt := f + 2 })).count RAD_CNT.COUNT n
        rcTxFrames).countN RAD_CNT.COUNT len n rcTxOctets
      let q := if t.padded then q.count RAD_CNT.COUNT n rcTxPad else q
      ((q.crcSent t.marks).endCopy (8 + n) t.e .sent (q.stNs * 65536)).radOffer n := by
  simp only [State.radEop, ht, hc, if_true]
  rfl

/-! Beacon supervision (R181 to R183). -/

theorem exec_beaconReport (dt : Nat) (m : Fin 3) (info : Word32) (h : p.runs dt = true) :
    exec (.beaconReport dt m info) p = .next (p.finish (((p.pass dt).bcnReport m.val info.toNat).radOffer m.val)) :=
  State.main_runs p dt (fun s => s.beacon m.val info.toNat) h

/-- What every report does: it counts, is kept, and sets TX_HOLD, which it may change (R179, R182). -/
def bcnNoted (info : Nat) : State :=
  let hold := bitAt info 24
  let p1 := (p.count RAD_CNT.COUNT n rcBcnReports).put RAD_BCN_LAST.INFO info n
  let p2 := (p1.onRad n (fun r => { r with bcnAt := p1.frc.toNat })).put RAD_STAT.TX_HOLD (if hold then 1 else 0) n
  let p3 := if hold = p.on RAD_STAT.TX_HOLD n then p2 else p2.evt RAD_EVT.HOLD_CHG (0x40 + n) n
  if hold then p3.radDiscard n else p3

/-- The next deadline is armed, and the misses restart (R181, R183). -/
def bcnArmed (q : State) (info : Nat) : State :=
  (q.onRad n (fun r => { r with lastSeq := some (getBits info 0 16), due := q.frc.toNat +
    (q.get RAD_BCN_CFG.INTERVAL_US n + q.get RAD_BCN_CFG.SLACK_US n) * 1000 })).put RAD_STAT.MISSES 0 n

theorem hold_after_count : (p.count RAD_CNT.COUNT n rcBcnReports).on RAD_STAT.TX_HOLD n = p.on RAD_STAT.TX_HOLD n :=
  on_put_other _ _ _ _ _ _ _ _ (by simp only [Fld.key, RAD_STAT.TX_HOLD, RAD_CNT.COUNT, rcBcnReports]; omega)

/-- What a noted report does to the state of the port, where no earlier report is compared with it. -/
def bcnMoved (q : State) (info : Nat) : State :=
  let st := q.radState n
  let q := bcnArmed n q info
  let c := q.get RAD_STAT.RESUME_CNT n + 1
  if st = radWaiting then (q.put RAD_STAT.STATE radUp n).evt RAD_EVT.UP (0x40 + n) n
  else if st = radSilent then
    if q.get RAD_BCN_CFG.RESUME n ≤ c then
      ((q.put RAD_STAT.STATE radUp n).put RAD_STAT.RESUME_CNT c n).evt RAD_EVT.SILENT_EXIT (0x40 + n) n
    else q.put RAD_STAT.RESUME_CNT c n
  else q

/-- A report is noted in every state. In DISABLED and DOWN that is all. -/
theorem bcnReport_eq (info : Nat) (q : State) (hq : bcnNoted p n info = q) (hseq : (q.rad n).lastSeq = none ∨ q.radState n ≤ radDown) :
    p.bcnReport n info = if q.radState n ≤ radDown then q else bcnMoved n q info := by
  have hdown : (q.radState n = radDisabled ∨ q.radState n = radDown) ↔ q.radState n ≤ radDown := by
    simp only [radDisabled, radDown]
    omega
  have hnoted : (let s := p.rc n rcBcnReports
      let s := ((s.put RAD_BCN_LAST.INFO info n).onRad n (fun r => { r with bcnAt := (s.put RAD_BCN_LAST.INFO info n).frc.toNat })).put
        RAD_STAT.TX_HOLD (b2n (bitAt info 24)) n
      let s := if bitAt info 24 != (p.rc n rcBcnReports).on RAD_STAT.TX_HOLD n then s.revt RAD_EVT.HOLD_CHG n else s
      if bitAt info 24 then s.radDiscard n else s) = q := by
    rw [← hq, bcnNoted, State.rc, hold_after_count]
    cases bitAt info 24 <;> cases p.on RAD_STAT.TX_HOLD n <;> rfl
  unfold State.bcnReport
  dsimp only at hnoted ⊢
  rw [hnoted]
  simp only [hdown]
  by_cases hd : q.radState n ≤ radDown
  · rw [if_pos hd, if_pos hd]
  · rw [if_neg hd, if_neg hd, hseq.resolve_right hd]
    rfl

/-- In DISABLED and DOWN a report is noted alone. -/
theorem exec_beaconReport_noted (dt : Nat) (m : Fin 3) (info : Word32) (h : p.runs dt = true)
    (hst : (bcnNoted (p.pass dt) m.val info.toNat).radState m.val ≤ radDown) :
    exec (.beaconReport dt m info) p = .next (p.finish ((bcnNoted (p.pass dt) m.val info.toNat).radOffer m.val)) := by
  rw [exec_beaconReport p dt m info h, bcnReport_eq _ _ _ _ rfl (Or.inr hst), if_pos hst]

/-- In the other states it moves the state, where there is no earlier report to compare. -/
theorem exec_beaconReport_moved (dt : Nat) (m : Fin 3) (info : Word32) (h : p.runs dt = true) (k : Nat) (hk : radDown < k)
    (hst : (bcnNoted (p.pass dt) m.val info.toNat).radState m.val = k)
    (hseq : ((bcnNoted (p.pass dt) m.val info.toNat).rad m.val).lastSeq = none) :
    exec (.beaconReport dt m info) p =
      .next (p.finish ((bcnMoved m.val (bcnNoted (p.pass dt) m.val info.toNat) info.toNat).radOffer m.val)) := by
  rw [exec_beaconReport p dt m info h, bcnReport_eq _ _ _ _ rfl (Or.inl hseq), if_neg (by omega)]

theorem bcnMoved_waiting (q : State) (info : Nat) (h : q.radState n = radWaiting) :
    bcnMoved n q info = ((bcnArmed n q info).put RAD_STAT.STATE radUp n).evt RAD_EVT.UP (0x40 + n) n := if_pos h

theorem bcnMoved_up (q : State) (info : Nat) (h : q.radState n = radUp) : bcnMoved n q info = bcnArmed n q info := by
  simp [bcnMoved, h, radWaiting, radSilent, radUp]

/-- In SILENT the report counts towards RESUME. -/
theorem bcnMoved_silent (q : State) (info : Nat) (h : q.radState n = radSilent) :
    bcnMoved n q info =
      let t := bcnArmed n q info
      let c := t.get RAD_STAT.RESUME_CNT n + 1
      if t.get RAD_BCN_CFG.RESUME n ≤ c then
        ((t.put RAD_STAT.STATE radUp n).put RAD_STAT.RESUME_CNT c n).evt RAD_EVT.SILENT_EXIT (0x40 + n) n
      else t.put RAD_STAT.RESUME_CNT c n := by
  simp [bcnMoved, h, radWaiting, radSilent]

/-! A missed deadline (R181). -/

theorem exec_bcnMissed (m : Fin 3) (h : p.runs 0 = true) :
    exec (.bcnMissed m) p = .next (p.finish ((p.pass 0).bcnMissed m.val)) :=
  State.main_runs p 0 (fun s => s.bcnMissed m.val) h

/-- The deadline `due` has passed: it counts, the next one is armed, and the misses rise up to 3. -/
def bcnCounted (due : Nat) : State :=
  let q := (p.advanceTo due).count RAD_CNT.COUNT n rcBcnMissed
  q.onRad n (fun r => { r with due := due + q.get RAD_BCN_CFG.INTERVAL_US n * 1000 })

theorem bcnMissed_none (h : (p.rad n).due = 0) : p.bcnMissed n = p := if_pos h

theorem bcnMissed_due (h : (p.rad n).due ≠ 0) :
    p.bcnMissed n =
      let q := bcnCounted p n (p.rad n).due
      let m := min 3 (q.get RAD_STAT.MISSES n + 1)
      let t := q.put RAD_STAT.MISSES m n
      if t.radState n = radSilent then t.put RAD_STAT.RESUME_CNT 0 n
      else if m = 3 then t.radSilence n
      else t :=
  if_neg h

/-! RADn_CTRL (R13, R173, R178, R184). -/

/-- Are both increments 1 to 8? -/
def RadCtrlInRange (new : Nat) : Prop :=
  (1 ≤ getBits new RAD_CTRL.RX_INC.lo RAD_CTRL.RX_INC.w ∧ getBits new RAD_CTRL.RX_INC.lo RAD_CTRL.RX_INC.w ≤ 8) ∧
    (1 ≤ getBits new RAD_CTRL.TX_INC.lo RAD_CTRL.TX_INC.w ∧ getBits new RAD_CTRL.TX_INC.lo RAD_CTRL.TX_INC.w ≤ 8)

theorem radCtrl_inRange_iff (new : Nat) :
    (within RAD_CTRL.RX_INC 1 8 new && within RAD_CTRL.TX_INC 1 8 new) = true ↔ RadCtrlInRange new := by
  simp only [within, RadCtrlInRange, Bool.and_eq_true, decide_eq_true_eq]

theorem radCtrlWrite_out (new : Nat) (h : ¬ RadCtrlInRange new) : p.radCtrlWrite n new = p := by
  rw [← radCtrl_inRange_iff] at h
  exact if_neg h

theorem radCtrlWrite_stored (new : Nat) (h : RadCtrlInRange new) :
    p.radCtrlWrite n new =
      let q := (p.radSettle n).setRg (RAD_CTRL.reg.key n 0) new
      if q.on RAD_CTRL.EN n && !bitAt (p.rg (RAD_CTRL.reg.key n 0)) 0 then (q.onRad n (fun r => { r with tag := 0 })).radEval n
      else q.radEval n := by
  rw [← radCtrl_inRange_iff] at h
  rw [State.radCtrlWrite, if_pos h]
  unfold State.radCtrlChanged
  dsimp only
  exact apply_ite (fun t : State => t.radEval n) _ _ _

theorem exec_radnCtrlWrite (a : Access) (m : Fin 3) (h : p.takes a true RAD_CTRL.reg m.val 0 (wdata a) = true) :
    exec (.radnCtrlWrite a m) p = .next (p.finish (((p.pass a.dt).radCtrlWrite m.val
      ((p.pass a.dt).merged RAD_CTRL.reg (accMask a RAD_CTRL.reg m.val 0) (wdata a) m.val)).setRsp .okay 0)) :=
  State.writeReg_takes p a _ _ _ _ _ h

end Sys2Proof.Proofs
end

section
namespace Sys2Proof.Proofs

open Sys2Proof Sys2Proof.Machine

/-- Commands that leave equal states answer alike. -/
theorem next_congr {s t u : State} (h : t = u) :
    (Host.Outcome.next (s.finish t) : Host.Outcome State Fault Refusal) = .next (s.finish u) := by rw [h]

/-- Settles O39: reception by framing and by the rows of the ended frame, then the transmit stream, beacons and RADn_CTRL. -/
theorem radioPorts : Obligations.RadioPorts := by
  refine ⟨fun dt n s h => ⟨fun md ago sop eop err b hd => ?_, fun md ago sop eop err b hd ht => ?_,
      fun md ago sop eop err b p2 part hd ht hopen => ?_, fun hon ho hs => ?_, fun hi => ?_, fun hon => ?_, fun hoff => ?_⟩,
    fun dt n s h => ⟨?_, ?_, fun hi => ?_, fun t hw ho => ?_, fun hi => ?_, fun t ht hc => ?_⟩,
    fun dt n info s h => ⟨fun hst => ?_, fun hseq => ⟨fun hst => ?_, fun hst => ?_, fun hst hc => ?_, fun hst hc => ?_⟩⟩,
    fun n s h => ⟨fun hd => ?_, fun hd hs => ?_, fun hd hs hm => ?_, fun hd hs hm => ?_⟩,
    fun a n s h => ⟨fun hr => ?_, fun hr hen hold => ?_, fun hr hen => ?_⟩⟩
  · rw [exec_radioRxFrame s dt n md ago sop eop err b h, radRx_disabled _ _ _ _ _ _ _ _ hd]
  · rw [exec_radioRxFrame s dt n md ago sop eop err b h, radRx_stands _ _ _ _ _ _ _ _ hd (by rwa [nats_length])]
  · have hgrow : exec (.radioRxFrame dt n md ago ⟨sop, eop, err⟩ b) s = .next (s.finish (p2.radGrow n.val part eop err (nats b))) := by
      rw [exec_radioRxFrame s dt n md ago sop eop err b h,
        radRx_grows _ _ _ _ _ _ _ _ p2 part hd (by rwa [nats_length]) (by rw [nats_length]; exact hopen)]
    rw [hgrow]
    refine ⟨fun hl => ?_, fun hl he => ?_, fun hl he herr => ?_, fun hl he herr hlen => ?_, fun hl he herr hlen hg => ?_,
      fun hl he herr hlen hg hdr => ?_, fun hl he herr hlen hg hdr => ?_⟩
    · rw [radGrow_long _ _ _ _ _ _ hl]
      rfl
    · subst he
      rw [radGrow_open _ _ _ _ _ hl]
      rfl
    all_goals
      subst he
      rw [radGrow_ends _ _ _ _ _ hl]
      obtain ⟨habort, hrunt, hfcs, hover, hacc⟩ := radFrame_row (radJoined p2 n.val { part with bytes := part.bytes ++ nats b } true) n.val
        { part with bytes := part.bytes ++ nats b } err _ decide_eq_true_iff
    · exact next_congr (habort herr)
    · exact next_congr (hrunt herr hlen)
    · exact next_congr (hfcs herr hlen hg)
    · exact next_congr (hover herr hlen hg hdr)
    · exact next_congr (hacc herr hlen hg hdr)
  · rw [exec_radioStrayBeat s dt n h, radStray_counts _ _ hon ho hs]
    rfl
  · rw [exec_radioStrayBeat s dt n h, radStray_idle _ _ hi]
  · rw [exec_radioRxOverlong s dt n h, radOverlong_on _ _ hon]
    rfl
  · rw [exec_radioRxOverlong s dt n h, radOverlong_off _ _ hoff]
  · exact exec_radioTxSop s dt n false h
  · exact exec_eop s dt n false h
  · rw [exec_radioTxSop s dt n true h, if_pos rfl, radSop_idle _ _ hi]
  · rw [exec_radioTxSop s dt n true h, if_pos rfl, radSop_transfers _ _ t hw ho]
  · rw [exec_eop s dt n true h, if_pos rfl, radEop_idle _ _ hi]
  · rw [exec_eop s dt n true h, if_pos rfl, radEop_transfers _ _ t ht hc]
  · exact exec_beaconReport_noted s dt n info h hst
  · exact (exec_beaconReport_moved s dt n info h radWaiting (by decide) hst hseq).trans
      (next_congr (congrArg (fun t => State.radOffer t n.val) (bcnMoved_waiting _ _ _ hst)))
  · exact (exec_beaconReport_moved s dt n info h radUp (by decide) hst hseq).trans
      (next_congr (congrArg (fun t => State.radOffer t n.val) (bcnMoved_up _ _ _ hst)))
  · exact (exec_beaconReport_moved s dt n info h radSilent (by decide) hst hseq).trans
      (next_congr (congrArg (fun t => State.radOffer t n.val) ((bcnMoved_silent _ _ _ hst).trans (if_neg (Nat.not_le_of_lt hc)))))
  · exact (exec_beaconReport_moved s dt n info h radSilent (by decide) hst hseq).trans
      (next_congr (congrArg (fun t => State.radOffer t n.val) ((bcnMoved_silent _ _ _ hst).trans (if_pos hc))))
  · rw [exec_bcnMissed s n h, bcnMissed_none _ _ hd]
  · rw [exec_bcnMissed s n h, bcnMissed_due _ _ hd]
    exact next_congr (if_pos hs)
  · rw [exec_bcnMissed s n h, bcnMissed_due _ _ hd]
    exact next_congr ((if_neg hs).trans (if_neg (Nat.ne_of_lt hm)))
  · rw [exec_bcnMissed s n h, bcnMissed_due _ _ hd]
    exact next_congr ((if_neg hs).trans (if_pos hm))
  · rw [exec_radnCtrlWrite s a n h, radCtrlWrite_out _ _ _ hr]
  · rw [exec_radnCtrlWrite s a n h, radCtrlWrite_stored _ _ _ hr]
    simp [hen, hold]
  · rw [exec_radnCtrlWrite s a n h, radCtrlWrite_stored _ _ _ hr]
    rcases hen with hen | hen <;> simp [hen]

end Sys2Proof.Proofs
end


section
/-! SUPPORT. Pool commands, and buffers requested and released through registers (R225 to R239). -/

namespace Sys2Proof.Proofs

open Sys2Proof Sys2Proof.Machine

variable (p : State)

/-! Served pool commands (R235). -/

theorem exec_withdraw (a : Access) (h : p.serves a POOL_CMD.reg 0 (setBits (wdata a) 0 2 1) = true) :
    exec (.withdraw a) p = .next (p.finish
      ((((p.pass a.dt).poolCmd (setBits (wdata a) 0 2 1)).pmu evCmdServed 1).setRsp .okay 0)) :=
  State.served_POOL_CMD p a 0 _ h

theorem exec_restore (a : Access) (h : p.serves a POOL_CMD.reg 0 (setBits (wdata a) 0 2 2) = true) :
    exec (.restore a) p = .next (p.finish
      ((((p.pass a.dt).poolCmd (setBits (wdata a) 0 2 2)).pmu evCmdServed 1).setRsp .okay 0)) :=
  State.served_POOL_CMD p a 0 _ h

theorem exec_redefine (a : Access) (h : p.serves a POOL_CMD.reg 0 (setBits (wdata a) 0 2 3) = true) :
    exec (.redefine a) p = .next (p.finish
      ((((p.pass a.dt).poolCmd (setBits (wdata a) 0 2 3)).pmu evCmdServed 1).setRsp .okay 0)) :=
  State.served_POOL_CMD p a 0 _ h

section
variable (w : Nat)

theorem poolCmd_unowned (h : getBits w 0 2 = 1 ∨ getBits w 0 2 = 2) (hq : p.poolOfBank (getBits w 4 4) = none) :
    p.poolCmd w = p.poolRefuse := by
  rcases h with h | h <;> simp only [State.poolCmd, h, hq, Nat.reduceEqDiff, if_false, if_true]

theorem poolCmd_withdraw (q : Nat) (h : getBits w 0 2 = 1) (hq : p.poolOfBank (getBits w 4 4) = some q) :
    p.poolCmd w = if p.withdrawn q (getBits w 4 4) then p.poolRefuse else p.withdraw q (getBits w 4 4) := by
  simp only [State.poolCmd, h, hq, if_true]

theorem poolCmd_restore (q : Nat) (h : getBits w 0 2 = 2) (hq : p.poolOfBank (getBits w 4 4) = some q) :
    p.poolCmd w = if p.withdrawn q (getBits w 4 4) = false ∨ p.bankOn (getBits w 4 4) = false then p.poolRefuse
      else p.restoreBank q (getBits w 4 4) := by
  simp only [State.poolCmd, h, hq, Nat.reduceEqDiff, if_false, if_true]

/-- The banks of pool `n`, and the other enabled pools. -/
def poolBanks (n : Nat) : List Nat := (List.range (p.pool n).banks).map (· + (p.pool n).first)
def otherPools (n : Nat) : List Nat := (List.range 5).filter (fun q => q != n && p.poolOn q)

/-- May pool `n` be redefined: every current bank withdrawn and idle, and a staged definition that is not refused (R235)? -/
def MayRedefine (n : Nat) : Prop :=
  n ≤ 4 ∧ (∀ c ∈ poolBanks p n, p.withdrawn n c = true ∧ p.bankBusy c = false) ∧ p.redefineBad n (otherPools p n) false = false

/-- Pool `n` under its staged definition, with no free buffer yet. -/
def redefined (n : Nat) : State :=
  let d := p.stagedPool n
  let t := ((State.setAvail { p with mem.pools := mapSet (fun _ => PoolDef.off) p.mem.pools n d } n 0).setRg (POOL_STAT.reg.key n 0) 0)
  let t := (t.put POOL_STAT.ACTIVE (if d.banks = 0 then 0 else 1) n).put POOL_STAT.TOTAL d.count n
  let t := t.forEach ((List.range d.banks).map (· + d.first)) (fun t c => { t with mem.joined := mapSet (fun _ => 0) t.mem.joined c 0 })
  { t with mem.rebuild := t.mem.rebuild ++ [⟨.build, n, d.first, 0, t.perBank n, 0, []⟩] }

theorem redefine_refused_iff (n : Nat) :
    (4 < n ∨ (poolBanks p n).any (fun c => !p.withdrawn n c || p.bankBusy c) = true ∨ p.redefineBad n (otherPools p n) false = true) ↔
      ¬ MayRedefine p n := by
  have hbanks : (poolBanks p n).any (fun c => !p.withdrawn n c || p.bankBusy c) = true ↔
      ¬ ∀ c ∈ poolBanks p n, p.withdrawn n c = true ∧ p.bankBusy c = false := by
    simp only [List.any_eq_true, Bool.or_eq_true, Bool.not_eq_true', Classical.not_forall, Classical.not_and_iff_not_or_not, Bool.not_eq_true, Bool.not_eq_false,
      exists_prop]
  rw [hbanks, MayRedefine, Classical.not_and_iff_not_or_not, Classical.not_and_iff_not_or_not, Nat.not_le, Bool.not_eq_false]

theorem poolCmd_redefine_refused (h : getBits w 0 2 = 3) (hr : ¬ MayRedefine p (getBits w 8 3)) : p.poolCmd w = p.poolRefuse := by
  rw [← redefine_refused_iff] at hr
  simp only [State.poolCmd, h, Nat.reduceEqDiff, if_false, if_true]
  exact if_pos hr

theorem poolCmd_redefine_taken (h : getBits w 0 2 = 3) (hr : MayRedefine p (getBits w 8 3)) :
    p.poolCmd w = redefined p (getBits w 8 3) := by
  have hr' := mt (redefine_refused_iff p (getBits w 8 3)).mp (not_not_intro hr)
  have hact (d : PoolDef) : b2n (d.banks != 0) = if d.banks = 0 then 0 else 1 := by
    by_cases hd : d.banks = 0 <;> simp [hd, b2n]
  unfold State.poolCmd redefined
  rw [h]
  simp only [Nat.reduceEqDiff, if_false, if_true, hact, State.queueRebuild]
  rw [if_neg]
  exact hr'

end

/-- The count that requests see has fallen to `left`, with LOW and EMPTY where it falls so far (R241). -/
def availFell (q left : Nat) : State :=
  let t := p.setAvail q left
  let t := if p.reserve q < p.avail q ∧ left ≤ p.reserve q then t.evt POOL_EVT.LOW 0x44 else t
  if 0 < p.avail q ∧ left = 0 then t.evt POOL_EVT.EMPTY 0x44 else t

/-- The rebuilds that wait add no buffer of bank `b` any more, and its WITHDRAW waits behind them (R236); `free` are the buffers of it
that were on the list. -/
def withdrawQueued (q b n : Nat) (free : List Nat) : State :=
  let stop := fun (r : Rebuild) => if r.kind = .withdraw then r else { r with out := b :: r.out }
  { p with mem.rebuild := p.mem.rebuild.map stop ++
    [⟨.withdraw, q, b, 0, n, p.joined b, (List.range (p.joined b)).filter (fun k => !free.contains k)⟩] }

/-- Bank `b` of pool `q` withdrawn: its free buffers leave the count, POOLq_STAT shows it, and its steps wait (R235). -/
def bankWithdrawn (q b : Nat) : State :=
  let n := p.perBank q
  let free := p.freeIn q b 0 n
  let t := availFell p q (p.avail q - free.length)
  let t := t.put POOL_STAT.WITHDRAWN (t.get POOL_STAT.WITHDRAWN q + 2 ^ b) q
  let t := t.put POOL_STAT.TOTAL (t.get POOL_STAT.TOTAL q - n) q
  withdrawQueued t q b n free

/-- The state in which the rebuilds that wait add no buffer of bank `b` any more. -/
def rebuildsWithout (b : Nat) : State := { p with mem.rebuild := p.mem.rebuild.map (Rebuild.without b) }

theorem queueRebuild_without (q b n : Nat) (free : List Nat) :
    (rebuildsWithout p b).queueRebuild ⟨.withdraw, q, b, 0, n, (rebuildsWithout p b).joined b,
      (List.range ((rebuildsWithout p b).joined b)).filter (fun k => !free.contains k)⟩ = withdrawQueued p q b n free := by
  have hstop : Rebuild.without b = fun (r : Rebuild) => if r.kind = .withdraw then r else { r with out := b :: r.out } := by
    funext r
    simp only [Rebuild.without, beq_iff_eq]
  rw [withdrawQueued, ← hstop]
  rfl

theorem withdraw_eq (q b : Nat) : p.withdraw q b = bankWithdrawn p q b :=
  queueRebuild_without _ q b (p.perBank q) (p.freeIn q b 0 (p.perBank q))

/-! POOL_ALLOC and its result (R227, R239). -/

theorem exec_poolAlloc (a : Access) (h : p.takes a true POOL_ALLOC.reg 0 0 (wdata a) = true) :
    exec (.poolAlloc a) p = .next (p.finish ((if getBits (wdata a) 0 14 ≤ 16320 then
      (p.pass a.dt).poolAlloc a.init.val (getBits (wdata a) 0 14) else p.pass a.dt).setRsp .okay 0)) :=
  State.writeReg_takes p a POOL_ALLOC.reg 0 0 (wdata a) (fun _ s =>
    if getBits (wdata a) 0 14 ≤ 16320 then s.poolAlloc a.init.val (getBits (wdata a) 0 14) else s) h

theorem poolAlloc_pending (c n : Nat) (h : p.get (POOL_ALLOC_RES.PENDING.of c) = 1) : p.poolAlloc c n = p :=
  if_pos (by simp [State.on, h])

theorem poolAlloc_asks (c n : Nat) (h : p.get (POOL_ALLOC_RES.PENDING.of c) = 0) :
    p.poolAlloc c n = (p.setRg ((POOL_ALLOC.reg.of c).key 0 0) n).put (POOL_ALLOC_RES.PENDING.of c) 1 :=
  if_neg (by simp [State.on, h])

theorem exec_poolAllocResult (dt : Nat) (i : Init) (same : Bool) (h : p.awake dt = true) :
    exec (.poolAllocResult dt i same) p = .next (p.finish ((p.pass dt).poolAllocResult i.val same)) :=
  State.engine_awake p dt (fun s => s.poolAllocResult i.val same) h

theorem poolAllocResult_none (c : Nat) (same : Bool) (h : p.get (POOL_ALLOC_RES.PENDING.of c) = 0) : p.poolAllocResult c same = p :=
  if_neg (by simp [State.on, h])

/-- The writer's copy takes the pointer, or the failure. -/
theorem poolAllocResult_decided (c : Nat) (same : Bool) (h : p.get (POOL_ALLOC_RES.PENDING.of c) = 1) (q : State) (pool : Nat)
    (ptr : Option Nat) (ha : p.alloc .core same (p.rg ((POOL_ALLOC.reg.of c).key 0 0)) 0x40 0 = (q, pool, ptr)) :
    p.poolAllocResult c same = q.setRg ((POOL_ALLOC_RES.reg.of c).key 0 0)
      (ptr.elim (2 ^ 32 + 2 ^ 33) (fun a => a % 2 ^ 32 + 2 ^ 33)) := by
  have hon : p.on (POOL_ALLOC_RES.PENDING.of c) = true := by simp [State.on, h]
  simp only [State.poolAllocResult, hon, if_true, ha]
  cases ptr <;> rfl

/-! POOL_FREE (R231, R232). -/

theorem exec_poolFree (a : Access) (h : p.takes a true POOL_FREE.reg 0 0 (wdata a) = true) :
    exec (.poolFree a) p = .next (p.finish (((p.pass a.dt).release (getBits (wdata a) 0 32) 0x40).setRsp .okay 0)) :=
  State.writeReg_takes p a POOL_FREE.reg 0 0 (wdata a) (fun _ s => s.release (getBits (wdata a) 0 32) 0x40) h

section
variable (ptr : Nat)

/-- The pointer names an enabled pool, with its reserved bits 0. -/
def PtrNamed : Prop := bitAt ptr 23 = false ∧ ptr / 2 ^ 27 = 0 ∧ getBits ptr 24 3 ≤ 4 ∧ p.poolOn (getBits ptr 24 3) = true

/-- Its address lies in the banks of the pool. -/
def PtrInside : Prop :=
  (p.pool (getBits ptr 24 3)).first * bankBytes ≤ getBits ptr 0 23 ∧
    getBits ptr 0 23 < ((p.pool (getBits ptr 24 3)).first + (p.pool (getBits ptr 24 3)).banks) * bankBytes

theorem ptrNamed_iff : ¬ PtrNamed p ptr ↔
    (bitAt ptr 23 = true ∨ ptr / 2 ^ 27 ≠ 0 ∨ 4 < ptrPool ptr ∨ p.poolOn (ptrPool ptr) = false) := by
  simp only [PtrNamed, ptrPool, Classical.not_and_iff_not_or_not, Bool.not_eq_false, Bool.not_eq_true, Nat.not_le, ne_eq]

theorem ptrInside_iff : ¬ PtrInside p ptr ↔ (ptrAddr ptr < (p.pool (ptrPool ptr)).first * bankBytes ∨
    ((p.pool (ptrPool ptr)).first + (p.pool (ptrPool ptr)).banks) * bankBytes ≤ ptrAddr ptr) := by
  simp only [PtrInside, ptrPool, ptrAddr, Classical.not_and_iff_not_or_not, Nat.not_le, Nat.not_lt]

/-! The checks of a pointer, in their order (R232). -/

theorem ptrCheck_unnamed (h : ¬ PtrNamed p ptr) : p.ptrCheck ptr = some (1, 5, POOL_EVT.PTR_BAD) :=
  if_pos ((ptrNamed_iff p ptr).mp h)

theorem ptrCheck_outside (h : PtrNamed p ptr) (hi : ¬ PtrInside p ptr) : p.ptrCheck ptr = some (2, 5, POOL_EVT.PTR_BAD) :=
  (if_neg (mt (ptrNamed_iff p ptr).mpr (not_not_intro h))).trans (if_pos ((ptrInside_iff p ptr).mp hi))

theorem ptrCheck_inside (h : PtrNamed p ptr) (hi : PtrInside p ptr) :
    p.ptrCheck ptr = if ¬ (getBits ptr 0 23 - (p.pool (getBits ptr 24 3)).first * bankBytes) %
        bufBytes (p.pool (getBits ptr 24 3)).size = 0 then some (3, 5, POOL_EVT.PTR_BAD)
      else if (p.buf ptr).refs = 0 then some (4, 6, POOL_EVT.DOUBLE_FREE) else none :=
  (if_neg (mt (ptrNamed_iff p ptr).mpr (not_not_intro h))).trans (if_neg (mt (ptrInside_iff p ptr).mpr (not_not_intro hi)))

/-- A pointer that fails a check counts, is logged, sets its event and changes no buffer. -/
theorem release_bad (hp : ptr < 2 ^ 32) (kind slot : Nat) (bit : Fld) (h : p.ptrCheck ptr = some (kind, slot, bit)) :
    p.release ptr 0x40 = (((p.count POOL_CNT.COUNT (if getBits ptr 24 3 ≤ 4 then getBits ptr 24 3 else 0) slot).setRg
      (POOL_PTR_LOG.reg.key 0 0) (ptr + 0x40 * 2 ^ 32 + kind * 2 ^ 40 + 2 ^ 43)).evt bit 0x44) := by
  simp only [State.release, h, ptrPool, Nat.mod_eq_of_lt hp, show 0x40 % 2 ^ 8 = 0x40 from rfl]
  rfl

/-- A release that leaves references lowers their count. -/
theorem release_shared (h : p.ptrCheck ptr = none) (hr : 1 < (p.buf ptr).refs) :
    p.release ptr 0x40 = p.setBuf ptr { p.buf ptr with refs := (p.buf ptr).refs - 1 } := by
  simp only [State.release, h, if_pos hr]

end

end Sys2Proof.Proofs

namespace Sys2Proof.Proofs

open Sys2Proof Sys2Proof.Machine

/-- Settles O42: the served commands by the pool of the bank, the request by PENDING, the release by the check that fails first. -/
theorem poolCommandsAndBuffers : Obligations.PoolCommandsAndBuffers := by
  have act (v x : Nat) : getBits (setBits v 0 2 x) 0 2 = x % 2 ^ 2 := getBits_setBits_same v 0 2 x
  refine ⟨fun a s h => ⟨fun hq => ?_, fun q hq => ⟨fun hw => ?_, fun hw => ?_⟩⟩,
    fun a s h => ⟨fun hq => ?_, fun q hq => ⟨fun hw => ?_, fun hw hon => ?_⟩⟩,
    fun a s h => ⟨fun hok => ?_, fun hok => ?_⟩,
    fun a s h => ⟨fun hp => ?_, fun hn hp => ?_⟩,
    fun dt i same s h => ⟨fun hp => ?_, fun hp q pool => ⟨fun ptr ha => ?_, fun ha => ?_⟩⟩,
    fun a s h => ?_,
    fun a s h => ?_⟩
  · rw [exec_withdraw s a h, poolCmd_unowned _ _ (.inl (act _ 1)) hq]
    rfl
  · rw [exec_withdraw s a h, poolCmd_withdraw _ _ q (act _ 1) hq, if_pos hw]
    rfl
  · rw [exec_withdraw s a h, poolCmd_withdraw _ _ q (act _ 1) hq, if_neg (by rw [hw]; decide), withdraw_eq]
    rfl
  · rw [exec_restore s a h, poolCmd_unowned _ _ (.inr (act _ 2)) hq]
    rfl
  · rw [exec_restore s a h, poolCmd_restore _ _ q (act _ 2) hq, if_pos hw]
    rfl
  · rw [exec_restore s a h, poolCmd_restore _ _ q (act _ 2) hq, if_neg (by rw [hw, hon]; decide)]
    rfl
  · rw [exec_redefine s a h, poolCmd_redefine_refused _ _ (act _ 3) hok]
    rfl
  · rw [exec_redefine s a h, poolCmd_redefine_taken _ _ (act _ 3) hok]
    rfl
  · rw [exec_poolAlloc s a h]
    split
    case isTrue hn => rw [poolAlloc_pending _ _ _ (hp.resolve_left (Nat.not_lt.mpr hn))]
    case isFalse => rfl
  · rw [exec_poolAlloc s a h, if_pos hn, poolAlloc_asks _ _ _ hp]
  · rw [exec_poolAllocResult s dt i same h, poolAllocResult_none _ _ _ hp]
  · rw [exec_poolAllocResult s dt i same h, poolAllocResult_decided _ _ _ hp q pool _ ha]
    rfl
  · rw [exec_poolAllocResult s dt i same h, poolAllocResult_decided _ _ _ hp q pool _ ha]
    rfl
  · exact State.readReg_takes s a POOL_ALLOC_RES.reg 0 _ h
  · rw [exec_poolFree s a h]
    have hptr : getBits (wdata a) 0 32 < 2 ^ 32 := getBits_lt _ _ _
    refine ⟨fun hn => ?_, fun hn hi => ?_, fun hn hi hal => ?_, fun hn hi hal hr => ?_, fun hn hi hal hr => ?_⟩
    · rw [release_bad _ _ hptr _ _ _ (ptrCheck_unnamed _ _ hn)]
    · rw [release_bad _ _ hptr _ _ _ (ptrCheck_outside _ _ hn hi)]
    · rw [release_bad _ _ hptr _ _ _ ((ptrCheck_inside _ _ hn hi).trans (if_pos hal))]
    · rw [release_bad _ _ hptr _ _ _ ((ptrCheck_inside _ _ hn hi).trans ((if_neg (not_not_intro hal)).trans (if_pos hr)))]
    · rw [release_shared _ _ ((ptrCheck_inside _ _ hn hi).trans ((if_neg (not_not_intro hal)).trans (if_neg (by omega)))) hr]

end Sys2Proof.Proofs
end


section
/-! SUPPORT. Partitions: PART_CTRL, PART_CMD, ring bases, doorbells, completion heads, and the end of a reset (R299, R302, R304, R306, R308). -/

namespace Sys2Proof.Proofs

open Sys2Proof Sys2Proof.Machine

variable (p : State) (i : Nat)

theorem bitAt_eq_testBit (v n : Nat) : bitAt v n = v.testBit n := by
  rw [bitAt, Nat.testBit_eq_decide_div_mod_eq]
  rfl

/-- A field of one bit is on where it is 1. -/
theorem on_iff_get_one (f : Fld) (j : Nat) (h : f.w = 1) : p.on f i j = true ↔ p.get f i j = 1 := by
  have hlt : p.get f i j < 2 := by simpa [h] using State.get_lt p f i j
  rw [State.on, bne_iff_ne]
  omega

/-! PART_CTRL (R299, R338). -/

/-- Does the word keep RX_LONG? -/
def RxLongKept (w : Nat) : Prop := w.testBit 1 = true ↔ p.get PART_CTRL.RX_LONG i = 1

/-- May the partition be enabled (R299)? -/
def PartMayEnable : Prop :=
  p.get PART_STAT.STATE i = 0 ∧ p.mode ≠ 0 ∧ p.mode ≠ 5 ∧ p.pairServed i (0x80 + 2 * i) = true ∧ p.pairServed i (0x81 + 2 * i) = true

/-- PART_CTRL stored. -/
def partCtrlStored (w : Nat) : State := p.setRg (PART_CTRL.reg.key i 0) (getBits w 0 2 + getBits w 4 12 * 16)

theorem rxLong_changes_iff (w : Nat) : bitAt w 1 ≠ p.on PART_CTRL.RX_LONG i ↔ ¬ RxLongKept p i w := by
  rw [RxLongKept, ← on_iff_get_one p i PART_CTRL.RX_LONG 0 rfl, bitAt_eq_testBit, ne_eq, Bool.eq_iff_iff]

theorem partMayEnable_iff :
    (p.partState i == partOff && p.mode != 0 && p.mode != 5 && p.pairServed i (txUnit i) && p.pairServed i (rxUnit i)) = true ↔
      PartMayEnable p i := by
  simp only [Bool.and_eq_true, beq_iff_eq, bne_iff_ne, and_assoc]
  rfl

theorem partCtrlWrite_long (w : Nat) (hs : p.get PART_STAT.STATE i ≠ 0) (hl : ¬ RxLongKept p i w) :
    p.partCtrlWrite i w = p.evt PART_EVT.CFG_REFUSED (0x58 + i) i :=
  if_pos ⟨hs, (rxLong_changes_iff p i w).2 hl⟩

section
variable (w : Nat) (hl : p.get PART_STAT.STATE i = 0 ∨ RxLongKept p i w)
include hl

theorem partCtrl_rxLong_taken : ¬ (p.partState i ≠ partOff ∧ bitAt w 1 ≠ p.on PART_CTRL.RX_LONG i) := by
  rw [rxLong_changes_iff]
  exact fun ⟨hs, hn⟩ => hl.elim hs hn

theorem partCtrlWrite_refused (he : w.testBit 0 = true) (h0 : p.get PART_CTRL.EN i = 0) (ha : ¬ PartMayEnable p i) :
    p.partCtrlWrite i w = p.evt PART_EVT.CMD_REFUSED (0x58 + i) i := by
  have hen : p.on PART_CTRL.EN i = false := by simp [State.on, h0]
  rw [← partMayEnable_iff, Bool.not_eq_true] at ha
  rw [State.partCtrlWrite, if_neg (partCtrl_rxLong_taken p i w hl), bitAt_eq_testBit w 0, he, hen, ha]
  rfl

theorem partCtrlWrite_activate (he : w.testBit 0 = true) (h0 : p.get PART_CTRL.EN i = 0) (ha : PartMayEnable p i) :
    p.partCtrlWrite i w = (partCtrlStored p i w).onPart i (fun h => { h with pend := .activate }) := by
  have hen : p.on PART_CTRL.EN i = false := by simp [State.on, h0]
  rw [← partMayEnable_iff] at ha
  rw [State.partCtrlWrite, if_neg (partCtrl_rxLong_taken p i w hl), bitAt_eq_testBit w 0, he, hen, ha]
  rfl

/-- EN keeps its value: only the register is stored. -/
theorem partCtrlWrite_same (he : w.testBit 0 = p.on PART_CTRL.EN i) : p.partCtrlWrite i w = partCtrlStored p i w := by
  rw [State.partCtrlWrite, if_neg (partCtrl_rxLong_taken p i w hl), bitAt_eq_testBit w 0, he]
  cases p.on PART_CTRL.EN i <;> rfl

/-- EN clears: an OFF partition forgets its activation, a RESETTING one will end in OFF, any other starts RESETTING. -/
theorem partCtrlWrite_clear (he : w.testBit 0 = false) (h1 : p.get PART_CTRL.EN i = 1) :
    p.partCtrlWrite i w =
      if p.get PART_STAT.STATE i = 0 then (partCtrlStored p i w).onPart i (fun h => { h with pend := .none })
      else if p.get PART_STAT.STATE i = 3 then (partCtrlStored p i w).onPart i (fun h => { h with resetToOff := true })
      else (partCtrlStored p i w).partResetStart i true := by
  have hen : p.on PART_CTRL.EN i = true := by simp [State.on, h1]
  rw [State.partCtrlWrite, if_neg (partCtrl_rxLong_taken p i w hl), bitAt_eq_testBit w 0, he, hen]
  rfl

end

theorem exec_partEnable (a : Access) (n : Fin 8) (h : p.takes a true PART_CTRL.reg n.val 0 (wdata a) = true) :
    exec (.partEnable a n) p = .next (p.finish (((p.pass a.dt).partCtrlWrite n.val
      ((p.pass a.dt).merged PART_CTRL.reg (accMask a PART_CTRL.reg n.val 0) (wdata a) n.val)).setRsp .okay 0)) :=
  State.writeReg_takes p a _ _ _ _ _ h

/-! PART_CMD (R299, R302). -/

theorem partCmd_reset : p.partCmd i 1 =
    if p.get PART_STAT.STATE i = 1 ∨ p.get PART_STAT.STATE i = 2 ∨ p.get PART_STAT.STATE i = 4 then p.partResetStart i false
    else p.evt PART_EVT.CMD_REFUSED (0x58 + i) i :=
  ite_congr (propext (or_congr_right or_comm)) (fun _ => rfl) (fun _ => rfl)

theorem partCmd_run : p.partCmd i 2 =
    if p.get PART_STAT.STATE i = 4 then p.onPart i (fun h => { h with pend := .run }) else p.evt PART_EVT.CMD_REFUSED (0x58 + i) i := rfl

theorem exec_partReset (a : Access) (n : Fin 8) (h : p.takes a true PART_CMD.reg n.val 0 (setBits (wdata a) 0 2 1) = true) :
    exec (.partReset a n) p = .next (p.finish (((p.pass a.dt).partCmd n.val 1).setRsp .okay 0)) :=
  State.writeReg_takes p a _ _ _ _ _ h

theorem exec_run (a : Access) (n : Fin 8) (h : p.takes a true PART_CMD.reg n.val 0 (setBits (wdata a) 0 2 2) = true) :
    exec (.run a n) p = .next (p.finish (((p.pass a.dt).partCmd n.val 2).setRsp .okay 0)) :=
  State.writeReg_takes p a _ _ _ _ _ h

/-! Ring bases (R13, R304). -/

theorem ringBaseWrite_eq (r w : Nat) : p.ringBaseWrite i r w =
    if p.get PART_STAT.STATE i ≠ 0 then p.evt PART_EVT.CFG_REFUSED (0x58 + i) i
    else if w % 1024 ≠ 0 ∨ getBits w 48 4 < 6 then p
    else p.setRg ((ringBaseReg r).key i 0) (w % 2 ^ 52) := by
  rw [State.ringBaseWrite, getBits_whole w 10, getBits_whole w 52]
  rfl

/-- Each ring has its base register. -/
theorem ringBaseReg_of_mem (ring : Fin 4) (f : Fld)
    (h : (ring, f) ∈ [((0 : Fin 4), PART_TXQ_BASE.reg), (1, PART_RXQ_BASE.reg), (2, PART_TXC_BASE.reg), (3, PART_RXC_BASE.reg)]) :
    f = ringBaseReg ring.val := by
  simp only [List.mem_cons, List.not_mem_nil, or_false, Prod.mk.injEq] at h
  obtain ⟨rfl, rfl⟩ | ⟨rfl, rfl⟩ | ⟨rfl, rfl⟩ | ⟨rfl, rfl⟩ := h <;> rfl

theorem exec_ringBaseWrite (a : Access) (n : Fin 8) (ring : Fin 4) (h : p.takes a true (ringBaseReg ring.val) n.val 0 (wdata a) = true) :
    exec (.ringBaseWrite a n ring) p = .next (p.finish (((p.pass a.dt).ringBaseWrite n.val ring.val ((p.pass a.dt).merged
      (ringBaseReg ring.val) (accMask a (ringBaseReg ring.val) n.val 0) (wdata a) n.val)).setRsp .okay 0)) :=
  State.writeReg_takes p a _ _ _ _ _ h

/-! Doorbells (R306). -/

/-- Is `new` a place the tail of a submission ring may move to (R306)? -/
def TailFits (rx : Bool) (new : Nat) : Prop :=
  new < 2 * p.ringN i (subRing rx) ∧
    ringDist (p.ringN i (subRing rx)) (p.ringTail i (subRing rx)) new ≤ p.ringN i (subRing rx) - p.ringUsed i (subRing rx)

theorem tailOk_iff (rx : Bool) (new : Nat) : p.tailOk i rx new = true ↔ TailFits p i rx new ∧ new ≠ p.ringTail i (subRing rx) := by
  simp only [State.tailOk, TailFits, Bool.and_eq_true, decide_eq_true_eq, bne_iff_ne]

theorem doorbell_same (rx : Bool) (new : Nat) (h : new = p.ringTail i (subRing rx)) : p.doorbell i rx new = p := if_pos h

theorem doorbell_moves (rx : Bool) (new : Nat) (hn : new ≠ p.ringTail i (subRing rx)) (h : TailFits p i rx new) :
    p.doorbell i rx new = (p.setTail i rx new).hostKick i := by
  rw [State.doorbell, if_neg hn, if_pos ((tailOk_iff p i rx new).2 ⟨h, hn⟩)]

theorem doorbell_error (rx : Bool) (new : Nat) (hn : new ≠ p.ringTail i (subRing rx)) (h : ¬ TailFits p i rx new) :
    p.doorbell i rx new = p.evt PART_EVT.DB_ERR (0x58 + i) i := by
  rw [State.doorbell, if_neg hn, if_neg (fun hk => h ((tailOk_iff p i rx new).1 hk).1)]
  rfl

theorem exec_txqDoorbell (a : Access) (n : Fin 8) (h : p.takes a true PART_TXQ_DB.reg n.val 0 (wdata a) = true) :
    exec (.txqDoorbell a n) p = .next (p.finish (((p.pass a.dt).doorbell n.val false (wdata a % 2 ^ 17)).setRsp .okay 0)) := by
  rw [← getBits_whole]
  exact State.writeReg_takes p a _ _ _ _ _ h

theorem exec_rxqDoorbell (a : Access) (n : Fin 8) (h : p.takes a true PART_RXQ_DB.reg n.val 0 (wdata a) = true) :
    exec (.rxqDoorbell a n) p = .next (p.finish (((p.pass a.dt).doorbell n.val true (wdata a % 2 ^ 17)).setRsp .okay 0)) := by
  rw [← getBits_whole]
  exact State.writeReg_takes p a _ _ _ _ _ h

/-! Completion heads (R308). -/

theorem headWrite_eq (rx : Bool) (new : Nat) : p.headWrite i rx new =
    if new < 2 * p.ringN i (cplRing rx) ∧
        ringDist (p.ringN i (cplRing rx)) (p.ringHead i (cplRing rx)) new ≤ p.ringUsed i (cplRing rx) then
      (State.cplDrain i rx 64 (p.put (if rx then PART_RXC_HEAD.HEAD else PART_TXC_HEAD.HEAD) new i)).hostKick i
    else p.evt PART_EVT.DB_ERR (0x58 + i) i := by
  simp only [State.headWrite, Bool.and_eq_true, decide_eq_true_eq]
  cases rx <;> rfl

theorem exec_completionHeadWrite (a : Access) (n : Fin 8) (rx : Bool)
    (h : p.takes a true (if rx then PART_RXC_HEAD.reg else PART_TXC_HEAD.reg) n.val 0 (wdata a) = true) :
    exec (.completionHeadWrite a n rx) p = .next (p.finish (((p.pass a.dt).headWrite n.val rx (wdata a % 2 ^ 17)).setRsp .okay 0)) := by
  rw [← getBits_whole]
  exact State.writeReg_takes p a _ _ _ _ _ h

/-! RESET_DONE (R302). -/

theorem partQuiet_iff : p.partQuiet i = true ↔ ∀ e ∈ p.host.reads ++ p.host.writes, e.2.part = i → e.2.dead = true := by
  simp only [State.partQuiet, ofPart, Bool.and_eq_true, List.all_filter, List.all_eq_true, Bool.or_eq_true, Bool.not_eq_true',
    beq_eq_false_iff_ne, ← Decidable.imp_iff_not_or, List.mem_append, or_imp, forall_and]

theorem resetDoneNext_iff : p.resetDoneNext i = true ↔ p.fixedRuns = true ∧ p.get PART_STAT.STATE i = 3 ∧
    ∀ e ∈ p.host.reads ++ p.host.writes, e.2.part = i → e.2.dead = true := by
  rw [← partQuiet_iff, State.resetDoneNext, Bool.and_eq_true, Bool.and_eq_true, beq_iff_eq, and_assoc]
  rfl

/-- A command that is the next edge where its condition holds. -/
theorem onEdge_runs (b : State → Bool) (h : p.runs 0 = true) :
    p.onEdge b = if b (p.pass 0) = true then exec .bellEdge p else .next (p.finish (p.pass 0)) := by
  have hb : exec .bellEdge p = .next (p.finish (p.pass 0).bellEdge) := State.main_runs p 0 State.bellEdge h
  rw [State.onEdge, State.main_runs p 0 (fun s => s.edgeIf (b s)) h, hb, State.edgeIf]
  split <;> rfl

theorem exec_resetDone (n : Fin 8) : exec (.resetDone n) p = p.onEdge (fun s => s.resetDoneNext n.val) := rfl

/-- Settles O46: one equation for each branch of each register write, and RESET_DONE is an edge under the condition of R302. -/
theorem partitionCommands : Obligations.PartitionCommands := by
  refine ⟨fun a i s h => ?_, fun a i s => ⟨fun h => ?_, fun h => ?_⟩, fun a i ring f s hf h => ?_, fun a i rx s h => ?_,
    fun a i rx s h => ?_, fun i s h => ?_⟩
  · have hx := exec_partEnable s a i h
    refine ⟨fun hs hl => ?_, fun hl => ⟨fun he h0 ha => ?_, fun he h0 ha => ?_, fun he h1 => ?_, fun he h0 => ?_, fun he h1 hs => ?_,
      fun he h1 hs => ?_, fun he h1 hs0 hs3 => ?_⟩⟩
    · rw [hx, partCtrlWrite_long _ _ _ hs hl]
    · rw [hx, partCtrlWrite_refused _ _ _ hl he h0 ha]
    · rw [hx, partCtrlWrite_activate _ _ _ hl he h0 ha, partCtrlStored]
    · rw [hx, partCtrlWrite_same _ _ _ hl (by rw [he, State.on, h1]; rfl), partCtrlStored]
    · rw [hx, partCtrlWrite_same _ _ _ hl (by rw [he, State.on, h0]; rfl), partCtrlStored]
    · rw [hx, partCtrlWrite_clear _ _ _ hl he h1, if_pos hs, partCtrlStored]
    · rw [hx, partCtrlWrite_clear _ _ _ hl he h1, if_neg (by rw [hs]; decide), if_pos hs, partCtrlStored]
    · rw [hx, partCtrlWrite_clear _ _ _ hl he h1, if_neg hs0, if_neg hs3, partCtrlStored]
      rfl
  · rw [exec_partReset s a i h, partCmd_reset]
    rfl
  · rw [exec_run s a i h, partCmd_run]
  · obtain rfl := ringBaseReg_of_mem ring f hf
    rw [exec_ringBaseWrite s a i ring h, ringBaseWrite_eq]
  · cases rx with
    | false =>
      have hx := exec_txqDoorbell s a i h
      refine ⟨fun hn => ?_, fun hn hv => ?_, fun hn hv => ?_⟩
      · exact hx.trans (by rw [doorbell_same (s.pass a.dt) i.val false _ hn])
      · exact hx.trans (by rw [doorbell_moves (s.pass a.dt) i.val false _ hn hv]; rfl)
      · exact hx.trans (by rw [doorbell_error (s.pass a.dt) i.val false _ hn hv])
    | true =>
      have hx := exec_rxqDoorbell s a i h
      refine ⟨fun hn => ?_, fun hn hv => ?_, fun hn hv => ?_⟩
      · exact hx.trans (by rw [doorbell_same (s.pass a.dt) i.val true _ hn])
      · exact hx.trans (by rw [doorbell_moves (s.pass a.dt) i.val true _ hn hv]; rfl)
      · exact hx.trans (by rw [doorbell_error (s.pass a.dt) i.val true _ hn hv])
  · rw [exec_completionHeadWrite s a i rx h, headWrite_eq]
    cases rx <;> rfl
  · have hx := onEdge_runs s (fun t => t.resetDoneNext i.val) h
    refine ⟨fun hd => ?_, fun hd => ?_⟩
    · rw [exec_resetDone, hx, if_pos ((resetDoneNext_iff _ _).2 hd)]
    · rw [exec_resetDone, hx, if_neg (fun hk => hd ((resetDoneNext_iff _ _).1 hk))]

end Sys2Proof.Proofs

end


section
/-! SUPPORT. The interrupt controller: presentation, claim, complete, coalescing, always-on latches and bell timers
(R340 to R355). -/

namespace Sys2Proof.Proofs

open Sys2Proof Sys2Proof.Machine

variable (p : State) (n : Nat)

/-! Presentation (R344 to R346). -/

/-- Withdrawn and counted, where the source is presented and may not stand. -/
def intWithdrawn : State :=
  if p.get INT_SRC_STAT.PRESENTED n = 1 ∧ ¬ (p.deliverable n = true ∧ p.tgtOpen n (p.get INT_SRC_STAT.TARGET n) = true) then
    (p.put INT_SRC_STAT.PRESENTED 0 n).count INT_CNT.COUNT 3
  else p

/-- Presented to target `j`, and counted. -/
def presentedTo (j : Nat) : State :=
  (((p.put INT_SRC_STAT.PRESENTED 1 n).put INT_SRC_STAT.TARGET j n).put INT_SRC_STAT.LAST j n).count INT_CNT.COUNT 0

theorem intEval_eq : p.intEval n =
    if (intWithdrawn p n).deliverable n && !(intWithdrawn p n).on INT_SRC_STAT.PRESENTED n then (intWithdrawn p n).present n
    else intWithdrawn p n := by
  have hw : (if p.on INT_SRC_STAT.PRESENTED n && !(p.deliverable n && p.tgtOpen n (p.get INT_SRC_STAT.TARGET n)) then
      (p.put INT_SRC_STAT.PRESENTED 0 n).count INT_CNT.COUNT 3 else p) = intWithdrawn p n :=
    ite_congr (by rw [Bool.and_eq_true, Bool.not_eq_true', on_iff_get_one _ _ _ _ rfl, ← Bool.and_eq_true, Bool.not_eq_true])
      (fun _ => rfl) (fun _ => rfl)
  rw [State.intEval, hw]

theorem nextTarget_eq_none (h : ∀ j < 16, p.tgtOpen n j = false) : p.nextTarget n = none := by
  simp only [State.nextTarget, List.find?_eq_none, List.mem_map]
  rintro _ ⟨d, -, rfl⟩
  simp [h _ (Nat.mod_lt _ (by decide))]

/-- The first open target after LAST. -/
theorem nextTarget_eq_some (d : Nat) (hd : d < 16) (ho : p.tgtOpen n ((p.get INT_SRC_STAT.LAST n + 1 + d) % 16) = true)
    (hb : ∀ e < d, p.tgtOpen n ((p.get INT_SRC_STAT.LAST n + 1 + e) % 16) = false) :
    p.nextTarget n = some ((p.get INT_SRC_STAT.LAST n + 1 + d) % 16) := by
  have hf : (List.range 16).find? ((fun t => p.tgtOpen n t) ∘ fun d => (p.get INT_SRC_STAT.LAST n + 1 + d) % 16) = some d := by
    rw [List.find?_range_eq_some]
    exact ⟨ho, List.mem_range.2 hd, fun e he => by simp [hb e he]⟩
  rw [State.nextTarget, List.find?_map, hf, Option.map_some]

theorem present_of_none (h : p.nextTarget n = none) : p.present n = p := by rw [State.present, h]

theorem present_level (j : Nat) (h : p.nextTarget n = some j) (he : isEdgeSrc n = false) : p.present n = presentedTo p n j := by
  rw [State.present, h]
  simp only [he]
  rfl

theorem present_edge (j : Nat) (h : p.nextTarget n = some j) (he : isEdgeSrc n = true) :
    p.present n = if (presentedTo p n j).coalCount n then (presentedTo p n j).count INT_CNT.COUNT 5
      else (presentedTo p n j).count INT_CNT.COUNT 6 := by
  rw [State.present, h]
  simp only [he, if_true]
  rfl

theorem intEval_stays (h : (intWithdrawn p n).deliverable n = false ∨ (intWithdrawn p n).get INT_SRC_STAT.PRESENTED n = 1 ∨
    ∀ j < 16, (intWithdrawn p n).tgtOpen n j = false) : p.intEval n = intWithdrawn p n := by
  rw [intEval_eq]
  rcases h with h | h | h
  · rw [h]
    rfl
  · rw [(on_iff_get_one _ _ _ _ rfl).2 h, Bool.not_true, Bool.and_false]
    rfl
  · rw [present_of_none _ _ (nextTarget_eq_none _ _ h), ite_self]

theorem intEval_presents (hd : (intWithdrawn p n).deliverable n = true) (hp : (intWithdrawn p n).get INT_SRC_STAT.PRESENTED n = 0) :
    p.intEval n = (intWithdrawn p n).present n := by
  rw [intEval_eq, hd, State.on, hp]
  rfl

/-! Sources presented to a target. -/

theorem mapGet_of_not_mem {α : Type} (d : Nat → α) (m : List (Nat × α)) (k : Nat) (h : ∀ e ∈ m, e.1 ≠ k) : mapGet d m k = d k := by
  induction m with
  | nil => rfl
  | cons e m ih =>
    rw [mapGet, if_neg (h e List.mem_cons_self).symm]
    exact ih (fun x hx => h x (List.mem_cons_of_mem _ hx))

theorem mem_touchedSources : n ∈ p.touchedSources ↔
    ∃ e ∈ p.regs, (INT_SRC_STAT.reg.base ≤ e.1 ∧ e.1 < INT_SRC_STAT.reg.base + 8 * 256) ∧ (e.1 - INT_SRC_STAT.reg.base) / 8 = n := by
  simp only [State.touchedSources, List.mem_filterMap, Option.ite_none_right_eq_some, Option.some.injEq]

theorem lt_of_mem_touchedSources (h : n ∈ p.touchedSources) : n < 256 := by
  obtain ⟨e, -, ⟨hlo, hhi⟩, rfl⟩ := (mem_touchedSources p n).1 h
  omega

/-- No source is presented at reset. -/
theorem resetWord_not_presented (i : Fin 256) :
    getBits (resetWord (INT_SRC_STAT.PRESENTED.key i.val 0)).toNat INT_SRC_STAT.PRESENTED.lo INT_SRC_STAT.PRESENTED.w = 0 := by
  revert i
  decide +kernel

theorem mem_touchedSources_of_presented (hn : n < 256) (h : p.get INT_SRC_STAT.PRESENTED n = 1) : n ∈ p.touchedSources := by
  refine Classical.byContradiction (fun hk => ?_)
  have hr : mapGet resetWord p.regs (INT_SRC_STAT.PRESENTED.key n 0) = resetWord (INT_SRC_STAT.PRESENTED.key n 0) := by
    refine mapGet_of_not_mem _ _ _ (fun e he hkey => hk ((mem_touchedSources p n).2 ⟨e, he, ?_⟩))
    rw [hkey]
    simp only [Fld.key, INT_SRC_STAT.PRESENTED, INT_SRC_STAT.reg]
    omega
  rw [State.get, State.rg, hr, resetWord_not_presented ⟨n, hn⟩] at h
  exact absurd h (by decide)

theorem mem_presentedOn (j : Nat) : n ∈ p.presentedOn j ↔
    n < 256 ∧ p.get INT_SRC_STAT.PRESENTED n = 1 ∧ p.get INT_SRC_STAT.TARGET n = j := by
  rw [State.presentedOn, List.mem_filter, Bool.and_eq_true, on_iff_get_one _ _ _ _ rfl, beq_iff_eq]
  exact ⟨fun ⟨hm, h⟩ => ⟨lt_of_mem_touchedSources p n hm, h⟩, fun ⟨hn, h, ht⟩ => ⟨mem_touchedSources_of_presented p n hn h, h, ht⟩⟩

/-! Claim (R349, R350) and complete (R351). -/

/-- Does source `n` come before source `m` in a claim, or is it the same? -/
def ClaimsBefore (m : Nat) : Prop :=
  p.get INT_SRC_CFG.PRIO m < p.get INT_SRC_CFG.PRIO n ∨ p.get INT_SRC_CFG.PRIO m = p.get INT_SRC_CFG.PRIO n ∧ n ≤ m

theorem topSource_isSome (l : List Nat) (h : l ≠ []) : (p.topSource l).isSome = true := by
  obtain ⟨m, ms, rfl⟩ := List.exists_cons_of_ne_nil h
  rw [State.topSource]
  split
  · rfl
  · split <;> rfl

theorem topSource_first (l : List Nat) (m : Nat) (h : p.topSource l = some m) : m ∈ l ∧ ∀ x ∈ l, ClaimsBefore p m x := by
  induction l generalizing m with
  | nil => exact absurd h (by simp [State.topSource])
  | cons a l ih =>
    rw [State.topSource] at h
    split at h
    next hl =>
      have hnil : l = [] := by
        refine Classical.byContradiction (fun hne => ?_)
        have hs := topSource_isSome p l hne
        rw [hl] at hs
        exact absurd hs (by decide)
      cases h
      subst hnil
      simp [ClaimsBefore]
    next b hl =>
      obtain ⟨hb, hmax⟩ := ih b hl
      unfold ClaimsBefore at hmax ⊢
      split at h <;> cases h
      next hab =>
        refine ⟨List.mem_cons_self, fun x hx => ?_⟩
        rcases List.mem_cons.1 hx with rfl | hx
        · exact .inr ⟨rfl, Nat.le_refl _⟩
        · have := hmax x hx
          omega
      next hab =>
        refine ⟨List.mem_cons_of_mem _ hb, fun x hx => ?_⟩
        rcases List.mem_cons.1 hx with rfl | hx
        · omega
        · exact hmax x hx

theorem topSource_eq_some (l : List Nat) (hn : n ∈ l) (h : ∀ x ∈ l, ClaimsBefore p n x) : p.topSource l = some n := by
  obtain ⟨m, hm⟩ := Option.isSome_iff_exists.1 (topSource_isSome p l (List.ne_nil_of_mem hn))
  obtain ⟨hml, hmax⟩ := topSource_first p l m hm
  have h1 := h m hml
  have h2 := hmax n hn
  unfold ClaimsBefore at h1 h2
  rw [hm, show m = n by omega]

theorem claim_spurious (j : Nat) (h : p.presentedOn j = [] ∨ 8 ≤ (p.claimedBy j).length) :
    p.claim j = (p.count INT_CNT.COUNT 2, 0x3FF) := by
  rcases h with h | h
  · rw [State.claim, h]
    rfl
  · rw [State.claim, decide_eq_false (by omega)]
    cases p.topSource (p.presentedOn j) <;> rfl

/-- The source presented no more, and claimed. -/
def claimedState : State := (p.put INT_SRC_STAT.PRESENTED 0 n).put INT_SRC_STAT.CLAIMED 1 n

theorem claim_first (j : Nat) (h8 : (p.claimedBy j).length < 8) (hn : n ∈ p.presentedOn j)
    (h : ∀ x ∈ p.presentedOn j, ClaimsBefore p n x) :
    p.claim j = ((if isEdgeSrc n then ((claimedState p n).put INT_SRC_STAT.PEND 0 n).put INT_SRC_STAT.HELD 0 n
      else claimedState p n).count INT_CNT.COUNT 1, n) := by
  rw [State.claim, topSource_eq_some p n _ hn h, decide_eq_true h8]
  rfl

theorem exec_intTgttClaim (a : Access) (j : Fin 16) (h : p.takes a false INT_TGT_CLAIM.reg j.val 0 0 = true) :
    exec (.intTgttClaim a j) p = .next (p.finish (((p.pass a.dt).claim j.val).1.setRsp .okay
      (((p.pass a.dt).claim j.val).2.land (accMask a INT_TGT_CLAIM.reg j.val 0)))) :=
  State.readReg_takes p a _ _ _ h

theorem complete_eq (j : Nat) : p.complete j n =
    if n < 256 ∧ p.get INT_SRC_STAT.CLAIMED n = 1 ∧ p.get INT_SRC_STAT.TARGET n = j then (p.put INT_SRC_STAT.CLAIMED 0 n).intEval n
    else (p.put INT_TGT_STAT.CMPL_ERR 1 j).count INT_CNT.COUNT 4 :=
  ite_congr (by rw [on_iff_get_one _ _ _ _ rfl]) (fun _ => rfl) (fun _ => rfl)

theorem exec_intTgttComplete (a : Access) (j : Fin 16) (h : p.takes a true INT_TGT_COMPLETE.reg j.val 0 (wdata a) = true) :
    exec (.intTgttComplete a j) p = .next (p.finish (((p.pass a.dt).complete j.val (wdata a % 2 ^ 10)).setRsp .okay 0)) := by
  rw [← getBits_whole]
  exact State.writeReg_takes p a _ _ _ _ _ h

/-! INT_PEND, and configuration (R13, R340, R346). -/

theorem exec_intPend (a : Access) (k : Fin 4) (h : p.takes a true INT_PEND.reg k.val 0 (wdata a) = true) :
    exec (.intPend a k) p = .next (p.finish (((p.pass a.dt).pendWrite k.val
      ((wdata a).land (accMask a INT_PEND.reg k.val 0))).setRsp .okay 0)) :=
  State.writeReg_takes p a _ _ _ _ _ h

/-- COAL_CNT 0 is outside the range of the field. -/
theorem srcCfgWrite_eq (w : Nat) : p.srcCfgWrite n w =
    if getBits w 8 8 = 0 then p else (p.setRg (INT_SRC_CFG.reg.key n 0) w).intEval n := by
  have hr : rangeOk INT_SRC_CFG.reg.base w = (getBits w 8 8 != 0) := rfl
  rw [State.srcCfgWrite, hr]
  by_cases h : getBits w 8 8 = 0 <;> simp [h]

theorem exec_intSrcCfgWrite (a : Access) (m : Fin 256) (h : p.takes a true INT_SRC_CFG.reg m.val 0 (wdata a) = true) :
    exec (.intSrcCfgWrite a false m) p = .next (p.finish (((p.pass a.dt).srcCfgWrite m.val
      ((p.pass a.dt).merged INT_SRC_CFG.reg (accMask a INT_SRC_CFG.reg m.val 0) (wdata a) m.val)).setRsp .okay 0)) :=
  State.writeReg_takes p a _ _ _ _ _ h

theorem exec_intTgtCtrlWrite (a : Access) (m : Fin 256) (h : p.takes a true INT_TGT_CTRL.reg (m.val % 16) 0 (wdata a) = true) :
    exec (.intSrcCfgWrite a true m) p = .next (p.finish (((p.pass a.dt).tgtCtrlWrite (m.val % 16)
      ((p.pass a.dt).merged INT_TGT_CTRL.reg (accMask a INT_TGT_CTRL.reg (m.val % 16) 0) (wdata a) (m.val % 16))).setRsp .okay 0)) :=
  State.writeReg_takes p a _ _ _ _ _ h

/-! COAL_TIME (R342). -/

theorem srcPend_edge (h : isEdgeSrc n = true) : p.srcPend n = p.on INT_SRC_STAT.PEND n := by
  unfold isEdgeSrc at h
  unfold State.srcPend
  split at h
  next hk => rw [hk]
  · exact absurd h (by decide)

/-- Is the source an edge source that holds events? -/
def CoalDue : Prop := isEdgeSrc n = true ∧ p.get INT_SRC_STAT.PEND n = 1 ∧ p.get INT_SRC_STAT.HELD n ≠ 0

theorem coalDue_iff : (isEdgeSrc n && p.srcPend n && p.on INT_SRC_STAT.HELD n) = true ↔ CoalDue p n := by
  rw [CoalDue, Bool.and_eq_true, Bool.and_eq_true, and_assoc, ← on_iff_get_one p n INT_SRC_STAT.PEND 0 rfl]
  refine and_congr_right (fun he => and_congr ?_ ?_)
  · rw [srcPend_edge p n he]
  · rw [State.on, bne_iff_ne]

theorem coalExpire_due (h : CoalDue p n) : p.coalExpire n =
    (p.advanceTo (mapGet (fun _ => 0) p.intT0 n + 1000 * p.get INT_SRC_CFG.COAL_TIME n)).intEval n :=
  if_pos ((coalDue_iff p n).2 h)

theorem coalExpire_idle (h : ¬ CoalDue p n) : p.coalExpire n = p := if_neg (fun hk => h ((coalDue_iff p n).1 hk))

theorem exec_coalTime (m : Fin 256) (h : p.runs 0 = true) : exec (.coalTime m) p = .next (p.finish ((p.pass 0).coalExpire m.val)) :=
  State.main_runs p 0 (fun s => s.coalExpire m.val) h

/-! Always-on latches (R353, R354, R502, R518). -/

section
variable (l : Nat) (rising : Bool)

/-- The level of a tamper input shown (R502). -/
def tamperShown : State :=
  if 2 ≤ l ∧ l ≤ 9 then
    p.put TAMPER_STAT.LEVEL (if rising then (p.get TAMPER_STAT.LEVEL).lor (2 ^ (l - 2))
      else p.get TAMPER_STAT.LEVEL - (p.get TAMPER_STAT.LEVEL).land (2 ^ (l - 2)))
  else p

/-- Does the configuration, or for a source without one the kind of the source, select this edge (R353)? -/
def LatchChosen : Prop :=
  (l ≤ 0x11 ∧ bitAt (p.get INT_AON_CFG.EDGE) (2 * l + (if rising then 0 else 1)) = true) ∨ (0x11 < l ∧ l ≤ 0x18 ∧ rising = true)

theorem latchEdge_iff : p.latchEdge l rising = true ↔ LatchChosen p l rising := by
  unfold State.latchEdge LatchChosen
  by_cases hl : l ≤ 0x11
  · rw [if_pos hl]
    exact ⟨fun hb => .inl ⟨hl, hb⟩, fun hc => hc.elim (fun hb => hb.2) (fun hk => absurd hl (Nat.not_le.2 hk.1))⟩
  · rw [if_neg hl, Bool.and_eq_true, decide_eq_true_eq]
    exact ⟨fun ⟨hr, hk⟩ => .inr ⟨Nat.not_le.1 hl, hk, hr⟩, fun hc => hc.elim (fun hb => absurd hb.1 hl) (fun ⟨_, hk, hr⟩ => ⟨hr, hk⟩)⟩

theorem latchSet_eq : p.latchSet l rising =
    if (tamperShown p l rising).latchEdge l rising then
      if 0x0A ≤ l ∧ l ≤ 0x0F then ((tamperShown p l rising).latch l).wakeAonSrc l else (tamperShown p l rising).latch l
    else tamperShown p l rising := rfl

theorem latchSet_idle (h : ¬ LatchChosen (tamperShown p l rising) l rising) : p.latchSet l rising = tamperShown p l rising := by
  rw [latchSet_eq, if_neg (fun hk => h ((latchEdge_iff _ _ _).1 hk))]

/-- Is the input a PHY that may wake the block? -/
def LatchWakes : Prop := 0x0A ≤ l ∧ l ≤ 0x0F ∧ bitAt (p.get PWR_WAKE_EN.EN) l = true

section
variable (h : LatchChosen (tamperShown p l rising) l rising)
include h

theorem latchSet_wakes (hw : LatchWakes ((tamperShown p l rising).latch l) l) :
    p.latchSet l rising = ((tamperShown p l rising).latch l).wake wkAon l := by
  obtain ⟨hlo, hhi, hen⟩ := hw
  rw [latchSet_eq, if_pos ((latchEdge_iff _ _ _).2 h), if_pos ⟨hlo, hhi⟩, State.wakeAonSrc, if_pos hen]

theorem latchSet_latches (hw : ¬ LatchWakes ((tamperShown p l rising).latch l) l) :
    p.latchSet l rising = (tamperShown p l rising).latch l := by
  rw [latchSet_eq, if_pos ((latchEdge_iff _ _ _).2 h)]
  by_cases hl : 0x0A ≤ l ∧ l ≤ 0x0F
  · rw [if_pos hl, State.wakeAonSrc, if_neg (fun hen => hw ⟨hl.1, hl.2, hen⟩)]
  · rw [if_neg hl]

end

/-- May the latch be transferred now? -/
def LatchDue : Prop := bitAt (p.get INT_AON_LATCH.SET) l = true ∧ p.chip.mainReset = false ∧ p.chip.clkUp.getLsbD 0 = true

/-- The latch cleared, and its merged mark. -/
def latchCleared : State :=
  { p.put INT_AON_LATCH.SET (p.get INT_AON_LATCH.SET - 2 ^ l) with latchMerged := p.latchMerged &&& ~~~(1#32 <<< l) }

theorem latchDue_iff : (bitAt (p.get INT_AON_LATCH.SET) l && !p.chip.mainReset && p.chip.clkUp.getLsbD 0) = true ↔ LatchDue p l := by
  rw [LatchDue, Bool.and_eq_true, Bool.and_eq_true, Bool.not_eq_true', and_assoc]

theorem latchTransfer_due (h : LatchDue p l) : p.latchTransfer l =
    (if p.latchMerged.getLsbD l then (latchCleared p l).count INT_CNT.COUNT 7 else latchCleared p l).raise l :=
  if_pos ((latchDue_iff p l).2 h)

theorem latchTransfer_idle (h : ¬ LatchDue p l) : p.latchTransfer l = p := if_neg (fun hk => h ((latchDue_iff p l).1 hk))

end

theorem exec_latchSet (dt : Nat) (l : Fin 32) (rising : Bool) (h : p.alive = true) :
    exec (.latchSet dt l rising) p = .next (p.finish ((p.pass dt).latchSet l.val rising)) :=
  State.always_alive p dt (fun s => s.latchSet l.val rising) h

theorem exec_latchTransfer (dt : Nat) (l : Fin 32) (h : p.runs dt = true) :
    exec (.latchTransfer dt l) p = .next (p.finish ((p.pass dt).latchTransfer l.val)) :=
  State.main_runs p dt (fun s => s.latchTransfer l.val) h

/-! Bell timers (R355). -/

theorem timerNext_iff : p.timerNext n = true ↔ p.fixedRuns = true ∧ p.get INT_BTMR.EN n = 1 ∧ p.get INT_BTMR.LEFT n = 1 := by
  rw [State.timerNext, Bool.and_eq_true, Bool.and_eq_true, on_iff_get_one _ _ _ _ rfl, beq_iff_eq, and_assoc]

theorem exec_btmr (k : Fin 8) : exec (.btmr k) p = p.onEdge (fun s => s.timerNext k.val) := rfl

theorem btmrWrite_range (w : Nat) (h : getBits w 16 16 = 0) : p.btmrWrite n w = p :=
  if_neg (by rw [nonzero, bne_iff_ne]; exact not_not_intro h)

/-- PERIOD in range: the register takes the word, and LEFT loads where EN rises. -/
theorem btmrWrite_stored (w : Nat) (h : getBits w 16 16 ≠ 0) : p.btmrWrite n w =
    if bitAt w 0 && !p.on INT_BTMR.EN n then
      (p.setRg (INT_BTMR.reg.key n 0) w).put INT_BTMR.LEFT ((p.setRg (INT_BTMR.reg.key n 0) w).get INT_BTMR.PERIOD n) n
    else p.setRg (INT_BTMR.reg.key n 0) w :=
  if_pos (by rw [nonzero, bne_iff_ne]; exact h)

theorem exec_intBtmrWrite (a : Access) (k : Fin 8) (h : p.takes a true INT_BTMR.reg k.val 0 (wdata a) = true) :
    exec (.intBtmrWrite a k) p = .next (p.finish (((p.pass a.dt).btmrWrite k.val
      ((p.pass a.dt).merged INT_BTMR.reg (accMask a INT_BTMR.reg k.val 0) (wdata a) k.val)).setRsp .okay 0)) :=
  State.writeReg_takes p a _ _ _ _ _ h

/-- Settles O49: presentation from `intEval_eq`, the claim order from `topSource_first`, and one equation for each branch of the
latches, of coalescing and of the timers. -/
theorem interruptDelivery : Obligations.InterruptDelivery := by
  refine ⟨fun t n => ⟨fun h => intEval_stays t n h, fun d hd hp hf => ⟨fun he => ?_, fun he hc => ?_, fun he hc => ?_⟩⟩,
    fun t n j => mem_presentedOn t n j, fun a j s h => ⟨fun hs => ?_, fun h8 n hn hmax => ⟨fun he => ?_, fun he => ?_⟩⟩,
    fun a j s h => ?_, fun a k s h => exec_intPend s a k h, fun a n s => ⟨fun h => ?_, fun h => exec_intTgtCtrlWrite s a n h⟩,
    fun n s h => ⟨fun hd => ?_, fun hd => ?_⟩, fun dt l rising s h => ⟨fun hc => ?_, fun hc hw => ?_, fun hc hw => ?_⟩,
    fun dt l s h => ⟨fun hd hm => ?_, fun hd hm => ?_, fun hd => ?_⟩, fun k s h => ⟨fun hd => ?_, fun hd => ?_⟩,
    fun a k s h => ⟨fun hz => ?_, fun hz hb h0 => ?_, fun hz hb => ?_⟩⟩
  · exact (intEval_presents t n hd hp).trans (present_level _ _ _ (nextTarget_eq_some _ _ d hf.1 hf.2.1 hf.2.2) he)
  · refine (intEval_presents t n hd hp).trans ((present_edge _ _ _ (nextTarget_eq_some _ _ d hf.1 hf.2.1 hf.2.2) he).trans (if_pos ?_))
    exact decide_eq_true hc
  · refine (intEval_presents t n hd hp).trans ((present_edge _ _ _ (nextTarget_eq_some _ _ d hf.1 hf.2.1 hf.2.2) he).trans (if_neg ?_))
    exact fun hk => absurd (of_decide_eq_true hk) (Nat.not_le.2 hc)
  · rw [exec_intTgttClaim s a j h, claim_spurious _ _ hs]
  · rw [exec_intTgttClaim s a j h, claim_first _ n _ h8 hn hmax, if_pos he, claimedState]
  · rw [exec_intTgttClaim s a j h, claim_first _ n _ h8 hn hmax, if_neg (by rw [he]; decide), claimedState]
  · rw [exec_intTgttComplete s a j h, complete_eq]
  · rw [exec_intSrcCfgWrite s a n h, srcCfgWrite_eq]
  · rw [exec_coalTime s n h, coalExpire_due _ _ hd]
  · rw [exec_coalTime s n h, coalExpire_idle _ _ hd]
  · exact (exec_latchSet s dt l rising h).trans (by rw [latchSet_idle (s.pass dt) l.val rising hc]; rfl)
  · exact (exec_latchSet s dt l rising h).trans (by rw [latchSet_wakes (s.pass dt) l.val rising hc hw]; rfl)
  · exact (exec_latchSet s dt l rising h).trans (by rw [latchSet_latches (s.pass dt) l.val rising hc hw]; rfl)
  · rw [exec_latchTransfer s dt l h, latchTransfer_due _ _ hd, hm]
    rfl
  · rw [exec_latchTransfer s dt l h, latchTransfer_due _ _ hd, hm]
    rfl
  · rw [exec_latchTransfer s dt l h, latchTransfer_idle _ _ hd]
  · rw [exec_btmr, onEdge_runs s (fun t => t.timerNext k.val) h, if_pos ((timerNext_iff _ _).2 hd)]
  · rw [exec_btmr, onEdge_runs s (fun t => t.timerNext k.val) h, if_neg (fun hk => hd ((timerNext_iff _ _).1 hk))]
  · rw [exec_intBtmrWrite s a k h, btmrWrite_range _ _ _ hz]
  · rw [exec_intBtmrWrite s a k h, btmrWrite_stored _ _ _ hz, hb, State.on, h0]
    rfl
  · rw [exec_intBtmrWrite s a k h, btmrWrite_stored _ _ _ hz, if_neg]
    rw [Bool.and_eq_true, Bool.not_eq_true', ← Bool.not_eq_true, on_iff_get_one _ _ _ _ rfl]
    rintro ⟨hb1, hen⟩
    exact hb.elim (fun hb0 => absurd (hb0.symm.trans hb1) (by decide)) hen

end Sys2Proof.Proofs

end

section
/-! SUPPORT. Software mode requests, the role command, and the role change that applies (R16 to R27, R33 to R37). -/

namespace Sys2Proof.Proofs

open Sys2Proof Sys2Proof.Machine

variable (p : State)

/-! GLB_MODE_REQ (R33, R34, R36). -/

/-- Is the request for mode `t` a software-request row of R33 whose change waits for an edge? -/
def SoftwareRow (t : Nat) : Prop := (p.mode = 1 ∧ t = 2) ∨ (p.mode = 2 ∧ t = 1 ∧ p.lifeCycle ≤ 1) ∨ (p.mode = 3 ∧ t ≤ 1)

/-- Does the request for mode `t` enter HALT? -/
def HaltRow (t : Nat) : Prop := t = 5 ∧ p.mode ≤ 3

section
variable (t : Nat)

theorem SoftwareRow.not_current (h : SoftwareRow p t) : t ≠ 4 ∧ t ≠ p.mode ∧ ¬ HaltRow p t := by
  unfold SoftwareRow at h
  unfold HaltRow
  omega

theorem HaltRow.not_current (h : HaltRow p t) : t ≠ 4 ∧ t ≠ p.mode := by
  unfold HaltRow at h
  omega

theorem modeReq_current (h4 : t ≠ 4) (h : t = p.mode) : p.modeReq t = p :=
  (if_neg h4).trans (if_pos h)

theorem modeReq_sleep (h : t = 4) : p.modeReq t = p.put GLB_MODE.REQ_ERR 1 := if_pos h

theorem modeReq_halt (h : HaltRow p t) : p.modeReq t = p.enterHalt 9 :=
  have ⟨h4, hm⟩ := h.not_current
  (if_neg h4).trans ((if_neg hm).trans (if_pos h))

theorem modeReq_waits (h : SoftwareRow p t) : p.modeReq t = (p.put GLB_MODE.REQ_PEND 1).put GLB_MODE.REQ_TARGET t :=
  have ⟨h4, hm, hh⟩ := h.not_current
  (if_neg h4).trans ((if_neg hm).trans ((if_neg hh).trans (if_pos h)))

theorem modeReq_refused (hm : t ≠ p.mode) (hr : ¬ SoftwareRow p t) (hh : ¬ HaltRow p t) : p.modeReq t = p.put GLB_MODE.REQ_ERR 1 :=
  ite_eq_left_iff.2 fun _ => (if_neg hm).trans ((if_neg hh).trans (if_neg hr))

theorem exec_modeRequest (a : Access) (o : Host.Outcome State Fault Refusal)
    (ho : t = 0 ∧ o = exec (.requestStart a) p ∨ t = 1 ∧ o = exec (.requestTest a) p ∨ t = 2 ∧ o = exec (.requestService a) p ∨
      t = 4 ∧ o = exec (.requestSleep a) p ∨ t = 5 ∧ o = exec (.haltRequest a) p)
    (h : p.takes a true GLB_MODE_REQ.reg 0 0 (setBits (wdata a) 0 3 t) = true) :
    o = .next (p.finish (((p.pass a.dt).modeReq t).setRsp .okay 0)) := by
  obtain ⟨rfl, rfl⟩ | ⟨rfl, rfl⟩ | ⟨rfl, rfl⟩ | ⟨rfl, rfl⟩ | ⟨rfl, rfl⟩ := ho <;> exact State.writeReg_takes p a _ 0 0 _ _ h

end

/-! GLB_ROLE_CMD (R16, R22, R26, R27). -/

section
variable (w : Nat)

/-- No such unit, no such function, or DIAG outside TEST and RECOVERY (R16, R17, R27). -/
abbrev RoleRangeBad : Prop := unitValid (getBits w 0 10) = false ∨ UnitFunc.ofCode (getBits w 20 4) = none ∨
  (UnitFunc.ofCode (getBits w 20 4) = some .diag ∧ p.mode ≠ 1 ∧ p.mode ≠ 3)

/-- The owner that the word names is not the unit's. -/
abbrev RoleOwnerBad : Prop := unitValid (getBits w 0 10) = true ∧ getBits w 16 4 ≠ ownerCode (p.role (getBits w 0 10)).owner

/-- The generation that the word names is not the unit's (R22). -/
abbrev RoleGenBad : Prop := unitValid (getBits w 0 10) = true ∧ getBits w 32 16 ≠ (p.role (getBits w 0 10)).gen.toNat

/-- A change of the unit waits already. -/
abbrev RoleBusy : Prop := unitValid (getBits w 0 10) = true ∧ (p.role (getBits w 0 10)).pend ≠ none

/-- Is the command refused (R27)? -/
abbrev RoleRefused : Prop := RoleRangeBad p w ∨ RoleOwnerBad p w ∨ RoleGenBad p w ∨ RoleBusy p w

/-- Every refusal that holds sets its bit, and a stale generation counts. -/
def roleRefusalShown : State :=
  let q := if RoleRangeBad p w then p.put GLB_ROLE_STAT.RANGE_REFUSED 1 else p
  let q := if RoleOwnerBad p w then q.put GLB_ROLE_STAT.OWNER_REFUSED 1 else q
  let q := if RoleGenBad p w then (q.count GLB_STALE_CNT.COUNT).put GLB_ROLE_STAT.STALE_REFUSED 1 else q
  if RoleBusy p w then q.put GLB_ROLE_STAT.BUSY 1 else q

theorem roleRangeBad_iff : (!unitValid (getBits w 0 10) || (UnitFunc.ofCode (getBits w 20 4)).isNone ||
    (UnitFunc.ofCode (getBits w 20 4) == some .diag && p.mode != 1 && p.mode != 3)) = true ↔ RoleRangeBad p w := by
  simp only [Bool.or_eq_true, Bool.and_eq_true, Bool.not_eq_true', Option.isNone_iff_eq_none, beq_iff_eq, bne_iff_ne, or_assoc, and_assoc]

theorem roleOwnerBad_iff : (unitValid (getBits w 0 10) && getBits w 16 4 != ownerCode (p.role (getBits w 0 10)).owner) = true ↔
    RoleOwnerBad p w := by
  rw [Bool.and_eq_true, bne_iff_ne]

theorem roleGenBad_iff : (unitValid (getBits w 0 10) && getBits w 32 16 != (p.role (getBits w 0 10)).gen.toNat) = true ↔
    RoleGenBad p w := by
  rw [Bool.and_eq_true, bne_iff_ne]

theorem roleBusy_iff : (unitValid (getBits w 0 10) && (p.role (getBits w 0 10)).pend.isSome) = true ↔ RoleBusy p w := by
  rw [Bool.and_eq_true, Option.isSome_iff_ne_none]

theorem roleRefused_iff : (!unitValid (getBits w 0 10) || (UnitFunc.ofCode (getBits w 20 4)).isNone ||
    (UnitFunc.ofCode (getBits w 20 4) == some .diag && p.mode != 1 && p.mode != 3) ||
    (unitValid (getBits w 0 10) && getBits w 16 4 != ownerCode (p.role (getBits w 0 10)).owner) ||
    (unitValid (getBits w 0 10) && getBits w 32 16 != (p.role (getBits w 0 10)).gen.toNat) ||
    (unitValid (getBits w 0 10) && (p.role (getBits w 0 10)).pend.isSome)) = true ↔ RoleRefused p w := by
  rw [Bool.or_eq_true, Bool.or_eq_true, Bool.or_eq_true, roleRangeBad_iff p w, roleOwnerBad_iff p w, roleGenBad_iff p w,
    roleBusy_iff p w, or_assoc, or_assoc]

/-- With no refusal the change waits, for the unit's present owner and the function that the word names. -/
theorem roleCmd_accepted (f : UnitFunc) (hf : UnitFunc.ofCode (getBits w 20 4) = some f) (h : ¬ RoleRefused p w) :
    p.roleCmd w = (p.setRole (getBits w 0 10)
      { p.role (getBits w 0 10) with pend := some ((p.role (getBits w 0 10)).owner, f) }).put GLB_ROLE_STAT.ACCEPTED 1 := by
  have noRefusal := Bool.not_eq_true _ ▸ mt (roleRefused_iff p w).1 h
  obtain ⟨hr, ho, hg, hb⟩ : ¬ RoleRangeBad p w ∧ ¬ RoleOwnerBad p w ∧ ¬ RoleGenBad p w ∧ ¬ RoleBusy p w := by
    simpa only [not_or] using h
  simp only [State.roleCmd, noRefusal, roleRangeBad_iff p w, roleOwnerBad_iff p w, roleGenBad_iff p w, roleBusy_iff p w, if_neg hr,
    if_neg ho, if_neg hg, if_neg hb]
  rw [hf]

theorem roleCmd_refused (h : RoleRefused p w) : p.roleCmd w = roleRefusalShown p w := by
  have refusal := (roleRefused_iff p w).2 h
  simp only [State.roleCmd, refusal, roleRangeBad_iff p w, roleOwnerBad_iff p w, roleGenBad_iff p w, roleBusy_iff p w]
  split
  case h_1 impossible => exact absurd impossible (by decide)
  case h_2 => rfl

end

/-! The role of a unit (R18, R20). -/

theorem role_setRole (u v : Nat) (r : Role) : (p.setRole u r).role v = if v = u then r else p.role v := mapGet_mapSet _ _ _ _ _

theorem role_applyRole (u v : Nat) (owner : Option (Fin 8)) (func : UnitFunc) :
    (p.applyRole u owner func).role v = if v = u then ⟨owner, func, (p.role u).gen + 1, none⟩ else p.role v := role_setRole p u v _

end Sys2Proof.Proofs

namespace Sys2Proof.Proofs

open Sys2Proof Sys2Proof.Machine

/-- Settles O19: each request is `modeReq`, by the row of R33 that it asks for. -/
theorem modeRequests : Obligations.ModeRequests := by
  intro a s t o ho h
  rw [exec_modeRequest s t a o ho h]
  refine ⟨fun h4 hm => ?_, fun hr => ?_, fun hr => ?_, fun h5 hm => ?_⟩
  · rw [modeReq_current _ t h4 hm]
  · rcases hr with h4 | ⟨hm, hr, hh⟩
    · rw [modeReq_sleep _ t h4]
    · rw [modeReq_refused _ t hm hr hh]
  · rw [modeReq_waits _ t hr]
  · rw [modeReq_halt _ t ⟨h5, hm⟩]

/-- Settles O20: the served command is `roleCmd`, accepted where no refusal holds, else showing each that does. -/
theorem roleCommand : Obligations.RoleCommand := by
  intro a s h
  have hx : exec (.roleCmd a) s = .next (s.finish ((((s.pass a.dt).roleCmd (wdata a)).pmu evCmdServed 1).setRsp .okay 0)) :=
    State.served_GLB_ROLE_CMD s a 0 _ h
  refine ⟨fun f hf hr ho hg hb => ?_, fun hbad => ?_⟩
  · rw [hx, roleCmd_accepted _ _ f hf (fun hbad => hbad.elim hr fun hbad => hbad.elim ho fun hbad => hbad.elim hg hb)]
  · rw [hx, roleCmd_refused _ _ hbad]
    rfl

/-- Settles O21: the applied role reads as given, with the generation one further modulo 2^16. -/
theorem roleChangeCountsGeneration : Obligations.RoleChangeCountsGeneration := by
  intro s u owner func
  have hu : (s.applyRole u owner func).role u = ⟨owner, func, (s.role u).gen + 1, none⟩ := (role_applyRole s u u owner func).trans (if_pos rfl)
  rw [hu]
  exact ⟨rfl, rfl, rfl, BitVec.toNat_add _ _, fun v hv => (role_applyRole s u v owner func).trans (if_neg hv)⟩

end Sys2Proof.Proofs
end

section
/-! SUPPORT. Bridge decisions, learning, sweeps, commands of the forwarding database, and meters (R276 to R291). -/

namespace Sys2Proof.Proofs

open Sys2Proof Sys2Proof.Machine

variable (p : State)

/-! The destinations that the bridge adds (R277, R281), with learning (R282). -/

/-- A frame from a port is learned. -/
def portLearned (f : Frame) : State := if f.src ≤ 0x0A then p.learn f.src f.vlan (f.mac % 2 ^ 48) else p

theorem portLearned_pair (f : Frame) (x : Fwd) :
    (if f.src ≤ 0x0A then (p.learn f.src f.vlan (f.mac % 2 ^ 48), x) else (p, x)) = (portLearned p f, x) :=
  (apply_ite (fun t : State => (t, x)) _ _ _).symm

section
variable (w : Fwd)

theorem bridge_barred (h : p.vlanBars w.f.src w.f.vlan = true) : p.bridge w = (p.ec w.f.src ecVlan, w) := if_pos h

section
variable (hb : p.vlanBars w.f.src w.f.vlan = false)
include hb

theorem bridge_linkLocal_core (hl : isLinkLocal (w.f.mac / 2 ^ 48) = true) (hc : p.on BR_CFG.LL_TO_SC = true) :
    p.bridge w = (portLearned p w.f, { w with cores := w.cores.lor 1 }) := by
  simp only [State.bridge, hb, hl, hc, if_true, if_false, Bool.false_eq_true, portLearned_pair]

theorem bridge_linkLocal_dropped (hl : isLinkLocal (w.f.mac / 2 ^ 48) = true) (hc : p.on BR_CFG.LL_TO_SC = false) :
    p.bridge w = (portLearned (p.ec w.f.src ecLl) w.f, w) := by
  simp only [State.bridge, hb, hl, hc, if_true, if_false, Bool.false_eq_true, portLearned_pair]

section
variable (hl : isLinkLocal (w.f.mac / 2 ^ 48) = false)
include hl

theorem bridge_miss (hf : p.fdbFind (w.f.mac / 2 ^ 48) w.f.vlan = none) :
    p.bridge w = (portLearned (p.ec w.f.src ecFlood) w.f,
      { w with ports := w.ports.lor (maskMinus (p.get BR_VLAN.MEMBERS w.f.vlan) w.f.src), parts := w.parts.lor (p.get BR_VLAN.PARTS w.f.vlan) }) := by
  simp only [State.bridge, hb, hl, hf, if_false, Bool.false_eq_true, portLearned_pair]

section
variable (i : Nat) (e : FdbEntry) (hf : p.fdbFind (w.f.mac / 2 ^ 48) w.f.vlan = some (i, e))
include hf

theorem bridge_hit_filtered (hd : e.drop = true ∨
    (maskMinus (e.ports.land (p.get BR_VLAN.MEMBERS w.f.vlan)) w.f.src = 0 ∧ e.parts.land (p.get BR_VLAN.PARTS w.f.vlan) = 0)) :
    p.bridge w = (portLearned (p.ec w.f.src ecFiltered) w.f, w) := by
  cases drop : e.drop with
  | true => simp only [State.bridge, hb, hl, hf, drop, if_true, if_false, Bool.false_eq_true, portLearned_pair]
  | false =>
    have nowhere := hd.resolve_left (by rw [drop]; decide)
    simp only [State.bridge, hb, hl, hf, drop, if_pos nowhere, if_false, Bool.false_eq_true, portLearned_pair]

theorem bridge_hit_members (hd : e.drop = false)
    (hm : ¬ (maskMinus (e.ports.land (p.get BR_VLAN.MEMBERS w.f.vlan)) w.f.src = 0 ∧ e.parts.land (p.get BR_VLAN.PARTS w.f.vlan) = 0)) :
    p.bridge w = (portLearned p w.f,
      { w with ports := w.ports.lor (maskMinus (e.ports.land (p.get BR_VLAN.MEMBERS w.f.vlan)) w.f.src),
               parts := w.parts.lor (e.parts.land (p.get BR_VLAN.PARTS w.f.vlan)) }) := by
  simp only [State.bridge, hb, hl, hf, hd, if_neg hm, if_false, Bool.false_eq_true, portLearned_pair]

end
end
end
end

/-! STORE_COMPLETE (R28, R276, R287). -/

/-- A stored frame leaves the queue. -/
def storedTaken (rest : List Fwd) : State := { p with cls.stored := rest }

/-- The frame as forwarding sees it, with the VLAN of R276. -/
def fwdViewed (w : Fwd) : Fwd := { w with f := { w.f with vlan := p.vlanOf w.f } }

/-- A frame whose destinations are decided: released and counted where none is left, else enqueued. -/
def fwdPlaced (x : Fwd) : State :=
  (if x.ports = 0 ∧ x.parts = 0 ∧ x.roll = false ∧ x.cores = 0 ∧ x.mirrors = 0 ∧ x.recirc = false then
    ((p.count CLS_CNT.COUNT ccNoDest).release x.f.ptr x.f.src).frameDropped x.f stDropped else p.enqueue x).showPinned

theorem storeComplete_idle (h : p.forwards = false ∨ p.cls.stored = []) : p.storeComplete = p := by
  cases run : p.forwards with
  | false => simp only [State.storeComplete, run, Bool.not_false, if_true]
  | true => simp only [State.storeComplete, run, h.resolve_left (by rw [run]; decide), Bool.not_true, Bool.false_eq_true, if_false]

/-- The state and the frame after the bridge's decision, which only a bridge frame takes. -/
def fwdDecided (w : Fwd) : State × Fwd := if w.bridge then p.bridge w else (p, w)

section
variable (w : Fwd) (rest : List Fwd) (hf : p.forwards = true) (hs : p.cls.stored = w :: rest)
include hf hs

theorem storeComplete_takes (t : State) (x : Fwd)
    (hx : fwdDecided (storedTaken p rest) (fwdViewed (storedTaken p rest) w) = (t, x)) : p.storeComplete = fwdPlaced t x := by
  have placed : p.storeComplete = fwdPlaced (fwdDecided (storedTaken p rest) (fwdViewed (storedTaken p rest) w)).1
      (fwdDecided (storedTaken p rest) (fwdViewed (storedTaken p rest) w)).2 := by
    rw [State.storeComplete, hf, hs]
    rfl
  rw [placed, hx]

theorem storeComplete_unbridged (hw : w.bridge = false) :
    p.storeComplete = fwdPlaced (storedTaken p rest) (fwdViewed (storedTaken p rest) w) :=
  storeComplete_takes p w rest hf hs _ _ (if_neg (show ¬ w.bridge = true by rw [hw]; decide))

theorem storeComplete_bridged (hw : w.bridge = true) (t : State) (x : Fwd)
    (hx : (storedTaken p rest).bridge (fwdViewed (storedTaken p rest) w) = (t, x)) : p.storeComplete = fwdPlaced t x :=
  storeComplete_takes p w rest hf hs t x ((if_pos (show w.bridge = true from hw)).trans hx)

end

theorem exec_storeComplete (dt : Nat) (h : p.awake dt = true) :
    exec (.storeComplete dt) p = .next (p.finish (p.pass dt).storeComplete) := State.engine_awake p dt State.storeComplete h

/-! LEARN_WRITE (R282, R283). -/

/-- A learn write leaves the queue. -/
def learnTaken (rest : List Learn) : State := { p with cls.learn := rest }

/-- The entry that a learn write gives its address. -/
def learnEntry (l : Learn) : FdbEntry := ⟨l.mac, l.vid, p.dynData l.u⟩

/-- What a learn write counts as. -/
def learnSlot (l : Learn) : Nat := if l.move then ecMoves else ecLearned

theorem learnWrite_none (h : p.cls.learn = []) : p.learnWrite = p := by
  simp only [State.learnWrite, h]

section
variable (l : Learn) (rest : List Learn) (hl : p.cls.learn = l :: rest)
include hl

theorem learnWrite_known (i : Nat) (old : FdbEntry) (hf : (learnTaken p rest).fdbFind l.mac l.vid = some (i, old)) :
    p.learnWrite = if old.static then learnTaken p rest
      else ((learnTaken p rest).putFdb i (learnEntry (learnTaken p rest) l)).ec l.u (learnSlot l) := by
  simp only [learnTaken] at hf
  simp only [State.learnWrite, hl, hf]
  rfl

theorem learnWrite_new (i : Nat) (hf : (learnTaken p rest).fdbFind l.mac l.vid = none)
    (hi : (learnTaken p rest).fdbFree l.mac l.vid = some i) :
    p.learnWrite = ((learnTaken p rest).putFdb i (learnEntry (learnTaken p rest) l)).ec l.u (learnSlot l) := by
  simp only [learnTaken] at hf hi
  simp only [State.learnWrite, hl, hf, hi]
  rfl

theorem learnWrite_full (hf : (learnTaken p rest).fdbFind l.mac l.vid = none) (hi : (learnTaken p rest).fdbFree l.mac l.vid = none) :
    p.learnWrite = ((learnTaken p rest).ec l.u ecLearnFull).evt BR_EVT.LEARN_FULL 0x46 := by
  simp only [learnTaken] at hf hi
  simp only [State.learnWrite, hl, hf, hi]
  rfl

end

theorem exec_learnWrite (dt : Nat) (h : p.awake dt = true) : exec (.learnWrite dt) p = .next (p.finish (p.pass dt).learnWrite) :=
  State.engine_awake p dt State.learnWrite h

/-! The ends of a sweep and of a flush (R284, R285). -/

theorem ageSweepEnd_ends (hs : p.on BR_FDB_STAT.SWEEP = true) (hf : p.cls.flushing = false) :
    p.ageSweepEnd = p.put BR_FDB_STAT.SWEEP 0 := if_pos (by rw [hs, hf]; rfl)

theorem ageSweepEnd_idle (h : p.on BR_FDB_STAT.SWEEP = false ∨ p.cls.flushing = true) : p.ageSweepEnd = p :=
  if_neg (by rcases h with h | h <;> simp [h])

theorem flushEnd_ends (hs : p.on BR_FDB_STAT.SWEEP = true) (hf : p.cls.flushing = true) :
    p.flushEnd = State.evt { p.put BR_FDB_STAT.SWEEP 0 with cls.flushing := false } BR_EVT.FLUSH_DONE 0x46 := if_pos (by rw [hs, hf]; rfl)

theorem flushEnd_idle (h : p.on BR_FDB_STAT.SWEEP = false ∨ p.cls.flushing = false) : p.flushEnd = p :=
  if_neg (by rcases h with h | h <;> simp [h])

theorem exec_ageSweepEnd (dt : Nat) (h : p.awake dt = true) : exec (.ageSweepEnd dt) p = .next (p.finish (p.pass dt).ageSweepEnd) :=
  State.engine_awake p dt State.ageSweepEnd h

theorem exec_flushDone (dt : Nat) (h : p.awake dt = true) : exec (.flushDone dt) p = .next (p.finish (p.pass dt).flushEnd) :=
  State.engine_awake p dt State.flushEnd h

/-! Commands of the forwarding database (R285). -/

section
variable (stg : List Nat)

/-- The staged key and entry. -/
def fdbMac : Nat := getBits (stg.getD 0 0) 0 48
def fdbVid : Nat := getBits (stg.getD 0 0) 48 12
def fdbStaged : FdbEntry := ⟨fdbMac stg, fdbVid stg, getBits (stg.getD 1 0) 0 21 + getBits (stg.getD 1 0) 24 8 * 2 ^ 24⟩

/-- Does a FLUSH with these words remove the entry? -/
def fdbFlushed (x : FdbEntry) : Bool :=
  !x.static && x.dest.land (getBits (stg.getD 1 0) 0 19) != 0 && (!bitAt (stg.getD 0 0) 60 || x.vid == fdbVid stg)

/-- BR_FDB_KEY and BR_FDB_DATA of copy `c` loaded. -/
def fdbShown (c key data : Nat) : State :=
  (p.setRg ((BR_FDB_KEY.reg.of c).key 0 0) key).setRg ((BR_FDB_DATA.reg.of c).key 0 0) data

variable (c w : Nat)

theorem fdbInsert_replaces (h : getBits w 0 3 = 1) (i : Nat) (old : FdbEntry) (hf : p.fdbFind (fdbMac stg) (fdbVid stg) = some (i, old)) :
    p.fdbCmd c w stg = (p.putFdb i (fdbStaged stg)).fdbRes c (1 + i * 2 ^ 16) := by
  simp only [fdbMac, fdbVid] at hf
  simp only [State.fdbCmd, h, hf, if_true]
  rfl

theorem fdbInsert_adds (h : getBits w 0 3 = 1) (i : Nat) (hf : p.fdbFind (fdbMac stg) (fdbVid stg) = none)
    (hi : p.fdbFree (fdbMac stg) (fdbVid stg) = some i) :
    p.fdbCmd c w stg = (p.putFdb i (fdbStaged stg)).fdbRes c (1 + i * 2 ^ 16) := by
  simp only [fdbMac, fdbVid] at hf hi
  simp only [State.fdbCmd, h, hf, hi, if_true]
  rfl

theorem fdbInsert_full (h : getBits w 0 3 = 1) (hf : p.fdbFind (fdbMac stg) (fdbVid stg) = none)
    (hi : p.fdbFree (fdbMac stg) (fdbVid stg) = none) : p.fdbCmd c w stg = p.fdbRes c 7 := by
  simp only [fdbMac, fdbVid] at hf hi
  simp only [State.fdbCmd, h, hf, hi, if_true]

theorem fdbDelete_removes (h : getBits w 0 3 = 2) (i : Nat) (old : FdbEntry) (hf : p.fdbFind (fdbMac stg) (fdbVid stg) = some (i, old)) :
    p.fdbCmd c w stg = (p.delFdb i).fdbRes c (1 + i * 2 ^ 16) := by
  simp only [fdbMac, fdbVid] at hf
  simp only [State.fdbCmd, h, hf, Nat.reduceEqDiff, if_true, if_false]

theorem fdbDelete_missing (h : getBits w 0 3 = 2) (hf : p.fdbFind (fdbMac stg) (fdbVid stg) = none) :
    p.fdbCmd c w stg = p.fdbRes c 11 := by
  simp only [fdbMac, fdbVid] at hf
  simp only [State.fdbCmd, h, hf, Nat.reduceEqDiff, if_true, if_false]

theorem fdbRead_entry (h : getBits w 0 3 = 3) (j : Nat) (x : FdbEntry)
    (hf : p.cls.fdb.find? (fun e => e.1 == getBits w 16 14) = some (j, x)) :
    p.fdbCmd c w stg = (fdbShown p c (x.mac + x.vid * 2 ^ 48) x.data).fdbRes c (1 + 2 ^ 4 + getBits w 16 14 * 2 ^ 16) := by
  simp only [State.fdbCmd, h, hf, Nat.reduceEqDiff, if_true, if_false]
  rfl

theorem fdbRead_free (h : getBits w 0 3 = 3) (hf : p.cls.fdb.find? (fun e => e.1 == getBits w 16 14) = none) :
    p.fdbCmd c w stg = (fdbShown p c 0 0).fdbRes c (1 + getBits w 16 14 * 2 ^ 16) := by
  simp only [State.fdbCmd, h, hf, Nat.reduceEqDiff, if_true, if_false]
  rfl

theorem fdbFlush_busy (h : getBits w 0 3 = 4) (hs : p.on BR_FDB_STAT.SWEEP = true) : p.fdbCmd c w stg = p.fdbRes c 15 := by
  simp only [State.fdbCmd, h, hs, Nat.reduceEqDiff, if_true, if_false]

theorem fdbFlush_starts (h : getBits w 0 3 = 4) (hs : p.on BR_FDB_STAT.SWEEP = false) :
    p.fdbCmd c w stg = ((State.showFdb { p with cls.fdb := p.cls.fdb.filter (fun x => !fdbFlushed stg x.2), cls.flushing := true }).put
      BR_FDB_STAT.SWEEP 1).fdbRes c 1 := by
  simp only [State.fdbCmd, h, hs, Nat.reduceEqDiff, Bool.false_eq_true, if_true, if_false]
  rfl

end

theorem exec_fdbCommand (a : Access) (t : Nat) (o : Host.Outcome State Fault Refusal)
    (ho : t = 1 ∧ o = exec (.fdbInsert a) p ∨ t = 2 ∧ o = exec (.fdbDelete a) p ∨ t = 3 ∧ o = exec (.fdbRead a) p ∨
      t = 4 ∧ o = exec (.flush a) p) (h : p.serves a BR_FDB_CMD.reg 0 (setBits (wdata a) 0 3 t) = true) :
    o = .next (p.finish ((((p.pass a.dt).fdbCmd a.init.val (setBits (wdata a) 0 3 t)
      ((p.pass a.dt).staged BR_FDB_CMD.reg.base a.init.val)).pmu evCmdServed 1).setRsp .okay 0)) := by
  obtain ⟨rfl, rfl⟩ | ⟨rfl, rfl⟩ | ⟨rfl, rfl⟩ | ⟨rfl, rfl⟩ := ho <;> exact State.served_BR_FDB_CMD p a 0 _ h

end Sys2Proof.Proofs

namespace Sys2Proof.Proofs

open Sys2Proof Sys2Proof.Machine

/-- Settles O45: the bridge decision row by row, the learn write and the commands by what the database finds, sweeps by SWEEP. -/
theorem bridgeForwarding : Obligations.BridgeForwarding := by
  have act (v t : Nat) : getBits (setBits v 0 3 t) 0 3 = t % 2 ^ 3 := getBits_setBits_same v 0 3 t
  refine ⟨fun dt s h => ⟨fun hi => ?_, fun hf w rest hs => ⟨fun hw => ?_, fun hw => ⟨fun hb => ?_, fun hb =>
      ⟨fun hl => ⟨fun hc => ?_, fun hc => ?_⟩, fun hl => ⟨fun i e he => ⟨fun hd => ?_, fun hd hm => ?_⟩, fun he => ?_⟩⟩⟩⟩⟩,
    fun dt s h => ⟨fun hn => ?_, fun l rest hl => ⟨fun i old ho => ⟨fun hst => ?_, fun hst => ?_⟩, fun ho =>
      ⟨fun i hi => ?_, fun hi => ?_⟩⟩, fun hs => ⟨fun hf => ⟨?_, ?_⟩, fun hf => ⟨?_, ?_⟩⟩, fun hs => ⟨?_, ?_⟩⟩,
    fun a s t o ho h => ?_, fun a m s h => State.writeReg_takes s a _ _ _ _ _ h⟩
  · rw [exec_storeComplete s dt h, storeComplete_idle _ hi]
  · exact (exec_storeComplete s dt h).trans (by rw [storeComplete_unbridged _ w rest hf hs hw]; rfl)
  · exact (exec_storeComplete s dt h).trans (by rw [storeComplete_bridged _ w rest hf hs hw _ _ (bridge_barred _ _ hb)]; rfl)
  · exact (exec_storeComplete s dt h).trans (by rw [storeComplete_bridged _ w rest hf hs hw _ _ (bridge_linkLocal_core _ _ hb hl hc)]; rfl)
  · exact (exec_storeComplete s dt h).trans (by rw [storeComplete_bridged _ w rest hf hs hw _ _ (bridge_linkLocal_dropped _ _ hb hl hc)]; rfl)
  · exact (exec_storeComplete s dt h).trans (by rw [storeComplete_bridged _ w rest hf hs hw _ _ (bridge_hit_filtered _ _ hb hl i e he hd)]; rfl)
  · exact (exec_storeComplete s dt h).trans (by rw [storeComplete_bridged _ w rest hf hs hw _ _ (bridge_hit_members _ _ hb hl i e he hd hm)]; rfl)
  · exact (exec_storeComplete s dt h).trans (by rw [storeComplete_bridged _ w rest hf hs hw _ _ (bridge_miss _ _ hb hl he)]; rfl)
  · rw [exec_learnWrite s dt h, learnWrite_none _ hn]
  · exact (exec_learnWrite s dt h).trans (by rw [learnWrite_known _ l rest hl i old ho, if_pos hst]; rfl)
  · exact (exec_learnWrite s dt h).trans (by rw [learnWrite_known _ l rest hl i old ho, hst]; rfl)
  · exact (exec_learnWrite s dt h).trans (by rw [learnWrite_new _ l rest hl i ho hi]; rfl)
  · exact (exec_learnWrite s dt h).trans (by rw [learnWrite_full _ l rest hl ho hi]; rfl)
  · rw [exec_ageSweepEnd s dt h, ageSweepEnd_ends _ hs hf]
  · rw [exec_flushDone s dt h, flushEnd_idle _ (.inr hf)]
  · rw [exec_ageSweepEnd s dt h, ageSweepEnd_idle _ (.inr hf)]
  · rw [exec_flushDone s dt h, flushEnd_ends _ hs hf]
  · rw [exec_ageSweepEnd s dt h, ageSweepEnd_idle _ (.inl hs)]
  · rw [exec_flushDone s dt h, flushEnd_idle _ (.inl hs)]
  · rw [exec_fdbCommand s a t o ho h]
    refine ⟨fun i old hf => ⟨?_, ?_⟩, fun hf => ⟨fun i hi => ?_, fun hi => ?_, ?_⟩, fun x hx => ?_, fun hx => ?_, ?_, ?_⟩ <;> rintro rfl
    · rw [fdbInsert_replaces _ _ _ _ (act _ 1) i old hf]; rfl
    · rw [fdbDelete_removes _ _ _ _ (act _ 2) i old hf]; rfl
    · rw [fdbInsert_adds _ _ _ _ (act _ 1) i hf hi]; rfl
    · rw [fdbInsert_full _ _ _ _ (act _ 1) hf hi]; rfl
    · rw [fdbDelete_missing _ _ _ _ (act _ 2) hf]; rfl
    · rw [fdbRead_entry _ _ _ _ (act _ 3) _ x hx]; rfl
    · rw [fdbRead_free _ _ _ _ (act _ 3) hx]; rfl
    · intro hs
      rw [fdbFlush_busy _ _ _ _ (act _ 4) hs]; rfl
    · intro hs
      rw [fdbFlush_starts _ _ _ _ (act _ 4) hs]; rfl

end Sys2Proof.Proofs
end

section
/-! SUPPORT. Push bursts and the entry at the head of a submission ring (R306, R310 to R314, R333). -/

namespace Sys2Proof.Proofs

open Sys2Proof Sys2Proof.Machine

variable (p : State) (i : Nat) (rx : Bool)

/-! Push bursts (R310 to R312). -/

/-- The byte address of slot group `off` of a push window. -/
def pushAddr (off : Nat) : Nat := i * 0x10000 + (if rx then 0xF800 else 0xF000) + off * 64

section
variable (off : Nat)

theorem pushAddr_beat : pushAddr i rx off % 64 = 0 := by
  rw [pushAddr]
  split <;> omega

variable (ho : off < 32)
include ho

theorem pushAddr_low : pushAddr i rx off % 0x10000 = (if rx then 0xF800 else 0xF000) + off * 64 := by
  rw [pushAddr]
  split <;> omega

theorem pushAddr_part : pushAddr i rx off / 0x10000 = i := by
  rw [pushAddr]
  split <;> omega

theorem pushAddr_ring : decide (0xF800 ≤ pushAddr i rx off % 0x10000) = rx := by
  rw [pushAddr_low i rx off ho]
  cases rx with
  | false => exact decide_eq_false (show ¬ 0xF800 ≤ 0xF000 + off * 64 by omega)
  | true => exact decide_eq_true (show 0xF800 ≤ 0xF800 + off * 64 by omega)

variable (hi : i < 8)
include hi

theorem pushAddr_lt : pushAddr i rx off < 0x80000 := by
  rw [pushAddr]
  split <;> omega

theorem inPush_pushAddr : inPush (pushAddr i rx off) = true := by
  have low := pushAddr_low i rx off ho
  have below := pushAddr_lt i rx off ho hi
  rw [inPush, decide_eq_true below, Bool.true_and, decide_eq_true_eq, low]
  split <;> omega

theorem inAperture_pushAddr : inAperture (pushAddr i rx off) = false :=
  decide_eq_false (Nat.not_le.2 (Nat.lt_trans (pushAddr_lt i rx off ho hi) (by decide)))

theorem badForm_pushAddr : badForm true (pushAddr i rx off) 2 = false := by
  simp only [badForm, pushAddr_beat i rx off, inPush_pushAddr i rx off ho hi, Nat.reduceEqDiff, if_true, if_false, bne_self_eq_false,
    Bool.not_true, Bool.or_false]

/-- A burst of 64 bytes into a push window is a push. -/
theorem access_push (c d : Nat) (hd : p.dozing = false) (hg : p.granted c true (pushAddr i rx off) 0 = true) :
    p.access c true (pushAddr i rx off) 2 0 d = (p.push i rx d).setRsp .okay 0 := by
  have answer : p.respond c true (pushAddr i rx off) 2 0 = (p, .okay) := by
    rw [State.respond_form _ _ _ _ _ _ hg (by rw [hd, Bool.false_and]), badForm_pushAddr i rx off ho hi]
    rfl
  rw [State.access, answer, if_pos rfl, State.accessAt, inAperture_pushAddr i rx off ho hi, inPush_pushAddr i rx off ho hi,
    pushAddr_part i rx off ho, pushAddr_ring i rx off ho]
  rfl

end

theorem exec_push (dt : Nat) (init : Init) (n : Fin 8) (off : Fin 32) (beats : BitVec 512) (hu : p.portUp dt = true)
    (hd : (p.pass dt).dozing = false) (hg : (p.pass dt).granted init.val true (pushAddr n.val rx off.val) 0 = true) :
    (if rx then exec (.rxPush dt init n off beats) p else exec (.txPush dt init n off beats) p) =
      .next (p.finish (((p.pass dt).push n.val rx beats.toNat).setRsp .okay 0)) := by
  rw [← access_push _ _ _ off.val off.isLt n.isLt init.val _ hd hg]
  cases rx with
  | false => exact State.portReq_up p dt (fun s => s.access init.val true (pushAddr n.val false off.val) 2 0 beats.toNat) hu
  | true => exact State.portReq_up p dt (fun s => s.access init.val true (pushAddr n.val true off.val) 2 0 beats.toNat) hu

section
variable (d : Nat)

/-- The burst keeps R306 and R311: its reserved bits are 0, its TAIL may move there, and its slots lie before TAIL. -/
def PushFits : Prop :=
  getBits d 17 15 = 0 ∧ getBits d 40 88 = 0 ∧ getBits d 0 17 < 2 * p.ringN i (subRing rx) ∧ getBits d 0 17 ≠ p.ringTail i (subRing rx) ∧
    ringDist (p.ringN i (subRing rx)) (p.ringTail i (subRing rx)) (getBits d 0 17) ≤ p.ringN i (subRing rx) - p.ringUsed i (subRing rx) ∧
    getBits d 32 8 ≤ 3 ∧ getBits d 32 8 ≤ ringDist (p.ringN i (subRing rx)) (p.ringTail i (subRing rx)) (getBits d 0 17)

/-- The slots that the burst carries. -/
def pushSlots : List Nat := (List.range (getBits d 32 8)).map (fun k => getBits d (128 * (k + 1)) 128)

theorem push_refused_iff : (getBits d 17 15 ≠ 0 ∨ getBits d 40 88 ≠ 0 ∨ p.tailOk i rx (getBits d 0 17) = false ∨ 3 < getBits d 32 8 ∨
    ringDist (p.ringN i (subRing rx)) (p.ringTail i (subRing rx)) (getBits d 0 17) < getBits d 32 8) ↔ ¬ PushFits p i rx d := by
  rw [← Bool.not_eq_true, tailOk_iff, TailFits, PushFits]
  omega

theorem push_refused (h : ¬ PushFits p i rx d) : p.push i rx d = p.evt PART_EVT.DB_ERR (0x58 + i) i :=
  if_pos ((push_refused_iff p i rx d).2 h)

section
variable (h : PushFits p i rx d)
include h

theorem push_fits : p.push i rx d =
    (if getBits d 32 8 = 0 then p.setTail i rx (getBits d 0 17)
     else if 4 ≤ ((p.part i).pushes rx).length then (p.setTail i rx (getBits d 0 17)).evt PART_EVT.PUSH_DISCARD (0x58 + i) i
     else (p.setTail i rx (getBits d 0 17)).onPart i (fun v => v.withPushes rx (v.pushes rx ++ [(p.ringTail i (subRing rx), pushSlots d)]))).hostKick i := by
  rw [State.push, if_neg (mt (push_refused_iff p i rx d).1 (not_not_intro h))]
  cases rx <;> rfl

theorem push_tail (hc : getBits d 32 8 = 0) : p.push i rx d = (p.setTail i rx (getBits d 0 17)).hostKick i := by
  rw [push_fits p i rx d h, if_pos hc]

theorem push_kept (hc : getBits d 32 8 ≠ 0) (hl : ((p.part i).pushes rx).length < 4) :
    p.push i rx d = ((p.setTail i rx (getBits d 0 17)).onPart i
      (fun v => v.withPushes rx (v.pushes rx ++ [(p.ringTail i (subRing rx), pushSlots d)]))).hostKick i := by
  rw [push_fits p i rx d h, if_neg hc, if_neg (Nat.not_le.2 hl)]

theorem push_discarded (hc : getBits d 32 8 ≠ 0) (hl : 4 ≤ ((p.part i).pushes rx).length) :
    p.push i rx d = ((p.setTail i rx (getBits d 0 17)).evt PART_EVT.PUSH_DISCARD (0x58 + i) i).hostKick i := by
  rw [push_fits p i rx d h, if_neg hc, if_pos hl]

end
end

/-! The entry at the head (R305, R314, R333). -/

section
variable (types : List Nat)

theorem entryAt_wait (h : p.ringUsed i (subRing rx) = 0 ∨ p.slotAt i rx (p.ringHead i (subRing rx)) = none) :
    p.entryAt i rx types = .wait := by
  by_cases hu : p.ringUsed i (subRing rx) = 0
  · exact if_pos hu
  · simp only [State.entryAt, if_neg hu, h.resolve_left hu]

variable (hu : p.ringUsed i (subRing rx) ≠ 0)
include hu

theorem entryAt_timeout (h : p.slotAt i rx (p.ringHead i (subRing rx)) = some .timeout) : p.entryAt i rx types = .bad 7 1 0 := by
  simp only [State.entryAt, if_neg hu, h]
  rfl

theorem entryAt_fault (h : p.slotAt i rx (p.ringHead i (subRing rx)) = some .fault) : p.entryAt i rx types = .bad 8 1 0 := by
  simp only [State.entryAt, if_neg hu, h]
  rfl

end

section
variable (v : Nat)

/-- How many slots of the entry with first slot `v` there can be, and what is there of them. -/
def entrySpan : Nat := max 1 (min (getBits v 1 5) (p.ringUsed i (subRing rx)))
def entryGot : List (Option Slot) :=
  (List.range (entrySpan p i rx v)).map (fun k => p.slotAt i rx ((p.ringHead i (subRing rx) + k) % (2 * p.ringN i (subRing rx))))

/-- Is LEN out of the range of the type, or does the entry cross the ring end (R314)? -/
abbrev EntryLenBad : Prop := lenOk (getBits v 8 8) (getBits v 1 5) = false ∨
  p.ringN i (subRing rx) < p.ringHead i (subRing rx) % p.ringN i (subRing rx) + getBits v 1 5

/-- The word of a slot that was read. -/
def slotWord : Option Slot → Nat
  | some (.data w) => w
  | _ => 0

variable (types : List Nat) (hu : p.ringUsed i (subRing rx) ≠ 0) (hv : p.slotAt i rx (p.ringHead i (subRing rx)) = some (.data v))
include hu hv

/-- An entry whose first slot was read: rows 1 to 5 of R333 in their order, and whether all of it is there. -/
theorem entryAt_read : p.entryAt i rx types =
    if some .timeout ∈ entryGot p i rx v then .bad 7 (entrySpan p i rx v) (getBits v 32 16)
    else if some .fault ∈ entryGot p i rx v then .bad 8 (entrySpan p i rx v) (getBits v 32 16)
    else if v % 2 ≠ phaseOf (p.ringN i (subRing rx)) (p.ringHead i (subRing rx)) then .bad 2 (entrySpan p i rx v) (getBits v 32 16)
    else if getBits v 8 8 ∉ types then .bad 3 (entrySpan p i rx v) (getBits v 32 16)
    else if EntryLenBad p i rx v then .bad 4 (entrySpan p i rx v) (getBits v 32 16)
    else if p.ringUsed i (subRing rx) < getBits v 1 5 ∨ none ∈ entryGot p i rx v then .wait
    else .whole (getBits v 1 5) ((entryGot p i rx v).map slotWord) := by
  have among (o : Option Slot) : ((entryGot p i rx v).any (· == o) = true) = (o ∈ entryGot p i rx v) := by
    simp only [List.any_beq', List.contains_iff_mem]
  have missing : (p.ringUsed i (subRing rx) < getBits v 1 5 ∨ (entryGot p i rx v).any Option.isNone = true) =
      (p.ringUsed i (subRing rx) < getBits v 1 5 ∨ none ∈ entryGot p i rx v) := by
    simp only [List.any_eq_true, Option.isNone_iff_eq_none, exists_eq_right]
  have phase : (getBits v 0 1 ≠ phaseOf (p.ringN i (subRing rx)) (p.ringHead i (subRing rx))) =
      (v % 2 ≠ phaseOf (p.ringN i (subRing rx)) (p.ringHead i (subRing rx))) := by rw [getBits_whole, Nat.pow_one]
  have unknown : (types.contains (getBits v 8 8) = false) = (getBits v 8 8 ∉ types) := by
    rw [← Bool.not_eq_true, List.contains_iff_mem]
  rw [State.entryAt, if_neg hu, hv]
  exact ite_congr (among _) (fun _ => rfl) fun _ => ite_congr (among _) (fun _ => rfl) fun _ => ite_congr phase (fun _ => rfl) fun _ =>
    ite_congr unknown (fun _ => rfl) fun _ => ite_congr rfl (fun _ => rfl) fun _ => ite_congr missing (fun _ => rfl) fun _ => rfl

end

end Sys2Proof.Proofs
end

section
/-! SUPPORT. TX jobs and RX_BUF entries, taken from the head of their rings (R315 to R329, R333, R334). -/

namespace Sys2Proof.Proofs

open Sys2Proof Sys2Proof.Machine

variable (p : State) (i : Nat) (same : Bool) (k : Nat)

/-! TX_JOB (R323, R324). -/

/-- May a job be taken, or the one begun go on (R24, R325, R328)? -/
def JobMayCome : Prop := p.takesEntries i false = true ∧ ((p.part i).gather.isSome = true ∨
  (p.part i).held = none ∧ p.get PART_STAT.TXC_STALL i = 0 ∧ p.cplRoom i false 1 = true ∧ p.oldWork i false = false ∧
    p.get PART_STAT.TX_INPROG i + p.get PART_STAT.TXC_HELD i < 64)

theorem jobMayCome_iff : (p.takesEntries i false && ((p.part i).gather.isSome || p.mayTake i)) = true ↔ JobMayCome p i := by
  have stall : p.on PART_STAT.TXC_STALL i = false ↔ p.get PART_STAT.TXC_STALL i = 0 := bne_eq_false_iff_eq
  simp only [JobMayCome, State.mayTake, Bool.and_eq_true, Bool.or_eq_true, Option.isNone_iff_eq_none, Bool.not_eq_true', stall,
    decide_eq_true_eq, and_assoc]

theorem exec_txJob (dt : Nat) (j : Fin 8) (h : p.awake dt = true) :
    exec (.txJob dt j same) p = .next (p.finish ((p.pass dt).txJob j.val same)) :=
  State.engine_awake p dt (fun s => s.txJob j.val same) h

theorem txJob_comes (h : JobMayCome p i) : p.txJob i same = (State.txGather i same 64 p).hostKick i :=
  if_pos ((jobMayCome_iff p i).2 h)

theorem txJob_idle (h : ¬ JobMayCome p i) : p.txJob i same = p := if_neg (mt (jobMayCome_iff p i).1 h)

theorem bne_eq_decide_ne (a b : Nat) : (a != b) = decide (a ≠ b) := by rw [Bool.eq_iff_iff, bne_iff_ne, decide_eq_true_eq]

/-- The chain that is gathered is forgotten, or kept. -/
def gatherNone : State := p.onPart i (fun q => { q with gather := none })
def gatherKept (job : HostJob) : State := p.onPart i (fun q => { q with gather := some job })

/-- The head moves past an entry of `len` slots. -/
def entryPassed (rx : Bool) (len : Nat) : State := p.moveHead i rx (p.ringHead i (subRing rx) + len)

section
variable (hg : (p.part i).gather = none)
include hg

theorem gather_types_first : p.entryAt i false [0x0F, if (p.part i).gather.isSome then 2 else 1] = p.entryAt i false [0x0F, 1] := by
  rw [hg]
  rfl

theorem txGather_first_bad (code len tag : Nat) (he : p.entryAt i false [0x0F, 1] = .bad code len tag) :
    State.txGather i same (k + 1) p = (gatherNone p i).badEntry i false code len tag 0 (p.pairGen i false) := by
  simp only [State.txGather, hg, Option.isSome_none, Bool.false_eq_true, if_false, he]
  rfl

variable (len : Nat) (ws : List Nat) (he : p.entryAt i false [0x0F, 1] = .whole len ws)
include he

theorem txGather_first_skip (ht : getBits (ws.headD 0) 8 8 = 0x0F) :
    State.txGather i same (k + 1) p = if getBits (ws.headD 0) 6 2 ≠ 0 then
        (gatherNone (entryPassed p i false len) i).malformed i false (p.ringHead i 0) stBadField 0 0 (p.pairGen i false)
      else State.txGather i same k (entryPassed p i false len) := by
  simp only [State.txGather, hg, Option.isSome_none, Bool.false_eq_true, if_false, he, if_pos ht]
  rfl

/-- The job that a TX_JOB begins. -/
def firstJob : HostJob := ⟨0, p.ringHead i 0, ws.headD 0, p.pairGen i false, ws.tail.map segOf, 1, jobCont (ws.headD 0),
  decide (getBits (ws.headD 0) 16 16 ≠ p.pairGen i false), 0, none, [], 0, []⟩

/-- A TX_JOB: rows 6 and 7 of R333 refuse one of the present generation; one that stays begins a chain or is whole. -/
theorem txGather_first_entry (ht : getBits (ws.headD 0) 8 8 ≠ 0x0F) :
    State.txGather i same (k + 1) p =
      if getBits (ws.headD 0) 16 16 = p.pairGen i false ∧ jobFieldBad len (ws.headD 0) ws.tail = true then
        (entryPassed p i false len).malformed i false (p.ringHead i 0) stBadField (jobTag (ws.headD 0)) 0 (p.pairGen i false)
      else if getBits (ws.headD 0) 16 16 = p.pairGen i false ∧ (jobLen (ws.headD 0) < 14 ∨ 16320 < jobLen (ws.headD 0)) then
        (entryPassed p i false len).malformed i false (p.ringHead i 0) stBound (jobTag (ws.headD 0)) 0 (p.pairGen i false)
      else if jobCont (ws.headD 0) = true then State.txGather i same k (gatherKept (entryPassed p i false len) i (firstJob p i ws))
      else (entryPassed p i false len).txChecked i same (firstJob p i ws) := by
  simp only [State.txGather, hg, Option.isSome_none, Bool.false_eq_true, if_false, he, if_neg ht, jobLenBad, bne_eq_decide_ne,
    Bool.and_eq_true, Bool.or_eq_true, Bool.not_eq_true', decide_eq_false_iff_not, decide_eq_true_eq, Decidable.not_not]
  rfl

end

section
variable (old : HostJob) (hg : (p.part i).gather = some old)
include hg

theorem gather_types_chained : p.entryAt i false [0x0F, if (p.part i).gather.isSome then 2 else 1] = p.entryAt i false [0x0F, 2] := by
  rw [hg]
  rfl

theorem txGather_chained_bad (code len tag : Nat) (he : p.entryAt i false [0x0F, 2] = .bad code len tag) :
    State.txGather i same (k + 1) p = (gatherNone p i).badEntry i false code len (jobTag old.w) flChained old.gen := by
  simp only [State.txGather, hg, Option.isSome_some, if_true, he]
  rfl

variable (len : Nat) (ws : List Nat) (he : p.entryAt i false [0x0F, 2] = .whole len ws)
include he

theorem txGather_chained_skip (ht : getBits (ws.headD 0) 8 8 = 0x0F) :
    State.txGather i same (k + 1) p = if getBits (ws.headD 0) 6 2 ≠ 0 then
        (gatherNone (entryPassed p i false len) i).malformed i false (p.ringHead i 0) stBadField (jobTag old.w) flChained old.gen
      else State.txGather i same k (entryPassed p i false len) := by
  simp only [State.txGather, hg, Option.isSome_some, if_true, he, if_pos ht]
  rfl

/-- The job with a TX_CONT more. -/
def contJob : HostJob := { old with
  segs := old.segs ++ ws.tail.map segOf, entries := old.entries + 1, more := jobCont (ws.headD 0),
  stale := old.stale || getBits (ws.headD 0) 16 16 != p.pairGen i false }

/-- A TX_CONT: row 6 of R333 refuses one of a job that is not stale, and a fourth entry must end the chain. -/
theorem txGather_chained_entry (ht : getBits (ws.headD 0) 8 8 ≠ 0x0F) :
    State.txGather i same (k + 1) p =
      if (contJob p i old ws).stale = false ∧ contFieldBad (jobTag old.w) len (ws.headD 0) ws.tail = true then
        (gatherNone (entryPassed p i false len) i).malformed i false (p.ringHead i 0) stBadField (jobTag old.w) flChained old.gen
      else if jobCont (ws.headD 0) = true ∧ old.entries = 3 then
        (gatherNone (entryPassed p i false len) i).malformed i false (p.ringHead i 0) stBound (jobTag old.w) flChained old.gen
      else if jobCont (ws.headD 0) = true then State.txGather i same k (gatherKept (entryPassed p i false len) i (contJob p i old ws))
      else (gatherNone (entryPassed p i false len) i).txChecked i same (contJob p i old ws) := by
  simp only [State.txGather, hg, Option.isSome_some, if_true, he, if_neg ht, contJob, Bool.and_eq_true, Bool.not_eq_true', beq_iff_eq]
  rfl

end

theorem txGather_wait (he : p.entryAt i false [0x0F, if (p.part i).gather.isSome then 2 else 1] = .wait) :
    State.txGather i same (k + 1) p = p := by
  cases hg : (p.part i).gather with
  | none =>
    rw [gather_types_first p i hg] at he
    simp only [State.txGather, hg, Option.isSome_none, Bool.false_eq_true, if_false, he]
  | some old =>
    rw [gather_types_chained p i old hg] at he
    simp only [State.txGather, hg, Option.isSome_some, if_true, he]

theorem txGather_skip_passed (len : Nat) (ws : List Nat)
    (he : p.entryAt i false [0x0F, if (p.part i).gather.isSome then 2 else 1] = .whole len ws)
    (ht : getBits (ws.headD 0) 8 8 = 0x0F) (hr : getBits (ws.headD 0) 6 2 = 0) :
    State.txGather i same (k + 1) p = State.txGather i same k (entryPassed p i false len) := by
  cases hg : (p.part i).gather with
  | none =>
    rw [gather_types_first p i hg] at he
    rw [txGather_first_skip p i same k hg len ws he ht, if_neg (not_not_intro hr)]
  | some old =>
    rw [gather_types_chained p i old hg] at he
    rw [txGather_chained_skip p i same k old hg len ws he ht, if_neg (not_not_intro hr)]

/-! A job whose entries are all read (R323 to R325). -/

section
variable (job : HostJob)

/-- The segments do not add up to FRAME_LEN, or the frame is too long for its port (R323). -/
def JobOutOfBounds : Prop := (job.segs.map (·.2)).foldl (· + ·) 0 ≠ jobLen job.w ∨
  (jobBridge job.w = false ∧ jobClassify job.w = false ∧ p.maxFrame (jobDest job.w) < jobLen job.w + 4)

def chainFlags : Nat := if 1 < job.entries then flChained else 0

/-- The job counts as in progress, with its record and number. -/
def jobAccepted : State :=
  let u := p.fresh.1.setJob p.fresh.2 ⟨i, jobTag job.w, job.gen, jobTs job.w, jobLaunch job.w, !jobBridge job.w && !jobClassify job.w,
    jobLen job.w, decide (1 < job.entries), false, 0⟩
  u.put PART_STAT.TX_INPROG (u.get PART_STAT.TX_INPROG i + 1) i

theorem jobBound_iff : p.jobBound job = true ↔ JobOutOfBounds p job := by
  simp only [State.jobBound, JobOutOfBounds, Bool.or_eq_true, Bool.and_eq_true, bne_iff_ne, Bool.not_eq_true', decide_eq_true_eq, and_assoc]

theorem txChecked_stale (hs : job.stale = true) : p.txChecked i same job =
    (p.count GLB_STALE_CNT.COUNT).txDone i (p.stale.pairGen i false) (stStale + chainFlags job) (jobTag job.w) 0 0 := by
  simp only [State.txChecked, hs, if_true, decide_eq_true_eq]
  rfl

variable (hs : job.stale = false)
include hs

theorem txChecked_bound (hb : JobOutOfBounds p job) :
    p.txChecked i same job = p.malformed i false job.ptr stBound (jobTag job.w) (chainFlags job) job.gen := by
  simp only [State.txChecked, hs, (jobBound_iff p job).2 hb, Bool.false_eq_true, if_true, if_false, decide_eq_true_eq]
  rfl

theorem txChecked_accepted (hb : ¬ JobOutOfBounds p job) : p.txChecked i same job =
    (jobAccepted p i job).txAlloc i same { job with id := p.fresh.2, takenSt := (jobAccepted p i job).st80.toNat } := by
  rw [State.txChecked, hs, if_neg Bool.false_ne_true, if_neg (mt (jobBound_iff p job).1 hb)]
  rfl

end

theorem txAlloc_granted (job : HostJob) (q : State) (pool ptr : Nat)
    (h : p.alloc .host same (jobLen job.w) (0x10 + i) 0 = (q, pool, some ptr)) :
    p.txAlloc i same job = ((q.onPart i (fun v => { v with held := none })).put PART_STAT.ALLOC_WAIT 0 i).txRead i job ptr := by
  rw [State.txAlloc, h]

theorem txAlloc_held (job : HostJob) (q : State) (pool : Nat) (h : p.alloc .host same (jobLen job.w) (0x10 + i) 0 = (q, pool, none)) :
    p.txAlloc i same job = (q.onPart i (fun v => { v with held := some job })).put PART_STAT.ALLOC_WAIT 1 i := by
  rw [State.txAlloc, h]

/-! TX_JOB_RETRY (R325). -/

theorem exec_txJobRetry (n : Fin 8) (h : p.runs 0 = true) : exec (.txJobRetry n) p =
    if (p.pass 0).retryNext n.val = true then exec .bellEdge p else .next (p.finish (p.pass 0)) :=
  onEdge_runs p (fun s => s.retryNext n.val) h

theorem retryNext_iff : p.retryNext i = true ↔ p.fixedRuns = true ∧ (p.part i).held.isSome = true := by
  rw [State.retryNext, Bool.and_eq_true]

/-! RX_BUF (R318, R329, R331). -/

theorem exec_rxBuf (dt : Nat) (j : Fin 8) (h : p.awake dt = true) : exec (.rxBuf dt j) p = .next (p.finish ((p.pass dt).rxBuf j.val)) :=
  State.engine_awake p dt (fun s => s.rxBuf j.val) h

theorem rxBuf_takes (ht : p.takesEntries i true = true) (hw : p.oldWork i true = false) :
    p.rxBuf i = (State.rxTake i 64 p).hostKick i := if_pos (by rw [ht, hw]; rfl)

theorem rxBuf_idle (h : p.takesEntries i true = false ∨ p.oldWork i true = true) : p.rxBuf i = p :=
  if_neg (by rcases h with h | h <;> simp only [h, Bool.false_and, Bool.not_true, Bool.and_false, Bool.false_eq_true, not_false_eq_true])

/-- Does an RX_SUPPLY_ERR have no place (R331)? -/
abbrev SupplyFull : Prop := 64 ≤ (p.part i).deliv.length + (p.part i).rxHeld.length

/-- A refused entry acts as `u` says; where its RX_SUPPLY_ERR has no place and nothing fences, it waits. -/
def rxRefused (u : State) : State := if SupplyFull p i ∧ p.fences i = false then p else u

theorem rxRefused_eq (u : State) : (if (p.supplyFull i && !p.fences i) = true then p else u) = rxRefused p i u := by
  simp only [State.supplyFull, Bool.and_eq_true, decide_eq_true_eq, Bool.not_eq_true', rxRefused]

theorem rxTake_wait (he : p.entryAt i true [0x0F, 0x10] = .wait) : State.rxTake i (k + 1) p = p := by
  simp only [State.rxTake, he]

theorem rxTake_bad (code len tag : Nat) (he : p.entryAt i true [0x0F, 0x10] = .bad code len tag) :
    State.rxTake i (k + 1) p = rxRefused p i (p.badEntry i true code len 0 0 (p.pairGen i true)) := by
  simp only [State.rxTake, he, rxRefused_eq]

/-- The addresses that an RX_BUF adds to the list, with the size of each buffer. -/
def rxMore (ws : List Nat) : List (Nat × Nat) := (rxAddrs ws).map (fun a => (a, getBits (ws.headD 0) 32 16))

/-- The buffers join the list, and PART_STAT shows its length. -/
def rxJoined (ws : List Nat) : State :=
  let v := p.onPart i (fun q => { q with rxBufs := q.rxBufs ++ rxMore ws })
  v.put PART_STAT.RX_BUFS (v.part i).rxBufs.length i

section
variable (len : Nat) (ws : List Nat) (he : p.entryAt i true [0x0F, 0x10] = .whole len ws)
include he

theorem rxTake_skip (ht : getBits (ws.headD 0) 8 8 = 0x0F) :
    State.rxTake i (k + 1) p = if getBits (ws.headD 0) 6 2 ≠ 0 then
        rxRefused p i ((entryPassed p i true len).malformed i true (p.ringHead i 1) stBadField 0 0 (p.pairGen i true))
      else State.rxTake i k (entryPassed p i true len) := by
  simp only [State.rxTake, he, if_pos ht, rxRefused_eq]
  rfl

/-- An RX_BUF: stale, malformed, too many buffers for the list, or taken. -/
theorem rxTake_entry (ht : getBits (ws.headD 0) 8 8 ≠ 0x0F) :
    State.rxTake i (k + 1) p =
      if getBits (ws.headD 0) 16 16 ≠ p.pairGen i true then
        if SupplyFull p i then p else ((entryPassed p i true len).count GLB_STALE_CNT.COUNT).supplyErr i (p.ringHead i 1) stStale
      else if rxBufBad ws = true then
        rxRefused p i ((entryPassed p i true len).malformed i true (p.ringHead i 1) stBadField 0 0 (p.pairGen i true))
      else if 65535 < (p.part i).rxBufs.length + (rxMore ws).length then p
      else rxJoined (entryPassed p i true len) i ws := by
  simp only [State.rxTake, he, if_neg ht, rxRefused_eq]
  simp only [State.supplyFull, decide_eq_true_eq]
  rfl

end

end Sys2Proof.Proofs

namespace Sys2Proof.Proofs

open Sys2Proof Sys2Proof.Machine

/-- Settles O47: a push by what it breaks, the entry at the head by the rows of R333, and a taken entry by its kind and fields. -/
theorem hostEntries : Obligations.HostEntries := by
  refine ⟨fun dt init i off beats rx s hu hd hg => ?_, fun i rx types t => ?_, fun dt j same s h => ?_, fun i s h => ?_,
    fun dt j s h => ?_⟩
  · have hx := exec_push s rx dt init i off beats hu hd hg
    refine ⟨fun hb => hx.trans ?_, fun hok hc => hx.trans ?_, fun hok hc hl => hx.trans ?_, fun hok hc hl => hx.trans ?_⟩
    · rw [push_refused _ _ _ _ (by cases rx <;> exact hb)]
    · rw [push_tail _ _ _ _ (by cases rx <;> exact hok) hc]
      cases rx <;> rfl
    · rw [push_kept _ _ _ _ (by cases rx <;> exact hok) hc hl]
      cases rx <;> rfl
    · rw [push_discarded _ _ _ _ (by cases rx <;> exact hok) hc hl]
      cases rx <;> rfl
  · refine ⟨entryAt_wait t i rx types, entryAt_timeout t i rx types, entryAt_fault t i rx types, fun hu v hv => ?_⟩
    have hx := entryAt_read t i rx v types hu hv
    refine ⟨fun ht => ?_, fun ht hf => ?_, fun ht hf => ⟨fun hp => ?_, fun hp => ⟨fun hk => ?_, fun hk hl => ?_, fun hk hl hw => ?_,
      fun hk hl hu hn => ?_⟩⟩⟩
    · exact hx.trans (if_pos ht)
    · exact hx.trans ((if_neg ht).trans (if_pos hf))
    all_goals refine hx.trans ((if_neg ht).trans ((if_neg hf).trans ?_))
    · exact if_pos hp
    all_goals refine (if_neg (not_not_intro hp)).trans ?_
    · exact if_pos hk
    all_goals refine (if_neg (not_not_intro hk)).trans ?_
    · exact if_pos hl
    · exact (if_neg hl).trans (if_pos hw)
    · exact (if_neg hl).trans (if_neg (not_or.2 ⟨hu, hn⟩))
  · have hx := exec_txJob s same dt j h
    refine ⟨fun hm => ?_, fun hm => ?_, fun k t => ⟨txGather_wait t j.val same k, fun code len tag he hg => ?_,
      fun code len tag old he hg => ?_, fun len ws he => ⟨txGather_skip_passed t j.val same k len ws he, fun ht hr hg => ?_,
        fun old ht hr hg => ?_, fun ht hg => ?_, fun old ht hg => ?_⟩⟩, fun t job => ⟨txChecked_stale t j.val same job,
          txChecked_bound t j.val same job, fun hs hsum hmax => ?_⟩, fun t job q pool =>
            ⟨fun ptr => txAlloc_granted t j.val same job q pool ptr, txAlloc_held t j.val same job q pool⟩⟩
    · rw [hx, txJob_comes _ _ _ hm]
    · rw [hx, txJob_idle _ _ _ hm]
    · exact txGather_first_bad t j.val same k hg code len tag ((gather_types_first t j.val hg).symm.trans he)
    · exact txGather_chained_bad t j.val same k old hg code len tag ((gather_types_chained t j.val old hg).symm.trans he)
    · exact (txGather_first_skip t j.val same k hg len ws ((gather_types_first t j.val hg).symm.trans he) ht).trans (if_pos hr)
    · exact (txGather_chained_skip t j.val same k old hg len ws ((gather_types_chained t j.val old hg).symm.trans he) ht).trans (if_pos hr)
    · have hy := txGather_first_entry t j.val same k hg len ws ((gather_types_first t j.val hg).symm.trans he) ht
      refine ⟨fun hs hb => ?_, fun hs hb hl => ?_, fun hok => ?_⟩
      · exact hy.trans (if_pos ⟨Decidable.not_not.1 hs, hb⟩)
      · refine hy.trans ((if_neg fun hk => ?_).trans (if_pos ⟨Decidable.not_not.1 hs, hl⟩))
        exact absurd (hb.symm.trans hk.2) (by decide)
      · have fields : ¬ (getBits (ws.headD 0) 16 16 = t.pairGen j.val false ∧ jobFieldBad len (ws.headD 0) ws.tail = true) :=
          fun hk => hok.elim (fun hs => hs hk.1) fun hg => absurd (hg.1.symm.trans hk.2) (by decide)
        have length : ¬ (getBits (ws.headD 0) 16 16 = t.pairGen j.val false ∧ (jobLen (ws.headD 0) < 14 ∨ 16320 < jobLen (ws.headD 0))) :=
          fun hk => hok.elim (fun hs => hs hk.1) fun hg => hk.2.elim (Nat.not_lt.2 hg.2.1) (Nat.not_lt.2 hg.2.2)
        rw [if_neg fields, if_neg length] at hy
        exact ⟨fun hc => hy.trans (if_pos hc), fun hc => hy.trans (if_neg (Bool.not_eq_true _ ▸ hc))⟩
    · have hy := txGather_chained_entry t j.val same k old hg len ws ((gather_types_chained t j.val old hg).symm.trans he) ht
      refine ⟨fun hb => hy.trans (if_pos hb), fun hb hc h3 => hy.trans ((if_neg hb).trans (if_pos ⟨hc, h3⟩)), fun hb hc h3 => ?_,
        fun hb hc => ?_⟩
      · exact hy.trans ((if_neg hb).trans ((if_neg fun hk => h3 hk.2).trans (if_pos hc)))
      · have last : ¬ jobCont (ws.headD 0) = true := Bool.not_eq_true _ ▸ hc
        exact hy.trans ((if_neg hb).trans ((if_neg fun hk => last hk.1).trans (if_neg last)))
    · refine txChecked_accepted t j.val same job hs fun hb => hb.elim (fun hn => hn hsum) fun ⟨hbr, hcl, hlt⟩ => ?_
      rcases hmax with hk | hk | hk
      · exact absurd (hbr.symm.trans hk) (by decide)
      · exact absurd (hcl.symm.trans hk) (by decide)
      · exact Nat.not_lt.2 hk hlt
  · refine ⟨fun hf hh => ?_, fun hn => ?_⟩
    · rw [exec_txJobRetry s i h, if_pos ((retryNext_iff _ _).2 ⟨hf, hh⟩)]
    · rw [exec_txJobRetry s i h, if_neg]
      rw [retryNext_iff]
      rintro ⟨hf, hh⟩
      rcases hn with hn | hn
      · exact absurd (hn.symm.trans hf) (by decide)
      · exact absurd hh (by rw [hn]; decide)
  · have hx := exec_rxBuf s dt j h
    refine ⟨fun ht hw => ?_, fun hn => ?_, fun k t => ⟨rxTake_wait t j.val k, rxTake_bad t j.val k, fun len ws he => ⟨fun ht hr => ?_,
      fun ht hr => ?_, fun ht hs => ?_, fun ht hs hb => ?_, fun ht hs hb hl => ?_, fun ht hs hb hl v hv => ?_⟩⟩⟩
    · rw [hx, rxBuf_takes _ _ ht hw]
    · rw [hx, rxBuf_idle _ _ hn]
    · exact (rxTake_skip t j.val k len ws he ht).trans (if_neg (not_not_intro hr))
    · exact (rxTake_skip t j.val k len ws he ht).trans (if_pos hr)
    all_goals have hy := rxTake_entry t j.val k len ws he ht
    · exact hy.trans (if_pos hs)
    all_goals replace hy := hy.trans (if_neg hs)
    · exact hy.trans (if_pos hb)
    all_goals replace hy := hy.trans (if_neg (Bool.not_eq_true _ ▸ hb))
    · exact hy.trans (if_pos hl)
    · rw [hv]
      exact hy.trans (if_neg (Nat.not_lt.2 hl))

end Sys2Proof.Proofs
end


section
/-! SUPPORT. The numbers of a bell edge: which part of an edge's work writes which register (R82, R83, R85, R88, R98). -/

namespace Sys2Proof.Proofs

open Sys2Proof Sys2Proof.Machine

variable (p : State) (e : Edge)

/-- A field is read from the word of its register alone. -/
theorem get_of_rg {s t : State} (f : Fld) (i j : Nat) (h : s.rg (f.key i j) = t.rg (f.key i j)) : s.get f i j = t.get f i j := by
  rw [State.get, h, State.get]

section
variable {k : Nat} (hstat : k ≠ GLB_BELL_STAT.reg.key 0 0)
include hstat

/-- A field of GLB_BELL_STAT stands in that register alone. -/
theorem rg_put_bellStat (f : Fld) (v : Nat) (hf : f.key 0 0 = GLB_BELL_STAT.reg.key 0 0) : (p.put f v).rg k = p.rg k :=
  State.rg_put_other p f v 0 0 k (by rw [hf]; exact hstat)

/-- A new grid at a term boundary reloads no number (R88). -/
theorem applyBellCfg_rg : (p.applyBellCfg e).rg k = p.rg k := rg_put_bellStat p hstat GLB_BELL_STAT.CFG_PEND 0 rfl

/-- Arming reloads no number (R84). -/
theorem edgeArm_rg (st : Nat) : (p.edgeArm st).rg k = p.rg k := by
  rw [State.edgeArm]
  split
  · exact rg_put_bellStat p hstat GLB_BELL_STAT.ARMED 1 rfl
  · rfl

/-- The re-phase and the way back to the free-running grid reload no number (R83, R85, R86). -/
theorem edgeSource_rg (hlow : k < 0xC8800) : (p.edgeSource e).rg k = p.rg k := by
  rw [State.edgeSource]
  split
  · rw [State.rg_raise _ _ _ hlow]
    calc (((p.put GLB_BELL_STAT.SRC 1).put GLB_BELL_STAT.ARMED 0).put GLB_BELL_STAT.REPHASED 1).rg k
      _ = ((p.put GLB_BELL_STAT.SRC 1).put GLB_BELL_STAT.ARMED 0).rg k := rg_put_bellStat _ hstat _ _ rfl
      _ = (p.put GLB_BELL_STAT.SRC 1).rg k := rg_put_bellStat _ hstat _ _ rfl
      _ = p.rg k := rg_put_bellStat p hstat _ _ rfl
  · split
    · exact rg_put_bellStat p hstat GLB_BELL_STAT.SRC 0 rfl
    · rfl

/-- After the count of the term an edge writes no number any more. -/
theorem edgeNumbers_rg : (p.edgeNumbers e).rg k =
    (((p.edgeCount e).edgeSource e).edgeTerm e (p.endsTerm e) (p.edgeValid e) (p.stNsAt e.frc)).rg k := by
  rw [State.edgeNumbers, edgeArm_rg _ hstat]
  split
  · exact applyBellCfg_rg _ e hstat
  · rfl

/-- A register that counts no term has its word from the count of the bell. -/
theorem edgeNumbers_rg_bell (hlow : k < 0xC8800) (hnum : k ≠ GLB_TERM_NUM.reg.key 0 0) (hbell : k ≠ GLB_TERM_BELL.reg.key 0 0) :
    (p.edgeNumbers e).rg k = (p.edgeCount e).rg k := by
  rw [edgeNumbers_rg p e hstat, ← edgeSource_rg (p.edgeCount e) e hstat hlow, State.edgeTerm]
  split
  · exact (State.rg_put_other _ GLB_TERM_BELL.INDEX 0 0 0 k hbell).trans (State.rg_put_other _ GLB_TERM_NUM.TERM _ 0 0 k hnum)
  · exact State.rg_put_other _ GLB_TERM_BELL.INDEX _ 0 0 k hbell

end

/-! The count of the bell (R82, R98). -/

/-- Beside the time samples the count writes the bell number. -/
theorem edgeCount_rg {k : Nat} (hstat : k ≠ GLB_BELL_STAT.reg.key 0 0) (hfrc : k ≠ GLB_BELL_FRC.reg.key 0 0)
    (hst : k ≠ GLB_BELL_ST.reg.key 0 0) :
    (p.edgeCount e).rg k = (p.put GLB_BELL_NUM.BELL (p.get GLB_BELL_NUM.BELL + 1)).rg k := by
  refine (rg_put_bellStat _ hstat GLB_BELL_STAT.ST_VALID _ rfl).trans ?_
  rw [State.rg_setRg_other _ _ _ _ hst, State.rg_setRg_other _ _ _ _ hfrc]

theorem edgeCount_bell : (p.edgeCount e).get GLB_BELL_NUM.BELL = (p.get GLB_BELL_NUM.BELL + 1) % 2 ^ 32 :=
  (get_of_rg _ 0 0 (edgeCount_rg p e (by decide) (by decide) (by decide))).trans
    (State.get_put_same p GLB_BELL_NUM.BELL _ 0 0 (by decide))

theorem edgeCount_frc (h : e.frc < 2 ^ 64) : (p.edgeCount e).rg (GLB_BELL_FRC.reg.key 0 0) = e.frc := by
  refine (rg_put_bellStat _ (by decide) GLB_BELL_STAT.ST_VALID _ rfl).trans ?_
  rw [State.rg_setRg_other _ _ _ _ (by decide), State.rg_setRg_same, Nat.mod_eq_of_lt h]

theorem edgeCount_st : (p.edgeCount e).rg (GLB_BELL_ST.reg.key 0 0) = if p.edgeValid e then p.stNsAt e.frc % 2 ^ 64 else 0 := by
  refine (rg_put_bellStat _ (by decide) GLB_BELL_STAT.ST_VALID _ rfl).trans ?_
  rw [State.rg_setRg_same]
  split <;> rfl

theorem edgeCount_term : (p.edgeCount e).rg (GLB_TERM_NUM.reg.key 0 0) = p.rg (GLB_TERM_NUM.reg.key 0 0) :=
  (edgeCount_rg p e (by decide) (by decide) (by decide)).trans (State.rg_put_other p GLB_BELL_NUM.BELL _ 0 0 _ (by decide))

theorem edgeCount_index : (p.edgeCount e).rg (GLB_TERM_BELL.reg.key 0 0) = p.rg (GLB_TERM_BELL.reg.key 0 0) :=
  (edgeCount_rg p e (by decide) (by decide) (by decide)).trans (State.rg_put_other p GLB_BELL_NUM.BELL _ 0 0 _ (by decide))

/-! The count of the term (R82). -/

section
variable (valid : Bool) (st : Nat)

theorem edgeTerm_boundary_term : (p.edgeTerm e true valid st).get GLB_TERM_NUM.TERM = (p.get GLB_TERM_NUM.TERM + 1) % 2 ^ 32 :=
  (State.get_put_key _ GLB_TERM_BELL.INDEX GLB_TERM_NUM.TERM 0 0 0 0 0 (by decide)).trans
    (State.get_put_same p GLB_TERM_NUM.TERM _ 0 0 (by decide))

theorem edgeTerm_boundary_index : (p.edgeTerm e true valid st).get GLB_TERM_BELL.INDEX = 0 :=
  State.get_put_same _ GLB_TERM_BELL.INDEX 0 0 0 (by decide)

theorem edgeTerm_inside_term : (p.edgeTerm e false valid st).get GLB_TERM_NUM.TERM = p.get GLB_TERM_NUM.TERM :=
  State.get_put_key p GLB_TERM_BELL.INDEX GLB_TERM_NUM.TERM _ 0 0 0 0 (by decide)

theorem edgeTerm_inside_index : (p.edgeTerm e false valid st).get GLB_TERM_BELL.INDEX = (p.get GLB_TERM_BELL.INDEX + 1) % 2 ^ 16 :=
  State.get_put_same p GLB_TERM_BELL.INDEX _ 0 0 (by decide)

end

/-- The numbers of the term come to its count as the edge found them. -/
theorem edgeSource_edgeCount_term : ((p.edgeCount e).edgeSource e).get GLB_TERM_NUM.TERM = p.get GLB_TERM_NUM.TERM :=
  get_of_rg _ 0 0 ((edgeSource_rg _ e (by decide) (by decide)).trans (edgeCount_term p e))

theorem edgeSource_edgeCount_index : ((p.edgeCount e).edgeSource e).get GLB_TERM_BELL.INDEX = p.get GLB_TERM_BELL.INDEX :=
  get_of_rg _ 0 0 ((edgeSource_rg _ e (by decide) (by decide)).trans (edgeCount_index p e))

theorem edgeNumbers_term : (p.edgeNumbers e).get GLB_TERM_NUM.TERM =
    (((p.edgeCount e).edgeSource e).edgeTerm e (p.endsTerm e) (p.edgeValid e) (p.stNsAt e.frc)).get GLB_TERM_NUM.TERM :=
  get_of_rg _ 0 0 (edgeNumbers_rg p e (by decide))

theorem edgeNumbers_index : (p.edgeNumbers e).get GLB_TERM_BELL.INDEX =
    (((p.edgeCount e).edgeSource e).edgeTerm e (p.endsTerm e) (p.edgeValid e) (p.stNsAt e.frc)).get GLB_TERM_BELL.INDEX :=
  get_of_rg _ 0 0 (edgeNumbers_rg p e (by decide))

end Sys2Proof.Proofs

namespace Sys2Proof.Proofs

open Sys2Proof Sys2Proof.Machine

/-- Settles O23: the bell's registers are written by its count alone, the term's by theirs, and no change of grid or configuration
writes any of them. -/
theorem bellNumbersNeverJump : Obligations.BellNumbersNeverJump := by
  intro s e he
  refine ⟨?_, ?_, ?_, fun hterm => ⟨?_, ?_⟩, fun hterm => ⟨?_, ?_⟩⟩
  · exact (get_of_rg _ 0 0 (edgeNumbers_rg_bell s e (by decide) (by decide) (by decide) (by decide))).trans (edgeCount_bell s e)
  · rw [edgeNumbers_rg_bell s e (by decide) (by decide) (by decide) (by decide), edgeCount_frc s e he]
  · rw [edgeNumbers_rg_bell s e (by decide) (by decide) (by decide) (by decide), edgeCount_st]
  · rw [edgeNumbers_term, hterm, edgeTerm_boundary_term, edgeSource_edgeCount_term]
  · rw [edgeNumbers_index, hterm, edgeTerm_boundary_index]
  · rw [edgeNumbers_term, hterm, edgeTerm_inside_term, edgeSource_edgeCount_term]
  · rw [edgeNumbers_index, hterm, edgeTerm_inside_index, edgeSource_edgeCount_index]

end Sys2Proof.Proofs
end


section
/-! SUPPORT. The length of a report card, section by section (R97 to R99). -/

namespace Sys2Proof.Proofs

open Sys2Proof Sys2Proof.Machine

variable (p : State) (e : Edge)

/-- A section has a word for every slot of each of its units. -/
theorem sectionWords_length (x : Fld × Nat × Nat × Nat) : (p.sectionWords x).length = x.2.1 * x.2.2.2 := by
  simp only [State.sectionWords, List.length_flatMap, List.length_map, List.length_range, List.map_const', List.sum_replicate_nat]

/-- Sections stand one behind another. -/
theorem sections_length (l : List (Fld × Nat × Nat × Nat)) :
    (l.flatMap p.sectionWords).length = (l.map fun x => x.2.1 * x.2.2.2).sum := by
  simp only [List.length_flatMap, sectionWords_length]

/-- The body of the card reaches from 0x0040 to 0x1FF7. -/
theorem cardBody_length : p.cardBody.length = 1015 := by
  have ports : (cardSections.flatMap p.sectionWords).length = 383 := sections_length p cardSections
  have pools : (p.sectionWords poolSection).length = 40 := sectionWords_length p poolSection
  have rest : (cardSections2.flatMap p.sectionWords).length = 536 := sections_length p cardSections2
  simp only [State.cardBody, List.length_append, List.length_cons, List.length_nil, List.length_replicate, ports, pools, rest]

theorem cardHeader_length : (p.cardHeader e).length = 8 := rfl

/-- Everything before the trailer. -/
theorem cardFront_length : (p.cardHeader e ++ p.cardBody).length = 1023 := by
  rw [List.length_append, cardHeader_length, cardBody_length]

theorem card_eq : p.card e = (p.cardHeader e ++ p.cardBody) ++
    [crcWords (p.cardHeader e ++ p.cardBody) + p.get GLB_TERM_NUM.TERM * 2 ^ 32] := rfl

theorem card_take_front : (p.card e).take 1023 = p.cardHeader e ++ p.cardBody := List.take_left' (cardFront_length p e)

end Sys2Proof.Proofs

namespace Sys2Proof.Proofs

open Sys2Proof Sys2Proof.Machine

/-- Settles O24: the lengths of the sections add up, and the trailer is the word behind them. -/
theorem cardHasItsSize : Obligations.CardHasItsSize := by
  intro s e
  refine ⟨?_, cardHeader_length s e, ?_, ?_⟩
  · rw [card_eq, List.length_append, cardFront_length, List.length_singleton]
  · rw [card_take_front, card_eq, List.getLast?_concat]
  · rw [card_eq, List.append_assoc]
    exact List.take_left' (cardHeader_length s e)

end Sys2Proof.Proofs
end


section
/-! SUPPORT. The next edge of the grid, and the commands that perform it (R81, R82, R84, R85). -/

namespace Sys2Proof.Proofs

open Sys2Proof Sys2Proof.Machine

variable (p : State)

/-- The FRC of the next free-running edge (R81). -/
def freeEdge : Nat := p.bell.origin + (p.bell.k + 1) * p.bell.period

/-- Would the next free-running edge fall less than PERIOD before the re-phase boundary, or after it (R84)? -/
def RephaseNear : Prop := p.bell.rephaseAt < p.stNsAt (freeEdge p) + p.bell.period

theorem nextEdge_aligned (h : p.on GLB_BELL_STAT.SRC = true) :
    p.nextEdge = ⟨p.frcAtSt (p.bell.edgeGrid + p.bell.period), p.bell.edgeGrid + p.bell.period, false⟩ := if_pos h

section
variable (hsrc : p.on GLB_BELL_STAT.SRC = false)
include hsrc

theorem nextEdge_free (h : p.on GLB_BELL_STAT.ARMED = false ∨ ¬ RephaseNear p) : p.nextEdge = ⟨freeEdge p, freeEdge p, false⟩ := by
  refine (if_neg (by rw [hsrc]; decide)).trans (if_neg ?_)
  rw [Bool.and_eq_true, decide_eq_true_eq]
  rintro ⟨harm, hnear⟩
  rcases h with h | h
  · exact absurd (h.symm.trans harm) (by decide)
  · exact h hnear

theorem nextEdge_rephase (harm : p.on GLB_BELL_STAT.ARMED = true) (hnear : RephaseNear p) :
    p.nextEdge = ⟨p.frcAtSt p.bell.rephaseAt, p.bell.rephaseAt, true⟩ := by
  refine (if_neg (by rw [hsrc]; decide)).trans (if_pos ?_)
  rw [Bool.and_eq_true, decide_eq_true_eq]
  exact ⟨harm, hnear⟩

end

section
variable (h : p.runs 0 = true)
include h

/-- The state in which the main domain runs is not in main-domain reset. -/
theorem mainReset_of_runs : (p.pass 0).chip.mainReset = false := by
  simp only [State.runs, Bool.and_eq_true, Bool.not_eq_true'] at h
  exact h.2

theorem exec_bellEdge (e : Edge) (he : (p.pass 0).nextEdge = e) :
    exec .bellEdge p = .next (p.finish (((p.pass 0).pass (e.frc - (p.pass 0).frc.toNat)).edgeAt e)) := by
  rw [show exec .bellEdge p = p.main 0 State.bellEdge from rfl, State.main_runs p 0 _ h, State.bellEdge,
    if_neg (by rw [mainReset_of_runs p h]; decide), he]

/-- TERM_BOUNDARY is the next edge where that edge ends the term. -/
theorem exec_termBoundary_ends (he : (p.pass 0).endsTerm (p.pass 0).nextEdge = true) : exec .termBoundary p = exec .bellEdge p :=
  (onEdge_runs p State.termNext h).trans (if_pos he)

theorem exec_termBoundary_idle (he : (p.pass 0).endsTerm (p.pass 0).nextEdge = false) :
    exec .termBoundary p = .next (p.finish (p.pass 0)) :=
  (onEdge_runs p State.termNext h).trans (if_neg (ne_true_of_eq_false he))

/-- REPHASE_EDGE is the next edge where that edge is the re-phase edge. -/
theorem exec_rephaseEdge_rephase (he : (p.pass 0).nextEdge.rephase = true) : exec .rephaseEdge p = exec .bellEdge p :=
  (onEdge_runs p State.rephaseNext h).trans (if_pos he)

theorem exec_rephaseEdge_idle (he : (p.pass 0).nextEdge.rephase = false) :
    exec .rephaseEdge p = .next (p.finish (p.pass 0)) :=
  (onEdge_runs p State.rephaseNext h).trans (if_neg (ne_true_of_eq_false he))

end

/-- An edge that does not re-phase ends the term as the TERM_BELLS-th of it (R82). -/
theorem endsTerm_plain (e : Edge) (he : e.rephase = false) :
    p.endsTerm e = decide (p.bell.termBells ≤ p.get GLB_TERM_BELL.INDEX + 1) := by rw [State.endsTerm, he, Bool.false_or]

/-- The re-phase edge ends the term (R85). -/
theorem endsTerm_rephase (e : Edge) (he : e.rephase = true) : p.endsTerm e = true := by rw [State.endsTerm, he, Bool.true_or]

end Sys2Proof.Proofs

namespace Sys2Proof.Proofs

open Sys2Proof Sys2Proof.Machine

/-- Settles O22: by the grid in force, free-running, at the re-phase, and aligned. -/
theorem bellEdges : Obligations.BellEdges := by
  intro s h p free at_ near
  refine ⟨fun hsrc hgrid => ?_, fun hsrc harm hnear => ?_, fun hsrc => ?_⟩
  · have he : p.nextEdge = ⟨free, free, false⟩ := nextEdge_free p hsrc hgrid
    have hedge : exec .bellEdge s = .next (s.finish (at_ ⟨free, free, false⟩)) := exec_bellEdge s h _ he
    have hends := endsTerm_plain p p.nextEdge (congrArg Edge.rephase he)
    refine ⟨hedge, fun hlast => ?_, fun hmore => ?_, exec_rephaseEdge_idle s h (congrArg Edge.rephase he)⟩
    · rw [exec_termBoundary_ends s h (hends.trans (decide_eq_true hlast)), hedge]
    · exact exec_termBoundary_idle s h (hends.trans (decide_eq_false (Nat.not_le.2 hmore)))
  · have he : p.nextEdge = ⟨p.frcAtSt p.bell.rephaseAt, p.bell.rephaseAt, true⟩ := nextEdge_rephase p hsrc harm hnear
    have hre : p.nextEdge.rephase = true := congrArg Edge.rephase he
    exact ⟨exec_bellEdge s h _ he, exec_termBoundary_ends s h (endsTerm_rephase p p.nextEdge hre), exec_rephaseEdge_rephase s h hre⟩
  · have he := nextEdge_aligned p hsrc
    have hends := endsTerm_plain p p.nextEdge (congrArg Edge.rephase he)
    exact ⟨exec_bellEdge s h _ he, fun hlast => exec_termBoundary_ends s h (hends.trans (decide_eq_true hlast)),
      exec_rephaseEdge_idle s h (congrArg Edge.rephase he)⟩

end Sys2Proof.Proofs
end


section
/-! SUPPORT. A step of a long operation: what it does where its turn has come, and where it has not (R91 to R95). -/

namespace Sys2Proof.Proofs

open Sys2Proof Sys2Proof.Machine

variable (p : State) (dt code : Nat)

/-- The command `c` is a step of operation `code`, whose work is `work` (R93). -/
def StepsAs (c : Instr) (work : State → State) : Prop :=
  (p.stepReady dt code = true → exec c p = .next (p.finish (work ((p.stepFrom dt code).stepCounted code)))) ∧
  (p.stepReady dt code = false →
    exec c p = .next (p.finish (if (p.pass dt).stepMode code then p.stepFrom dt code else p.pass dt)))

/-- The turn of operation `code` at the moment from which it may step (R93). -/
def StepTurn : Prop :=
  (p.stepFrom dt code).frc.toNat + stepNs ≤ (p.stepFrom dt code).nextEdge.frc ∧ (p.stepFrom dt code).cmdTurn = true ∧
    (p.stepFrom dt code).stepNext = some code

theorem stepReady_iff (h : p.runs dt = true) : p.stepReady dt code = true ↔ (p.pass dt).stepMode code = true ∧ StepTurn p dt code := by
  simp only [State.stepReady, StepTurn, h, Bool.true_and, Bool.and_eq_true, decide_eq_true_eq, beq_iff_eq, and_assoc]

/-- A step after `dt` cycles, in the terms of `stepReady`. -/
theorem stepRun_eq (h : p.runs dt = true) (work : State → State) : (p.pass dt).stepRun code work =
    if p.stepReady dt code = true then work ((p.stepFrom dt code).stepCounted code)
    else if (p.pass dt).stepMode code = true then p.stepFrom dt code else p.pass dt := by
  have hready := stepReady_iff p dt code h
  by_cases hmode : (p.pass dt).stepMode code = true
  · rw [State.stepRun, if_pos hmode, if_pos hmode]
    by_cases hturn : StepTurn p dt code
    · exact (if_pos hturn).trans (if_pos (hready.2 ⟨hmode, hturn⟩)).symm
    · exact (if_neg hturn).trans (if_neg fun hr => hturn (hready.1 hr).2).symm
  · rw [State.stepRun, if_neg hmode, if_neg hmode, if_neg fun hr => hmode (hready.1 hr).1]

/-- What ends in `stepRun` is a step. -/
theorem stepsAs_of_stepRun (h : p.runs dt = true) (c : Instr) (work : State → State)
    (hc : exec c p = .next (p.finish ((p.pass dt).stepRun code work))) : StepsAs p dt code c work := by
  rw [stepRun_eq p dt code h] at hc
  exact ⟨fun hr => by rw [hc, if_pos hr], fun hr => by rw [hc, if_neg (ne_true_of_eq_false hr)]⟩

/-- A command dispatched to `stepOp` is a step. -/
theorem stepsAs_of_stepOp (h : p.runs dt = true) (c : Instr) (work : State → State) (hc : exec c p = p.stepOp dt code work) :
    StepsAs p dt code c work :=
  stepsAs_of_stepRun p dt code h c work (hc.trans (State.main_runs p dt _ h))

/-! SCRUB_STEP and FILL_STEP share code 2 (R203, R215). -/

theorem exec_scrubStep (h : p.runs dt = true) (writes : List ProcWrite) : exec (.scrubStep ⟨dt, writes⟩) p =
    .next (p.finish (if (p.pass dt).filling then p.pass dt else (p.pass dt).stepRun 2 (State.scrubStep writes))) :=
  State.main_runs p dt (fun t => if t.filling then t else t.stepRun 2 (State.scrubStep writes)) h

theorem exec_fillStep (h : p.runs dt = true) : exec (.fillStep dt) p =
    .next (p.finish (if (p.pass dt).filling then (p.pass dt).stepRun 2 State.fillStep else p.pass dt)) :=
  State.main_runs p dt (fun t => if t.filling then t.stepRun 2 State.fillStep else t) h

end Sys2Proof.Proofs

namespace Sys2Proof.Proofs

open Sys2Proof Sys2Proof.Machine

/-- Settles O26: every command of a long operation is `stepRun` of its code, and code 2 goes to the filling bank first. -/
theorem longOperationSteps : Obligations.LongOperationSteps := by
  intro s dt h _
  have hscrub := exec_scrubStep s dt h
  have hfill := exec_fillStep s dt h
  refine ⟨fun defects writes => ?_, fun hidle => ⟨fun writes => ?_, ?_⟩, fun hbusy => ⟨?_, fun writes => ?_⟩, ?_, ?_, fun miss => ?_,
    fun bytes => ?_, ?_⟩
  · exact stepsAs_of_stepOp s dt 1 h (.preservingMarchStep ⟨dt, writes⟩ defects) _ rfl
  · exact stepsAs_of_stepRun s dt 2 h (.scrubStep ⟨dt, writes⟩) _
      ((hscrub writes).trans (by rw [hidle, if_neg Bool.false_ne_true]))
  · rw [hfill, hidle, if_neg Bool.false_ne_true]
  · exact stepsAs_of_stepRun s dt 2 h (.fillStep dt) _ (hfill.trans (by rw [if_pos hbusy]))
  · rw [hscrub, if_pos hbusy]
  · exact stepsAs_of_stepOp s dt 3 h (.ruleBankSwapStep dt) _ rfl
  · exact stepsAs_of_stepOp s dt 4 h (.poolRebuildStep dt) _ rfl
  · exact stepsAs_of_stepOp s dt 5 h (.ledgerWriteStep dt miss) _ rfl
  · exact stepsAs_of_stepOp s dt 6 h (.flashStep dt bytes) _ rfl
  · exact stepsAs_of_stepOp s dt 7 h (.secureZeroStep dt) _ rfl

end Sys2Proof.Proofs
end

section
/-! SUPPORT. A received MAC control frame: the receive timers it loads, and the rows of R127 (R127 to R129, R134). -/

namespace Sys2Proof.Proofs

open Sys2Proof Sys2Proof.Machine

variable (p : State) (n : Nat)

/-! What a port has received, and its receive timers, after what may hold or release its own frames. -/

/-- The RX FIFO and the receive timers of port `n` are in `q` what they are in `p`. -/
structure RxKept (n : Nat) (p q : State) : Prop where
  fifo : (q.port n).rxFifo = (p.port n).rxFifo
  pause : (q.port n).pauseEnd = (p.port n).pauseEnd
  pfc : (q.port n).pfcEnd = (p.port n).pfcEnd

theorem RxKept.of_port {n : Nat} {p q : State} (h : q.port n = p.port n) : RxKept n p q :=
  ⟨congrArg _ h, congrArg _ h, congrArg _ h⟩

theorem RxKept.trans {n : Nat} {p q r : State} (h : RxKept n p q) (g : RxKept n q r) : RxKept n p r :=
  ⟨g.fifo.trans h.fifo, g.pause.trans h.pause, g.pfc.trans h.pfc⟩

theorem rxKept_idleFrom : RxKept n p (p.idleFrom n) := by
  constructor <;> simp [State.idleFrom]

theorem rxKept_heldNote (t : State) : RxKept n t (p.heldNote t n) := by
  unfold State.heldNote
  split
  · exact rxKept_idleFrom t n
  · exact .of_port rfl

theorem port_pushFront (e : QEntry) (m : Nat) : (p.pushFront n e).port m = p.port m := by
  unfold State.pushFront
  dsimp only
  split <;> rfl

theorem rxKept_discardWait : RxKept n p (p.discardWait n) := by
  unfold State.discardWait
  split
  next t _ =>
    have hwait : RxKept n p (p.onPort n (fun x => { x with wait := none })) := by constructor <;> simp
    exact (hwait.trans (rxKept_idleFrom _ n)).trans (.of_port (port_pushFront _ n t.e n))
  next => exact .of_port rfl

theorem rxKept_pausedCopy : RxKept n p (p.pausedCopy n) := by
  unfold State.pausedCopy
  split
  · split
    · exact rxKept_discardWait p n
    · exact .of_port rfl
  · exact .of_port rfl

/-- The end of a receive timer that a frame loads with `t` quanta (R128, R129). -/
def timerEnd (t : Nat) : Nat := if t = 0 then 0 else p.frc.toNat * 100 + t * p.quantum100 n

theorem rxKept_loadPause (t : Nat) :
    RxKept n (p.onPort n (fun x => { x with pauseEnd := timerEnd p n t })) (p.loadPause n t) := rxKept_heldNote p n _

theorem rxKept_loadPfc (vec : Nat) (times : List Nat) :
    RxKept n (p.onPort n (fun x => { x with pfcEnd := (List.range 8).map (fun i =>
      if bitAt vec i then timerEnd p n (times.getD i 0) else x.pfcEnd.getD i 0) })) (p.loadPfc n vec times) :=
  (rxKept_heldNote p n _).trans (rxKept_pausedCopy _ n)

/-! The rows of R127. -/

section
variable (b : List Nat)

/-- Is the frame a pause frame for this port? -/
def IsPause : Prop :=
  beNat ((b.drop 14).take 2) = 1 ∧ (b.take 6 = ctrlMac ∨ b.take 6 = beBytes (p.get PORT_MAC_ADDR.ADDR n) 6)

/-- Is the frame a PFC frame? -/
def IsPfc : Prop := beNat ((b.drop 14).take 2) = 0x101 ∧ b.take 6 = ctrlMac

/-- Does flow control with code `mode` receive? -/
def FcReceives (mode : Nat) : Prop := (p.port n).fcMode = mode ∧ p.on PORT_FC_CTRL.RX_EN n = true

/-- Does the frame load the pause timer? -/
def LoadsPause : Prop := IsPause p n b ∧ FcReceives p n 1

/-- Does the frame load PFC timers? -/
def LoadsPfc : Prop := IsPfc b ∧ FcReceives p n 2

theorem isPause_iff :
    (beNat ((b.drop 14).take 2) == 1 && (b.take 6 == ctrlMac || b.take 6 == beBytes (p.get PORT_MAC_ADDR.ADDR n) 6)) = true ↔
      IsPause p n b := by
  simp only [IsPause, Bool.and_eq_true, Bool.or_eq_true, beq_iff_eq]

theorem isPfc_iff : (beNat ((b.drop 14).take 2) == 0x101 && b.take 6 == ctrlMac) = true ↔ IsPfc b := by
  simp only [IsPfc, Bool.and_eq_true, beq_iff_eq]

theorem fcReceives_iff (mode : Nat) : (p.fcMode n == mode && p.on PORT_FC_CTRL.RX_EN n) = true ↔ FcReceives p n mode := by
  simp only [FcReceives, State.fcMode, Bool.and_eq_true, beq_iff_eq]

/-- No frame is of both kinds. -/
theorem IsPfc.not_isPause {b : List Nat} (h : IsPfc b) : ¬ IsPause p n b := fun g => by
  have := h.1.symm.trans g.1
  omega

open Classical in
/-- The rows of R127, in their order. -/
theorem macControl_eq :
    p.macControl n b =
      if p.on PORT_FC_STAT.WDOG_ACTIVE n = true then p.count PORT_CNT.COUNT n pcRxPauseIgnored
      else if LoadsPause p n b then (p.loadPause n (beNat ((b.drop 16).take 2))).count PORT_CNT.COUNT n pcRxPause
      else if LoadsPfc p n b then
        (p.loadPfc n (beNat ((b.drop 16).take 2)) ((List.range 8).map (fun i => beNat ((b.drop (18 + 2 * i)).take 2)))).count
          PORT_CNT.COUNT n pcRxPfc
      else if IsPause p n b ∨ IsPfc b then p.count PORT_CNT.COUNT n pcRxPauseIgnored
      else p.count PORT_CNT.COUNT n pcRxCtrlUnknown := by
  simp only [LoadsPause, LoadsPfc, ← isPause_iff, ← isPfc_iff, ← fcReceives_iff, ← Bool.and_eq_true, ← Bool.or_eq_true, ← Bool.and_assoc]
  rfl

end

end Sys2Proof.Proofs

namespace Sys2Proof.Proofs

open Sys2Proof Sys2Proof.Machine

/-- Settles O28: the rows of R127 in their order, and what a loaded timer leaves. -/
theorem macControlTable : Obligations.MacControlTable := by
  intro s n b
  have hpause := rxKept_loadPause s n (beNat ((b.drop 16).take 2))
  have hpfc := rxKept_loadPfc s n (beNat ((b.drop 16).take 2)) ((List.range 8).map (fun i => beNat ((b.drop (18 + 2 * i)).take 2)))
  refine ⟨fun hdog => ?_, fun hdog (hkind : IsPause s n b ∨ IsPfc b) (hign : ¬ LoadsPause s n b ∧ ¬ LoadsPfc s n b) => ?_,
    fun hdog (hkind : IsPause s n b) (hign : ¬ (¬ LoadsPause s n b ∧ ¬ LoadsPfc s n b)) => ?_,
    fun hdog (hkind : IsPfc b) (hign : ¬ (¬ LoadsPause s n b ∧ ¬ LoadsPfc s n b)) => ?_,
    fun hdog (hp : ¬ IsPause s n b) (hf : ¬ IsPfc b) => ?_⟩
  · rw [macControl_eq, if_pos hdog]
  · rw [macControl_eq, if_neg hdog, if_neg hign.1, if_neg hign.2, if_pos hkind]
  · have hload : LoadsPause s n b := Classical.not_not.1 fun h => hign ⟨h, fun g => g.1.not_isPause s n hkind⟩
    refine ⟨_, by rw [macControl_eq, if_neg hdog, if_pos hload], ?_, ?_, ?_⟩
    · rw [hpause.fifo, State.port_onPort_same]
    · rw [hpause.pfc, State.port_onPort_same]
    · rw [hpause.pause, State.port_onPort_same]
      rfl
  · have hnot : ¬ LoadsPause s n b := fun g => hkind.not_isPause s n g.1
    have hload : LoadsPfc s n b := Classical.not_not.1 fun h => hign ⟨hnot, h⟩
    refine ⟨_, by rw [macControl_eq, if_neg hdog, if_neg hnot, if_pos hload], ?_, ?_, fun i hi => ?_⟩
    · rw [hpfc.fifo, State.port_onPort_same]
    · rw [hpfc.pause, State.port_onPort_same]
    · rw [hpfc.pfc, State.port_onPort_same]
      simp [timerEnd, hi]
  · rw [macControl_eq, if_neg hdog, if_neg fun h => hp h.1, if_neg fun h => hf h.1, if_neg fun h => h.elim hp hf]

end Sys2Proof.Proofs
end

section
/-! SUPPORT. What the receiver of a wired port hears (R105, R109, R112 to R116, R120, R127). -/

namespace Sys2Proof.Proofs

open Sys2Proof Sys2Proof.Machine

variable (p : State) (n : Nat)

/-! The input of the receiver: the PCS, or in loopback the port's own transmitter. -/

theorem fromPcs_loop (f : State → State) (h : p.on PORT_MAC_CTRL.LOOP n = true) : p.fromPcs n f = p := if_pos h

theorem fromPcs_open (f : State → State) (h : p.on PORT_MAC_CTRL.LOOP n = false) : p.fromPcs n f = f p :=
  if_neg (ne_true_of_eq_false h)

/-- What the receiver does not act on outside UP has no effect there and in loopback. -/
theorem fromPcs_idle (f : State → State) (hf : p.isUp n = false → f p = p)
    (h : p.isUp n = false ∨ p.on PORT_MAC_CTRL.LOOP n = true) : p.fromPcs n f = p := by
  by_cases hl : p.on PORT_MAC_CTRL.LOOP n = true
  · exact fromPcs_loop p n f hl
  · exact (fromPcs_open p n f (eq_false_of_ne_true hl)).trans (hf (h.resolve_right hl))

/-- What a wired port takes in from the PCS. -/
theorem exec_fromPcs (dt : Nat) (m : Fin 8) (c : Instr) (f : State → State)
    (hc : exec c p = p.main dt (fun s => s.receive m.val (fun s => s.fromPcs m.val f))) (h : p.hears dt m.val = true) :
    exec c p = .next (p.finish ((p.pass dt).fromPcs m.val f)) :=
  hc.trans (State.receive_hears p dt m.val (fun s => s.fromPcs m.val f) h)

theorem exec_rxFrame (dt : Nat) (m : Fin 8) (age : Nat) (lane : Fin 16) (k : List Bool) (l : List Byte) (h : p.hears dt m.val = true) :
    exec (.rxFrame dt m age lane k l) p =
      .next (p.finish ((p.pass dt).fromPcs m.val (fun s => s.rxLanes m.val age lane.val (laneList k l)))) :=
  exec_fromPcs p dt m _ _ rfl h

theorem exec_rxJabber (dt : Nat) (m : Fin 8) (h : p.hears dt m.val = true) :
    exec (.rxJabber dt m) p = .next (p.finish ((p.pass dt).fromPcs m.val (fun s => s.rxJabber m.val))) :=
  exec_fromPcs p dt m _ _ rfl h

theorem exec_misalignedStart (dt : Nat) (m : Fin 8) (h : p.hears dt m.val = true) :
    exec (.misalignedStart dt m) p = .next (p.finish ((p.pass dt).fromPcs m.val (fun s => s.misalignedStart m.val))) :=
  exec_fromPcs p dt m _ _ rfl h

/-! A stretch of lanes. -/

/-- Port `n` with no frame open on its receive side, and nothing to discard. -/
def rxClosed : State := p.onPort n (fun x => { x with rxOpen := false, gate := .take })

section
variable (age lane : Nat) (l : List Lane)

theorem rxLanes_down (h : p.isUp n = false) : p.rxLanes n age lane l = p := if_neg (ne_true_of_eq_false h)

/-- What the receiver does by what a stretch of lanes holds. -/
def rxActs : RxSeen → State
  | .nothing g => p.onPort n (fun x => { x with gate := g })
  | .opened => p.onPort n (fun x => { x with rxOpen := true, gate := .take })
  | .jabber => p.rxJabber n
  | .fault b => (rxClosed p n).rxFault n b
  | .packet smd b => (rxClosed p n).rxPacket n age lane smd b

theorem rxLanes_up (h : p.isUp n = true) :
    p.rxLanes n age lane l = rxActs p n age lane (rxRead (p.on PORT_PM_CFG.EN n) (p.port n).gate l) := by
  rw [State.rxLanes, if_pos h]
  cases rxRead (p.on PORT_PM_CFG.EN n) (p.port n).gate l <;> rfl

end

theorem rxPacket_frame (age lane : Nat) (b : List Nat) :
    p.rxPacket n age lane 0xD5 b = p.rxWhole n (p.tscRx n (p.frc.toNat - age) lane) (p.rxStartAt n age lane) b := rfl

/-! Jabber and misaligned Starts (R109, R114). -/

theorem rxJabber_counts (hu : p.isUp n = true) (hg : (p.port n).gate ≠ .jabber) :
    p.rxJabber n = (p.onPort n (fun x => { x with rxOpen := false, gate := .jabber })).count PORT_CNT.COUNT n pcRxJabber :=
  if_pos ⟨hu, hg⟩

theorem rxJabber_idle (h : p.isUp n = false ∨ (p.port n).gate = .jabber) : p.rxJabber n = p :=
  if_neg fun ⟨hu, hg⟩ => h.elim (ne_false_of_eq_true hu) hg

theorem misalignedStart_counts (hu : p.isUp n = true) (ho : (p.port n).rxOpen = false) (hg : (p.port n).gate = .take) :
    p.misalignedStart n = (p.onPort n (fun x => { x with gate := .misaligned })).count PORT_CNT.COUNT n pcRxCodeErr :=
  if_pos ⟨hu, ho, hg⟩

theorem misalignedStart_idle (h : p.isUp n = false ∨ (p.port n).rxOpen = true ∨ (p.port n).gate ≠ .take) : p.misalignedStart n = p :=
  if_neg fun ⟨hu, ho, hg⟩ => h.elim (ne_false_of_eq_true hu) fun h => h.elim (ne_true_of_eq_false ho) fun h => h hg

/-! The rows of a whole frame (R112, R113, R115, R116, R127). -/

section
variable (startAt ts : Nat) (b : List Nat)

/-- The bytes before the FCS. -/
def frameBody : List Nat := b.take (b.length - 4)

/-- Those of them that are stored: at most MAX_FRAME - 4. -/
def frameStored : List Nat := (frameBody b).take (p.maxAt n startAt - 4)

/-- Is the FCS right? -/
abbrev RxGood : Prop := b.drop (b.length - 4) = fcsBytes (frameBody b)

/-- Has the RX FIFO room for what is stored? -/
abbrev RxFits : Prop := p.fifoFill n + (frameStored p n startAt b).length ≤ fifoBytes n

/-- Is the frame dropped for its length? -/
abbrev RxDrops : Prop := p.maxAt n startAt < b.length ∧ p.on PORT_MAC_CTRL.OVS_DROP n = true

/-- The state in which the check units have seen the frame. -/
def rxTapped : State :=
  p.crcTapRx n (if RxFits p n startAt b then frameStored p n startAt b else [])
    (decide (RxFits p n startAt b ∧ 64 ≤ b.length ∧ RxGood b ∧ ¬ RxDrops p n startAt b))

/-- The same with the frame counted where it is oversized. -/
def rxSized : State :=
  if p.maxAt n startAt < b.length then (rxTapped p n startAt b).count PORT_CNT.COUNT n pcRxOversize else rxTapped p n startAt b

/-- The counters of an accepted frame. -/
def rxCounted (q : State) : State :=
  let q := (q.count PORT_CNT.COUNT n pcRxFrames).countN PORT_CNT.COUNT b.length n pcRxOctets
  if isBcast (frameBody b) then q.count PORT_CNT.COUNT n pcRxBcast
  else if isMcast (frameBody b) then q.count PORT_CNT.COUNT n pcRxMcast else q

/-- An accepted frame counts and enters the RX FIFO. -/
def rxAccepted : State :=
  let q := rxCounted n b (rxSized p n startAt b)
  q.onPort n (fun x => { x with act := true, rxFifo := x.rxFifo ++
    [⟨frameStored p n startAt b, decide (p.maxAt n startAt < b.length), ts, none, q.get GLB_BELL_NUM.BELL⟩] })

/-- A whole frame acts in the first row that holds. -/
theorem rxWhole_eq :
    p.rxWhole n ts startAt b =
      if ¬ RxFits p n startAt b then (rxTapped p n startAt b).count PORT_CNT.COUNT n pcRxFifoOvf
      else if b.length < 64 then (rxTapped p n startAt b).count PORT_CNT.COUNT n pcRxRunt
      else if ¬ RxGood b then (rxTapped p n startAt b).count PORT_CNT.COUNT n pcRxFcsErr
      else if RxDrops p n startAt b then (rxSized p n startAt b).count PORT_CNT.COUNT n pcRxOversizeDrop
      else if ((frameBody b).drop 12).take 2 = [0x88, 0x08] then (rxSized p n startAt b).macControl n (frameBody b)
      else rxAccepted p n startAt ts b := by
  have hflag : (decide (RxFits p n startAt b) && decide (64 ≤ b.length) && (b.drop (b.length - 4) == fcsBytes (frameBody b)) &&
      !(decide (p.maxAt n startAt < b.length) && p.on PORT_MAC_CTRL.OVS_DROP n)) =
      decide (RxFits p n startAt b ∧ 64 ≤ b.length ∧ RxGood b ∧ ¬ RxDrops p n startAt b) := by
    rw [Bool.eq_iff_iff]
    simp [and_assoc]
  unfold rxAccepted rxSized rxTapped
  rw [← hflag]
  simp only [RxFits, RxGood, RxDrops, State.rxWhole, rxCounted, frameStored, frameBody, Bool.not_eq_true', decide_eq_false_iff_not,
    decide_eq_true_eq, beq_eq_false_iff_ne, Bool.and_eq_true, beq_iff_eq]
  rfl

theorem rxWhole_full (hf : ¬ RxFits p n startAt b) :
    p.rxWhole n ts startAt b = (rxTapped p n startAt b).count PORT_CNT.COUNT n pcRxFifoOvf := by
  rw [rxWhole_eq, if_pos hf]

theorem rxWhole_short (hf : RxFits p n startAt b) (hl : b.length < 64) :
    p.rxWhole n ts startAt b = (rxTapped p n startAt b).count PORT_CNT.COUNT n pcRxRunt := by
  rw [rxWhole_eq, if_neg (not_not_intro hf), if_pos hl]

theorem rxWhole_badFcs (hf : RxFits p n startAt b) (hl : 64 ≤ b.length) (hg : ¬ RxGood b) :
    p.rxWhole n ts startAt b = (rxTapped p n startAt b).count PORT_CNT.COUNT n pcRxFcsErr := by
  rw [rxWhole_eq, if_neg (not_not_intro hf), if_neg (Nat.not_lt.2 hl), if_pos hg]

variable (hf : RxFits p n startAt b) (hl : 64 ≤ b.length) (hg : RxGood b)
include hf hl hg

theorem rxWhole_dropped (hd : RxDrops p n startAt b) :
    p.rxWhole n ts startAt b = (rxSized p n startAt b).count PORT_CNT.COUNT n pcRxOversizeDrop := by
  rw [rxWhole_eq, if_neg (not_not_intro hf), if_neg (Nat.not_lt.2 hl), if_neg (not_not_intro hg), if_pos hd]

theorem rxWhole_control (hd : ¬ RxDrops p n startAt b) (hc : ((frameBody b).drop 12).take 2 = [0x88, 0x08]) :
    p.rxWhole n ts startAt b = (rxSized p n startAt b).macControl n (frameBody b) := by
  rw [rxWhole_eq, if_neg (not_not_intro hf), if_neg (Nat.not_lt.2 hl), if_neg (not_not_intro hg), if_neg hd, if_pos hc]

theorem rxWhole_accepted (hd : ¬ RxDrops p n startAt b) (hc : ((frameBody b).drop 12).take 2 ≠ [0x88, 0x08]) :
    p.rxWhole n ts startAt b = rxAccepted p n startAt ts b := by
  rw [rxWhole_eq, if_neg (not_not_intro hf), if_neg (Nat.not_lt.2 hl), if_neg (not_not_intro hg), if_neg hd, if_neg hc]

end

end Sys2Proof.Proofs

namespace Sys2Proof.Proofs

open Sys2Proof Sys2Proof.Machine

/-- Settles O27: what the lanes hold decides, and of a packet the first row of `rxWhole_eq`. -/
theorem wiredReception : Obligations.WiredReception := by
  intro dt n s h
  have hframe (age : Nat) (lane : Fin 16) (k : List Bool) (l : List Byte) := exec_rxFrame s dt n age lane k l h
  have hjab := exec_rxJabber s dt n h
  have hmis := exec_misalignedStart s dt n h
  refine ⟨fun hidle => ⟨fun age lane k l => ?_, ?_, ?_⟩, fun hup hloop age lane k l => ?_⟩
  · exact (hframe age lane k l).trans (next_congr (fromPcs_idle _ _ _ (rxLanes_down _ _ _ _ _) hidle))
  · exact hjab.trans (next_congr (fromPcs_idle _ _ _ (fun hd => rxJabber_idle _ _ (.inl hd)) hidle))
  · exact hmis.trans (next_congr (fromPcs_idle _ _ _ (fun hd => misalignedStart_idle _ _ (.inl hd)) hidle))
  · rw [hframe, hjab, hmis]
    simp only [fromPcs_open _ _ _ hloop]
    rw [rxLanes_up _ _ _ _ _ hup]
    refine ⟨fun g hs => ?_, fun hs => ?_, fun b hs => ?_, fun b hs => ?_, fun hs => ?_, fun hg => ?_, fun hg => ?_, fun ho hg => ?_,
      fun hg => ?_⟩
    · rw [hs, rxActs]
    · rw [hs, rxActs]
    · rw [hs, rxActs]
      rfl
    · rw [hs, rxActs, rxPacket_frame]
      exact ⟨fun hf => next_congr (rxWhole_full _ _ _ _ _ hf), fun hf hl => next_congr (rxWhole_short _ _ _ _ _ hf hl),
        fun hf hl hg => next_congr (rxWhole_badFcs _ _ _ _ _ hf hl hg),
        fun hf hl hg hd => next_congr (rxWhole_dropped _ _ _ _ _ hf hl hg hd),
        fun hf hl hg hd hc => next_congr (rxWhole_control _ _ _ _ _ hf hl hg hd hc),
        fun hf hl hg hd hc => next_congr (rxWhole_accepted _ _ _ _ _ hf hl hg hd hc)⟩
    · rw [hs, rxActs]
    · rw [rxJabber_counts _ _ hup hg]
    · rw [rxJabber_idle _ _ (.inr hg)]
    · rw [misalignedStart_counts _ _ hup ho hg]
    · rw [misalignedStart_idle _ _ (.inr hg)]

end Sys2Proof.Proofs
end

section
/-! SUPPORT. Pause and PFC frames of the link partner, and the ends of the timers they load (R112, R127 to R129). -/

namespace Sys2Proof.Proofs

open Sys2Proof Sys2Proof.Machine

variable (p : State) (n : Nat)

/-! Whole packets between an Idle and a Terminate. -/

/-- After an Idle the receiver takes a packet, whatever it discarded before. -/
theorem rxRead_idle_framePacket (pm : Bool) (g : RxGate) (smd : Nat) (b : List Nat) (hb : b.length < 65529) :
    rxRead pm g (.idle :: framePacket smd b) = .packet smd b := by
  have hidle : rxRead pm g (.idle :: framePacket smd b) = rxRead pm .take (framePacket smd b) := by cases g <;> rfl
  exact hidle.trans (rxRead_framePacket pm smd b .take (by decide) hb)

theorem rxFrame_up (age lane : Nat) (b : List Nat) (hu : p.isUp n = true) (hb : b.length < 65529) :
    p.rxFrame n age lane b = (rxClosed p n).rxWhole n ((rxClosed p n).tscRx n ((rxClosed p n).frc.toNat - age) lane)
      ((rxClosed p n).rxStartAt n age lane) b := by
  rw [State.rxFrame, rxLanes_up _ _ _ _ _ hu, rxRead_idle_framePacket _ _ _ _ hb]
  rfl

theorem fcsBytes_length (b : List Nat) : (fcsBytes b).length = 4 := rfl

theorem beBytes_length (v k : Nat) : (beBytes v k).length = k := by
  have hle (v : Nat) : (leBytes v k).length = k := by
    induction k generalizing v with
    | zero => rfl
    | succ k ih => rw [leBytes, List.length_cons, ih]
  rw [beBytes, List.length_reverse, hle]

theorem beBytes_two (x : BitVec 16) : beBytes x.toNat 2 = [x.toNat / 256, x.toNat % 256] := by
  have hx := x.isLt
  have hhigh : x.toNat / 256 % 256 = x.toNat / 256 := Nat.mod_eq_of_lt (by omega)
  simp [beBytes, leBytes, hhigh]

section
variable (ts startAt : Nat) (body : List Nat)

theorem frameBody_withFcs : frameBody (body ++ fcsBytes body) = body := by
  rw [frameBody, List.length_append, fcsBytes_length, Nat.add_sub_cancel, List.take_left]

theorem rxGood_withFcs : RxGood (body ++ fcsBytes body) := by
  rw [RxGood, frameBody_withFcs, List.length_append, fcsBytes_length, Nat.add_sub_cancel, List.drop_left]

variable (hlen : body.length = 60)
include hlen

theorem frameStored_withFcs (hmax : 64 ≤ p.maxAt n startAt) : frameStored p n startAt (body ++ fcsBytes body) = body := by
  rw [frameStored, frameBody_withFcs, List.take_of_length_le (by omega)]

/-- A MAC control frame of 64 bytes with a good FCS is consumed (R112, R127). -/
theorem rxWhole_control_withFcs (hctrl : (body.drop 12).take 2 = [0x88, 0x08]) (hmax : 64 ≤ p.maxAt n startAt)
    (hroom : p.fifoFill n + 60 ≤ fifoBytes n) :
    p.rxWhole n ts startAt (body ++ fcsBytes body) = (p.crcTapRx n body true).macControl n body := by
  have hstored := frameStored_withFcs p n startAt body hlen hmax
  have hbytes : (body ++ fcsBytes body).length = 64 := by rw [List.length_append, fcsBytes_length, hlen]
  have hfits : RxFits p n startAt (body ++ fcsBytes body) := by rwa [RxFits, hstored, hlen]
  have hgood := rxGood_withFcs body
  have hdrops : ¬ RxDrops p n startAt (body ++ fcsBytes body) := fun h => by
    have := h.1
    omega
  have htap : rxTapped p n startAt (body ++ fcsBytes body) = p.crcTapRx n body true := by
    rw [rxTapped, decide_eq_true ⟨hfits, (Nat.le_of_eq hbytes.symm), hgood, hdrops⟩, if_pos hfits, hstored]
  rw [rxWhole_control _ _ _ _ _ hfits (Nat.le_of_eq hbytes.symm) hgood hdrops (by rwa [frameBody_withFcs]), rxSized, if_neg (by omega), htap,
    frameBody_withFcs]

end

/-- Port `m` takes in what stands on the stream of its PCS, in UP. -/
structure Listens (dt : Nat) (m : Fin 8) : Prop where
  hears : p.hears dt m.val = true
  up : (p.pass dt).isUp m.val = true
  pcs : (p.pass dt).on PORT_MAC_CTRL.LOOP m.val = false

theorem Listens.exec_eq {p : State} {dt : Nat} {m : Fin 8} (h : Listens p dt m) (c : Instr) (f : State → State)
    (hc : exec c p = p.main dt (fun s => s.receive m.val (fun s => s.fromPcs m.val f))) :
    exec c p = .next (p.finish (f (p.pass dt))) := by
  rw [exec_fromPcs p dt m c f hc h.hears, fromPcs_open _ _ _ h.pcs]

/-- A frame of 64 bytes with a good FCS that the link partner sends as MAC control acts by R127. -/
theorem Listens.exec_macControl {p : State} {dt : Nat} {m : Fin 8} (h : Listens p dt m)
    (hmax : 64 ≤ (rxClosed (p.pass dt) m.val).maxAt m.val (rxClosed (p.pass dt) m.val).frc.toNat)
    (hroom : (rxClosed (p.pass dt) m.val).fifoFill m.val + 60 ≤ fifoBytes m.val) (c : Instr) (body : List Nat)
    (hlen : body.length = 60) (hctrl : (body.drop 12).take 2 = [0x88, 0x08])
    (hc : exec c p = .next (p.finish ((p.pass dt).rxFrame m.val 0 7 (body ++ fcsBytes body)))) :
    exec c p = .next (p.finish (((rxClosed (p.pass dt) m.val).crcTapRx m.val body true).macControl m.val body)) := by
  have hbytes : (body ++ fcsBytes body).length < 65529 := by
    rw [List.length_append, fcsBytes_length]
    omega
  rw [hc, rxFrame_up _ _ _ _ _ h.up hbytes]
  exact next_congr (rxWhole_control_withFcs _ _ _ _ body hlen hctrl hmax hroom)

/-! The frames of RX_PAUSE and RX_PFC. -/

/-- The pause frame of RX_PAUSE, without FCS. -/
def pauseBody (own : Bool) (quanta : BitVec 16) : List Nat :=
  (if own then beBytes (p.get PORT_MAC_ADDR.ADDR n) 6 else [0x01, 0x80, 0xC2, 0, 0, 1]) ++
    [0, 0, 0, 0, 0, 0, 0x88, 0x08, 0x00, 0x01, quanta.toNat / 256, quanta.toNat % 256] ++ List.replicate 42 0

/-- The PFC frame of RX_PFC, without FCS. -/
def pfcBody (vec : BitVec 16) (times : BitVec 128) : List Nat :=
  [0x01, 0x80, 0xC2, 0, 0, 1, 0, 0, 0, 0, 0, 0, 0x88, 0x08, 0x01, 0x01, vec.toNat / 256, vec.toNat % 256] ++
    beBytes times.toNat 16 ++ List.replicate 26 0

theorem pauseBody_addr_length (own : Bool) :
    (if own then beBytes (p.get PORT_MAC_ADDR.ADDR n) 6 else [0x01, 0x80, 0xC2, 0, 0, 1]).length = 6 := by
  cases own
  · rfl
  · exact beBytes_length _ _

theorem pauseIn_eq (own : Bool) (quanta : BitVec 16) :
    p.pauseIn n own quanta.toNat = pauseBody p n own quanta ++ fcsBytes (pauseBody p n own quanta) := by
  have hbody : (if own then beBytes (p.get PORT_MAC_ADDR.ADDR n) 6 else ctrlMac) ++ List.replicate 6 0 ++
      [0x88, 0x08, 0x00, 0x01] ++ beBytes quanta.toNat 2 ++ List.replicate 42 0 = pauseBody p n own quanta := by
    rw [beBytes_two, pauseBody]
    simp only [List.append_assoc]
    rfl
  rw [State.pauseIn, hbody]

theorem pfcIn_eq (vec : BitVec 16) (times : BitVec 128) :
    pfcIn vec.toNat times.toNat = pfcBody vec times ++ fcsBytes (pfcBody vec times) := by
  have hbody : ctrlMac ++ List.replicate 6 0 ++ [0x88, 0x08, 0x01, 0x01] ++ beBytes vec.toNat 2 ++ beBytes times.toNat 16 ++
      List.replicate 26 0 = pfcBody vec times := by
    rw [beBytes_two, pfcBody]
    simp only [List.append_assoc]
    rfl
  rw [pfcIn, hbody]

theorem pauseBody_length (own : Bool) (quanta : BitVec 16) : (pauseBody p n own quanta).length = 60 := by
  simp only [pauseBody, List.length_append, pauseBody_addr_length, List.length_replicate, List.length_cons, List.length_nil]

theorem pfcBody_length (vec : BitVec 16) (times : BitVec 128) : (pfcBody vec times).length = 60 := by
  simp only [pfcBody, List.length_append, beBytes_length, List.length_replicate, List.length_cons, List.length_nil]

/-- The type of a pause frame stands behind the two addresses. -/
theorem pauseBody_type (own : Bool) (quanta : BitVec 16) : ((pauseBody p n own quanta).drop 12).take 2 = [0x88, 0x08] := by
  have h := pauseBody_addr_length p n own
  rw [pauseBody, List.append_assoc, show 12 = _ + 6 from congrArg (· + 6) h.symm, List.drop_length_add_append]
  rfl

theorem pfcBody_type (vec : BitVec 16) (times : BitVec 128) : ((pfcBody vec times).drop 12).take 2 = [0x88, 0x08] := rfl

theorem Listens.exec_rxPause {p : State} {dt : Nat} {m : Fin 8} (h : Listens p dt m) (own : Bool) (quanta : BitVec 16) :
    exec (.rxPause dt m own quanta) p = .next (p.finish ((p.pass dt).rxFrame m.val 0 7
      (pauseBody (p.pass dt) m.val own quanta ++ fcsBytes (pauseBody (p.pass dt) m.val own quanta)))) := by
  rw [← pauseIn_eq]
  exact h.exec_eq _ (fun s => s.rxFrame m.val 0 7 (s.pauseIn m.val own quanta.toNat)) rfl

theorem Listens.exec_rxPfc {p : State} {dt : Nat} {m : Fin 8} (h : Listens p dt m) (vec : BitVec 16) (times : BitVec 128) :
    exec (.rxPfc dt m vec times) p = .next (p.finish ((p.pass dt).rxFrame m.val 0 7
      (pfcBody vec times ++ fcsBytes (pfcBody vec times)))) := by
  rw [← pfcIn_eq]
  exact h.exec_eq _ (fun s => s.rxFrame m.val 0 7 (pfcIn vec.toNat times.toNat)) rfl

/-! The ends of the timers. -/

theorem exec_pauseTimerExpiry (m : Fin 8) (h : p.runs 0 = true) :
    exec (.pauseTimerExpiry m) p = .next (p.finish ((p.pass 0).pauseExpiry m.val)) :=
  State.main_runs p 0 (fun s => s.pauseExpiry m.val) h

theorem exec_pfcTimerExpiry (m i : Fin 8) (h : p.runs 0 = true) :
    exec (.pfcTimerExpiry m i) p = .next (p.finish ((p.pass 0).pfcExpiry m.val i.val)) :=
  State.main_runs p 0 (fun s => s.pfcExpiry m.val i.val) h

end Sys2Proof.Proofs

namespace Sys2Proof.Proofs

open Sys2Proof Sys2Proof.Machine

/-- Settles O29: both frames are MAC control frames of 64 bytes, and a timer ends where it runs. -/
theorem pauseReception : Obligations.PauseReception := by
  refine ⟨fun dt n s hh hu hl hmax hroom => ⟨fun own quanta => ?_, fun vec times => ?_⟩,
    fun n s hr => ⟨fun h0 => ?_, fun h0 => ?_, fun i h0 => ?_, fun i h0 => ?_⟩⟩
  · have h : Listens s dt n := ⟨hh, hu, hl⟩
    exact h.exec_macControl hmax hroom _ _ (pauseBody_length _ _ _ _) (pauseBody_type _ _ _ _) (h.exec_rxPause own quanta)
  · have h : Listens s dt n := ⟨hh, hu, hl⟩
    exact h.exec_macControl hmax hroom _ _ (pfcBody_length _ _) (pfcBody_type _ _) (h.exec_rxPfc vec times)
  · rw [exec_pauseTimerExpiry s n hr, State.pauseExpiry, if_pos h0]
  · rw [exec_pauseTimerExpiry s n hr, State.pauseExpiry, if_neg h0]
  · rw [exec_pfcTimerExpiry s n i hr, State.pfcExpiry, if_pos h0]
  · rw [exec_pfcTimerExpiry s n i hr, State.pfcExpiry, if_neg h0]

end Sys2Proof.Proofs
end

section
/-! SUPPORT. Verification of preemption: VERIFY_START, its attempts, and verify and respond mPackets (R158, R159). -/

namespace Sys2Proof.Proofs

open Sys2Proof Sys2Proof.Machine

variable (p : State) (n : Nat)

/-! The attempts. -/

/-- Preemption is enabled, the link is UP, and the state is INITIAL. -/
def VerifyReady : Prop := p.on PORT_PM_CFG.EN n = true ∧ p.isUp n = true ∧ p.get PORT_PM_STAT.VSTATE n = 0

theorem verifyReady_iff :
    (p.on PORT_PM_CFG.EN n && p.isUp n && p.get PORT_PM_STAT.VSTATE n == 0) = true ↔ VerifyReady p n := by
  simp only [VerifyReady, Bool.and_eq_true, beq_iff_eq, and_assoc]

theorem verifyStart_idle (h : ¬ VerifyReady p n) : p.verifyStart n = p :=
  if_neg (mt (verifyReady_iff p n).1 h)

theorem verifyStart_skipped (h : VerifyReady p n) (hd : p.on PORT_PM_CFG.VERIFY_DIS n = true) :
    p.verifyStart n = p.put PORT_PM_STAT.VSTATE 2 n :=
  (if_pos ((verifyReady_iff p n).2 h)).trans (if_pos hd)

theorem verifyStart_begins (h : VerifyReady p n) (hd : p.on PORT_PM_CFG.VERIFY_DIS n = false) :
    p.verifyStart n = ((p.put PORT_PM_STAT.VSTATE 1 n).put PORT_PM_STAT.ATTEMPTS 0 n).sendVerify n :=
  (if_pos ((verifyReady_iff p n).2 h)).trans (if_neg (ne_true_of_eq_false hd))

/-- The state when VERIFY_MS has elapsed in the present attempt. -/
def verifyDue : State := p.advanceTo ((p.port n).verifyAt + p.get PORT_PM_CFG.VERIFY_MS n * 1000000)

theorem verifyExpiry_idle (hv : p.get PORT_PM_STAT.VSTATE n ≠ 1) : p.verifyExpiry n = p := if_neg hv

theorem verifyExpiry_again (hv : p.get PORT_PM_STAT.VSTATE n = 1) (ha : (verifyDue p n).get PORT_PM_STAT.ATTEMPTS n < 3) :
    p.verifyExpiry n = (verifyDue p n).sendVerify n := (if_pos hv).trans (if_pos ha)

theorem verifyExpiry_fails (hv : p.get PORT_PM_STAT.VSTATE n = 1) (ha : (verifyDue p n).get PORT_PM_STAT.ATTEMPTS n = 3) :
    p.verifyExpiry n = ((verifyDue p n).put PORT_PM_STAT.VSTATE 3 n).evt PORT_GCL_EVT.VERIFY_FAIL (0x38 + n) n :=
  (if_pos hv).trans (if_neg (Nat.not_lt.2 (Nat.le_of_eq ha.symm)))

theorem sendVerify_eq :
    p.sendVerify n = (p.put PORT_PM_STAT.ATTEMPTS (p.get PORT_PM_STAT.ATTEMPTS n + 1) n).onPort n (fun x =>
      { x with ctrlQ := x.ctrlQ ++ [⟨.verify, List.replicate 60 0⟩], verifyAt := p.frc.toNat }) := rfl

/-- With the attempts cleared, the attempt that begins is the first. -/
theorem sendVerify_first :
    (p.put PORT_PM_STAT.ATTEMPTS 0 n).sendVerify n =
      ((p.put PORT_PM_STAT.ATTEMPTS 0 n).put PORT_PM_STAT.ATTEMPTS 1 n).onPort n (fun x =>
        { x with ctrlQ := x.ctrlQ ++ [⟨.verify, List.replicate 60 0⟩], verifyAt := p.frc.toNat }) := by
  rw [sendVerify_eq, State.get_put_same _ _ _ _ _ (by decide)]
  rfl

theorem exec_verifyStart (dt : Nat) (m : Fin 8) (h : p.runs dt = true) :
    exec (.verifyStart dt m) p = .next (p.finish ((p.pass dt).verifyStart m.val)) :=
  State.main_runs p dt (fun s => s.verifyStart m.val) h

theorem exec_verifyMsExpiry (m : Fin 8) (h : p.runs 0 = true) :
    exec (.verifyMsExpiry m) p = .next (p.finish ((p.pass 0).verifyExpiry m.val)) :=
  State.main_runs p 0 (fun s => s.verifyExpiry m.val) h

/-! mPackets. -/

theorem nextStart_jabber_data (b : List Nat) (l : List Lane) : nextStart .jabber (b.map .data ++ l) = nextStart .jabber l := by
  induction b with
  | nil => rfl
  | cons v b ih => exact ih

/-- After a jabber a packet is discarded with what follows, up to an Idle (R114). -/
theorem rxRead_jabber_framePacket (pm : Bool) (smd : Nat) (b : List Nat) :
    rxRead pm .jabber (framePacket smd b) = .nothing .jabber := by
  have hnone : nextStart .jabber (framePacket smd b) = (.jabber, none) := nextStart_jabber_data (smd :: b) [.terminate]
  rw [rxRead, hnone]

section
variable (age lane smd : Nat) (b : List Nat) (hu : p.isUp n = true)
include hu

theorem rxLanes_framePacket (hg : (p.port n).gate ≠ .jabber) (hb : b.length < 65529) :
    p.rxLanes n age lane (framePacket smd b) = (rxClosed p n).rxPacket n age lane smd b := by
  rw [rxLanes_up _ _ _ _ _ hu, rxRead_framePacket _ _ _ _ hg hb]
  rfl

theorem rxLanes_framePacket_jabber (hg : (p.port n).gate = .jabber) :
    p.rxLanes n age lane (framePacket smd b) = p.onPort n (fun x => { x with gate := .jabber }) := by
  rw [rxLanes_up _ _ _ _ _ hu, hg, rxRead_jabber_framePacket]
  rfl

end

section
variable (age lane : Nat) (b : List Nat)

/-- With preemption disabled any delimiter but that of a frame is a code fault. -/
theorem rxPacket_disabled (smd : Nat) (hs : smd ≠ smdE) (he : p.on PORT_PM_CFG.EN n = false) :
    p.rxPacket n age lane smd b = (p.crcTapRx n (b.take (b.length - 4)) false).count PORT_CNT.COUNT n pcRxCodeErr := by
  rw [State.rxPacket, if_neg hs, he]
  rfl

theorem rxPacket_verify (he : p.on PORT_PM_CFG.EN n = true) : p.rxPacket n age lane smdV b = p.verifySeen n b := by
  rw [State.rxPacket, he]
  rfl

theorem rxPacket_respond (he : p.on PORT_PM_CFG.EN n = true) : p.rxPacket n age lane smdR b = p.respondSeen n b := by
  rw [State.rxPacket, he]
  rfl

/-- An mPacket is valid with 60 zero bytes and a good mCRC. -/
def MPacketValid : Prop := b.take 60 = List.replicate 60 0 ∧ b.drop 60 = mcrcBytes (List.replicate 60 0)

theorem mpacketOk_iff : mpacketOk b = true ↔ MPacketValid b := by
  simp only [mpacketOk, MPacketValid, Bool.and_eq_true, beq_iff_eq]

theorem verifySeen_valid (h : MPacketValid b) :
    p.verifySeen n b = p.onPort n (fun x => { x with ctrlQ := x.ctrlQ ++ [⟨.respond, List.replicate 60 0⟩] }) :=
  if_pos ((mpacketOk_iff b).2 h)

theorem verifySeen_invalid (h : ¬ MPacketValid b) : p.verifySeen n b = p := if_neg (mt (mpacketOk_iff b).1 h)

theorem respondSeen_ends (h : MPacketValid b) (hs : p.get PORT_PM_STAT.VSTATE n = 1) :
    p.respondSeen n b = (p.put PORT_PM_STAT.VSTATE 2 n).evt PORT_GCL_EVT.VERIFY_OK (0x38 + n) n :=
  if_pos (Bool.and_eq_true_iff.2 ⟨(mpacketOk_iff b).2 h, beq_iff_eq.2 hs⟩)

theorem respondSeen_idle (h : ¬ MPacketValid b ∨ p.get PORT_PM_STAT.VSTATE n ≠ 1) : p.respondSeen n b = p := by
  refine if_neg fun g => ?_
  obtain ⟨hok, hs⟩ := Bool.and_eq_true_iff.1 g
  exact h.elim (fun h => h ((mpacketOk_iff b).1 hok)) (fun h => h (beq_iff_eq.1 hs))

end

theorem exec_rxVerify (dt : Nat) (m : Fin 8) (b : List Byte) (h : p.hears dt m.val = true) :
    exec (.rxVerify dt m b) p =
      .next (p.finish ((p.pass dt).fromPcs m.val (fun s => s.rxLanes m.val 0 7 (framePacket smdV (nats b))))) :=
  exec_fromPcs p dt m _ _ rfl h

theorem exec_rxRespond (dt : Nat) (m : Fin 8) (b : List Byte) (h : p.hears dt m.val = true) :
    exec (.rxRespond dt m b) p =
      .next (p.finish ((p.pass dt).fromPcs m.val (fun s => s.rxLanes m.val 0 7 (framePacket smdR (nats b))))) :=
  exec_fromPcs p dt m _ _ rfl h

end Sys2Proof.Proofs

namespace Sys2Proof.Proofs

open Sys2Proof Sys2Proof.Machine

/-- Settles O36: the attempts by the state of verification, an mPacket by what the receiver takes and whether it is valid. -/
theorem preemptionVerification : Obligations.PreemptionVerification := by
  refine ⟨fun dt n s hr => ⟨fun h => ?_, fun h hd => ?_, fun h hd => ?_⟩, fun n s hr => ⟨fun hv => ?_, fun hv ha => ?_, fun hv ha => ?_⟩,
    fun dt n b s hh hb => ?_⟩
  · rw [exec_verifyStart s dt n hr, verifyStart_idle _ _ h]
  · rw [exec_verifyStart s dt n hr, verifyStart_skipped _ _ h hd]
  · rw [exec_verifyStart s dt n hr, verifyStart_begins _ _ h hd, sendVerify_first]
    rfl
  · rw [exec_verifyMsExpiry s n hr, verifyExpiry_idle _ _ hv]
  · rw [exec_verifyMsExpiry s n hr, verifyExpiry_again _ _ hv ha, sendVerify_eq]
    rfl
  · rw [exec_verifyMsExpiry s n hr, verifyExpiry_fails _ _ hv ha]
    rfl
  · have hbytes : (nats b).length < 65529 := by rwa [nats_length]
    rw [exec_rxVerify s dt n b hh, exec_rxRespond s dt n b hh]
    refine ⟨fun hidle => ⟨?_, ?_⟩, fun hu hl hg => ?_, fun ⟨hu, hl, hg⟩ he => ?_, fun ⟨hu, hl, hg⟩ he => ?_⟩
    · exact next_congr (fromPcs_idle _ _ _ (rxLanes_down _ _ _ _ _) hidle)
    · exact next_congr (fromPcs_idle _ _ _ (rxLanes_down _ _ _ _ _) hidle)
    · simp only [fromPcs_open _ _ _ hl, rxLanes_framePacket_jabber _ _ _ _ _ _ hu hg, and_self]
    · have he' : (rxClosed (s.pass dt) n.val).on PORT_PM_CFG.EN n.val = false := he
      simp only [fromPcs_open _ _ _ hl, rxLanes_framePacket _ _ _ _ _ _ hu hg hbytes]
      rw [rxPacket_disabled _ _ _ _ _ smdV (by decide) he', rxPacket_disabled _ _ _ _ _ smdR (by decide) he', nats_length]
      exact ⟨rfl, rfl⟩
    · have he' : (rxClosed (s.pass dt) n.val).on PORT_PM_CFG.EN n.val = true := he
      simp only [fromPcs_open _ _ _ hl, rxLanes_framePacket _ _ _ _ _ _ hu hg hbytes]
      rw [rxPacket_verify _ _ _ _ _ he', rxPacket_respond _ _ _ _ _ he']
      exact ⟨fun hv => ⟨next_congr (verifySeen_invalid _ _ _ hv), next_congr (respondSeen_idle _ _ _ (.inl hv))⟩,
        fun hv => next_congr (verifySeen_valid _ _ _ hv), fun hv hst => next_congr (respondSeen_ends _ _ _ hv hst),
        fun _ hst => next_congr (respondSeen_idle _ _ _ (.inr hst))⟩

end Sys2Proof.Proofs
end

section
/-! SUPPORT. The pause watchdog, and recess (R134 to R137, R154, R510). -/

namespace Sys2Proof.Proofs

open Sys2Proof Sys2Proof.Machine

variable (p : State) (n : Nat)

/-! The watchdog. -/

/-- The paused time that the budget allows, in ns. -/
def wdogBudget : Nat := p.get PORT_FC_WDOG.BUDGET n * 1000

/-- The moment when paused time exceeds it, where a timer runs on. -/
def wdogDue : Nat := p.frc.toNat + (wdogBudget p n + 1 - (p.port n).wdogNs)

theorem pauseWdog_idle (h : p.get PORT_FC_WDOG.BUDGET n = 0 ∨ p.on PORT_FC_STAT.WDOG_ACTIVE n = true) : p.pauseWdog n = p := if_pos h

/-- Where the running timers last so long, time passes to the moment of the trip. -/
theorem pauseWdog_trips (hb : p.get PORT_FC_WDOG.BUDGET n ≠ 0) (ha : p.on PORT_FC_STAT.WDOG_ACTIVE n = false)
    (hd : wdogDue p n ≤ p.rxTimersEnd n) (hx : wdogBudget p n < ((p.advanceTo (wdogDue p n)).port n).wdogNs) :
    p.pauseWdog n = (p.advanceTo (wdogDue p n)).wdogTrip n := by
  have hgo : ¬ (p.get PORT_FC_WDOG.BUDGET n = 0 ∨ p.on PORT_FC_STAT.WDOG_ACTIVE n = true) := by simp [hb, ha]
  unfold wdogDue wdogBudget at *
  simp only [State.pauseWdog, if_neg hgo, if_pos hd, if_pos hx]

theorem exec_pauseWdog (m : Fin 8) (h : p.runs 0 = true) :
    exec (.pauseWdog m) p = .next (p.finish ((p.pass 0).pauseWdog m.val)) :=
  State.main_runs p 0 (fun s => s.pauseWdog m.val) h

theorem exec_wdogTripClear (a : Access) (m : Fin 8)
    (h : p.takes a true PORT_FC_STAT.reg m.val 0 (setBits (wdata a) 32 1 1) = true) :
    exec (.wdogTripClear a m) p = .next (p.finish
      ((if bitAt (accMask a PORT_FC_STAT.reg m.val 0) 32 then (p.pass a.dt).wdogClear m.val else p.pass a.dt).setRsp .okay 0)) :=
  State.writeReg_takes p a _ _ _ _ _ h

/-! Recess. -/

/-- The state ENTRY_IDLE microseconds after the transmitter became idle. -/
def recessDue : State := p.advanceTo ((p.port n).idleAt + p.get PORT_LPI_CFG.ENTRY_IDLE n * 1000)

theorem recessEntry_enters (hs : p.get PORT_LPI_STAT.TX_STATE n = 0) (hi : p.idleOk n = true) (hr : (recessDue p n).recessOk n = true) :
    p.recessEntry n = ((recessDue p n).put PORT_LPI_STAT.TX_STATE 1 n).loopLpi n true :=
  (if_pos ⟨hs, hi⟩).trans (if_pos hr)

theorem recessEntry_idle (h : p.get PORT_LPI_STAT.TX_STATE n ≠ 0 ∨ p.idleOk n = false ∨ (recessDue p n).recessOk n = false) :
    p.recessEntry n = p := by
  by_cases hgo : p.get PORT_LPI_STAT.TX_STATE n = 0 ∧ p.idleOk n = true
  · have hr : (recessDue p n).recessOk n = false := (h.resolve_left (not_not_intro hgo.1)).resolve_left (ne_false_of_eq_true hgo.2)
    exact (if_pos hgo).trans (if_neg (ne_true_of_eq_false hr))
  · exact if_neg hgo

theorem recessExit_wakes (hs : p.get PORT_LPI_STAT.TX_STATE n = 1) (hc : p.wakeCause n = true) (hp : p.get PWR_STAT.STATE < 2) :
    p.recessExit n = p.wakePort n := if_pos ⟨hs, hc, hp⟩

theorem recessExit_idle (h : p.get PORT_LPI_STAT.TX_STATE n ≠ 1 ∨ p.wakeCause n = false ∨ 2 ≤ p.get PWR_STAT.STATE) :
    p.recessExit n = p :=
  if_neg fun ⟨hs, hc, hp⟩ => h.elim (fun h => h hs) fun h => h.elim (ne_false_of_eq_true hc) (Nat.not_le.2 hp)

theorem exec_recessEntry (m : Fin 8) (h : p.runs 0 = true) :
    exec (.recessEntry m) p = .next (p.finish ((p.pass 0).recessEntry m.val)) :=
  State.main_runs p 0 (fun s => s.recessEntry m.val) h

theorem exec_recessExit (dt : Nat) (m : Fin 8) (h : p.runs dt = true) :
    exec (.recessExit dt m) p = .next (p.finish ((p.pass dt).recessExit m.val)) :=
  State.main_runs p dt (fun s => s.recessExit m.val) h

theorem exec_wakingEnd (m : Fin 8) (h : p.runs 0 = true) :
    exec (.wakingEnd m) p = .next (p.finish ((p.pass 0).wakingEnd m.val)) :=
  State.main_runs p 0 (fun s => s.wakingEnd m.val) h

theorem exec_rxLpi (dt : Nat) (m : Fin 8) (lpi : Bool) (h : p.runs dt = true) :
    exec (.rxLpi dt m lpi) p = .next (p.finish ((p.pass dt).fromPcs m.val (fun s => s.rxLpi m.val lpi))) :=
  State.main_runs p dt (fun s => s.fromPcs m.val (fun s => s.rxLpi m.val lpi)) h

end Sys2Proof.Proofs

namespace Sys2Proof.Proofs

open Sys2Proof Sys2Proof.Machine

/-- Settles O33: the watchdog by its budget, the write by the bit it reaches, and recess by its conditions and causes. -/
theorem pauseWatchdogAndRecess : Obligations.PauseWatchdogAndRecess := by
  refine ⟨fun n s hr => ⟨fun h => ?_, fun hb ha hd hx => ?_⟩, fun a n s h hm => ?_,
    fun n s hr => ⟨fun hs hi hrec => ?_, fun h => ?_, fun hs => ?_, fun hs => ?_⟩,
    fun dt n s hr => ⟨fun hs hc hp => ?_, fun h => ?_, fun lpi => ⟨fun hl => ?_, fun hl => ?_⟩⟩⟩
  · rw [exec_pauseWdog s n hr, pauseWdog_idle _ _ h]
  · rw [exec_pauseWdog s n hr, pauseWdog_trips _ _ hb ha hd hx]
    rfl
  · rw [exec_wdogTripClear s a n h, if_pos hm]
    rfl
  · rw [exec_recessEntry s n hr, recessEntry_enters _ _ hs hi hrec]
    rfl
  · rw [exec_recessEntry s n hr, recessEntry_idle _ _ h]
  · rw [exec_wakingEnd s n hr, State.wakingEnd, if_pos hs]
    rfl
  · rw [exec_wakingEnd s n hr, State.wakingEnd, if_neg hs]
  · rw [exec_recessExit s dt n hr, recessExit_wakes _ _ hs hc hp]
    rfl
  · rw [exec_recessExit s dt n hr, recessExit_idle _ _ h]
  · rw [exec_rxLpi s dt n lpi hr, fromPcs_open _ _ _ hl]
    rfl
  · rw [exec_rxLpi s dt n lpi hr, fromPcs_loop _ _ _ hl]

end Sys2Proof.Proofs
end

section
/-! SUPPORT. EGRESS_COPY: the scheduler's choice is dropped, or copied into the TX FIFO (R118 to R120, R133). -/

namespace Sys2Proof.Proofs

open Sys2Proof Sys2Proof.Machine

variable (p : State) (u : Nat)

/-! Which ports copy. -/

theorem exec_egressCopy (dt : Nat) (m : Fin 11) (h : p.awake dt = true) :
    exec (.egressCopy dt m) p = .next (p.finish
      (if m.val < 8 ∧ ((p.pass dt).takesWork = true ∨ (p.pass dt).isUp m.val = false) then (p.pass dt).macCopy m.val
       else if 8 ≤ m.val ∧ (p.pass dt).takesWork = true then (p.pass dt).radCopy (m.val - 8)
       else p.pass dt)) :=
  State.engine_awake p dt (fun s =>
    if m.val < 8 ∧ (s.takesWork = true ∨ s.isUp m.val = false) then s.macCopy m.val
    else if 8 ≤ m.val ∧ s.takesWork = true then s.radCopy (m.val - 8)
    else s) h

theorem exec_egressCopy_wired (dt : Nat) (m : Fin 11) (h : p.awake dt = true) (hm : m.val < 8)
    (hw : (p.pass dt).takesWork = true ∨ (p.pass dt).isUp m.val = false) :
    exec (.egressCopy dt m) p = .next (p.finish ((p.pass dt).macCopy m.val)) := by
  rw [exec_egressCopy p dt m h, if_pos ⟨hm, hw⟩]

theorem exec_egressCopy_radio (dt : Nat) (m : Fin 11) (h : p.awake dt = true) (hm : 8 ≤ m.val) (hw : (p.pass dt).takesWork = true) :
    exec (.egressCopy dt m) p = .next (p.finish ((p.pass dt).radCopy (m.val - 8))) := by
  rw [exec_egressCopy p dt m h, if_neg fun g => absurd g.1 (Nat.not_lt.2 hm), if_pos ⟨hm, hw⟩]

/-- In a mode that takes no work nothing is copied: a radio port does nothing, and neither does a wired port that is UP. -/
theorem exec_egressCopy_idle (dt : Nat) (m : Fin 11) (h : p.awake dt = true) (hw : (p.pass dt).takesWork = false)
    (hm : 8 ≤ m.val ∨ (p.pass dt).isUp m.val = true) : exec (.egressCopy dt m) p = .next (p.finish (p.pass dt)) := by
  have hwired : ¬ (m.val < 8 ∧ ((p.pass dt).takesWork = true ∨ (p.pass dt).isUp m.val = false)) := fun ⟨hlt, hgo⟩ =>
    hgo.elim (ne_true_of_eq_false hw) (ne_false_of_eq_true (hm.resolve_left (Nat.not_le.2 hlt)))
  rw [exec_egressCopy p dt m h, if_neg hwired, if_neg fun g => ne_true_of_eq_false hw g.2]

/-! The copy of a wired port. -/

theorem popCq_cons (c : Nat) (e : QEntry) (l : List QEntry) (h : p.cq u c = e :: l) : p.popCq u c = (p.setCq u c l, some e) := by
  rw [State.popCq, h]

/-- While the link is not UP the choice is dropped. -/
theorem macCopy_down (hu : p.isUp u = false) (q : State) (c : Nat) (e : QEntry) (l : List QEntry)
    (hs : p.schedule u (fun c => (p.cq u c).head?.map (p.wireLen u)) = (q, some c)) (hq : q.cq u c = e :: l) :
    p.macCopy u = ((q.setCq u c l).count PORT_CNT.COUNT u pcTxLinkDrop).endCopy u e .linkDrop 0 := by
  simp only [State.macCopy, hu, hs, popCq_cons _ _ _ _ _ hq, Bool.not_false, if_true]
  rfl

/-- A copy waits, or the frame in transmission and a split frame fill the FIFO. -/
def TxFull : Prop := (p.port u).wait ≠ none ∨ ((p.port u).tx ≠ none ∧ (p.port u).split ≠ none)

theorem txFull_iff : ((p.port u).wait.isSome || ((p.port u).tx.isSome && (p.port u).split.isSome)) = true ↔ TxFull p u := by
  simp only [TxFull, Bool.or_eq_true, Bool.and_eq_true, Option.isSome_iff_ne_none]

/-- The bytes of `e` wait in the TX FIFO for their start. -/
def copyWaits (e : QEntry) (payload : List Nat) : State :=
  let data := p.copyBytes u e payload
  let v := (p.crcTapRd e.f.src e.f.ptr payload).crcTapTx u data
  let copy : TxFrame := {
    e := e, data := data, padded := decide (v.1.editedLen u e < 60), ts := 0, sent := 0, frags := 0,
    preempt := false, startAt := v.1.frc.toNat, late := false, smd := 0, marks := v.2,
    ok := v.1.gateElig u e.cls (v.1.wireLen u e) (v.1.startIn u) }
  v.1.onPort u (fun x => { x with wait := some copy })

/-- A frame that left its queue is read from buffer memory. -/
def copyRead (e : QEntry) : State :=
  match p.fetchFrame u e with
  | (t, none) => t.endCopy u e .memErr 0
  | (t, some payload) => copyWaits t u e payload

theorem copyRead_failed (e : QEntry) (t : State) (h : p.fetchFrame u e = (t, none)) : copyRead p u e = t.endCopy u e .memErr 0 := by
  rw [copyRead, h]

theorem copyRead_waits (e : QEntry) (t : State) (payload : List Nat) (h : p.fetchFrame u e = (t, some payload)) :
    copyRead p u e = copyWaits t u e payload := by
  rw [copyRead, h]

section
variable (hu : p.isUp u = true)
include hu

theorem macCopy_full (hf : TxFull p u) : p.macCopy u = p := by
  rw [← txFull_iff] at hf
  simp only [State.macCopy, hu, hf, Bool.not_true, Bool.false_eq_true, if_false, if_true]

variable (hf : ¬ TxFull p u)
include hf

theorem macCopy_none (hs : (p.schedule u (p.copyElig u)).2 = none) : p.macCopy u = (p.schedule u (p.copyElig u)).1 := by
  rw [← txFull_iff] at hf
  simp only [State.macCopy, hu, hf, hs, Bool.not_true, Bool.false_eq_true, if_false]

variable (q : State) (c : Nat) (hs : p.schedule u (p.copyElig u) = (q, some c))
include hs

theorem macCopy_noRoom (hr : p.txRoom u c = false) : p.macCopy u = p := by
  rw [← txFull_iff] at hf
  simp only [State.macCopy, hu, hf, hs, hr, Bool.not_true, Bool.not_false, Bool.false_eq_true, if_false, if_true]

/-- With room the head of the chosen class leaves its queue; longer than MAX_FRAME it is dropped, else it is read. -/
theorem macCopy_takes (hr : p.txRoom u c = true) (e : QEntry) (l : List QEntry) (hq : q.cq u c = e :: l) :
    p.macCopy u =
      let r := (q.setCq u c l).headReached u c
      if r.get PORT_MAX_FRAME.MAX_FRAME u < r.wireLen u e then (r.count PORT_CNT.COUNT u pcTxOversizeDrop).endCopy u e .oversize 0
      else copyRead r u e := by
  rw [← txFull_iff] at hf
  simp only [State.macCopy, hu, hf, hs, hr, popCq_cons _ _ _ _ _ hq, Bool.not_true, Bool.false_eq_true, if_false]
  generalize (q.setCq u c l).headReached u c = r
  rw [copyRead]
  rfl

end

end Sys2Proof.Proofs
end

section
/-! SUPPORT. A frame in transmission: its Start, its end, and the moment a launch-time frame becomes available (R108, R111, R118, R119,
R123, R133, R165, R167). -/

namespace Sys2Proof.Proofs

open Sys2Proof Sys2Proof.Machine

variable (p : State) (n : Nat)

/-! TX_FRAME_START. -/

section
variable (e : QEntry) (extra : Nat)

/-- LATE is set: a frame is judged late. -/
def lateShown : State := p.evt PORT_GCL_EVT.LATE (0x38 + n) n

theorem judgeLate_inTime (h : p.isLate n e 0 extra = false) : p.judgeLate n e extra = (p, some (e, false)) :=
  if_neg (ne_true_of_eq_false h)

theorem judgeLate_sends (h : p.isLate n e 0 extra = true) (hs : (lateShown p n).on PORT_LAUNCH_CFG.LATE_SEND n = true) :
    p.judgeLate n e extra = (lateShown p n, some (e, true)) :=
  (if_pos h).trans (if_pos hs)

theorem judgeLate_drops (h : p.isLate n e 0 extra = true) (hs : (lateShown p n).on PORT_LAUNCH_CFG.LATE_SEND n = false) :
    p.judgeLate n e extra = (((lateShown p n).count PORT_CNT.COUNT n pcTxLateDrop).endCopy n e .late 0, none) :=
  (if_pos h).trans (if_neg (ne_true_of_eq_false hs))

end

section
variable (t : TxFrame) (extra : Nat)

/-- The waiting frame has become the frame in transmission. -/
def txStarted (late : Bool) : State :=
  let pre := p.isPreemptable n t.e.cls
  let q := (p.placeStart n extra).1
  let lane := (p.placeStart n extra).2
  let x := q.port n
  let sent := { t with ts := q.startTs n lane q.frc.toNat, late := late, preempt := pre, startAt := q.frc.toNat,
                       smd := if pre then x.smd else 0 }
  q.setPort n { x with
    wait := none, tx := some sent, wire := sent.packet t.rest, startLane := lane,
    smd := if pre then (x.smd + 1) % 4 else x.smd }

theorem txStart_none (hw : (p.port n).wait = none) : p.txStart n extra = p := by rw [State.txStart, hw]

variable (hw : (p.port n).wait = some t)
include hw

theorem txStart_waits (h : p.startReady n t extra = false) : p.txStart n extra = p := by
  simp only [State.txStart, hw, h, Bool.false_eq_true, if_false]

variable (h : p.startReady n t extra = true)
include h

theorem txStart_starts (hl : p.isLate n t.e 0 extra = false) : p.txStart n extra = txStarted p n t extra false := by
  simp only [State.txStart, hw, h, judgeLate_inTime _ _ _ _ hl, if_true]
  rfl

theorem txStart_startsLate (hl : p.isLate n t.e 0 extra = true) (hs : (lateShown p n).on PORT_LAUNCH_CFG.LATE_SEND n = true) :
    p.txStart n extra = (txStarted (lateShown p n) n t extra true).count PORT_CNT.COUNT n pcTxLateSent := by
  simp only [State.txStart, hw, h, judgeLate_sends _ _ _ _ hl hs, if_true]
  rfl

theorem txStart_drops (hl : p.isLate n t.e 0 extra = true) (hs : (lateShown p n).on PORT_LAUNCH_CFG.LATE_SEND n = false) :
    p.txStart n extra = ((((lateShown p n).count PORT_CNT.COUNT n pcTxLateDrop).endCopy n t.e .late 0).onPort n (fun x =>
      { x with wait := none })).idleFrom n := by
  simp only [State.txStart, hw, h, judgeLate_drops _ _ _ _ hl hs, if_true]

end

theorem exec_txFrameStart (dt extra : Nat) (m : Fin 8) (h : p.runs dt = true) :
    exec (.txFrameStart dt m extra) p = .next (p.finish ((p.pass dt).txStart m.val extra)) :=
  State.main_runs p dt (fun s => s.txStart m.val extra) h

/-! TERMINATE. -/

theorem txTerminate_none (h : (p.port n).tx = none) : p.txTerminate n = p := by rw [State.txTerminate, h]

theorem exec_terminate (dt : Nat) (m : Fin 8) (h : p.runs dt = true) :
    exec (.terminate dt m) p = .next (p.finish ((p.pass dt).txTerminate m.val)) :=
  State.main_runs p dt (fun s => s.txTerminate m.val) h

/-! LAUNCH_AVAILABLE. -/

/-- The moments at which the launch-time frames at the heads of the classes become available. -/
def launchTimes : List Nat :=
  (List.range 8).filterMap (fun c => ((p.cq n c).head?).bind (fun e =>
    e.f.launch.map (fun lt => p.frcAtSt (lt - p.get PORT_LAUNCH_CFG.LOOKAHEAD n))))

/-- Time passes to the earliest of some moments, if there is one. -/
def passEarliest : List Nat → State
  | [] => p
  | t :: rest => p.advanceTo (rest.foldl min t)

theorem launchAvailable_eq : p.launchAvailable n = passEarliest p (launchTimes p n) := by
  change passEarliest p (List.filterMap _ _) = _
  refine congrArg (fun f => passEarliest p (List.filterMap f (List.range 8))) (funext fun c => ?_)
  cases p.cq n c <;> rfl

theorem exec_launchAvailable (m : Fin 8) (h : p.runs 0 = true) :
    exec (.launchAvailable m) p = .next (p.finish ((p.pass 0).launchAvailable m.val)) :=
  State.main_runs p 0 (fun s => s.launchAvailable m.val) h

end Sys2Proof.Proofs

namespace Sys2Proof.Proofs

open Sys2Proof Sys2Proof.Machine

/-- Settles O38: the copy by what the scheduler chooses, the start by whether the frame is late, the end, and the earliest launch. -/
theorem transmitFrames : Obligations.TransmitFrames := by
  refine ⟨fun dt u s h => ⟨fun hw hm => ?_, fun hw hm => ?_, fun hm hu q c e l hs hq => ?_, fun hm hu hw => ⟨fun hf => ?_, fun hf =>
      ⟨fun hs => ?_, fun q c hs => ⟨fun hr => ?_, fun hr e l hq => ⟨fun hx => ?_, fun hx t ht => ?_, fun hx t payload ht => ?_⟩⟩⟩⟩⟩,
    fun dt n extra s hr => ⟨fun hw => ?_, fun t hw => ⟨fun hrd => ?_, fun hrd hl => ?_, fun hrd hl => ⟨fun hs => ?_, fun hs => ?_⟩⟩⟩,
    fun dt n s hr => ⟨fun ht => ?_, fun t ht => ?_⟩,
    fun n s hr => ⟨fun (hn : launchTimes _ _ = []) => ?_, fun t rest (hn : launchTimes _ _ = t :: rest) => ?_⟩⟩
  · exact exec_egressCopy_idle s dt u h hw hm
  · exact exec_egressCopy_radio s dt u h hm hw
  · rw [exec_egressCopy_wired s dt u h hm (.inr hu), macCopy_down _ _ hu q c e l hs hq]
  · rw [exec_egressCopy_wired s dt u h hm (.inl hw), macCopy_full _ _ hu hf]
  · rw [exec_egressCopy_wired s dt u h hm (.inl hw), macCopy_none _ _ hu hf hs]
  · rw [exec_egressCopy_wired s dt u h hm (.inl hw), macCopy_noRoom _ _ hu hf q c hs hr]
  · rw [exec_egressCopy_wired s dt u h hm (.inl hw), macCopy_takes _ _ hu hf q c hs hr e l hq]
    exact next_congr (if_pos (Nat.not_le.1 hx))
  · rw [exec_egressCopy_wired s dt u h hm (.inl hw), macCopy_takes _ _ hu hf q c hs hr e l hq]
    exact next_congr ((if_neg (Nat.not_lt.2 hx)).trans (copyRead_failed _ _ e t ht))
  · rw [exec_egressCopy_wired s dt u h hm (.inl hw), macCopy_takes _ _ hu hf q c hs hr e l hq]
    exact next_congr ((if_neg (Nat.not_lt.2 hx)).trans (copyRead_waits _ _ e t payload ht))
  · rw [exec_txFrameStart s dt extra n hr, txStart_none _ _ extra hw]
  · rw [exec_txFrameStart s dt extra n hr, txStart_waits _ _ t extra hw hrd]
  · rw [exec_txFrameStart s dt extra n hr, txStart_starts _ _ t extra hw hrd hl]
    rfl
  · rw [exec_txFrameStart s dt extra n hr, txStart_startsLate _ _ t extra hw hrd hl hs]
    rfl
  · rw [exec_txFrameStart s dt extra n hr, txStart_drops _ _ t extra hw hrd hl hs]
    rfl
  · rw [exec_terminate s dt n hr, txTerminate_none _ _ ht]
  · rw [exec_terminate s dt n hr, State.txTerminate, ht]
    rfl
  · rw [exec_launchAvailable s n hr, launchAvailable_eq, hn, passEarliest]
  · rw [exec_launchAvailable s n hr, launchAvailable_eq, hn, passEarliest]

end Sys2Proof.Proofs
end

section
/-! SUPPORT. The gate control lists of a port, and the commands that switch between them (R145 to R148). -/

namespace Sys2Proof.Proofs

open Sys2Proof Sys2Proof.Machine

variable (p : State) (n : Nat)

/-! A field that is set to what it holds. -/

theorem setBits_getBits_self (v lo w : Nat) : setBits v lo w (getBits v lo w) = v := by
  apply Nat.eq_of_testBit_eq
  intro i
  rw [setBits_testBit]
  split
  case isTrue hi => rw [getBits_testBit, decide_eq_true (by omega), Bool.true_and, Nat.add_sub_cancel' hi.1]
  case isFalse => rfl

/-- Putting what a field holds leaves every register as it was. -/
theorem rg_put_held (f : Fld) (v i j k : Nat) (h : p.get f i j = v) : (p.put f v i j).rg k = p.rg k := by
  rw [State.put, ← h, State.get, setBits_getBits_self, State.rg_setRg]
  split
  case isTrue hk => rw [hk, Nat.mod_eq_of_lt (p.rg_lt _)]
  case isFalse => rfl

/-! The lists that are locked, and writes to entries (R145). -/

/-- A list is active. -/
abbrev GclActive (l : Nat) : Prop := p.get PORT_GCL_STAT.VALID n = 1 ∧ p.get PORT_GCL_STAT.ACTIVE n = l

/-- A pending switch names a list. -/
abbrev GclPends (l : Nat) : Prop := p.get PORT_GCL_STAT.PEND n = 1 ∧ p.get PORT_GCL_STAT.PEND_LIST n = l

theorem gclLocked_iff (l : Nat) : p.gclLocked n l = true ↔ GclActive p n l ∨ GclPends p n l := by
  rw [State.gclLocked, Bool.or_eq_true, Bool.and_eq_true, Bool.and_eq_true, on_iff_get_one _ _ _ _ rfl, on_iff_get_one _ _ _ _ rfl,
    beq_iff_eq, beq_iff_eq]
  rfl

/-- The entries of list `l`. -/
def gclEntries (l : Fin 2) : Fld := if l.val = 0 then PORT_GCL0_E.reg else PORT_GCL1_E.reg

section
variable (l : Fin 2) (i new : Nat)

theorem gclEntryWrite_refused (h : GclActive p n l.val ∨ GclPends p n l.val) :
    p.gclEntryWrite n l.val i new = p.evt PORT_GCL_EVT.WR_REFUSED (0x38 + n) n :=
  if_pos ((gclLocked_iff p n l.val).2 h)

theorem gclEntryWrite_stored (h : ¬ (GclActive p n l.val ∨ GclPends p n l.val)) :
    p.gclEntryWrite n l.val i new = p.setRg ((gclEntries l).key n i) new := by
  rw [State.gclEntryWrite, if_neg (mt (gclLocked_iff p n l.val).1 h), gclEntries]
  split <;> rfl

end

theorem exec_gclEntryWrite (a : Access) (m : Fin 8) (l : Fin 2) (i : Fin 96)
    (h : p.takes a true (gclEntries l) m.val i.val (wdata a) = true) :
    exec (.gclEntryWrite a m l i) p = .next (p.finish
      (((p.pass a.dt).gclEntryWrite m.val l.val i.val ((p.pass a.dt).merged (gclEntries l) (accMask a (gclEntries l) m.val i.val)
        (wdata a) m.val i.val)).setRsp .okay 0)) :=
  State.writeReg_takes p a (gclEntries l) m.val i.val (wdata a)
    (fun mask s => s.gclEntryWrite m.val l.val i.val (s.merged (gclEntries l) mask (wdata a) m.val i.val)) h

/-! The served commands, in the order of their checks (R146 to R148). -/

/-- A served command is refused, or meets a faulty list. -/
def gclRefused : State := p.evt PORT_GCL_EVT.CMD_REFUSED (0x38 + n) n
def gclListErr : State := p.evt PORT_GCL_EVT.LIST_ERR (0x38 + n) n

/-- A switch to list `l` is marked as pending. -/
def switchMarked (l : Nat) : State := (p.put PORT_GCL_STAT.PEND 1 n).put PORT_GCL_STAT.PEND_LIST l n

/-- The switch waits for its edge with its count. -/
def switchWaits (l cnt : Nat) (atSt : Bool) : State :=
  (switchMarked p n l).onPort n (fun x => { x with pendCount := cnt, pendAtSt := atSt, pendBell := p.get GLB_BELL_NUM.BELL })

/-- The bell number is not in the status word of the timetable. -/
theorem switchMarked_bell (l : Nat) : (switchMarked p n l).get GLB_BELL_NUM.BELL = p.get GLB_BELL_NUM.BELL := by
  have hlist : GLB_BELL_NUM.BELL.key 0 0 ≠ PORT_GCL_STAT.PEND_LIST.key n 0 := by
    simp only [Fld.key, GLB_BELL_NUM.BELL, PORT_GCL_STAT.PEND_LIST]
    omega
  have hpend : GLB_BELL_NUM.BELL.key 0 0 ≠ PORT_GCL_STAT.PEND.key n 0 := hlist
  rw [switchMarked, State.get_put_key _ _ _ _ _ _ _ _ hlist, State.get_put_key _ _ _ _ _ _ _ _ hpend]

/-- Two rows in a row that end alike are one row. -/
theorem rows_merge (c d : Prop) [Decidable c] [Decidable d] (x y : State) :
    (if c then x else if d then x else y) = if c ∨ d then x else y := by
  by_cases hc : c
  · rw [if_pos hc, if_pos (.inl hc)]
  · rw [if_neg hc]
    exact ite_congr (propext ⟨.inr, fun h => h.resolve_left hc⟩) (fun _ => rfl) (fun _ => rfl)

section
variable (w : Nat)

theorem gclCmd_idle (hr : (p.role (0x20 + n)).func = .idle) : p.gclCmd n w = gclRefused p n := if_pos hr

variable (hr : (p.role (0x20 + n)).func ≠ .idle)
include hr

theorem gclCmd_stale (hg : getBits w 32 16 ≠ (p.role (0x20 + n)).gen.toNat) :
    p.gclCmd n w = (p.count GLB_STALE_CNT.COUNT).evt PORT_GCL_EVT.STALE (0x38 + n) n :=
  (if_neg hr).trans (if_pos hg)

variable (hg : getBits w 32 16 = (p.role (0x20 + n)).gen.toNat)
include hg

theorem gclCmd_cancel (ha : getBits w 0 2 = 2) : p.gclCmd n w = p.put PORT_GCL_STAT.PEND 0 n := by
  rw [State.gclCmd, if_neg hr, if_neg (not_not_intro hg), ha]
  rfl

/-- A switch acts in the first row of R146 that holds. -/
theorem gclCmd_switch (ha : getBits w 0 2 = 1) :
    p.gclCmd n w =
      if p.get PORT_GCL_STAT.PEND n = 1 then gclRefused p n
      else if GclActive p n (getBits w 2 1) then gclRefused p n
      else if getBits w 16 7 = 0 ∨ 96 < getBits w 16 7 ∨ p.listBad n (getBits w 2 1) (getBits w 16 7) = true then gclListErr p n
      else switchWaits p n (getBits w 2 1) (getBits w 16 7) (bitAt w 3) := by
  rw [State.gclCmd, if_neg hr, if_neg (not_not_intro hg), if_neg (by omega), if_neg (by omega)]
  rw [switchWaits, ← switchMarked_bell p n (getBits w 2 1)]
  simp only [on_iff_get_one p n PORT_GCL_STAT.PEND 0 rfl, on_iff_get_one p n PORT_GCL_STAT.VALID 0 rfl,
    rows_merge (getBits w 16 7 = 0 ∨ 96 < getBits w 16 7), or_assoc]
  rfl

end

theorem exec_switch (a : Access) (m : Fin 8) (h : p.serves a PORT_GCL_CMD.reg m.val (setBits (wdata a) 0 2 1) = true) :
    exec (.switch a m) p = .next (p.finish
      ((((p.pass a.dt).gclCmd m.val (setBits (wdata a) 0 2 1)).pmu evCmdServed 1).setRsp .okay 0)) :=
  State.served_PORT_GCL_CMD p a m.val (setBits (wdata a) 0 2 1) h

theorem exec_cancel (a : Access) (m : Fin 8) (h : p.serves a PORT_GCL_CMD.reg m.val (setBits (wdata a) 0 2 2) = true) :
    exec (.cancel a m) p = .next (p.finish
      ((((p.pass a.dt).gclCmd m.val (setBits (wdata a) 0 2 2)).pmu evCmdServed 1).setRsp .okay 0)) :=
  State.served_PORT_GCL_CMD p a m.val (setBits (wdata a) 0 2 2) h

end Sys2Proof.Proofs

namespace Sys2Proof.Proofs

open Sys2Proof Sys2Proof.Machine

/-- Settles O34: a write by whether its list is locked, a switch by the first row of `gclCmd_switch`, a cancel by PEND. -/
theorem timetableListsAndCancel : Obligations.TimetableListsAndCancel := by
  have act (v x : Nat) : getBits (setBits v 0 2 x) 0 2 = x % 2 ^ 2 := getBits_setBits_same v 0 2 x
  refine ⟨fun a n l i s h => ⟨fun hl => ?_, fun hl => ?_⟩,
    fun a n s h => ⟨fun hr => ?_, fun hr hg => ?_, fun hr hg => ⟨fun hp => ?_, fun hp => ⟨fun hv => ?_, fun hv => ⟨fun hb => ?_,
      fun h0 h96 hb => ?_⟩⟩⟩⟩,
    fun a n s h hr hg => ⟨?_, fun hp k => rg_put_held _ _ _ _ _ _ hp⟩⟩
  · rw [exec_gclEntryWrite s a n l i h, gclEntryWrite_refused _ _ _ _ _ hl]
  · rw [exec_gclEntryWrite s a n l i h, gclEntryWrite_stored _ _ _ _ _ hl]
    rfl
  · rw [exec_switch s a n h, gclCmd_idle _ _ _ hr]
    rfl
  · rw [exec_switch s a n h, gclCmd_stale _ _ _ hr hg]
  · rw [exec_switch s a n h, gclCmd_switch _ _ _ hr hg (act _ 1), if_pos hp]
    rfl
  · rw [exec_switch s a n h, gclCmd_switch _ _ _ hr hg (act _ 1), if_neg (by omega), if_pos hv]
    rfl
  · rw [exec_switch s a n h, gclCmd_switch _ _ _ hr hg (act _ 1), if_neg (by omega), if_neg hv, if_pos hb]
    rfl
  · rw [exec_switch s a n h, gclCmd_switch _ _ _ hr hg (act _ 1), if_neg (by omega), if_neg hv, if_neg (by simp [hb]; omega)]
    rfl
  · rw [exec_cancel s a n h, gclCmd_cancel _ _ _ hr hg (act _ 2)]

end Sys2Proof.Proofs
end

section
/-! SUPPORT. Preemption on transmit: the cut of the frame in transmission, and its continuation (R160, R161). -/

namespace Sys2Proof.Proofs

open Sys2Proof Sys2Proof.Machine

variable (p : State) (n : Nat)

/-! PREEMPT_CUT. -/

section
variable (t : TxFrame) (k : Nat)

/-- A preemptable frame is to be cut at its legal point `k`. -/
def CutDue : Prop := t.preempt = true ∧ (p.cutCause n t = true ∨ p.lastPoint n t k = true)

theorem cutDue_iff : (t.preempt && (p.cutCause n t || p.lastPoint n t k)) = true ↔ CutDue p n t k := by
  rw [CutDue, Bool.and_eq_true, Bool.or_eq_true]

theorem not_cutDue (h : t.preempt = false ∨ (p.cutCause n t = false ∧ p.lastPoint n t k = false)) : ¬ CutDue p n t k :=
  fun ⟨hpre, hcut⟩ => (h.resolve_left (ne_false_of_eq_true hpre)).elim fun hcause hlast =>
    hcut.elim (ne_true_of_eq_false hcause) (ne_true_of_eq_false hlast)

/-- The frame waits as the split frame; its fragment of `k` bytes on the wire ends with its mCRC. -/
def frameSplit : State :=
  p.onPort n (fun x => { x with
    tx := none, split := some { t with sent := t.sent + k, frags := t.frags + 1 }, txPos := (x.txPos + 8 + k + 4) % 16,
    wire := t.packet (t.rest.take k ++ mcrcBytes (t.data.take (t.sent + k))) })

/-- TX_SPLIT shows it, and in loopback the port hears the fragment. -/
def frameCut : State :=
  ((frameSplit p n t k).put PORT_PM_STAT.TX_SPLIT 1 n).loopBack n
    ((frameSplit p n t k).delimAt n ((frameSplit p n t k).port n).startLane t.startAt)

theorem preemptCut_none (ht : (p.port n).tx = none) : p.preemptCut n = p := by rw [State.preemptCut, ht]

theorem preemptCut_noPoint (ht : (p.port n).tx = some t) (hk : p.legalPoint n t = none) : p.preemptCut n = p := by
  simp only [State.preemptCut, ht, hk]

variable (ht : (p.port n).tx = some t) (hk : p.legalPoint n t = some k)
include ht hk

theorem preemptCut_cuts (h : CutDue p n t k) : p.preemptCut n = frameCut p n t k := by
  rw [← cutDue_iff] at h
  simp only [State.preemptCut, ht, hk, if_pos h]
  rfl

theorem preemptCut_idle (h : ¬ CutDue p n t k) : p.preemptCut n = p := by
  rw [← cutDue_iff] at h
  simp only [State.preemptCut, ht, hk, if_neg h]

end

theorem exec_preemptCut (dt : Nat) (m : Fin 8) (h : p.runs dt = true) :
    exec (.preemptCut dt m) p = .next (p.finish ((p.pass dt).preemptCut m.val)) :=
  State.main_runs p dt (fun s => s.preemptCut m.val) h

/-! PREEMPT_CONTINUE. -/

/-- A waiting express frame may start. -/
def ExpressReady : Prop := ∃ w, (p.port n).wait = some w ∧ p.isPreemptable n w.e.cls = false ∧ p.mayStart n w 0 = true

def expressReady : Bool := (p.port n).wait.any fun w => !p.isPreemptable n w.e.cls && p.mayStart n w 0

theorem expressReady_iff : expressReady p n = true ↔ ExpressReady p n := by
  simp only [expressReady, ExpressReady, Option.any_eq_true, Bool.and_eq_true, Bool.not_eq_true']

section
variable (t : TxFrame) (extra : Nat)

/-- The split frame may continue (R161). -/
def Continues : Prop :=
  p.txFree n = true ∧ ¬ ExpressReady p n ∧ p.on PORT_GCL_STAT.HOLD n = false ∧ p.gateOpen n t.e.cls = true ∧ (p.port n).ctrlQ = []

/-- The split frame is in transmission again. -/
def frameContinued : State :=
  ((p.placeStart n extra).1.onPort n (fun x => { x with
    split := none, tx := some { t with startAt := p.frc.toNat }, wire := t.packet t.rest,
    startLane := (p.placeStart n extra).2 })).put PORT_PM_STAT.TX_SPLIT 0 n

theorem preemptContinue_none (hs : (p.port n).split = none) : p.preemptContinue n extra = p := by rw [State.preemptContinue, hs]

theorem continues_iff :
    (p.txFree n && !expressReady p n && !p.on PORT_GCL_STAT.HOLD n && p.gateOpen n t.e.cls && !p.ctrlPending n) = true ↔
      Continues p n t := by
  simp only [Continues, ← expressReady_iff, State.ctrlPending, Bool.and_eq_true, Bool.not_eq_true', Bool.not_eq_false',
    Bool.not_eq_true, List.isEmpty_iff, and_assoc]

theorem preemptContinue_split (hs : (p.port n).split = some t) :
    p.preemptContinue n extra =
      if p.txFree n && !expressReady p n && !p.on PORT_GCL_STAT.HOLD n && p.gateOpen n t.e.cls && !p.ctrlPending n
      then frameContinued p n t extra else p := by
  rw [State.preemptContinue, hs, expressReady]
  cases (p.port n).wait <;> rfl

variable (hs : (p.port n).split = some t)
include hs

theorem preemptContinue_goes (h : Continues p n t) : p.preemptContinue n extra = frameContinued p n t extra :=
  (preemptContinue_split p n t extra hs).trans (if_pos ((continues_iff p n t).2 h))

theorem preemptContinue_waits (h : ¬ Continues p n t) : p.preemptContinue n extra = p :=
  (preemptContinue_split p n t extra hs).trans (if_neg (mt (continues_iff p n t).1 h))

end

theorem exec_preemptContinue (dt extra : Nat) (m : Fin 8) (h : p.runs dt = true) :
    exec (.preemptContinue dt m extra) p = .next (p.finish ((p.pass dt).preemptContinue m.val extra)) :=
  State.main_runs p dt (fun s => s.preemptContinue m.val extra) h

end Sys2Proof.Proofs
end

section
/-! SUPPORT. Reassembly of preemptable frames on receive: what the receiver reads from a fragment, and what it does with it (R157, R163,
R164). -/

namespace Sys2Proof.Proofs

open Sys2Proof Sys2Proof.Machine

variable (p : State) (n : Nat)

/-! The lanes of a fragment. -/

theorem dataRun_packet (k : Nat) (b : List Nat) :
    dataRun (List.replicate k (Lane.data 0x55) ++ (b.map Lane.data ++ [Lane.terminate])) =
      (List.replicate k 0x55 ++ b, some .terminate) := by
  have h := dataRun_map (List.replicate k 0x55 ++ b) .terminate [] rfl
  rwa [List.map_append, List.map_replicate, List.append_assoc] at h

section
variable (smd cnt : Nat) (b : List Nat)

theorem fragmentLanes_cont (hs : smd ∈ smdC) : fragmentLanes smd cnt b = packet 5 (smd :: cnt :: b) :=
  if_pos (List.contains_iff_mem.2 hs)

theorem fragmentLanes_other (hs : smd ∉ smdC) : fragmentLanes smd cnt b = framePacket smd b :=
  if_neg (mt List.contains_iff_mem.1 hs)

/-- With preemption enabled a continuation is read as one; disabled, its count byte stands in the place of the delimiter. -/
theorem rxRead_cont (pm : Bool) (g : RxGate) (hg : g ≠ .jabber) (hs : smd ∈ smdC) (hb : b.length < 65529) :
    rxRead pm g (packet 5 (smd :: cnt :: b)) = if pm then .packet smd (cnt :: b) else .packet cnt b := by
  have hstart : rxRead pm g (packet 5 (smd :: cnt :: b)) =
      rxBody pm (List.replicate 5 (Lane.data 0x55) ++ ((smd :: cnt :: b).map Lane.data ++ [Lane.terminate])) := by
    cases g with
    | jabber => exact absurd rfl hg
    | take => rfl
    | misaligned => rfl
  have hlen : ¬ 65536 ≤ (List.replicate 5 0x55 ++ smd :: cnt :: b).length := by
    simp only [List.length_append, List.length_replicate, List.length_cons]
    omega
  have hmem : smdC.contains smd = true := List.contains_iff_mem.2 hs
  rw [hstart, rxBody, dataRun_packet]
  simp only [if_neg hlen]
  cases pm
  · rfl
  · exact if_pos hmem

/-- After a jabber a fragment is discarded, whatever its start code. -/
theorem rxRead_jabber_fragment (pm : Bool) : rxRead pm .jabber (fragmentLanes smd cnt b) = .nothing .jabber := by
  by_cases hs : smd ∈ smdC
  · have hnone : nextStart .jabber (packet 5 (smd :: cnt :: b)) = (.jabber, none) :=
      nextStart_jabber_data (smd :: cnt :: b) [.terminate]
    rw [fragmentLanes_cont _ _ _ hs, rxRead, hnone]
  · rw [fragmentLanes_other _ _ _ hs, rxRead_jabber_framePacket]

section
variable (age lane : Nat) (hu : p.isUp n = true)
include hu

theorem rxLanes_fragment_jabber (hg : (p.port n).gate = .jabber) :
    p.rxLanes n age lane (fragmentLanes smd cnt b) = p.onPort n (fun x => { x with gate := .jabber }) := by
  rw [rxLanes_up _ _ _ _ _ hu, hg, rxRead_jabber_fragment]
  rfl

variable (hg : (p.port n).gate ≠ .jabber) (hb : b.length < 65529)
include hg hb

theorem rxLanes_other (hs : smd ∉ smdC) :
    p.rxLanes n age lane (fragmentLanes smd cnt b) = (rxClosed p n).rxPacket n age lane smd b := by
  rw [fragmentLanes_other _ _ _ hs, rxLanes_framePacket _ _ _ _ _ _ hu hg hb]

theorem rxLanes_cont (hs : smd ∈ smdC) (he : p.on PORT_PM_CFG.EN n = true) :
    p.rxLanes n age lane (fragmentLanes smd cnt b) = (rxClosed p n).rxPacket n age lane smd (cnt :: b) := by
  rw [fragmentLanes_cont _ _ _ hs, rxLanes_up _ _ _ _ _ hu, rxRead_cont _ _ _ _ _ hg hs hb, he]
  rfl

theorem rxLanes_cont_disabled (hs : smd ∈ smdC) (he : p.on PORT_PM_CFG.EN n = false) :
    p.rxLanes n age lane (fragmentLanes smd cnt b) = (rxClosed p n).rxPacket n age lane cnt b := by
  rw [fragmentLanes_cont _ _ _ hs, rxLanes_up _ _ _ _ _ hu, rxRead_cont _ _ _ _ _ hg hs hb, he]
  rfl

end

end

/-! A packet by its delimiter, with preemption enabled (R157). -/

section
variable (age lane : Nat) (b : List Nat) (he : p.on PORT_PM_CFG.EN n = true)
include he

theorem rxPacket_first (i : Fin 4) :
    p.rxPacket n age lane (smdS.getD i.val 0) b =
      p.firstFragment n (p.tscRx n (p.frc.toNat - age) lane) (p.rxStartAt n age lane) i.val b := by
  rw [State.rxPacket, he]
  match i with
  | 0 => rfl
  | 1 => rfl
  | 2 => rfl
  | 3 => rfl

theorem rxPacket_next (i : Fin 4) (cnt : Nat) :
    p.rxPacket n age lane (smdC.getD i.val 0) (cnt :: b) = p.nextFragment n i.val cnt b := by
  rw [State.rxPacket, he]
  match i with
  | 0 => rfl
  | 1 => rfl
  | 2 => rfl
  | 3 => rfl

theorem rxPacket_unlisted (smd : Nat) (hs : smd ∉ smdS) (hc : smd ∉ smdC) (ho : smd ∉ [smdE, smdV, smdR]) :
    p.rxPacket n age lane smd b = (p.crcTapRx n (b.take (b.length - 4)) false).count PORT_CNT.COUNT n pcRxCodeErr := by
  have hnone (l : List Nat) (h : smd ∉ l) : l.findIdx? (· == smd) = none :=
    List.findIdx?_eq_none_iff.2 fun x hx => beq_false_of_ne fun heq => h (heq ▸ hx)
  simp only [List.mem_cons, List.not_mem_nil, or_false, not_or] at ho
  obtain ⟨hE, hV, hR⟩ := ho
  rw [State.rxPacket, if_neg hE, he, hnone _ hs, hnone _ hc]
  exact (if_neg hV).trans (if_neg hR)

end

theorem smdC_mem (i : Fin 4) : smdC.getD i.val 0 ∈ smdC := by
  revert i
  decide

theorem smdS_not_mem_smdC (i : Fin 4) : smdS.getD i.val 0 ∉ smdC := by
  revert i
  decide

/-! The assembly (R163). -/

/-- The bytes of a fragment before its check bytes, and the check bytes. -/
def fragData (b : List Nat) : List Nat := b.take (b.length - 4)
def fragCheck (b : List Nat) : List Nat := b.drop (b.length - 4)

/-- No assembly is open. -/
def assyClosed : State := (p.onPort n (fun x => { x with assy := none })).put PORT_PM_STAT.RX_ASSY 0 n

section
variable (ts startAt i : Nat) (b : List Nat)

/-- The state in which a first fragment is taken: an assembly that was open is discarded. -/
def assyFreed : State := if (p.port n).assy = none then p else p.assyErr n

theorem firstFragment_eq :
    p.firstFragment n ts startAt i b =
      if fragCheck b = mcrcBytes (fragData b) then
        ((assyFreed p n).onPort n (fun x => { x with assy := some ⟨i, 0, fragData b, ts, startAt⟩ })).put PORT_PM_STAT.RX_ASSY 1 n
      else (assyFreed p n).rxWhole n ts startAt b := by
  have hfreed : (if (p.port n).assy.isSome then p.assyErr n else p) = assyFreed p n := by
    rw [assyFreed]
    cases (p.port n).assy <;> rfl
  rw [State.firstFragment, hfreed]
  exact ite_congr (propext beq_iff_eq) (fun _ => rfl) (fun _ => rfl)

end

section
variable (i cnt : Nat) (b : List Nat)

theorem nextFragment_none (ha : (p.port n).assy = none) : p.nextFragment n i cnt b = p.assyErr n := by rw [State.nextFragment, ha]

/-- A continuation of an open assembly: its frame count and fragment count are the expected ones. -/
def FragFits (a : Assy) : Prop := a.idx = i ∧ smdS.getD a.next 0 = cnt

variable (a : Assy) (ha : (p.port n).assy = some a)
include ha

theorem nextFragment_misfit (h : ¬ FragFits i cnt a) : p.nextFragment n i cnt b = p.assyErr n := by
  rw [State.nextFragment, ha]
  exact if_pos (Classical.not_and_iff_not_or_not.1 h)

/-- One that fits completes the frame, makes the assembly grow, or discards it, by its check bytes. -/
theorem nextFragment_fits (h : FragFits i cnt a) :
    p.nextFragment n i cnt b =
      if fragCheck b = fcsBytes (a.data ++ fragData b) then
        ((assyClosed p n).count PORT_CNT.COUNT n pcRxReassembled).rxWhole n a.ts a.startAt (a.data ++ fragData b ++ fragCheck b)
      else if fragCheck b = mcrcBytes (a.data ++ fragData b) then
        p.onPort n (fun x => { x with assy := some { a with next := (a.next + 1) % 4, data := a.data ++ fragData b } })
      else p.assyErr n := by
  have hfits : ¬ (a.idx ≠ i ∨ smdS.getD a.next 0 ≠ cnt) := fun hn => hn.elim (· h.1) (· h.2)
  rw [State.nextFragment, ha]
  refine (if_neg hfits).trans ?_
  simp only [beq_iff_eq]
  rfl

end

/-! RX_FRAGMENT. -/

theorem Listens.exec_rxFragment {p : State} {dt : Nat} {m : Fin 8} (h : Listens p dt m) (age : Nat) (lane : Fin 16) (smd cnt : Byte)
    (b : List Byte) :
    exec (.rxFragment dt m age lane smd cnt b) p = .next (p.finish
      ((p.pass dt).rxLanes m.val age lane.val (fragmentLanes smd.toNat cnt.toNat (nats b)))) :=
  h.exec_eq _ (fun s => s.rxLanes m.val age lane.val (fragmentLanes smd.toNat cnt.toNat (nats b))) rfl

end Sys2Proof.Proofs

namespace Sys2Proof.Proofs

open Sys2Proof Sys2Proof.Machine

/-- Settles O37: a cut where it is due, a continuation where it may go, and of a received fragment what its delimiter, its counts and
its check bytes say. -/
theorem preemptionFragments : Obligations.PreemptionFragments := by
  refine ⟨fun dt n s hr => ⟨fun ht => ?_, fun t ht => ⟨fun hk => ?_, fun k hk => ⟨fun hpre hcut => ?_, fun hidle => ?_⟩⟩⟩,
    fun dt n extra s hr => ⟨fun hs => ?_, fun t hs => ⟨fun hgo => ?_, fun hgo => ?_⟩⟩,
    fun dt n age lane smd cnt b s hh hb => ?_⟩
  · rw [exec_preemptCut s dt n hr, preemptCut_none _ _ ht]
  · rw [exec_preemptCut s dt n hr, preemptCut_noPoint _ _ t ht hk]
  · rw [exec_preemptCut s dt n hr, preemptCut_cuts _ _ t k ht hk ⟨hpre, hcut⟩]
    rfl
  · rw [exec_preemptCut s dt n hr, preemptCut_idle _ _ t k ht hk (not_cutDue _ _ t k hidle)]
  · rw [exec_preemptContinue s dt extra n hr, preemptContinue_none _ _ extra hs]
  · rw [exec_preemptContinue s dt extra n hr, preemptContinue_goes _ _ t extra hs hgo]
    rfl
  · rw [exec_preemptContinue s dt extra n hr, preemptContinue_waits _ _ t extra hs hgo]
  · have hbytes : (nats b).length < 65529 := by rwa [nats_length]
    have hexec (hu : (s.pass dt).isUp n.val = true) (hl : (s.pass dt).on PORT_MAC_CTRL.LOOP n.val = false) :=
      Listens.exec_rxFragment ⟨hh, hu, hl⟩ age lane smd cnt b
    refine ⟨fun hidle => ?_, fun hu hl hg => ?_, fun ⟨hu, hl, hg⟩ he => ⟨fun hs hc => ?_, fun hs hd => ?_⟩,
      fun ⟨hu, hl, hg⟩ he => ⟨fun i (hi : smd.toNat = smdS.getD i.val 0) => ?_, fun i (hi : smd.toNat = smdC.getD i.val 0) => ?_,
        fun hs hc ho => ?_⟩⟩
    · exact (exec_fromPcs s dt n _ _ rfl hh).trans (next_congr (fromPcs_idle _ _ _ (rxLanes_down _ _ _ _ _) hidle))
    · rw [hexec hu hl, rxLanes_fragment_jabber _ _ _ _ _ _ _ hu hg]
    · rw [hexec hu hl, rxLanes_cont_disabled _ _ _ _ _ _ _ hu hg hbytes hs he,
        rxPacket_disabled (rxClosed (s.pass dt) n.val) _ _ _ _ _ hc he]
      rfl
    · rw [hexec hu hl, rxLanes_other _ _ _ _ _ _ _ hu hg hbytes hs,
        rxPacket_disabled (rxClosed (s.pass dt) n.val) _ _ _ _ _ hd he]
      rfl
    · rw [hexec hu hl, hi, rxLanes_other _ _ _ _ _ _ _ hu hg hbytes (smdS_not_mem_smdC i),
        rxPacket_first (rxClosed (s.pass dt) n.val) _ _ _ _ he i, firstFragment_eq]
      exact ⟨fun hok => next_congr (if_pos hok), fun hbad => next_congr (if_neg hbad)⟩
    · rw [hexec hu hl, hi, rxLanes_cont _ _ _ _ _ _ _ hu hg hbytes (smdC_mem i) he,
        rxPacket_next (rxClosed (s.pass dt) n.val) _ _ _ _ he i]
      refine ⟨fun ha => next_congr (nextFragment_none _ _ _ _ _ ha), fun a ha =>
        ⟨fun hfit => next_congr (nextFragment_misfit _ _ _ _ _ a ha hfit), fun hfit hfcs => ?_, fun hfit hfcs hm => ?_,
          fun hfit hfcs hm => ?_⟩⟩
      · exact next_congr ((nextFragment_fits _ _ _ _ _ a ha hfit).trans (if_pos hfcs))
      · exact next_congr ((nextFragment_fits _ _ _ _ _ a ha hfit).trans ((if_neg hfcs).trans (if_pos hm)))
      · exact next_congr ((nextFragment_fits _ _ _ _ _ a ha hfit).trans ((if_neg hfcs).trans (if_neg hm)))
    · rw [hexec hu hl, rxLanes_other _ _ _ _ _ _ _ hu hg hbytes hc,
        rxPacket_unlisted (rxClosed (s.pass dt) n.val) _ _ _ _ he _ hs hc ho]
      rfl

end Sys2Proof.Proofs
end

section
/-! SUPPORT. Served commands of buffer memory: bank power, erased columns, the preserving march (R202 to R209). -/

namespace Sys2Proof.Proofs

open Sys2Proof Sys2Proof.Machine

variable (p : State)

theorem exec_on (a : Access) (h : p.serves a MEM_BANK_CMD.reg 0 (setBits (wdata a) 8 2 0) = true) :
    exec (.on a) p = .next (p.finish
      ((((p.pass a.dt).bankCmd (setBits (wdata a) 8 2 0)).pmu evCmdServed 1).setRsp .okay 0)) :=
  State.served_MEM_BANK_CMD p a 0 _ h

theorem exec_off (a : Access) (h : p.serves a MEM_BANK_CMD.reg 0 (setBits (wdata a) 8 2 2) = true) :
    exec (.off a) p = .next (p.finish
      ((((p.pass a.dt).bankCmd (setBits (wdata a) 8 2 2)).pmu evCmdServed 1).setRsp .okay 0)) :=
  State.served_MEM_BANK_CMD p a 0 _ h

theorem exec_eraseColumn (a : Access) (h : p.serves a MEM_COL_CMD.reg 0 (setBits (wdata a) 8 1 1) = true) :
    exec (.eraseColumn a) p = .next (p.finish
      ((((p.pass a.dt).colCmd (setBits (wdata a) 8 1 1)).pmu evCmdServed 1).setRsp .okay 0)) :=
  State.served_MEM_COL_CMD p a 0 _ h

theorem exec_marchStart (a : Access) (h : p.serves a MEM_MARCH_CMD.reg 0 (setBits (wdata a) 0 2 1) = true) :
    exec (.marchStart a) p = .next (p.finish
      ((((p.pass a.dt).marchCmd (setBits (wdata a) 0 2 1)).pmu evCmdServed 1).setRsp .okay 0)) :=
  State.served_MEM_MARCH_CMD p a 0 _ h

theorem exec_marchAbort (a : Access) (h : p.serves a MEM_MARCH_CMD.reg 0 (setBits (wdata a) 0 2 2) = true) :
    exec (.marchAbort a) p = .next (p.finish
      ((((p.pass a.dt).marchCmd (setBits (wdata a) 0 2 2)).pmu evCmdServed 1).setRsp .okay 0)) :=
  State.served_MEM_MARCH_CMD p a 0 _ h

section
variable (w : Nat)

/-! Bank power (R202). -/

/-- May bank `b` go OFF: ON, not in use, and without a march? -/
abbrev MayGoOff (b : Nat) : Prop := p.get MEM_BANK_STAT.POWER b = 0 ∧ p.inUse b = false ∧ p.marchIn b = false

theorem bankCmd_on (h : getBits w 8 2 = 0) : p.bankCmd w = if p.get MEM_BANK_STAT.POWER (getBits w 0 4) = 2 then
    (p.put MEM_BANK_STAT.POWER 3 (getBits w 0 4)).put MEM_BANK_STAT.FILL_LEFT 8192 (getBits w 0 4) else p.memRefuse :=
  if_pos h

theorem offRefused_iff (b : Nat) :
    (p.get MEM_BANK_STAT.POWER b ≠ 0 ∨ p.inUse b = true ∨ p.marchIn b = true) ↔ ¬ MayGoOff p b := by
  simp only [MayGoOff, Classical.not_and_iff_not_or_not, Bool.not_eq_false, ne_eq]

theorem bankCmd_off (h : getBits w 8 2 = 2) : p.bankCmd w = if ¬ MayGoOff p (getBits w 0 4) then p.memRefuse
    else if getBits w 0 4 ∈ p.mem.offPend then p else { p with mem.offPend := p.mem.offPend ++ [getBits w 0 4] } := by
  simp only [State.bankCmd, h, Nat.reduceEqDiff, if_false, if_true, offRefused_iff, List.contains_iff_mem]

/-! Erased columns (R204, R205). -/

/-- May column `c` of bank `b` be erased: it exists, it is not a third ERASED one, and no march runs in the bank? -/
abbrev MayErase (b c : Nat) : Prop := c ≤ 9 ∧ (p.erasedCols b).length < 2 ∧ p.marchIn b = false

theorem eraseRefused_iff (b c : Nat) : (9 < c ∨ 2 ≤ (p.erasedCols b).length ∨ p.marchIn b = true) ↔ ¬ MayErase p b c := by
  simp only [MayErase, Classical.not_and_iff_not_or_not, Bool.not_eq_false, Nat.not_le, Nat.not_lt]

theorem colCmd_erase (h : bitAt w 8 = true) : p.colCmd w = if ¬ MayErase p (getBits w 0 4) (getBits w 4 4) then p.memRefuse
    else { p with mem.erasePend := p.mem.erasePend ++ [(getBits w 0 4, getBits w 4 4)] } := by
  simp only [State.colCmd, h, Bool.true_eq_false, false_or, eraseRefused_iff]

/-! The preserving march (R207, R209). -/

/-- May a march of column `c` of bank `b` start: none runs, the bank is ON, not in START, SLEEP and HALT, the column exists, and no
other column of the bank is ERASED? -/
abbrev MayMarch (b c : Nat) : Prop := p.get MEM_MARCH_STAT.STATE = 0 ∧ p.get MEM_BANK_STAT.POWER b = 0 ∧ p.mode ∉ [0, 4, 5] ∧
  c ≤ 9 ∧ ∀ d ∈ p.erasedCols b, d = c

/-- The march of column `c` of bank `b` begins in TESTING. -/
def marchBegun (b c : Nat) : State :=
  let q := ((((p.put MEM_MARCH_STAT.STATE 1).put MEM_MARCH_STAT.BANK b).put MEM_MARCH_STAT.COLUMN c).put
    MEM_MARCH_STAT.ELEMENT 0).put MEM_MARCH_STAT.PROGRESS 0
  let q := ((q.put MEM_MARCH_STAT.FAIL_ROWS0 0).put MEM_MARCH_STAT.FAIL_ROWS1 0).put MEM_BANK_STAT.MARCH 1 b
  { q with mem.marchErase := false, mem.marchOp := 0, mem.marchPos := 0, mem.marchFails := [], mem.marchAbort := false }

theorem marchRefused_iff (b c : Nat) :
    (p.get MEM_MARCH_STAT.STATE ≠ 0 ∨ p.get MEM_BANK_STAT.POWER b ≠ 0 ∨ p.mode = 0 ∨ p.mode = 4 ∨ p.mode = 5 ∨ 9 < c ∨
      (p.erasedCols b).any (fun d => d != c) = true) ↔ ¬ MayMarch p b c := by
  have hmode : (p.mode = 0 ∨ p.mode = 4 ∨ p.mode = 5) ↔ ¬ p.mode ∉ [0, 4, 5] := by
    simp only [List.mem_cons, List.not_mem_nil, or_false, Classical.not_not]
  have hcols : (p.erasedCols b).any (fun d => d != c) = true ↔ ¬ ∀ d ∈ p.erasedCols b, d = c := by
    simp only [List.any_eq_true, bne_iff_ne, Classical.not_forall, exists_prop, ne_eq]
  rw [MayMarch, Classical.not_and_iff_not_or_not, Classical.not_and_iff_not_or_not, Classical.not_and_iff_not_or_not,
    Classical.not_and_iff_not_or_not, Nat.not_le, ← hmode, ← hcols, or_assoc, or_assoc]

theorem marchCmd_start (h : getBits w 0 2 = 1) : p.marchCmd w = if ¬ MayMarch p (getBits w 4 4) (getBits w 8 4) then
    (p.put MEM_MARCH_STAT.REFUSED 1).memRefuse else marchBegun p (getBits w 4 4) (getBits w 8 4) :=
  (if_pos h).trans (ite_congr (propext (marchRefused_iff p _ _)) (fun _ => rfl) (fun _ => rfl))

theorem marchCmd_abort (h : getBits w 0 2 = 2) : p.marchCmd w =
    if p.get MEM_MARCH_STAT.STATE = 1 ∨ p.get MEM_MARCH_STAT.STATE = 2 then
      { (p.put MEM_MARCH_STAT.STATE 3).put MEM_MARCH_STAT.PROGRESS 0 with mem.marchPos := 0, mem.marchAbort := true }
    else p :=
  (if_neg (by omega)).trans (if_pos h)

end

end Sys2Proof.Proofs

namespace Sys2Proof.Proofs

open Sys2Proof Sys2Proof.Machine

/-- Settles O40: each served command by its action bits, refused where what it needs does not hold. -/
theorem bankColumnAndMarchCommands : Obligations.BankColumnAndMarchCommands := by
  have power (v x : Nat) : getBits (setBits v 8 2 x) 8 2 = x % 2 ^ 2 := getBits_setBits_same v 8 2 x
  have act (v x : Nat) : getBits (setBits v 0 2 x) 0 2 = x % 2 ^ 2 := getBits_setBits_same v 0 2 x
  have erase (v : Nat) : bitAt (setBits v 8 1 1) 8 = true := beq_iff_eq.2 (getBits_setBits_same v 8 1 1)
  refine ⟨fun a s h => ⟨fun hp => ?_, fun hp => ?_⟩,
    fun a s h => ⟨fun hf => ?_, fun hf hb => ?_, fun hf hb => ?_⟩,
    fun a s h => ⟨fun hok => ?_, fun hok => ?_⟩,
    fun a s h => ⟨fun hok => ?_, fun hok => ?_⟩,
    fun a s h => ⟨fun hst => ?_, fun h1 h2 => ?_⟩,
    fun a s h hr => State.writeQueued_dropped s a _ 0 _ h hr⟩
  · rw [exec_on s a h, bankCmd_on _ _ (power _ 0), if_pos hp]
  · rw [exec_on s a h, bankCmd_on _ _ (power _ 0), if_neg hp]
    rfl
  · rw [exec_off s a h, bankCmd_off _ _ (power _ 2), if_pos hf]
    rfl
  · rw [exec_off s a h, bankCmd_off _ _ (power _ 2), if_neg (not_not_intro hf), if_pos hb]
  · rw [exec_off s a h, bankCmd_off _ _ (power _ 2), if_neg (not_not_intro hf), if_neg hb]
  · rw [exec_eraseColumn s a h, colCmd_erase _ _ (erase _), if_pos hok]
    rfl
  · rw [exec_eraseColumn s a h, colCmd_erase _ _ (erase _), if_neg (not_not_intro hok)]
  · rw [exec_marchStart s a h, marchCmd_start _ _ (act _ 1), if_pos hok]
    rfl
  · rw [exec_marchStart s a h, marchCmd_start _ _ (act _ 1), if_neg (not_not_intro hok)]
    rfl
  · rw [exec_marchAbort s a h, marchCmd_abort _ _ (act _ 2), if_pos hst]
  · rw [exec_marchAbort s a h, marchCmd_abort _ _ (act _ 2), if_neg (not_or.2 ⟨h1, h2⟩)]

end Sys2Proof.Proofs
end

section
/-! SUPPORT. Accesses of the service cores to buffer memory, and the two sides of the staff room (R195, R200, R217 to R221). -/

namespace Sys2Proof.Proofs

open Sys2Proof Sys2Proof.Machine

variable (p : State)

theorem exec_procAccess (dt : Nat) (core : Fin 2) (wr : Bool) (addr : BitVec 23) (len : Fin 9) (data : Word) (h : p.awake dt = true) :
    exec (.procAccess dt core wr addr len data) p = .next (p.finish
      ((p.pass dt).procAccess core.val wr addr.toNat len.val data.toNat)) :=
  State.engine_awake p dt (fun s => s.procAccess core.val wr addr.toNat len.val data.toNat) h

theorem exec_staffAccess (dt : Nat) (core : Fin 2) (init : Init) (sc : Option StaffReq) (x : HostSide) (h : p.runs dt = true) :
    exec (.staffAccess dt core init sc x) p = .next (p.finish
      ((p.pass dt).staffAccess core.val init.val sc (sideReq x) (sideBlock x))) :=
  State.main_runs p dt (fun s => s.staffAccess core.val init.val sc (sideReq x) (sideBlock x)) h

section
variable (c : Nat) (a : StaffReq)

/-! The core's side (R195, R217, R496). -/

/-- The state in which the access of core `c` has been counted (R431). -/
abbrev staffCounted : State := p.pmuOn evStaff (2 ^ c) 1

theorem staffSc_write (hr : (staffCounted p c).scReaches c a.addr.toNat = true) (hw : a.wr = true) :
    p.staffSc c a = (staffCounted p c).staffPut (srWord a) (srMerge a ((staffCounted p c).staffPeek (srWord a))) :=
  (if_pos hr).trans (if_pos hw)

/-- A read loads what the word gives, or takes a bus error. -/
theorem staffSc_read (hr : (staffCounted p c).scReaches c a.addr.toNat = true) (hw : a.wr = false) (t : State) (d : Option Nat)
    (hd : (staffCounted p c).staffRead (srWord a) = (t, d)) :
    p.staffSc c a = t.onCore c (fun q => { q with ld := d.elim 0 (srPick a), err := d.isNone }) := by
  simp only [State.staffSc, hr, hw, hd, if_true, Bool.false_eq_true, if_false]
  cases d <;> rfl

theorem staffSc_unreached (hr : (staffCounted p c).scReaches c a.addr.toNat = false) :
    p.staffSc c a = (staffCounted p c).onCore c (fun q => { q with ld := 0, err := true }) :=
  if_neg (Bool.eq_false_iff.1 hr)

/-- Does the core write the word that the block writer writes in the cycle (R219, R220)? -/
abbrev BlockMet : Prop := a.wr = true ∧ p.blockWrote a = true ∧ p.scReaches c a.addr.toNat = true

theorem staffCore_met (hd : p.dozing = false) (h : BlockMet p c a) : p.staffCore c (some a) true = p.staffBlock c a := by
  obtain ⟨hw, hb, hr⟩ := h
  simp only [State.staffCore, hd, hw, hb, hr, Bool.false_eq_true, if_false, Bool.and_self, if_true]

theorem staffCore_unmet (hd : p.dozing = false) (blk : Bool) (h : blk = true → ¬ BlockMet p c a) :
    p.staffCore c (some a) blk = p.staffSc c a := by
  have hmet : ¬ (blk && a.wr && p.blockWrote a && p.scReaches c a.addr.toNat) = true := by
    simpa only [Bool.and_eq_true, and_assoc, not_and] using h
  simp only [State.staffCore, hd, Bool.false_eq_true, if_false, if_neg hmet]

/-! The host side (R217, R221). -/

variable (h : StaffReq)

theorem staffHost_write (hw : h.wr = true) :
    p.staffHost h = (p.staffPut (srWord h) (srMerge h (p.staffPeek (srWord h))), 0) := if_pos hw

theorem staffHost_read (hw : h.wr = false) (t : State) (d : Option Nat) (hd : p.staffRead (srWord h) = (t, d)) :
    p.staffHost h = (t, d.elim 0 (srPick h)) := by
  simp only [State.staffHost, hw, hd, Bool.false_eq_true, if_false]
  cases d <;> rfl

/-! Both sides in one cycle (R219). -/

/-- Both sides reach the same word. -/
abbrev OneWord : Prop := srWord a = srWord h ∧ p.scReaches c a.addr.toNat = true

theorem staffBoth_collide (ho : OneWord p c a h) (hc : a.wr = true) (hh : h.wr = true) :
    p.staffBoth c a h = ((p.staffSc c a).staffCollide a h, 0) := by
  rw [State.staffBoth, if_pos ho, hc, hh]

theorem staffBoth_hostReads (ho : OneWord p c a h) (hc : a.wr = true) (hh : h.wr = false) :
    p.staffBoth c a h = ((p.staffHost h).1.staffSc c a, (p.staffHost h).2) := by
  rw [State.staffBoth, if_pos ho, hc, hh]

/-- In different words, or where the core reads, the core comes first. -/
theorem staffBoth_inOrder (ho : OneWord p c a h → a.wr = false) : p.staffBoth c a h = (p.staffSc c a).staffHost h :=
  ite_eq_right_iff.2 fun hone => by rw [ho hone]

/-- The host's write of a collision is counted by whether it puts the same bytes, and shown in STAFF_COLL. -/
theorem staffCollide_eq : p.staffCollide a h =
    (p.count MEM_CNT.COUNT (if sameBytes a h then mcCollidedSame else mcCollided)).setRg (STAFF_COLL.reg.key 0 0)
      (srWord h + (if sameBytes a h then 2 ^ 15 else 0) + 2 ^ 16) := by
  have hsame : b2n (sameBytes a h) * 2 ^ 15 = if sameBytes a h then 2 ^ 15 else 0 := by
    cases sameBytes a h <;> rfl
  rw [State.staffCollide, hsame]
  rfl

end

/-! STAFF_ACCESS, by how the host side is answered (R219, R221, R483, R513). -/

section
variable (c i : Nat) (h : StaffReq) (blk : Bool)

theorem staffAccess_denied (hc : p.clkOn 4 = true) (hg : p.staffGranted i h.wr h.addr.toNat = false) :
    p.staffAccess c i none (some h) blk =
      (p.denied i h.wr (0xF0000 + h.addr.toNat % 0x10000)).setRsp .denied 0 := by
  simp only [State.staffAccess, hc, hg, Bool.not_true, Bool.not_false, Bool.false_eq_true, if_false, if_true, State.staffCore]

theorem staffAccess_asleep (hc : p.clkOn 4 = true) (hg : p.staffGranted i h.wr h.addr.toNat = true) (hd : p.dozing = true)
    (hw : p.on PWR_CFG.ACC_WAKE = false) : p.staffAccess c i none (some h) blk = p.setRsp .decode 0 := by
  simp only [State.staffAccess, hc, hg, hd, hw, Bool.not_true, Bool.false_eq_true, if_false, if_true]

theorem staffAccess_host (hc : p.clkOn 4 = true) (hg : p.staffGranted i h.wr h.addr.toNat = true) (hd : p.dozing = false) :
    p.staffAccess c i none (some h) blk = (p.staffHost h).1.setRsp .okay (p.staffHost h).2 := by
  simp only [State.staffAccess, hc, hg, hd, Bool.not_true, Bool.false_eq_true, if_false]

theorem staffAccess_both (a : StaffReq) (hc : p.clkOn 4 = true) (hg : p.staffGranted i h.wr h.addr.toNat = true)
    (hd : p.dozing = false) :
    p.staffAccess c i (some a) (some h) blk = (p.staffBoth c a h).1.setRsp .okay (p.staffBoth c a h).2 := by
  simp only [State.staffAccess, hc, hg, hd, Bool.not_true, Bool.false_eq_true, if_false]

end

end Sys2Proof.Proofs

namespace Sys2Proof.Proofs

open Sys2Proof Sys2Proof.Machine

/-- Settles O41: buffer memory by the direction of the access; the staff room by the core's side alone, the host's alone, and both,
where only a core's write of the host's word is not the core's access followed by the host's. -/
theorem processorMemoryAccesses : Obligations.ProcessorMemoryAccesses := by
  refine ⟨fun dt core addr len data s ha => ⟨?_, ?_⟩, fun dt core init s hr hd hk => ?_,
    fun dt core init h s hr hd hk hg hw => ?_⟩
  · rw [exec_procAccess s dt core false addr len data ha]
    rfl
  · rw [exec_procAccess s dt core true addr len data ha]
    rfl
  · have alone (sc : Option StaffReq) (x : HostSide) (hx : sideReq x = none) : exec (.staffAccess dt core init sc x) s =
        .next (s.finish ((s.pass dt).staffCore core.val sc (sideBlock x))) := by
      rw [exec_staffAccess s dt core init sc x hr, hx]
      rfl
    have coreAlone (c : StaffReq) (x : HostSide) (hx : sideReq x = none)
        (hb : sideBlock x = true → ¬ BlockMet (s.pass dt) core.val c) :
        exec (.staffAccess dt core init (some c) x) s = .next (s.finish ((s.pass dt).staffSc core.val c)) :=
      (alone _ x hx).trans (next_congr (staffCore_unmet _ _ c hd _ hb))
    have coreReads (c : StaffReq) (hw : c.wr = false) (x : HostSide) (hx : sideReq x = none) :=
      coreAlone c x hx fun _ hmet => absurd hmet.1 (Bool.eq_false_iff.1 hw)
    have hostAlone (h : StaffReq) (hg : (s.pass dt).staffGranted init.val h.wr h.addr.toNat = true) (x : HostSide)
        (hx : sideReq x = some h) : exec (.staffAccess dt core init none x) s =
        .next (s.finish (((s.pass dt).staffHost h).1.setRsp .okay ((s.pass dt).staffHost h).2)) := by
      rw [exec_staffAccess s dt core init none x hr, hx, staffAccess_host _ _ _ h _ hk hg hd]
    have both (c h : StaffReq) (hg : (s.pass dt).staffGranted init.val h.wr h.addr.toNat = true) (x : HostSide)
        (hx : sideReq x = some h) : exec (.staffAccess dt core init (some c) x) s =
        .next (s.finish (((s.pass dt).staffBoth core.val c h).1.setRsp .okay ((s.pass dt).staffBoth core.val c h).2)) := by
      rw [exec_staffAccess s dt core init (some c) x hr, hx, staffAccess_both _ _ _ h _ c hk hg hd]
    refine ⟨fun x hx => alone none x hx, fun c => ⟨fun hmet => ?_, fun hreach hw x hx hb => ?_, fun hreach hw t d hread x hx => ?_,
        fun hreach hw t hread x hx => ?_, fun hreach x hx hb => ?_⟩,
      fun h hg x hx => ?_, fun h hg => ⟨fun hw x hx => ?_, fun hw t d hread x hx => ?_, fun hw t hread x hx => ?_,
        fun c => ⟨fun hone hcw hhw x hx => ?_, fun hone hcw hhw x hx => ?_, fun hcr x hx => ?_⟩⟩⟩
    · exact (alone _ .block rfl).trans (next_congr (staffCore_met _ _ c hd hmet))
    · rw [coreAlone c x hx hb, staffSc_write _ _ c hreach hw]
    · rw [coreReads c hw x hx, staffSc_read _ _ c hreach hw t _ hread]
      rfl
    · rw [coreReads c hw x hx, staffSc_read _ _ c hreach hw t _ hread]
      rfl
    · rw [coreAlone c x hx hb, staffSc_unreached _ _ c hreach]
    · rw [exec_staffAccess s dt core init none x hr, hx, staffAccess_denied _ _ _ h _ hk hg]
    · rw [hostAlone h hg x hx, staffHost_write _ h hw]
    · rw [hostAlone h hg x hx, staffHost_read _ h hw t _ hread]
      rfl
    · rw [hostAlone h hg x hx, staffHost_read _ h hw t _ hread]
      rfl
    · rw [both c h hg x hx, staffBoth_collide _ _ c h hone hcw hhw, staffCollide_eq]
    · rw [both c h hg x hx, staffBoth_hostReads _ _ c h hone hcw hhw]
    · rw [both c h hg x hx, staffBoth_inOrder _ _ c h hcr]
  · rw [exec_staffAccess s dt core init none (.port h) hr]
    exact next_congr (staffAccess_asleep _ _ _ h _ hk hg hd hw)

end Sys2Proof.Proofs
end

section
/-! SUPPORT. The steps of START after the ledger read: boot counter, march, image load, pools and roles (R214, R451, R463, R469). -/

namespace Sys2Proof.Proofs

open Sys2Proof Sys2Proof.Machine

variable (p : State)

theorem exec_bootCounterWrite (dt : Nat) (h : p.runs dt = true) :
    exec (.bootCounterWrite dt) p = .next (p.finish (p.pass dt).bootCounter) :=
  State.main_runs p dt _ h

/-- The failing rows of START_MARCH. -/
def defectRows (defects : List (Fin 10 × Fin 2 × Fin 1032 × Fin 321)) : List Defect :=
  defects.map (fun d => ⟨d.1.val, d.2.1.val, d.2.2.1.val, d.2.2.2.val⟩)

theorem exec_startMarch (dt : Nat) (defects : List (Fin 10 × Fin 2 × Fin 1032 × Fin 321)) (h : p.runs dt = true) :
    exec (.startMarch dt defects) p = .next (p.finish ((p.pass dt).marchStart (defectRows defects))) :=
  State.main_runs p dt (fun s => s.marchStart (defectRows defects)) h

theorem exec_imageLoad (dt : Nat) (f0 f1 : List Byte) (h : p.runs dt = true) :
    exec (.imageLoad dt f0 f1) p = .next (p.finish ((p.pass dt).imageLoad f0 f1)) :=
  State.main_runs p dt (fun s => s.imageLoad f0 f1) h

theorem exec_poolBuild (dt : Nat) (h : p.runs dt = true) :
    exec (.poolBuild dt) p = .next (p.finish (p.pass dt).poolBuild) :=
  State.main_runs p dt _ h

/-- A step after the ledger read does not wait for it. -/
theorem afterRead_ended (h : p.chip.start.ledgerDone = true) : p.afterRead = p :=
  if_neg (by simp [State.reading, h])

/-! The boot counter (R469, R495). -/

/-- The count `c` is shown, and no record of a detection waits. -/
def countShown (c : Nat) : State :=
  ({ p with chip.start.countDone := true }.put LDG_STAT.BOOT_COUNT c).put TAMPER_STAT.LOG_PEND 0

/-- Showing the count leaves the detections whose records wait. -/
theorem deferredTampers_put_bootCount (c : Nat) (h : p.deferredTampers = []) :
    ({ p with chip.start.countDone := true }.put LDG_STAT.BOOT_COUNT c).deferredTampers = [] := by
  have hpend : ({ p with chip.start.countDone := true }.put LDG_STAT.BOOT_COUNT c).get TAMPER_STAT.LOG_PEND =
      p.get TAMPER_STAT.LOG_PEND := State.get_put_key _ _ _ _ _ _ _ _ (by decide)
  rw [State.deferredTampers, List.map_eq_nil_iff] at h ⊢
  rw [hpend, h]

theorem bootCounter_writes (hm : p.mode = 0) (hl : p.chip.start.ledgerDone = true) (hc : p.chip.start.countDone = false)
    (ht : p.deferredTampers = []) (hg : p.chip.pgLedger = true) :
    p.bootCounter = (countShown p ((p.bootCount + 1) % 2 ^ 48)).ldgPut (0x100 + (p.bootCount + 1) % 2 ^ 48 % 512)
      (bootWord ((p.bootCount + 1) % 2 ^ 48)) := by
  have hpg (c : Nat) : (countShown p c).chip.pgLedger = true := by
    rw [countShown, State.put_chip, State.put_chip]
    exact hg
  rw [State.bootCounter, afterRead_ended p hl]
  refine (if_pos ⟨hm, hl, hc⟩).trans ?_
  simp only [deferredTampers_put_bootCount p _ ht, List.foldl_nil]
  exact if_pos (hpg _)

/-! The march (R214). -/

theorem marchStart_runs (defects : List Defect) (hm : p.mode = 0) (hl : p.chip.start.ledgerDone = true)
    (hd : p.chip.start.marchDone = false) :
    p.marchStart defects = { p.startMarch defects with chip.start.marchDone := true } := by
  rw [State.marchStart, afterRead_ended p hl]
  exact if_pos ⟨hm, hl, hd⟩

/-! The image load (R451, R461 to R463). -/

section
variable (f0 f1 : List Byte)

/-- The header of slot `n`, the image of the length it gives, and the result of its checks. -/
def slotHdr (n : Nat) : List Nat := flashBytes (if n = 0 then f0 else f1) 64
def slotImg (n : Nat) : List Nat := flashBytes (if n = 0 then f0 else f1) (hdrLen (slotHdr f0 f1 n))
def slotCheck (n : Nat) : Nat := p.hdrCheck (slotHdr f0 f1 n)

/-- The load is done, and the result of each slot's header shown: a valid one is the standby until it is loaded. -/
def slotsShown : State :=
  let shown (n : Nat) : Nat := if slotCheck p f0 f1 n = irOk then irStandby else slotCheck p f0 f1 n
  State.slotResult (State.slotResult { p with chip.start.imageDone := true } 0 (shown 0)) 1 (shown 1)

/-- Is slot 1 the later in generation (R463)? -/
abbrev SecondLater : Prop := 0 < wrapDiff 32 (hdrGen (slotHdr f0 f1 1)) (hdrGen (slotHdr f0 f1 0))

/-- The slots with a valid header, in the order in which they are tried. -/
def loadOrder : List Nat :=
  if slotCheck p f0 f1 0 = irOk ∧ slotCheck p f0 f1 1 = irOk then (if SecondLater f0 f1 then [1, 0] else [0, 1])
  else if slotCheck p f0 f1 0 = irOk then [0] else if slotCheck p f0 f1 1 = irOk then [1] else []

theorem loadOrder_none (h0 : slotCheck p f0 f1 0 ≠ irOk) (h1 : slotCheck p f0 f1 1 ≠ irOk) : loadOrder p f0 f1 = [] := by
  simp only [loadOrder, h0, h1, false_and, if_false]

theorem loadOrder_one (n : Nat) (hn : n < 2) (h : slotCheck p f0 f1 n = irOk) (ho : slotCheck p f0 f1 (1 - n) ≠ irOk) :
    loadOrder p f0 f1 = [n] := by
  obtain rfl | rfl : n = 0 ∨ n = 1 := by omega
  · simp only [loadOrder, h, ho, and_false, if_false, if_true]
  · simp only [loadOrder, h, ho, false_and, if_false, if_true]

theorem loadOrder_two (n : Nat) (hn : n < 2) (h : slotCheck p f0 f1 n = irOk) (ho : slotCheck p f0 f1 (1 - n) = irOk)
    (hlater : n = 1 ↔ SecondLater f0 f1) : loadOrder p f0 f1 = [n, 1 - n] := by
  obtain rfl | rfl : n = 0 ∨ n = 1 := by omega
  · rw [loadOrder, if_pos ⟨h, ho⟩, if_neg (mt hlater.2 Nat.zero_ne_one)]
  · rw [loadOrder, if_pos ⟨ho, h⟩, if_pos (hlater.1 rfl)]

/-- IMAGE_LOAD is due: START has read the ledger and ended the march, and no image is loaded. -/
abbrev LoadDue : Prop := p.mode = 0 ∧ p.chip.start.ledgerDone = true ∧ p.chip.start.imageDone = false ∧ p.chip.start.marchDone = true

theorem imageLoad_due (h : LoadDue p) :
    p.imageLoad f0 f1 = if ((loadOrder p f0 f1).map (fun n => (n, slotImg f0 f1 n))).isEmpty then
        { slotsShown p f0 f1 with boot.target := 3, boot.cause := 3 }
      else State.loadSlots ((loadOrder p f0 f1).map (fun n => (n, slotImg f0 f1 n))) false (slotsShown p f0 f1) := by
  obtain ⟨hm, hl, hi, hd⟩ := h
  have himg : (fun n => (n, slotImg f0 f1 n)) = fun n =>
      (n, if n = 0 then flashBytes f0 (hdrLen (flashBytes f0 64)) else flashBytes f1 (hdrLen (flashBytes f1 64))) := by
    funext n
    by_cases hn : n = 0 <;> simp only [slotImg, slotHdr, hn, if_true, if_false]
  rw [State.imageLoad, afterRead_ended p hl, himg]
  exact if_pos ⟨hm, hl, hi, .inl hd⟩

theorem imageLoad_none (h : LoadDue p) (ho : loadOrder p f0 f1 = []) :
    p.imageLoad f0 f1 = { slotsShown p f0 f1 with boot.target := 3, boot.cause := 3 } := by
  rw [imageLoad_due p f0 f1 h, ho]
  exact if_pos rfl

theorem imageLoad_tries (h : LoadDue p) (n : Nat) (more : List Nat) (ho : loadOrder p f0 f1 = n :: more) :
    p.imageLoad f0 f1 = State.loadSlots ((n, slotImg f0 f1 n) :: more.map (fun n => (n, slotImg f0 f1 n))) false
      (slotsShown p f0 f1) := by
  rw [imageLoad_due p f0 f1 h, ho]
  exact if_neg Bool.false_ne_true

end

/-! The slots tried in order (R461, R463). -/

section
variable (n : Nat) (img : List Nat) (more : List (Nat × List Nat))

/-- The second slot is tried as the fallback. -/
def fallbackShown : State := (p.put LDR_STAT.FALLBACK 1).ldrEvt LDR_EVT.FALLBACK

theorem loadSlots_loaded (h : (p.walkImage true img).code = irOk) :
    State.loadSlots ((n, img) :: more) false p = (p.walkImage true img).s.loaded n img :=
  if_pos h

theorem loadSlots_failed (h : (p.walkImage true img).code ≠ irOk) :
    State.loadSlots ((n, img) :: more) false p = State.loadSlots more true (p.loadFailed n (p.walkImage true img)) :=
  if_neg h

theorem loadSlots_fallback_loaded (h : ((fallbackShown p).walkImage true img).code = irOk) :
    State.loadSlots ((n, img) :: more) true p = ((fallbackShown p).walkImage true img).s.loaded n img :=
  if_pos h

theorem loadSlots_fallback_failed (h : ((fallbackShown p).walkImage true img).code ≠ irOk) :
    State.loadSlots ((n, img) :: more) true p =
      State.loadSlots more true ((fallbackShown p).loadFailed n ((fallbackShown p).walkImage true img)) :=
  if_neg h

end

/-! The end of START (R21, R238, R451). -/

theorem poolBuild_runs (hm : p.mode = 0) (hc : p.chip.start.countDone = true) (hd : p.chip.start.marchDone = true)
    (hi : p.chip.start.imageDone = true) (hb : p.chip.start.built = false) :
    p.poolBuild = (let q := p.buildPools.startRoles
      let q := q.forEach q.boot.activate State.activate
      { q.forEach [0, 1] (State.coreStart (rom := q.boot.target = 3)) with chip.start.built := true }) :=
  if_pos ⟨hm, hc, hd, hi, hb⟩

end Sys2Proof.Proofs

namespace Sys2Proof.Proofs

open Sys2Proof Sys2Proof.Machine

/-- Settles O15: the image load by the slots with a valid header and by which of them passes its checks; the other steps run where START
has come to them. -/
theorem startSteps : Obligations.StartSteps := by
  intro dt s hr hm hl p
  refine ⟨fun hc ht hg => ?_, fun defects hd => ?_, fun f0 f1 hi hd => ?_, fun hc hd hi hb => ?_⟩
  · rw [exec_bootCounterWrite s dt hr, bootCounter_writes _ hm hl hc ht hg]
    rfl
  · rw [exec_startMarch s dt defects hr, marchStart_runs _ _ hm hl hd]
    rfl
  · rw [exec_imageLoad s dt f0 f1 hr]
    have due : LoadDue p := ⟨hm, hl, hi, hd⟩
    refine ⟨fun h0 h1 => ?_, fun n hn hok hlater => ?_⟩
    · rw [imageLoad_none _ _ _ due (loadOrder_none _ _ _ h0 h1)]
      rfl
    have one (ho : slotCheck p f0 f1 (1 - n) ≠ irOk) := imageLoad_tries p f0 f1 due n [] (loadOrder_one p f0 f1 n hn hok ho)
    have two (ho : slotCheck p f0 f1 (1 - n) = irOk) :=
      imageLoad_tries p f0 f1 due n [1 - n] (loadOrder_two p f0 f1 n hn hok ho (hlater ho))
    refine ⟨fun hw => ?_, fun hw ho => ?_, fun hw ho hv => ?_, fun hw ho hv => ?_⟩
    · by_cases ho : slotCheck p f0 f1 (1 - n) = irOk
      · exact next_congr ((two ho).trans (loadSlots_loaded _ n _ _ hw))
      · exact next_congr ((one ho).trans (loadSlots_loaded _ n _ _ hw))
    · exact next_congr ((one ho).trans (loadSlots_failed _ n _ _ hw))
    · exact next_congr ((two ho).trans ((loadSlots_failed _ n _ _ hw).trans (loadSlots_fallback_loaded _ (1 - n) _ _ hv)))
    · exact next_congr ((two ho).trans ((loadSlots_failed _ n _ _ hw).trans (loadSlots_fallback_failed _ (1 - n) _ _ hv)))
  · rw [exec_poolBuild s dt hr, poolBuild_runs _ hm hc hd hi hb]

end Sys2Proof.Proofs
end

section
/-! SUPPORT. The flow table, its locked hash configuration, and the frame that a parser pass takes (R242, R253, R255, R256, R546). -/

namespace Sys2Proof.Proofs

open Sys2Proof Sys2Proof.Machine

variable (p : State)

/-! Flow commands (R255). -/

theorem getBits_zero (lo w : Nat) : getBits 0 lo w = 0 := by rw [getBits, Nat.zero_div, Nat.zero_mod]

theorem b2n_mul (b : Bool) (n : Nat) : b2n b * n = if b then n else 0 := by
  cases b with
  | false => exact Nat.zero_mul n
  | true => exact Nat.one_mul n

section
variable (stg : List Nat)

/-- The staged key under CLS_FLOW_MASK, and the staged tag. -/
def flowKey : Nat := ((stg.take 5).reverse.foldl (fun v x => v * 2 ^ 64 + x) 0).land p.flowMask
def flowTag : Nat := getBits (stg.getD 5 0) 0 15

/-- The lowest free way of a key's bucket. -/
def freeWay (key : Nat) : Option Nat :=
  ([0, 1, 2, 3].map (· + 4 * p.flowBucket key)).find? (fun i => !p.cls.flows.any (fun e => e.1 == i))

/-- The flow staging of copy `c` loaded. -/
def flowShown (c : Nat) (f : Flow) : State :=
  (p.forEach (List.range 5) (fun t i => t.setRg ((CLS_FLOW_KEY.reg.of c).key i 0) (getBits f.key (64 * i) 64))).setRg
    ((CLS_FLOW_DATA.reg.of c).key 0 0) f.tag

variable (c w : Nat)

theorem flowInsert_replaces (h : getBits w 0 2 = 1) (i : Nat) (f : Flow) (hf : p.flowFind (flowKey p stg) = some (i, f)) :
    p.flowCmd c w stg = (p.putFlow i { f with tag := flowTag stg }).flowRes c (1 + 2 ^ 4 + i * 2 ^ 16) := by
  rw [flowKey] at hf
  simp only [State.flowCmd, h, hf, if_true, flowTag]

theorem flowInsert_adds (h : getBits w 0 2 = 1) (hf : p.flowFind (flowKey p stg) = none) (i : Nat)
    (hi : freeWay p (flowKey p stg) = some i) : p.flowCmd c w stg =
      (p.putFlow i ⟨flowKey p stg, flowTag stg, false⟩).countFlows.flowRes c (1 + i * 2 ^ 16) := by
  rw [flowKey] at hf hi
  rw [freeWay] at hi
  simp only [State.flowCmd, h, hf, hi, if_true, flowKey, flowTag]

theorem flowInsert_full (h : getBits w 0 2 = 1) (hf : p.flowFind (flowKey p stg) = none)
    (hi : freeWay p (flowKey p stg) = none) : p.flowCmd c w stg =
      ((p.cc ccFlowFull).clsEvt CLS_EVT.FLOW_FULL).flowRes c 7 := by
  rw [flowKey] at hf hi
  rw [freeWay] at hi
  simp only [State.flowCmd, h, hf, hi, if_true]

theorem flowDelete_removes (h : getBits w 0 2 = 2) (i : Nat) (f : Flow) (hf : p.flowFind (flowKey p stg) = some (i, f)) :
    p.flowCmd c w stg = (p.delFlow i).countFlows.flowRes c (1 + i * 2 ^ 16) := by
  rw [flowKey] at hf
  simp only [State.flowCmd, h, hf, Nat.reduceEqDiff, if_true, if_false]

theorem flowDelete_missing (h : getBits w 0 2 = 2) (hf : p.flowFind (flowKey p stg) = none) :
    p.flowCmd c w stg = p.flowRes c 11 := by
  rw [flowKey] at hf
  simp only [State.flowCmd, h, hf, Nat.reduceEqDiff, if_true, if_false]

theorem flowRead_entry (h : getBits w 0 2 = 3) (j : Nat) (f : Flow)
    (hf : p.cls.flows.find? (fun e => e.1 == getBits w 16 16) = some (j, f)) : p.flowCmd c w stg =
      (flowShown (if bitAt w 2 then p.putFlow (getBits w 16 16) { f with hit := false } else p) c f).flowRes c
        (1 + 2 ^ 5 + (if f.hit then 2 ^ 6 else 0) + getBits w 16 16 * 2 ^ 16) := by
  simp only [State.flowCmd, h, hf, Nat.reduceEqDiff, if_true, if_false, b2n_mul, flowShown]

/-- An index without an entry shows a key and a tag of zeros. -/
theorem flowRead_free (h : getBits w 0 2 = 3) (hf : p.cls.flows.find? (fun e => e.1 == getBits w 16 16) = none) :
    p.flowCmd c w stg = (flowShown p c ⟨0, 0, false⟩).flowRes c (1 + getBits w 16 16 * 2 ^ 16) := by
  simp only [State.flowCmd, h, hf, Nat.reduceEqDiff, if_true, if_false, flowShown, getBits_zero]

end

theorem exec_flowInsert (a : Access) (h : p.serves a CLS_FLOW_CMD.reg 0 (setBits (wdata a) 0 2 1) = true) :
    exec (.flowInsert a) p = .next (p.finish ((((p.pass a.dt).flowCmd a.init.val (setBits (wdata a) 0 2 1)
      ((p.pass a.dt).staged CLS_FLOW_CMD.reg.base a.init.val)).pmu evCmdServed 1).setRsp .okay 0)) :=
  State.served_CLS_FLOW_CMD p a 0 _ h

theorem exec_flowDelete (a : Access) (h : p.serves a CLS_FLOW_CMD.reg 0 (setBits (wdata a) 0 2 2) = true) :
    exec (.flowDelete a) p = .next (p.finish ((((p.pass a.dt).flowCmd a.init.val (setBits (wdata a) 0 2 2)
      ((p.pass a.dt).staged CLS_FLOW_CMD.reg.base a.init.val)).pmu evCmdServed 1).setRsp .okay 0)) :=
  State.served_CLS_FLOW_CMD p a 0 _ h

theorem exec_flowRead (a : Access) (h : p.serves a CLS_FLOW_CMD.reg 0 (setBits (wdata a) 0 2 3) = true) :
    exec (.flowRead a) p = .next (p.finish ((((p.pass a.dt).flowCmd a.init.val (setBits (wdata a) 0 2 3)
      ((p.pass a.dt).staged CLS_FLOW_CMD.reg.base a.init.val)).pmu evCmdServed 1).setRsp .okay 0)) :=
  State.served_CLS_FLOW_CMD p a 0 _ h

/-! The hash configuration, locked while the table holds entries (R256). -/

theorem flowCfgLocked_iff : p.flowCfgLocked = true ↔ p.get CLS_FLOW_STAT.COUNT ≠ 0 := bne_iff_ne

section
variable (new : Nat)

theorem flowMaskWrite_locked (i : Nat) (h : p.get CLS_FLOW_STAT.COUNT ≠ 0) : p.flowMaskWrite i new = p.flowCfgRefuse :=
  if_pos ((flowCfgLocked_iff p).2 h)

theorem flowMaskWrite_stored (i : Nat) (h : p.get CLS_FLOW_STAT.COUNT = 0) :
    p.flowMaskWrite i new = p.setRg (CLS_FLOW_MASK.reg.key i 0) new :=
  if_neg fun hl => (flowCfgLocked_iff p).1 hl h

theorem flowCfgWrite_locked (m : Nat) (h : p.get CLS_FLOW_STAT.COUNT ≠ 0) (hm : m / 2 ^ 32 ≠ 0) :
    p.flowCfgWrite m new = p.flowCfgRefuse :=
  if_pos ⟨hm, (flowCfgLocked_iff p).2 h⟩

theorem flowCfgWrite_stored (m : Nat) (h : p.get CLS_FLOW_STAT.COUNT = 0 ∨ m / 2 ^ 32 = 0) :
    p.flowCfgWrite m new = p.setRg (CLS_FLOW_CFG.reg.key 0 0) new :=
  if_neg fun ⟨hm, hl⟩ => h.elim ((flowCfgLocked_iff p).1 hl) hm

end

theorem exec_flowCfgWrite_mask (a : Access) (i : Fin 5) (h : p.takes a true CLS_FLOW_MASK.reg i.val 0 (wdata a) = true) :
    exec (.flowCfgWrite a ⟨i.val, by omega⟩) p = .next (p.finish (((p.pass a.dt).flowMaskWrite i.val
      ((p.pass a.dt).merged CLS_FLOW_MASK.reg (accMask a CLS_FLOW_MASK.reg i.val 0) (wdata a) i.val)).setRsp .okay 0)) :=
  (if_pos i.isLt).trans (State.writeReg_takes p a CLS_FLOW_MASK.reg i.val 0 (wdata a)
    (fun m s => s.flowMaskWrite i.val (s.merged CLS_FLOW_MASK.reg m (wdata a) i.val)) h)

theorem exec_flowCfgWrite_cfg (a : Access) (h : p.takes a true CLS_FLOW_CFG.reg 0 0 (wdata a) = true) :
    exec (.flowCfgWrite a 5) p = .next (p.finish (((p.pass a.dt).flowCfgWrite (accMask a CLS_FLOW_CFG.reg 0 0)
      ((p.pass a.dt).merged CLS_FLOW_CFG.reg (accMask a CLS_FLOW_CFG.reg 0 0) (wdata a))).setRsp .okay 0)) :=
  State.writeReg_takes p a CLS_FLOW_CFG.reg 0 0 (wdata a)
    (fun m s => s.flowCfgWrite m (s.merged CLS_FLOW_CFG.reg m (wdata a))) h

/-! PARSER_PASS (R242, R546). -/

/-- The port `d` places after the first in turn. -/
abbrev portInTurn (d : Nat) : Nat := (p.cls.lastPort + d) % 11

/-- The first port in turn that has a frame is next. -/
theorem nextPort_eq_some (d : Nat) (hd : d < 11) (hw : p.rxFifoOf (portInTurn p d) ≠ [])
    (hb : ∀ e < d, p.rxFifoOf (portInTurn p e) = []) : p.nextPort = some (portInTurn p d) := by
  have hf : (List.range 11).find? ((fun u => !(p.rxFifoOf u).isEmpty) ∘ portInTurn p) = some d := by
    rw [List.find?_range_eq_some]
    exact ⟨by simpa using hw, List.mem_range.2 hd, fun e he => by simp [hb e he]⟩
  rw [State.nextPort, List.find?_map, hf, Option.map_some]

theorem nextPort_eq_none (h : ∀ d < 11, p.rxFifoOf (portInTurn p d) = []) : p.nextPort = none := by
  simp only [State.nextPort, List.find?_eq_none, List.mem_map, List.mem_range]
  rintro _ ⟨d, hd, rfl⟩
  simp [h d hd]

theorem parserPass_idle (hf : p.forwards = false) (same : Bool) : p.parserPass same = p := by
  simp only [State.parserPass, hf, Bool.not_false, if_true]

section
variable (hf : p.forwards = true) (same : Bool)
include hf

theorem parserPass_recirc (f : Frame) (rest : List Frame) (hr : p.cls.recirc = f :: rest) :
    p.parserPass same = (State.recircPass { p with cls.recirc := rest } same f).showPinned := by
  simp only [State.parserPass, hf, hr, Bool.not_true, Bool.false_eq_true, if_false]

variable (hr : p.cls.recirc = [])
include hr

theorem parserPass_port (u : Nat) (r : RxFrame) (rest : List RxFrame) (hu : p.nextPort = some u) (hq : p.rxFifoOf u = r :: rest) :
    p.parserPass same = (p.portPass same u r rest).showPinned := by
  simp only [State.parserPass, hf, hr, hu, hq, Bool.not_true, Bool.false_eq_true, if_false]

variable (hn : p.nextPort = none)
include hn

theorem parserPass_job (w : Work) (rest : List Work) (hj : p.cls.jobs = w :: rest) :
    p.parserPass same = (State.workPass { p with cls.jobs := rest } same w).showPinned := by
  simp only [State.parserPass, hf, hr, hn, hj, Bool.not_true, Bool.false_eq_true, if_false]

variable (hj : p.cls.jobs = [])
include hj

theorem parserPass_sub (w : Work) (rest : List Work) (hs : p.cls.subs = w :: rest) :
    p.parserPass same = (State.workPass { p with cls.subs := rest } same w).showPinned := by
  simp only [State.parserPass, hf, hr, hn, hj, hs, Bool.not_true, Bool.false_eq_true, if_false]

theorem parserPass_none (hs : p.cls.subs = []) : p.parserPass same = p.showPinned := by
  simp only [State.parserPass, hf, hr, hn, hj, hs, Bool.not_true, Bool.false_eq_true, if_false]

end

theorem exec_parserPass (dt : Nat) (same : Bool) (h : p.awake dt = true) :
    exec (.parserPass dt same) p = .next (p.finish ((p.pass dt).parserPass same)) :=
  State.engine_awake p dt (fun s => s.parserPass same) h

end Sys2Proof.Proofs

namespace Sys2Proof.Proofs

open Sys2Proof Sys2Proof.Machine

/-- Settles O43: the commands by what the table finds, the configuration by COUNT, and a pass by the first queue with a frame. -/
theorem flowTableAndPasses : Obligations.FlowTableAndPasses := by
  have act (v t : Nat) : getBits (setBits v 0 2 t) 0 2 = t % 2 ^ 2 := getBits_setBits_same v 0 2 t
  refine ⟨fun a s h => ⟨fun i f hf => ?_, fun hf => ⟨fun i hi => ?_, fun hi => ?_⟩⟩,
    fun a s h => ⟨fun i f hf => ?_, fun hf => ?_⟩,
    fun a s h => ⟨fun f hf => ?_, fun hf => ?_⟩,
    fun a i s h => ⟨fun hc => ?_, fun hc => ?_⟩,
    fun a s h => ⟨fun hc hm => ?_, fun hc => ?_⟩,
    fun dt same s h => ⟨fun hf => ?_, fun hf => ⟨fun f rest hr => ?_, fun hr =>
      ⟨fun d hd hb r rest hq => ?_, fun hb => ?_⟩⟩⟩⟩
  · rw [exec_flowInsert s a h, flowInsert_replaces _ _ _ _ (act _ 1) i f hf]
    rfl
  · rw [exec_flowInsert s a h, flowInsert_adds _ _ _ _ (act _ 1) hf i hi]
    rfl
  · rw [exec_flowInsert s a h, flowInsert_full _ _ _ _ (act _ 1) hf hi]
    rfl
  · rw [exec_flowDelete s a h, flowDelete_removes _ _ _ _ (act _ 2) i f hf]
    rfl
  · rw [exec_flowDelete s a h, flowDelete_missing _ _ _ _ (act _ 2) hf]
    rfl
  · rw [exec_flowRead s a h, flowRead_entry _ _ _ _ (act _ 3) _ f hf]
    rfl
  · rw [exec_flowRead s a h, flowRead_free _ _ _ _ (act _ 3) hf]
    rfl
  · rw [exec_flowCfgWrite_mask s a i h, flowMaskWrite_locked _ _ _ hc]
    rfl
  · rw [exec_flowCfgWrite_mask s a i h, flowMaskWrite_stored _ _ _ hc]
  · rw [exec_flowCfgWrite_cfg s a h, flowCfgWrite_locked _ _ _ hc hm]
    rfl
  · rw [exec_flowCfgWrite_cfg s a h, flowCfgWrite_stored _ _ _ hc]
  · rw [exec_parserPass s dt same h, parserPass_idle _ hf]
  · rw [exec_parserPass s dt same h, parserPass_recirc _ hf same f rest hr]
  · have hnext := nextPort_eq_some _ d hd (List.ne_nil_of_mem (hq ▸ List.mem_cons_self)) fun e he => Classical.not_not.1 (hb e he)
    rw [exec_parserPass s dt same h, parserPass_port _ hf same hr _ r rest hnext hq]
  · have hnone := nextPort_eq_none _ fun d hd => Classical.not_not.1 (hb d hd)
    refine ⟨fun w rest hj => ?_, fun w rest hj hs => ?_, fun hj hs => ?_⟩
    · rw [exec_parserPass s dt same h, parserPass_job _ hf same hr hnone w rest hj]
    · rw [exec_parserPass s dt same h, parserPass_sub _ hf same hr hnone hj w rest hs]
    · rw [exec_parserPass s dt same h, parserPass_none _ hf same hr hnone hj hs]

end Sys2Proof.Proofs
end

section
/-! SUPPORT. Rule commands, the bank swap, and the end of its drain (R257 to R259, R264 to R269). -/

namespace Sys2Proof.Proofs

open Sys2Proof Sys2Proof.Machine

variable (p : State)

section
variable (c w : Nat) (stg : List Nat)

/-! Rule commands (R258, R259, R269). -/

/-- Is the bank that a rule command names DRAINING or MIRRORING? -/
abbrev RuleBankLocked : Prop :=
  p.bankState (getBits w 2 1) = bankDraining ∨ p.bankState (getBits w 2 1) = bankMirroring

/-- The staged number that begins at word `i`: VALUE at 0, MASK at 8. -/
def stagedNum (i : Nat) : Nat := ((stg.drop i).take 8).reverse.foldl (fun v x => v * 2 ^ 64 + x) 0

/-- The staged action. -/
def stagedAct : Act := ⟨stg.getD 16 0, stg.getD 17 0⟩

/-- The place of the named rule in bank `b`. -/
abbrev ruleAt (b : Nat) : Nat := 4096 * b + getBits w 4 12

/-- A COMMIT writes the staged rule, or with DEFAULT the default slot, in bank `b`. -/
def ruleCommitted (b : Nat) : State :=
  if bitAt w 3 then p.setDflt b ((stagedAct stg).a0, (stagedAct stg).a1)
  else p.setRule (ruleAt w b) ⟨true, stagedNum stg 0, stagedNum stg 8, (stagedAct stg).a0, (stagedAct stg).a1⟩

/-- An INVALIDATE clears the valid bit of the rule in bank `b`. -/
def ruleCleared (b : Nat) : State := p.setRule (ruleAt w b) { p.rule (ruleAt w b) with valid := false }

/-- The rule that a READ shows: a default slot is always valid. -/
def shownRule : Rule :=
  if bitAt w 3 then ⟨true, 0, 0, (p.dfltRule (getBits w 2 1)).1, (p.dfltRule (getBits w 2 1)).2⟩
  else p.rule (ruleAt w (getBits w 2 1))

/-- The rule staging of copy `c` loaded. -/
def ruleShown (r : Rule) : State :=
  let t := p.forEach (List.range 8) (fun t i => (t.setRg ((CLS_STG_VAL.reg.of c).key i 0) (getBits r.value (64 * i) 64)).setRg
    ((CLS_STG_MASK.reg.of c).key i 0) (getBits r.mask (64 * i) 64))
  (t.setRg ((CLS_STG_ACT0.reg.of c).key 0 0) r.act0).setRg ((CLS_STG_ACT1.reg.of c).key 0 0) r.act1

theorem ruleLocked_iff : (p.bankState (getBits w 2 1) == bankDraining || p.bankState (getBits w 2 1) == bankMirroring) = true ↔
    RuleBankLocked p w := by
  rw [Bool.or_eq_true, beq_iff_eq, beq_iff_eq]

/-- The place of the rule in the other bank keeps the rule's number. -/
theorem ruleAt_mod (b b' : Nat) : 4096 * b' + ruleAt w b % 4096 = ruleAt w b' := by
  have hlt : getBits w 4 12 < 4096 := getBits_lt w 4 12
  rw [ruleAt, Nat.mul_add_mod, Nat.mod_eq_of_lt hlt]

theorem commit_locked (h : getBits w 0 2 = 1) (hl : RuleBankLocked p w) : p.ruleCmd c w stg = p.ruleRes c 7 := by
  simp only [State.ruleCmd, h, (ruleLocked_iff p w).2 hl, if_true]

theorem invalidate_locked (h : getBits w 0 2 = 2) (hl : RuleBankLocked p w) : p.ruleCmd c w stg = p.ruleRes c 7 := by
  simp only [State.ruleCmd, h, (ruleLocked_iff p w).2 hl, Nat.reduceEqDiff, if_true, if_false]

section
variable (hl : ¬ RuleBankLocked p w)
include hl

theorem ruleCmd_commit (h : getBits w 0 2 = 1) : p.ruleCmd c w stg =
    if ruleKeyErr (stagedNum stg 0) (stagedNum stg 8) then p.ruleRes c 11
    else if ruleActErr (stagedAct stg) then p.ruleRes c 15
    else (p.inBanks (getBits w 2 1) (fun t b => ruleCommitted t w stg b)).ruleRes c 1 := by
  simp only [State.ruleCmd, h, mt (ruleLocked_iff p w).1 hl, ruleAt_mod, if_true]
  rfl

theorem commit_keyErr (h : getBits w 0 2 = 1) (hk : ruleKeyErr (stagedNum stg 0) (stagedNum stg 8) = true) :
    p.ruleCmd c w stg = p.ruleRes c 11 := by
  rw [ruleCmd_commit p c w stg hl h, if_pos hk]

section
variable (hk : ruleKeyErr (stagedNum stg 0) (stagedNum stg 8) = false)
include hk

theorem commit_actErr (h : getBits w 0 2 = 1) (ha : ruleActErr (stagedAct stg) = true) : p.ruleCmd c w stg = p.ruleRes c 15 := by
  rw [ruleCmd_commit p c w stg hl h, if_neg (Bool.eq_false_iff.1 hk), if_pos ha]

theorem commit_written (h : getBits w 0 2 = 1) (ha : ruleActErr (stagedAct stg) = false) : p.ruleCmd c w stg =
    (p.inBanks (getBits w 2 1) (fun t b => ruleCommitted t w stg b)).ruleRes c 1 := by
  rw [ruleCmd_commit p c w stg hl h, if_neg (Bool.eq_false_iff.1 hk), if_neg (Bool.eq_false_iff.1 ha)]

end

theorem invalidate_default (h : getBits w 0 2 = 2) (hd : bitAt w 3 = true) : p.ruleCmd c w stg = p.ruleRes c 1 := by
  simp only [State.ruleCmd, h, mt (ruleLocked_iff p w).1 hl, hd, Nat.reduceEqDiff, Bool.false_eq_true, if_true, if_false]

theorem invalidate_rule (h : getBits w 0 2 = 2) (hd : bitAt w 3 = false) : p.ruleCmd c w stg =
    (p.inBanks (getBits w 2 1) (fun t b => ruleCleared t w b)).ruleRes c 1 := by
  simp only [State.ruleCmd, h, mt (ruleLocked_iff p w).1 hl, hd, ruleAt_mod, Nat.reduceEqDiff, Bool.false_eq_true, if_true, if_false]
  rfl

end

theorem ruleCmd_read (h : getBits w 0 2 = 3) : p.ruleCmd c w stg =
    (ruleShown p c (shownRule p w)).ruleRes c (1 + (if (shownRule p w).valid then 2 ^ 5 else 0)) := by
  simp only [State.ruleCmd, h, b2n_mul, Nat.reduceEqDiff, if_true, if_false]
  rfl

end

theorem exec_commit (a : Access) (h : p.serves a CLS_RULE_CMD.reg 0 (setBits (wdata a) 0 2 1) = true) :
    exec (.commit a) p = .next (p.finish ((((p.pass a.dt).ruleCmd a.init.val (setBits (wdata a) 0 2 1)
      ((p.pass a.dt).staged CLS_RULE_CMD.reg.base a.init.val)).pmu evCmdServed 1).setRsp .okay 0)) :=
  State.served_CLS_RULE_CMD p a 0 _ h

theorem exec_invalidate (a : Access) (h : p.serves a CLS_RULE_CMD.reg 0 (setBits (wdata a) 0 2 2) = true) :
    exec (.invalidate a) p = .next (p.finish ((((p.pass a.dt).ruleCmd a.init.val (setBits (wdata a) 0 2 2)
      ((p.pass a.dt).staged CLS_RULE_CMD.reg.base a.init.val)).pmu evCmdServed 1).setRsp .okay 0)) :=
  State.served_CLS_RULE_CMD p a 0 _ h

theorem exec_ruleRead (a : Access) (h : p.serves a CLS_RULE_CMD.reg 0 (setBits (wdata a) 0 2 3) = true) :
    exec (.ruleRead a) p = .next (p.finish ((((p.pass a.dt).ruleCmd a.init.val (setBits (wdata a) 0 2 3)
      ((p.pass a.dt).staged CLS_RULE_CMD.reg.base a.init.val)).pmu evCmdServed 1).setRsp .okay 0)) :=
  State.served_CLS_RULE_CMD p a 0 _ h

/-! The bank swap and the end of its drain (R266 to R268). -/

/-- May a swap be asked for: none pends, and the non-active bank is STANDBY? -/
abbrev MaySwap : Prop := p.get CLS_BANK_STAT.PEND = 0 ∧ p.bankState (1 - p.activeBank) = bankStandby

/-- A SWAP pends, with its MIRROR choice. -/
def swapAsked (w : Nat) : State :=
  (p.put CLS_BANK_STAT.PEND 1).put CLS_BANK_STAT.MIRROR_PEND (if bitAt w 2 then 1 else 0)

theorem bankSwapCmd_eq (w : Nat) (h : getBits w 0 2 = 1) :
    p.bankSwapCmd w = if ¬ MaySwap p then p.clsEvt CLS_EVT.CMD_REFUSED else swapAsked p w := by
  have refused : (getBits w 0 2 ≠ 1 ∨ p.on CLS_BANK_STAT.PEND = true ∨ p.bankState (1 - p.activeBank) ≠ bankStandby) ↔ ¬ MaySwap p := by
    rw [State.on, bne_iff_ne, MaySwap, Classical.not_and_iff_not_or_not, or_iff_right (not_not_intro h)]
  exact ite_congr (propext refused) (fun _ => rfl) (fun _ => rfl)

theorem exec_swap (a : Access) (h : p.takes a true CLS_BANK_CMD.reg 0 0 (setBits (wdata a) 0 2 1) = true) :
    exec (.swap a) p = .next (p.finish (((p.pass a.dt).bankSwapCmd (setBits (wdata a) 0 2 1)).setRsp .okay 0)) :=
  State.writeReg_takes p a CLS_BANK_CMD.reg 0 0 _ (fun _ s => s.bankSwapCmd (setBits (wdata a) 0 2 1)) h

/-- Has the drain come to its end: the non-active bank is DRAINING, and no frame is pinned to it? -/
abbrev DrainDue : Prop := p.bankState (1 - p.activeBank) = bankDraining ∧ p.pinned = 0

theorem drainEnd_idle (h : ¬ DrainDue p) : p.drainEnd = p := if_neg h

theorem drainEnd_mirrors (h : DrainDue p) (hm : p.get CLS_BANK_STAT.MIRROR_PEND = 1) : p.drainEnd =
    ((p.setBankState (1 - p.activeBank) bankMirroring).put CLS_BANK_STAT.STEPS_LEFT 16).put CLS_BANK_STAT.MIRROR_PEND 0 :=
  (if_pos h).trans (if_pos (by rw [State.on, hm]; rfl))

theorem drainEnd_standby (h : DrainDue p) (hm : p.get CLS_BANK_STAT.MIRROR_PEND = 0) : p.drainEnd =
    (p.setBankState (1 - p.activeBank) bankStandby).clsEvt CLS_EVT.STANDBY_READY :=
  (if_pos h).trans (if_neg (by rw [State.on, hm]; decide))

theorem exec_drainEnd (dt : Nat) (h : p.awake dt = true) : exec (.drainEnd dt) p = .next (p.finish (p.pass dt).drainEnd) :=
  State.engine_awake p dt State.drainEnd h

end Sys2Proof.Proofs

namespace Sys2Proof.Proofs

open Sys2Proof Sys2Proof.Machine

/-- Settles O44: a rule command by its bank's lock and what is staged, a swap by `MaySwap`, the drain by `DrainDue` and MIRROR_PEND. -/
theorem ruleCommandsAndBankSwap : Obligations.RuleCommandsAndBankSwap := by
  have act (v t : Nat) : getBits (setBits v 0 2 t) 0 2 = t % 2 ^ 2 := getBits_setBits_same v 0 2 t
  refine ⟨fun a s h => ⟨fun hl => ?_, fun hl hk => ?_, fun hl hk ha => ?_, fun hl hk ha => ?_⟩,
    fun a s h => ⟨fun hl => ?_, fun hl hd => ?_, fun hl hd => ?_⟩,
    fun a s h => ?_,
    fun a s h => ⟨fun hok => ?_, fun hok => ?_⟩,
    fun dt s h => ⟨fun he => ?_, fun he hm => ?_, fun he hm => ?_⟩⟩
  · rw [exec_commit s a h, commit_locked _ _ _ _ (act _ 1) hl]
    rfl
  · rw [exec_commit s a h, commit_keyErr _ _ _ _ hl (act _ 1) hk]
    rfl
  · rw [exec_commit s a h, commit_actErr _ _ _ _ hl hk (act _ 1) ha]
    rfl
  · rw [exec_commit s a h, commit_written _ _ _ _ hl hk (act _ 1) ha]
    rfl
  · rw [exec_invalidate s a h, invalidate_locked _ _ _ _ (act _ 2) hl]
    rfl
  · rw [exec_invalidate s a h, invalidate_default _ _ _ _ hl (act _ 2) hd]
    rfl
  · rw [exec_invalidate s a h, invalidate_rule _ _ _ _ hl (act _ 2) hd]
    rfl
  · rw [exec_ruleRead s a h, ruleCmd_read _ _ _ _ (act _ 3)]
    rfl
  · rw [exec_swap s a h, bankSwapCmd_eq _ _ (act _ 1), if_pos hok]
    rfl
  · rw [exec_swap s a h, bankSwapCmd_eq _ _ (act _ 1), if_neg (not_not_intro hok)]
    rfl
  · rw [exec_drainEnd s dt h, drainEnd_idle _ he]
  · rw [exec_drainEnd s dt h, drainEnd_mirrors _ he hm]
  · rw [exec_drainEnd s dt h, drainEnd_standby _ he hm]
    rfl

end Sys2Proof.Proofs
end

section
/-! SUPPORT. What every command and every step answer, and the interrupt lines of a controller that presents nothing (R347, R348). -/

namespace Sys2Proof.Proofs

open Sys2Proof Sys2Proof.Machine

/-! What a command and a step answer. -/

section
variable (c : Instr) (s : State)

/-- The reset pins and the tamper inputs act outside the frames of `exec_site`. -/
theorem exec_chip_answers (h : (siteOf c).dom = .chip) : ∃ t, exec c s = s.answer t := by
  cases c with
  | aonPor dt => exact ⟨_, rfl⟩
  | vddAonFall dt => exact ⟨_, rfl⟩
  | porst dt x => exact ⟨_, rfl⟩
  | tamper dt i => exact ⟨_, rfl⟩
  | _ => cases h

theorem exec_answers : ∃ t, exec c s = s.answer t := by
  have frame := exec_site c s
  cases hd : (siteOf c).dom with
  | chip => exact exec_chip_answers c s hd
  | _ =>
    rw [hd] at frame
    obtain ⟨f, hf⟩ := frame
    exact ⟨_, hf⟩

theorem step_answers : ∃ t, step s = State.answer { s with pending := s.pending.tail } t := by
  rcases hp : s.pending with _ | ⟨c, rest⟩
  · refine ⟨if s.alive then s.pass 1 else s, ?_⟩
    rw [step_empty s hp, State.answer_next, State.finish, hp]
    rfl
  · rw [step_front s c rest hp]
    exact exec_answers c _

end

/-! A controller that presents nothing. -/

section
variable (s : State)

theorem presentedOn_of_untouched (h : s.touchedSources = []) (t : Nat) : s.presentedOn t = [] := by
  rw [State.presentedOn, h, List.filter_nil]

theorem intLine_of_not_presented (t : Nat) (h : s.presentedOn t = []) : s.intLine t = false := by
  rw [State.intLine, h, List.any_nil]

theorem lines_of_not_presented (h : ∀ t : Nat, s.presentedOn t = []) : s.lines = 0 := by
  have low (t : Nat) : s.intLine t = false := intLine_of_not_presented s t (h t)
  simp only [State.lines, low]
  rfl

end

end Sys2Proof.Proofs

namespace Sys2Proof.Proofs

open Sys2Proof Sys2Proof.Machine

/-- Settles O3: a step answers through `State.finish`, which drives the lines and keeps the queue. -/
theorem interruptLinesFollowEveryStep : Obligations.InterruptLinesFollowEveryStep := by
  intro s
  obtain ⟨t, ht⟩ := step_answers s
  exact ⟨_, ht, (State.finish_intOut _ t).trans (State.finish_lines _ t).symm, State.finish_pending _ t⟩

/-- Settles O4: no register is written at reset, so that no source is presented. -/
theorem interruptLinesAtReset : Obligations.InterruptLinesAtReset := by
  have quiet (t : Nat) : State.reset.presentedOn t = [] := presentedOn_of_untouched _ rfl t
  exact ⟨(lines_of_not_presented _ quiet).symm, rfl, fun t => quiet t.val⟩

end Sys2Proof.Proofs
end

section
/-! SUPPORT. Synchronized time over a rate change, and the commands of the sync states (R361 to R369). -/

namespace Sys2Proof.Proofs

open Sys2Proof Sys2Proof.Machine

variable (p : State)

/-! The parameters of synchronized time (R361, R364). -/

/-- The earlier parameters that hold the cycle of FRC `f`, the last first. -/
def pastFor (f : Nat) : List TimePar := p.time.past.filter (fun q => decide (f < q.upTo))

theorem st80At_eq (f : Nat) : p.st80At f = (((pastFor p f).getLast?).getD p.timePar).st f := rfl

theorem st80At_nonneg (f : Nat) : 0 ≤ p.st80At f := Int.emod_nonneg _ (by decide)

theorem st80At_lt (f : Nat) : p.st80At f < 2 ^ 80 := Int.emod_lt_of_pos _ (by decide)

theorem st80_mod : p.st80 % 2 ^ 80 = p.st80 := Int.emod_eq_of_lt (st80At_nonneg p _) (st80At_lt p _)

/-- In the cycle of its anchor, synchronized time is the offset, whatever the rate. -/
theorem st_anchor (q : TimePar) : q.st q.anchor = q.offset % 2 ^ 80 := by
  simp [TimePar.st]

/-- Parameters that are too old to be kept hold no cycle of the last 2^26 ns. -/
theorem pastFor_kept (f : Nat) (h : p.frc.toNat ≤ f + pastNs) :
    (p.time.past.filter (fun q => decide (p.frc.toNat < q.upTo + pastNs))).filter (fun q => decide (f < q.upTo)) = pastFor p f := by
  rw [List.filter_filter, pastFor]
  refine List.filter_congr fun q _ => ?_
  rw [Bool.and_eq_left_iff_imp, decide_eq_true_eq, decide_eq_true_eq]
  omega

theorem pastFor_keepPar_before (f : Nat) (hf : f < p.frc.toNat) (h : p.frc.toNat ≤ f + pastNs) :
    pastFor p.keepPar f = p.timePar :: pastFor p f := by
  rw [← pastFor_kept p f h]
  exact List.filter_cons_of_pos (decide_eq_true hf)

theorem pastFor_keepPar_now : pastFor p.keepPar p.frc.toNat = pastFor p p.frc.toNat := by
  rw [← pastFor_kept p _ (Nat.le_add_right _ _)]
  exact List.filter_cons_of_neg (by simp [State.timePar])

theorem offset80_setOffset (o : Int) : (p.setOffset o).offset80 = o % 2 ^ 80 := by
  have frac : (p.setOffset o).get TIME_OFFSET_FRAC.FRAC = (o % 2 ^ 80).toNat % 2 ^ 16 :=
    State.get_put_same _ TIME_OFFSET_FRAC.FRAC _ 0 0 (by decide)
  have value : (p.setOffset o).get TIME_OFFSET.VALUE = (o % 2 ^ 80).toNat / 2 ^ 16 % 2 ^ 64 :=
    (State.get_put_key _ TIME_OFFSET_FRAC.FRAC TIME_OFFSET.VALUE _ 0 0 0 0 (by decide)).trans
      (State.get_put_same _ TIME_OFFSET.VALUE _ 0 0 (by decide))
  rw [State.offset80, frac, value]
  have hnn : 0 ≤ o % 2 ^ 80 := Int.emod_nonneg _ (by decide)
  have hlt : o % 2 ^ 80 < 2 ^ 80 := Int.emod_lt_of_pos _ (by decide)
  omega

/-! A rate change (R364). -/

variable (r : Int)

/-- A rate change stores the offset and the anchor of its cycle, the rate, and counts. -/
theorem setRate_eq : p.setRate r =
    ((((p.keepPar.put TIME_OFFSET.VALUE (p.st80.toNat / 2 ^ 16)).put TIME_OFFSET_FRAC.FRAC p.st80.toNat).put TIME_ANCHOR.VALUE
      p.frc.toNat).put TIME_RATE.RATE (r % 2 ^ 40).toNat).count TIME_CNT.COUNT 1 := by
  simp only [State.setRate, State.setOffset, st80_mod]

/-- A field outside TIME_RATE and the counter of rate changes reads as the re-anchoring left it. -/
theorem get_setRate_anchored (f : Fld) (hr : f.key 0 0 ≠ TIME_RATE.RATE.key 0 0) (hc : f.key 0 0 ≠ TIME_CNT.COUNT.key 1 0) :
    (p.setRate r).get f = ((p.keepPar.setOffset p.st80).put TIME_ANCHOR.VALUE p.frc.toNat).get f :=
  (State.get_put_key _ _ _ _ _ _ _ _ hc).trans (State.get_put_key _ _ _ _ _ _ _ _ hr)

theorem setRate_anchor : (p.setRate r).timePar.anchor = p.frc.toNat := by
  have stored : (p.setRate r).get TIME_ANCHOR.VALUE = p.frc.toNat % 2 ^ 64 :=
    (get_setRate_anchored p r _ (by decide) (by decide)).trans (State.get_put_same _ TIME_ANCHOR.VALUE _ 0 0 (by decide))
  exact stored.trans (Nat.mod_eq_of_lt p.frc.isLt)

theorem setRate_offset : (p.setRate r).timePar.offset = p.st80 := by
  have kept (f : Fld) (hr : f.key 0 0 ≠ TIME_RATE.RATE.key 0 0) (hc : f.key 0 0 ≠ TIME_CNT.COUNT.key 1 0)
      (ha : f.key 0 0 ≠ TIME_ANCHOR.VALUE.key 0 0) : (p.setRate r).get f = (p.keepPar.setOffset p.st80).get f :=
    (get_setRate_anchored p r f hr hc).trans (State.get_put_key _ _ _ _ _ _ _ _ ha)
  have shown : (p.setRate r).offset80 = (p.keepPar.setOffset p.st80).offset80 := by
    rw [State.offset80, State.offset80, kept _ (by decide) (by decide) (by decide), kept _ (by decide) (by decide) (by decide)]
  exact (shown.trans (offset80_setOffset _ _)).trans (st80_mod p)

/-- In its own cycle a rate change keeps synchronized time: the new parameters give the new offset there. -/
theorem setRate_st80 : (p.setRate r).st80 = p.st80 := by
  have anchored : (p.setRate r).timePar.st p.frc.toNat = p.st80 := by
    rw [← setRate_anchor p r, st_anchor, setRate_offset, st80_mod]
  have now : (p.setRate r).st80 = (((pastFor p p.frc.toNat).getLast?).getD (p.setRate r).timePar).st p.frc.toNat := by
    rw [← pastFor_keepPar_now]
    rfl
  rw [now]
  cases hl : (pastFor p p.frc.toNat).getLast? with
  | none => exact anchored
  | some q => rw [State.st80, st80At_eq, hl, Option.getD_some, Option.getD_some]

/-- The cycles before a rate change keep the parameters that held them. -/
theorem setRate_st80At (f : Nat) (hf : f < p.frc.toNat) (h : p.frc.toNat ≤ f + pastNs) : (p.setRate r).st80At f = p.st80At f := by
  have before : (p.setRate r).st80At f = (((p.timePar :: pastFor p f).getLast?).getD (p.setRate r).timePar).st f := by
    rw [← pastFor_keepPar_before p f hf h]
    rfl
  rw [before, List.getLast?_cons, st80At_eq]
  rfl

/-! The sync states (R367 to R369). -/

section
variable (new : Nat)

theorem setSync_same (h : new = p.get TIME_STAT.STATE) : p.setSync new = p := if_pos h

/-- A change of sync state shown, and where LOCKED is entered the wait for the servo started. -/
def syncShown : State :=
  let u := ((p.put TIME_STAT.STATE new).evt TIME_EVT.STATE_CHG 0x60).put TIME_STAT.STEP_AVAIL (if new = 1 then 1 else 0)
  if new = 3 then { u with time.servoStart := u.frc.toNat } else u

/-- A change of sync state: the gated outputs hold 0, an armed bell source is disarmed outside LOCKED, an aligned one returns to
FREE from ACQUIRING. -/
theorem setSync_changes (h : new ≠ p.get TIME_STAT.STATE) : p.setSync new =
    let v := (syncShown p new).forEach (List.range 6) State.outHold
    let w := if v.get GLB_BELL_STAT.ARMED = 1 ∧ new ≠ 3 then v.disarm else v
    if new = 1 ∧ w.on GLB_BELL_STAT.SRC = true then { w with bell.unalign := true } else w := by
  have avail : b2n (new == 1) = if new = 1 then 1 else 0 := by simp [b2n]
  have armed (v : State) : (v.on GLB_BELL_STAT.ARMED && new != 3) = true ↔ v.get GLB_BELL_STAT.ARMED = 1 ∧ new ≠ 3 := by
    rw [Bool.and_eq_true, on_iff_get_one v 0 _ 0 rfl, bne_iff_ne]
  simp only [← armed, syncShown, ← avail]
  exact if_neg h

end

theorem disarm_eq : p.disarm =
    if p.bell.origin + (p.bell.k + 1) * p.bell.period ≤ p.frc.toNat ∧
        p.bell.rephaseAt < p.stNsAt (p.bell.origin + (p.bell.k + 1) * p.bell.period) + p.bell.period then
      { p.put GLB_BELL_STAT.ARMED 0 with bell.k := p.bell.k + 1 }
    else p.put GLB_BELL_STAT.ARMED 0 :=
  ite_congr (by rw [Bool.and_eq_true, decide_eq_true_eq, decide_eq_true_eq]) (fun _ => rfl) (fun _ => rfl)

theorem enterHoldover_pathStep : p.enterHoldover 1 = ((p.setSync 4).put TIME_STAT.HOLD_CAUSE 1).evt TIME_EVT.PATH_STEP 0x60 := rfl

theorem enterHoldover_servo : p.enterHoldover 3 = ((p.setSync 4).put TIME_STAT.HOLD_CAUSE 3).evt TIME_EVT.SERVO_TMO 0x60 := rfl

theorem enterHoldover_quiet (c : Nat) (h1 : c ≠ 1) (h3 : c ≠ 3) : p.enterHoldover c = (p.setSync 4).put TIME_STAT.HOLD_CAUSE c :=
  (if_neg h1).trans (if_neg h3)

theorem rateOk_iff : rateOk r = true ↔ -56294995342 ≤ r ∧ r ≤ 56294995342 := by
  rw [rateOk, Bool.and_eq_true, decide_eq_true_eq, decide_eq_true_eq]
  rfl

/-! The rate-write timeout (R367, R511). -/

/-- Does the rate-write timeout run: LOCKED, a timeout configured, not in DOZE or WATCH? -/
abbrev ServoWaits : Prop :=
  p.get TIME_STAT.STATE = 3 ∧ p.get TIME_CFG.SERVO_TMO_MS ≠ 0 ∧ p.get PWR_STAT.STATE ≠ 2 ∧ p.get PWR_STAT.STATE ≠ 3

theorem servoWaits_iff : (p.timeLocked && decide (p.get TIME_CFG.SERVO_TMO_MS ≠ 0) && p.get PWR_STAT.STATE != 2 &&
    p.get PWR_STAT.STATE != 3) = true ↔ ServoWaits p := by
  simp only [State.timeLocked, syncLocked, Bool.and_eq_true, beq_iff_eq, bne_iff_ne, decide_eq_true_eq, and_assoc]

/-- Has the rate-write timeout passed? -/
abbrev ServoLate : Prop :=
  p.get TIME_STAT.STATE = 3 ∧ p.get TIME_CFG.SERVO_TMO_MS ≠ 0 ∧ p.get PWR_STAT.STATE ≠ 2 ∧ p.get PWR_STAT.STATE ≠ 3 ∧
    p.time.servoStart + p.get TIME_CFG.SERVO_TMO_MS * 1000000 ≤ p.frc.toNat

theorem servoDue_iff : p.servoDue = true ↔ ServoLate p := by
  rw [State.servoDue, Bool.and_eq_true, servoWaits_iff, decide_eq_true_eq]
  simp only [and_assoc]

theorem servoTimeout_waits (h : ServoWaits p) : p.servoTimeout =
    (p.advanceTo (p.time.servoStart + p.get TIME_CFG.SERVO_TMO_MS * 1000000)).enterHoldover 3 := if_pos ((servoWaits_iff p).2 h)

theorem servoTimeout_idle (h : ¬ ServoWaits p) : p.servoTimeout = p := if_neg (mt (servoWaits_iff p).1 h)

theorem exec_servoTmo (h : p.runs 0 = true) : exec .servoTmo p = .next (p.finish (p.pass 0).servoTimeout) :=
  State.main_runs p 0 State.servoTimeout h

/-! TIME_RATE (R362, R364, R367). -/

/-- What a rate write finds: HOLDOVER entered, where the rate-write timeout has passed. -/
def rateFound : State := if ServoLate p then p.enterHoldover 3 else p

/-- May a rate be written: not in HOLDOVER, and its magnitude in range? -/
abbrev MayRate : Prop := p.get TIME_STAT.STATE ≠ 4 ∧ -56294995342 ≤ r ∧ r ≤ 56294995342

section
variable (raw : Nat)

theorem rateRefused_iff : ((rateFound p).get TIME_STAT.STATE = syncHoldover ∨ rateOk (sext 40 (raw % 2 ^ 40)) = false) ↔
    ¬ MayRate (rateFound p) (sext 40 (raw % 2 ^ 40)) := by
  rw [MayRate, ← rateOk_iff, Classical.not_and_iff_not_or_not, not_not, Bool.not_eq_true]
  rfl

theorem writeRate_found : p.writeRate raw =
    if (rateFound p).get TIME_STAT.STATE = syncHoldover ∨ rateOk (sext 40 (raw % 2 ^ 40)) = false then (rateFound p).timeRefuse
    else { (rateFound p).setRate (sext 40 (raw % 2 ^ 40)) with time.servoStart := (rateFound p).frc.toNat } := by
  simp only [State.writeRate, servoDue_iff, rateFound]
  rfl

theorem writeRate_refused (h : ¬ MayRate (rateFound p) (sext 40 (raw % 2 ^ 40))) : p.writeRate raw = (rateFound p).timeRefuse :=
  (writeRate_found p raw).trans (if_pos ((rateRefused_iff p raw).2 h))

theorem writeRate_taken (h : MayRate (rateFound p) (sext 40 (raw % 2 ^ 40))) : p.writeRate raw =
    { (rateFound p).setRate (sext 40 (raw % 2 ^ 40)) with time.servoStart := (rateFound p).frc.toNat } :=
  (writeRate_found p raw).trans (if_neg (fun no => (rateRefused_iff p raw).1 no h))

end

theorem exec_rateChange (a : Access) (h : p.takes a true TIME_RATE.reg 0 0 (wdata a) = true) :
    exec (.rateChange a) p = .next (p.finish (((p.pass a.dt).writeRate
      ((p.pass a.dt).merged TIME_RATE.reg (accMask a TIME_RATE.reg 0 0) (wdata a))).setRsp .okay 0)) :=
  State.writeReg_takes p a _ _ _ _ _ h

/-! TIME_STEP and a held step (R368). -/

/-- May a step be written: ACQUIRING, with no step held? -/
abbrev MayStep : Prop := p.get TIME_STAT.STATE = 1 ∧ p.get TIME_STAT.STEP_PEND = 0

theorem noStepPend_iff : p.on TIME_STAT.STEP_PEND = false ↔ p.get TIME_STAT.STEP_PEND = 0 := bne_eq_false_iff_eq

theorem mayStep_iff : (p.get TIME_STAT.STATE = syncAcquiring ∧ p.on TIME_STAT.STEP_PEND = false) ↔ MayStep p := by
  rw [noStepPend_iff]
  rfl

theorem writeStep_refused (raw : Nat) (h : ¬ MayStep p) : p.writeStep raw = p.timeRefuse := if_neg (mt (mayStep_iff p).1 h)

theorem writeStep_held (raw : Nat) (h : MayStep p) (hs : p.get GLB_BELL_STAT.SRC = 1) : p.writeStep raw =
    { p.put TIME_STAT.STEP_PEND 1 with time.heldStep := some (sext 64 raw) } :=
  (if_pos ((mayStep_iff p).2 h)).trans (if_pos ((on_iff_get_one p 0 _ 0 rfl).2 hs))

theorem writeStep_applied (raw : Nat) (h : MayStep p) (hs : p.get GLB_BELL_STAT.SRC = 0) : p.writeStep raw =
    p.applyStep (sext 64 raw) :=
  (if_pos ((mayStep_iff p).2 h)).trans (if_neg (by rw [State.on, hs]; decide))

theorem exec_step (a : Access) (h : p.takes a true TIME_STEP.reg 0 0 (wdata a) = true) :
    exec (.step a) p = .next (p.finish (((p.pass a.dt).writeStep (wdata a)).setRsp .okay 0)) :=
  State.writeReg_takes p a _ _ _ _ _ h

theorem heldNext_iff : p.heldNext = true ↔ p.fixedRuns = true ∧ p.time.heldStep.isSome = true ∧
    (p.bell.unalign = true ∨ p.get GLB_BELL_STAT.SRC = 0) := by
  rw [State.heldNext, Bool.and_eq_true, Bool.and_eq_true, Bool.or_eq_true, Bool.not_eq_true', State.on, bne_eq_false_iff_eq, and_assoc]

theorem exec_heldStep : exec .heldStep p = p.onEdge State.heldNext := rfl

/-! TIME_CMD (R367, R369). -/

section
variable (w : Nat)

/-- May LOCK be taken: in ACQUIRING without a held step, or in TRACKING? -/
abbrev MayLock : Prop := MayStep p ∨ p.get TIME_STAT.STATE = 2

/-- May HOLDOVER be taken with word `w`: in TRACKING or LOCKED, by a permitted cause, and with a rate in range where it sets one? -/
abbrev MayHold : Prop := (p.get TIME_STAT.STATE = 2 ∨ p.get TIME_STAT.STATE = 3) ∧ getBits w 4 4 ≤ 2 ∧
  (bitAt w 8 = false ∨ (-56294995342 ≤ sext 40 (getBits w 16 40) ∧ sext 40 (getBits w 16 40) ≤ 56294995342))

theorem timeCmd_acquire (h : getBits w 0 4 = 1) : p.timeCmd w = p.setSync 1 := if_pos h

theorem timeCmd_lock (h : getBits w 0 4 = 2) : p.timeCmd w = if ¬ MayLock p then p.timeRefuse else p.setSync 3 := by
  simp only [State.timeCmd, h, mayStep_iff, MayLock, ite_not, Nat.reduceEqDiff, if_true, if_false]
  rfl

theorem timeCmd_unlock (h : getBits w 0 4 = 3) : p.timeCmd w = if p.get TIME_STAT.STATE = 3 then p.setSync 2 else p.timeRefuse := by
  simp only [State.timeCmd, h, Nat.reduceEqDiff, if_true, if_false]
  rfl

theorem timeCmd_holdover (h : getBits w 0 4 = 4) : p.timeCmd w = if ¬ MayHold p w then p.timeRefuse else
    (if bitAt w 8 then p.setRate (sext 40 (getBits w 16 40)) else p).enterHoldover (getBits w 4 4) := by
  simp only [State.timeCmd, h, rateOk_iff, ite_not, Nat.reduceEqDiff, if_true, if_false]
  rfl

theorem timeCmd_resume (h : getBits w 0 4 = 5) : p.timeCmd w = if p.get TIME_STAT.STATE = 4 then p.setSync 2 else p.timeRefuse := by
  simp only [State.timeCmd, h, Nat.reduceEqDiff, if_true, if_false]
  rfl

end

/-- Is `o` what the TIME_CMD command with action code `c` answers? -/
abbrev TimeCommand (a : Access) (c : Nat) (o : Host.Outcome State Fault Refusal) : Prop :=
  c = 1 ∧ o = exec (.acquire a) p ∨ c = 2 ∧ o = exec (.lock a) p ∨ c = 3 ∧ o = exec (.unlock a) p ∨
    c = 4 ∧ o = exec (.holdover a) p ∨ c = 5 ∧ o = exec (.resume a) p

/-- Every TIME_CMD command writes its action code into the word and lets the register act. -/
theorem TimeCommand.answers {p : State} {a : Access} {c : Nat} {o : Host.Outcome State Fault Refusal} (ho : TimeCommand p a c o)
    (h : p.takes a true TIME_CMD.reg 0 0 (setBits (wdata a) 0 4 c) = true) :
    o = .next (p.finish (((p.pass a.dt).timeCmd (setBits (wdata a) 0 4 c)).setRsp .okay 0)) := by
  rcases ho with ⟨rfl, rfl⟩ | ⟨rfl, rfl⟩ | ⟨rfl, rfl⟩ | ⟨rfl, rfl⟩ | ⟨rfl, rfl⟩ <;> exact State.writeReg_takes p a _ _ _ _ _ h

end Sys2Proof.Proofs

namespace Sys2Proof.Proofs

open Sys2Proof Sys2Proof.Machine

/-- Settles O50: the commands by what permits them, continuity of time from `setRate_st80` and `setRate_st80At`. -/
theorem syncStatesAndRates : Obligations.SyncStatesAndRates := by
  refine ⟨fun a s h => ⟨fun hno => ?_, fun hok => ?_⟩, fun t r => ⟨setRate_eq t r, setRate_st80 t r, setRate_st80At t r⟩,
    fun a s h => ⟨fun hno => ?_, fun hok hs => ?_, fun hok hs => ?_⟩, fun t delta => rfl,
    fun s h => ⟨fun hd => ?_, fun hd => ?_⟩, fun a s c o ho => ?_, fun s h => ⟨fun hd => ?_, fun hd => ?_⟩,
    fun t new => ⟨setSync_same t new, setSync_changes t new⟩, fun t => ⟨fun hg => ?_, fun hg => ?_⟩⟩
  · rw [exec_rateChange s a h, writeRate_refused _ _ hno]
    rfl
  · rw [exec_rateChange s a h, writeRate_taken _ _ hok]
    rfl
  · rw [exec_step s a h, writeStep_refused _ _ hno]
    rfl
  · rw [exec_step s a h, writeStep_held _ _ hok hs]
  · rw [exec_step s a h, writeStep_applied _ _ hok hs]
  · rw [exec_heldStep, onEdge_runs s _ h, if_pos ((heldNext_iff _).2 hd)]
  · rw [exec_heldStep, onEdge_runs s _ h, if_neg (mt (heldNext_iff _).1 hd)]
  · intro w h
    have act : getBits w 0 4 = c % 2 ^ 4 := getBits_setBits_same (wdata a) 0 4 c
    have answers := TimeCommand.answers ho h
    refine ⟨fun hc => ?_, fun hc hok => ?_, fun hc hno => ?_, fun hc hok => ?_, fun hc hno => ?_, fun hc hok h1 => ?_,
      fun hc hok h1 => ?_, fun hc hno => ?_, fun hc hok => ?_, fun hc hno => ?_⟩ <;> subst hc
    · rw [answers, timeCmd_acquire _ _ act]
    · rw [answers, timeCmd_lock _ _ act, if_neg (not_not_intro hok)]
    · rw [answers, timeCmd_lock _ _ act, if_pos hno]
      rfl
    · rw [answers, timeCmd_unlock _ _ act, if_pos hok]
    · rw [answers, timeCmd_unlock _ _ act, if_neg hno]
      rfl
    · rw [answers, timeCmd_holdover _ _ act, if_neg (not_not_intro hok), show getBits w 4 4 = 1 from h1, enterHoldover_pathStep]
    · rw [answers, timeCmd_holdover _ _ act, if_neg (not_not_intro hok), enterHoldover_quiet _ _ h1 (by omega)]
    · rw [answers, timeCmd_holdover _ _ act, if_pos hno]
      rfl
    · rw [answers, timeCmd_resume _ _ act, if_pos hok]
    · rw [answers, timeCmd_resume _ _ act, if_neg hno]
      rfl
  · rw [exec_servoTmo s h, servoTimeout_waits _ hd, enterHoldover_servo]
  · rw [exec_servoTmo s h, servoTimeout_idle _ hd]
  · rw [disarm_eq, if_pos hg]
    rfl
  · rw [disarm_eq, if_neg hg]

end Sys2Proof.Proofs
end

section
/-! SUPPORT. Readings of time: TIME_NOW_NS, the capture inputs, the event outputs, the reference window, checkpoints (R366, R374 to
R378). -/

namespace Sys2Proof.Proofs

open Sys2Proof Sys2Proof.Machine

variable (p : State)

/-! TIME_NOW_NS (R366, R537). -/

theorem exec_timeNowNs (a : Access) (h : p.takes a false TIME_NOW_NS.reg 0 0 0 = true) :
    exec (.timeNowNs a) p = .next (p.finish (((p.pass a.dt).readNow a.init.val).1.setRsp .okay
      (((p.pass a.dt).readNow a.init.val).2.land (accMask a TIME_NOW_NS.reg 0 0)))) :=
  State.readReg_takes p a TIME_NOW_NS.reg 0 (fun s => s.readNow a.init.val) h

/-- The reader's copies take seconds, fraction, nanoseconds and FRC of the cycle of the read. -/
theorem readNow_eq (c : Nat) : p.readNow c =
    ((((p.put (TIME_NOW_SEC.SEC.of c) (p.st80.toNat / 2 ^ 16 / 1000000000)).put (TIME_NOW_SEC.FRAC.of c) (p.st80.toNat % 2 ^ 16)).put
      (TIME_NOW_NSEC.NSEC.of c) (p.st80.toNat / 2 ^ 16 % 1000000000)).put (TIME_NOW_FRC.FRC.of c) p.frc.toNat,
      p.st80.toNat / 2 ^ 16) := by
  simp only [State.readNow, State.put_frc]

/-! Captures (R374). -/

section
variable (k : Nat) (rising : Bool)

/-- Does the capture input see an edge of this kind: is it enabled, and the kind configured? -/
abbrev CaptureSeen : Prop :=
  p.get TIME_CAP_CTRL.EN k = 1 ∧ bitAt (p.get TIME_CAP_CTRL.EDGE k) (if rising then 0 else 1) = true

theorem captureSeen_iff : (p.on TIME_CAP_CTRL.EN k && (if rising then bitAt (p.get TIME_CAP_CTRL.EDGE k) 0 else
    bitAt (p.get TIME_CAP_CTRL.EDGE k) 1)) = true ↔ CaptureSeen p k rising := by
  rw [Bool.and_eq_true, on_iff_get_one p k _ 0 rfl, ← apply_ite (bitAt (p.get TIME_CAP_CTRL.EDGE k))]

theorem captureEdge_unseen (h : ¬ CaptureSeen p k rising) : p.captureEdge k rising = p := if_neg (mt (captureSeen_iff p k rising).1 h)

theorem captureEdge_stored (h : CaptureSeen p k rising) (hl : (p.capFifo k).length < 8) : p.captureEdge k rising =
    (p.setCap k (p.capFifo k ++ [⟨p.stNsAt (p.frc.toNat - 3), rising⟩])).raise (0x61 + k) :=
  (if_pos ((captureSeen_iff p k rising).2 h)).trans (if_pos hl)

theorem captureEdge_full (h : CaptureSeen p k rising) (hl : 8 ≤ (p.capFifo k).length) : p.captureEdge k rising =
    ((p.count TIME_CNT.COUNT 5).put TIME_CAP_CTRL.CAP_OVF 1 k).evt TIME_EVT.CAP_OVF 0x60 :=
  (if_pos ((captureSeen_iff p k rising).2 h)).trans (if_neg (Nat.not_lt.2 hl))

theorem capRead_empty (h : p.capFifo k = []) : p.capRead k = (p, 0) := by rw [State.capRead, h]

theorem capRead_oldest (e : CapEntry) (l : List CapEntry) (h : p.capFifo k = e :: l) : p.capRead k = (p.setCap k l, e.st) := by
  rw [State.capRead, h]

end

theorem exec_captureEdge (dt : Nat) (k : Fin 6) (rising : Bool) (h : p.runs dt = true) :
    exec (.captureEdge dt k rising) p = .next (p.finish ((p.pass dt).captureEdge k.val rising)) :=
  State.main_runs p dt (fun s => s.captureEdge k.val rising) h

theorem exec_timeCapkTs (a : Access) (k : Fin 6) (h : p.takes a false TIME_CAP_TS.reg k.val 0 0 = true) :
    exec (.timeCapkTs a k) p = .next (p.finish (((p.pass a.dt).capRead k.val).1.setRsp .okay
      (((p.pass a.dt).capRead k.val).2.land (accMask a TIME_CAP_TS.reg k.val 0)))) :=
  State.readReg_takes p a TIME_CAP_TS.reg k.val (fun s => s.capRead k.val) h

/-! Event outputs (R375, R376). -/

section
variable (o t : Nat)

theorem outEdge_gated (h : p.outGated o = true) : p.outEdge o t = p.setOut o { p.outSt o with level := false, fallAt := none } :=
  if_pos h

section
variable (h : p.outGated o = false)
include h

theorem outEdge_toggles (hm : p.outMode o = 2) : p.outEdge o t =
    let q := p.setOut o { p.outSt o with level := !(p.outSt o).level }
    if (p.outSt o).level then q else q.raise (0x67 + o) :=
  (if_neg (Bool.eq_false_iff.1 h)).trans (if_pos hm)

theorem outEdge_pulse (hm : p.outMode o ≠ 2) : p.outEdge o t =
    (p.setOut o { p.outSt o with level := true, fallAt := some (t + getBits (p.outCfg o) 32 32) }).raise (0x67 + o) :=
  (if_neg (Bool.eq_false_iff.1 h)).trans (if_neg hm)

theorem outLate_edge : p.outLate o =
    ((p.outEdge o (p.stNs + getBits (p.outCfg o) 8 8)).count TIME_CNT.COUNT 6).evt TIME_EVT.OUT_LATE 0x60 :=
  if_neg (Bool.eq_false_iff.1 h)

end

theorem outLate_gated (h : p.outGated o = true) : p.outLate o = p := if_pos h

theorem outputEdge_none (h : (p.outSt o).next = none ∨ p.outEn o = false) : p.outputEdge o = p := by
  rcases h with h | h
  · rw [State.outputEdge, h]
  · cases hn : (p.outSt o).next with
    | none => rw [State.outputEdge, hn]
    | some t => simp only [State.outputEdge, hn, h, Bool.false_eq_true, if_false]

/-- The state in which output `o` shows an edge for time `t`. -/
def edgeShown : State := (p.advanceTo (p.frcAtSt (t - getBits (p.outCfg o) 8 8) + 2)).outEdge o t

section
variable (he : p.outEn o = true) (hn : (p.outSt o).next = some t)
include he hn

/-- A scheduled edge shows at the pad, and a repeating output goes on with its schedule. -/
theorem outputEdge_some : p.outputEdge o =
    let q := edgeShown p o t
    q.setNextEdge o (if q.outMode o = 0 then none else some (nextSched (q.outStart o) (q.outPeriod o) (t + 1))) := by
  simp only [State.outputEdge, hn, he, if_true]
  rfl

theorem outputEdge_single (hm : (edgeShown p o t).outMode o = 0) : p.outputEdge o = (edgeShown p o t).setNextEdge o none := by
  simp only [outputEdge_some p o t he hn, if_pos hm]

theorem outputEdge_repeats (hm : (edgeShown p o t).outMode o ≠ 0) : p.outputEdge o = (edgeShown p o t).setNextEdge o
    (some (nextSched ((edgeShown p o t).outStart o) ((edgeShown p o t).outPeriod o) (t + 1))) := by
  simp only [outputEdge_some p o t he hn, if_neg hm]

end

theorem outputFall_none (h : (p.outSt o).fallAt = none) : p.outputFall o = p := by rw [State.outputFall, h]

theorem outputFall_some (h : (p.outSt o).fallAt = some t) : p.outputFall o =
    let q := p.advanceTo (p.frcAtSt (t - getBits (p.outCfg o) 8 8) + 2)
    q.setOut o { q.outSt o with level := false, fallAt := none } := by
  rw [State.outputFall, h]
  rfl

theorem stepOutput_none (h : (p.outSt o).next = none) (old : Nat) : State.stepOutput old p o = p := by rw [State.stepOutput, h]

theorem stepOutput_some (h : (p.outSt o).next = some t) (old : Nat) : State.stepOutput old p o =
    if p.outEn o = true ∧ 0 ≤ wrapDiff 64 t old ∧ wrapDiff 64 t p.stNs ≤ 0 then
      let q := p.outLate o
      q.setNextEdge o (if q.outMode o = 0 then none else some (nextSched (q.outStart o) (q.outPeriod o) (q.stNs + 1)))
    else p := by
  rw [State.stepOutput, h]

end

theorem exec_outputEdge (o : Fin 6) (h : p.runs 0 = true) :
    exec (.outputEdge o) p = .next (p.finish ((p.pass 0).outputEdge o.val)) := State.main_runs p 0 (fun s => s.outputEdge o.val) h

theorem exec_outputFall (o : Fin 6) (h : p.runs 0 = true) :
    exec (.outputFall o) p = .next (p.finish ((p.pass 0).outputFall o.val)) := State.main_runs p 0 (fun s => s.outputFall o.val) h

/-! The reference window (R377). -/

section
variable (edges : Nat)

/-- The end of the running reference window. -/
abbrev windowEnd : Nat := p.time.refStart + p.get TIME_REF.WIN_MS * 1000000

/-- The block at the end of the reference window, where the next begins. -/
def windowEnded : State := { p.advanceTo (windowEnd p) with time.refStart := windowEnd p }

/-- A reference window counted. -/
def windowCounted : State :=
  ((windowEnded p).put TIME_REF.EDGES (min edges (2 ^ 32 - 1))).put TIME_REF.PRESENT (if edges = 0 then 0 else 1)

theorem refWindow_off (h : p.get TIME_REF.EN = 0) : p.refWindow edges = p := if_neg (by rw [State.on, h]; decide)

theorem refWindow_ends (h : p.get TIME_REF.EN = 1) : p.refWindow edges =
    if (windowEnded p).get TIME_REF.PRESENT = 1 ∧ edges = 0 then (windowCounted p edges).evt TIME_EVT.REF_LOST 0x60
    else windowCounted p edges := by
  have present : b2n (edges != 0) = if edges = 0 then 0 else 1 := by by_cases he : edges = 0 <;> simp [b2n, he]
  have lost : ((windowEnded p).on TIME_REF.PRESENT && edges == 0) = true ↔ (windowEnded p).get TIME_REF.PRESENT = 1 ∧ edges = 0 := by
    rw [Bool.and_eq_true, on_iff_get_one _ 0 _ 0 rfl, beq_iff_eq]
  simp only [← lost, windowCounted, ← present]
  exact if_pos ((on_iff_get_one p 0 _ 0 rfl).2 h)

theorem exec_refWindow (h : p.runs 0 = true) : exec (.refWindow edges) p = .next (p.finish ((p.pass 0).refWindow edges)) :=
  State.main_runs p 0 (fun s => s.refWindow edges) h

end

/-! Checkpoints (R378). -/

/-- The unit in which checkpoints are counted, in ns. -/
abbrev ckptUnit : Nat := p.get TIME_CFG.CKPT_S * 1000000000

theorem ckptNext_iff : p.ckptNext = true ↔ p.fixedRuns = true ∧ (p.get TIME_STAT.STATE = 3 ∨ p.get TIME_STAT.STATE = 4) ∧
    ckptUnit p ≠ 0 ∧ p.roll.edgeSt / ckptUnit p < p.stNsAt p.nextEdge.frc / ckptUnit p := by
  simp only [State.ckptNext, State.ckptDue, Bool.and_eq_true, Bool.or_eq_true, beq_iff_eq, bne_iff_ne, decide_eq_true_eq, and_assoc]

theorem exec_checkpoint : exec .checkpoint p = p.onEdge State.ckptNext := rfl

end Sys2Proof.Proofs

namespace Sys2Proof.Proofs

open Sys2Proof Sys2Proof.Machine

/-- Settles O51: one equation for each branch of the captures, the outputs and the reference window; a checkpoint is an edge. -/
theorem timeReadingsAndEdges : Obligations.TimeReadingsAndEdges := by
  refine ⟨fun a s h => ?_,
    fun dt k rising s h => ⟨fun hs => ?_, fun hs hl => ?_, fun hs hl => ?_⟩,
    fun a k s h => ⟨fun he => ?_, fun e l he => ?_⟩,
    fun o s h => ⟨fun hn => ?_, fun he t hn => ⟨fun hm => ?_, fun hm => ?_⟩⟩,
    fun t o at_ => ⟨outEdge_gated t o at_, fun hg hm hl => ?_, fun hg hm hl => ?_, outEdge_pulse t o at_, outLate_gated t o, outLate_edge t o⟩,
    fun t o old => ⟨fun hn => stepOutput_none t o hn old, fun x hn => ⟨fun hp => ?_, fun hp => ?_⟩⟩,
    fun o s h => ⟨fun hf => ?_, fun t hf => ?_⟩,
    fun edges s h => ⟨fun he => ?_, fun he hp hz => ?_, fun he hk => ?_⟩,
    fun s h => ⟨fun hd => ?_, fun hd => ?_⟩⟩
  · rw [exec_timeNowNs s a h, readNow_eq]
  · rw [exec_captureEdge s dt k rising h, captureEdge_unseen _ _ _ hs]
  · rw [exec_captureEdge s dt k rising h, captureEdge_stored _ _ _ hs hl]
    rfl
  · rw [exec_captureEdge s dt k rising h, captureEdge_full _ _ _ hs hl]
  · rw [exec_timeCapkTs s a k h, capRead_empty _ _ he, show Nat.land 0 _ = 0 from Nat.zero_and _]
  · rw [exec_timeCapkTs s a k h, capRead_oldest _ _ e l he]
    rfl
  · rw [exec_outputEdge s o h, outputEdge_none _ _ hn]
  · rw [exec_outputEdge s o h, outputEdge_single _ _ t he hn hm]
    rfl
  · rw [exec_outputEdge s o h, outputEdge_repeats _ _ t he hn hm]
    rfl
  · rw [outEdge_toggles _ _ _ hg hm, hl]
    rfl
  · rw [outEdge_toggles _ _ _ hg hm, hl]
    rfl
  · rw [stepOutput_some _ _ _ hn, if_neg hp]
  · rw [stepOutput_some _ _ _ hn, if_pos hp]
  · rw [exec_outputFall s o h, outputFall_none _ _ hf]
  · rw [exec_outputFall s o h, outputFall_some _ _ t hf]
  · rw [exec_refWindow s edges h, refWindow_off _ _ he]
  · rw [exec_refWindow s edges h, refWindow_ends _ _ he, if_pos ⟨hp, hz⟩]
    rfl
  · have kept : ¬ ((windowEnded (s.pass 0)).get TIME_REF.PRESENT = 1 ∧ edges = 0) := by
      rintro ⟨h1, hz⟩
      exact hk.elim (fun h0 => Nat.zero_ne_one (h0.symm.trans h1)) (fun hne => hne hz)
    rw [exec_refWindow s edges h, refWindow_ends _ _ he, if_neg kept]
    rfl
  · rw [exec_checkpoint, onEdge_runs s _ h, if_pos ((ckptNext_iff _).2 hd)]
  · rw [exec_checkpoint, onEdge_runs s _ h, if_neg (mt (ckptNext_iff _).1 hd)]

end Sys2Proof.Proofs
end

section
/-! SUPPORT. The roll-call engine: intake, reports, downlinks, the sweep, the absent queue, the banks in use, and the roster
commands (R386 to R397, R405 to R407). -/

namespace Sys2Proof.Proofs

open Sys2Proof Sys2Proof.Machine

variable (p : State)

/-! ROLL_INTAKE (R386, R387). -/

theorem rollIntake_idle (h : p.forwards = false ∨ p.roll.intake = []) : p.rollIntake = p := by
  cases run : p.forwards with
  | false => simp only [State.rollIntake, run, Bool.not_false, if_true]
  | true => simp only [State.rollIntake, run, h.resolve_left (by rw [run]; decide), Bool.not_true, Bool.false_eq_true, if_false]

theorem rollIntake_takes (hf : p.forwards = true) (f : Frame) (rest : List Frame) (hi : p.roll.intake = f :: rest) :
    p.rollIntake = (State.count { p with roll.intake := rest } ROLL_CNT.COUNT 0).rollSort f := by
  simp only [State.rollIntake, hf, hi, Bool.not_true, Bool.false_eq_true, if_false]
  rfl

theorem exec_rollIntake (dt : Nat) (h : p.awake dt = true) : exec (.rollIntake dt) p = .next (p.finish (p.pass dt).rollIntake) :=
  State.engine_awake p dt State.rollIntake h

section
variable (f : Frame)

/-- Is the engine disabled, or its unit without a function (first row of R387)? -/
abbrev RollOff : Prop := p.get ROLL_CFG.EN = 0 ∨ (p.role 0x40).func = .idle

theorem rollBarred_iff : (!p.on ROLL_CFG.EN || (p.role 0x40).func == .idle || f.l3type != l3Roll) = true ↔
    RollOff p ∨ f.l3type ≠ l3Roll := by
  have disabled : (!p.on ROLL_CFG.EN) = true ↔ p.get ROLL_CFG.EN = 0 := by rw [Bool.not_eq_true', State.on, bne_eq_false_iff_eq]
  rw [Bool.or_eq_true, Bool.or_eq_true, disabled, beq_iff_eq, bne_iff_ne]

theorem rollSort_barred (h : RollOff p ∨ f.l3type ≠ l3Roll) : p.rollSort f = p.reject f := if_pos ((rollBarred_iff p f).2 h)

section
variable (ho : ¬ RollOff p) (ht : f.l3type = l3Roll)
include ho ht

/-- A frame of a radio port is a report. -/
theorem rollSort_radio (hr : 8 ≤ f.src ∧ f.src ≤ 0x0A) : p.rollSort f =
    let r := p.bufRead .roll (ptrAddr f.ptr + 64 + f.l3off) (f.len - f.l3off)
    if p.get ROLL_CFG.MAX_PAYLOAD < f.len - f.l3off then p.reject f else r.1.report f r.2.bytes :=
  (if_neg (mt (rollBarred_iff p f).1 (not_or.2 ⟨ho, not_not_intro ht⟩))).trans (if_pos hr)

/-- A frame of another source is a downlink, by its first byte. -/
theorem rollSort_other (hr : ¬ (8 ≤ f.src ∧ f.src ≤ 0x0A)) : p.rollSort f =
    let r := p.bufRead .roll (ptrAddr f.ptr + 64 + f.l3off) 12
    if f.len < f.l3off + 12 then p.reject f
    else if r.2.bytes.getD 0 0 = 0x81 then r.1.downlink f r.2.bytes else r.1.reject f :=
  (if_neg (mt (rollBarred_iff p f).1 (not_or.2 ⟨ho, not_not_intro ht⟩))).trans (if_neg hr)

end
end

/-! Reports (R391 to R395). -/

section
variable (u : State) (f : Frame) (pay : List Nat)

/-- The neighbour that sent a report. -/
abbrev reporter : Nat := f.rmeta % 2 ^ 64

/-- A report of the number last accepted: the entry counts it, and a held downlink is sent. -/
def reportRepeated (i : Nat) (e : Nbr) : State :=
  let w := (p.nbrWrite i e.st { p.heard f e with dup := min 0xFFFF (e.dup + 1) }).count ROLL_CNT.COUNT 2
  (if e.pend then w.dlSend i e.id f.src (getBits f.rmeta 120 3) else w).release f.ptr 0x30

/-- The entry that a report of an unknown neighbour creates. -/
def nbrLearned : Nbr := ⟨reporter f, 0, 0, p.get ROLL_CFG.DEF_DEST, false, 0, 0, p.get ROLL_CFG.DEF_INTERVAL, 0, 0, 0⟩

/-- An entry that is PRESENT or LATE takes a report by the signed difference of its number; any other takes it as first. -/
theorem report_entry (i : Nat) (e : Nbr) (hn : p.nbrFind (reporter f) = (u, .entry i e)) : p.report f pay =
    let d := wrapDiff 16 (getBits f.rmeta 96 16) e.seq
    if e.st = 2 ∨ e.st = 3 then
      if d = 0 then reportRepeated u f i e
      else if d < 0 then (u.release f.ptr 0x30).count ROLL_CNT.COUNT 3
      else u.accept f pay i e.st e false (d - 1).toNat
    else u.accept f pay i e.st e true 0 := by
  simp only [State.report, hn]
  rfl

theorem report_way (i : Nat) (hn : p.nbrFind (reporter f) = (u, .way i)) : p.report f pay =
    if u.on ROLL_CFG.LEARN then u.accept f pay i 0 (nbrLearned u f) true 0 else (u.release f.ptr 0x30).count ROLL_CNT.COUNT 6 := by
  simp only [State.report, hn]
  rfl

theorem report_noWay (hn : p.nbrFind (reporter f) = (u, .full) ∨ p.nbrFind (reporter f) = (u, .bankOff)) : p.report f pay =
    if u.on ROLL_CFG.LEARN then ((u.release f.ptr 0x30).count ROLL_CNT.COUNT 7).evt ROLL_EVT.NO_ROOM 0x80
    else (u.release f.ptr 0x30).count ROLL_CNT.COUNT 6 := by
  rcases hn with hn | hn <;> simp only [State.report, hn] <;> rfl

/-- Without LEARN a report of an unknown neighbour is counted and released. -/
theorem report_unknown (hn : (∃ i, p.nbrFind (reporter f) = (u, .way i)) ∨ p.nbrFind (reporter f) = (u, .full) ∨
    p.nbrFind (reporter f) = (u, .bankOff)) (hl : u.on ROLL_CFG.LEARN = false) :
    p.report f pay = (u.release f.ptr 0x30).count ROLL_CNT.COUNT 6 := by
  rcases hn with ⟨i, hn⟩ | hn
  · rw [report_way p u f pay i hn, hl, if_neg Bool.false_ne_true]
  · rw [report_noWay p u f pay hn, hl, if_neg Bool.false_ne_true]

variable (i old : Nat) (e : Nbr) (first : Bool) (missed : Nat)

theorem accept_disabled (h : (p.rollCfg e.dest).1.testBit 0 = false) : p.accept f pay i old e first missed = p.reject f := by
  rw [← bitAt_eq_testBit] at h
  simp only [State.accept, rcEn, h, Bool.not_false, if_true]

section
variable (h : (p.rollCfg e.dest).1.testBit 0 = true) (t : State)
include h

theorem accept_noRoom (hr : p.rollRoom e.dest pay.length = (t, false)) :
    p.accept f pay i old e first missed = t.release f.ptr 0x30 := by
  rw [← bitAt_eq_testBit] at h
  simp only [State.accept, rcEn, h, hr, Bool.not_true, Bool.false_eq_true, if_false]

/-- The entry, the counts, the record, a held downlink, and the release of the report, in the order of R395. -/
theorem accept_recorded (hr : p.rollRoom e.dest pay.length = (t, true)) : p.accept f pay i old e first missed =
    let md := f.rmeta
    let a := t.nbrWrite i old { t.heard f e with seq := getBits md 96 16, missed := min 0xFFFF (e.missed + missed) }
    let b := (a.count ROLL_CNT.COUNT 1).countN ROLL_CNT.COUNT missed 4
    let c := if first then b.count ROLL_CNT.COUNT 5 else b
    let kind := b2n first * 4 + b2n (bitAt md 125) * 8 + b2n (bitAt md 126) * 16
    let g := c.rollAppend e.dest (rollRecord e.id (getBits md 96 16) kind (getBits md 120 3 + getBits md 123 2 * 8) (getBits md 112 8)
      (c.rxOff (f.ts / 65536)) pay)
    (if e.pend then g.dlSend i e.id f.src (getBits md 120 3) else g).release f.ptr 0x30 := by
  rw [← bitAt_eq_testBit] at h
  simp only [State.accept, rcEn, h, hr, Bool.not_true, Bool.false_eq_true, if_false]
  rfl

end
end

/-! Downlinks (R405). -/

section
variable (u : State) (f : Frame) (h : List Nat)

/-- Does the header of a downlink use what is reserved? -/
abbrev DlReserved : Prop := 2 ≤ h.getD 1 0 ∨ h.getD 10 0 ≠ 0 ∨ h.getD 11 0 ≠ 0

/-- Entry `i` holds the downlink. -/
def dlHold (i : Nat) (e : Nbr) : State :=
  let w := p.nbrWrite i e.st { e with pend := true, ptr := f.ptr }
  State.put { w with roll.held := mapIns i f (mapDel i p.roll.held) } ROLL_STAT.DL_HELD (p.get ROLL_STAT.DL_HELD + 1)

theorem dlReserved_iff : (decide (2 ≤ h.getD 1 0) || h.getD 10 0 != 0 || h.getD 11 0 != 0) = true ↔ DlReserved h := by
  simp only [Bool.or_eq_true, decide_eq_true_eq, bne_iff_ne, or_assoc]

theorem downlink_reserved (hr : DlReserved h) : p.downlink f h = p.dlRelease f := if_pos ((dlReserved_iff h).2 hr)

section
variable (hr : ¬ DlReserved h)
include hr

theorem downlink_unknown (x : Found) (hn : p.nbrFind (beNat ((h.drop 2).take 8)) = (u, x)) (hx : ∀ i e, x ≠ .entry i e) :
    p.downlink f h = u.dlRelease f := by
  rw [State.downlink, if_neg (mt (dlReserved_iff h).1 hr), hn]
  cases x with
  | entry i e => exact absurd rfl (hx i e)
  | way i => rfl
  | full => rfl
  | bankOff => rfl

theorem downlink_entry (i : Nat) (e : Nbr) (hn : p.nbrFind (beNat ((h.drop 2).take 8)) = (u, .entry i e)) : p.downlink f h =
    if e.pend then if h.getD 1 0 = 0 then u.dlRelease f else dlHold (u.dlDrop i) f i e
    else if u.get ROLL_STAT.DL_HELD = u.get ROLL_LIM.DL_MAX then u.dlRelease f else dlHold u f i e := by
  rw [State.downlink, if_neg (mt (dlReserved_iff h).1 hr), hn]
  rfl

end
end

/-! SWEEP (R396). -/

/-- Does the sweep of this bell still come, in a mode that sweeps? -/
abbrev SweepDue : Prop := p.roll.swept = false ∧ p.mode ≠ 0 ∧ p.mode ≠ 4 ∧ p.mode ≠ 5

theorem sweepBarred_iff : (p.roll.swept = true ∨ p.mode = 0 ∨ p.mode = 4 ∨ p.mode = 5) ↔ ¬ SweepDue p := by
  rw [SweepDue, ← Bool.not_eq_true]
  tauto

theorem sweep_none (h : ¬ SweepDue p) : p.sweep = p := if_pos ((sweepBarred_iff p).2 h)

theorem sweep_visits (h : SweepDue p) : p.sweep =
    let n := min 64 (p.bell.period / 1000)
    { p.forEach ((List.range n).map (fun k => (p.roll.next + k) % 65536)) State.sweepVisit with
      roll.swept := true, roll.next := (p.roll.next + n) % 65536 } :=
  if_neg fun hb => (sweepBarred_iff p).1 hb h

theorem exec_sweep (dt : Nat) (h : p.awake dt = true) : exec (.sweep dt) p = .next (p.finish (p.pass dt).afterFixed.sweep) :=
  State.engine_awake p dt (fun s => s.afterFixed.sweep) h

section
variable (i : Nat)

/-- Does the sweep supervise entries of this state: EXPECTED, PRESENT, LATE? -/
abbrev Supervised (e : Nbr) : Prop := e.st = 1 ∨ e.st = 2 ∨ e.st = 3

/-- Bells since the entry was last heard. -/
abbrev bellsSince (e : Nbr) : Int := wrapDiff 32 (p.get ROLL_BELL.BELL) e.bell

theorem sweepVisit_unusable (h : p.nbrUsable i = false) : p.sweepVisit i = p := if_neg (Bool.eq_false_iff.1 h)

theorem sweepVisit_usable (h : p.nbrUsable i = true) : p.sweepVisit i =
    let t := (p.nbrRead i).1
    let e := (p.nbrRead i).2
    let g := t.get ROLL_LIM.GRACE
    if Supervised e then
      if e.interval ≠ 0 ∧ (3 * e.interval + g : Int) ≤ bellsSince t e then t.nbrAbsentNow i e
      else if e.interval ≠ 0 ∧ (e.interval + g : Int) ≤ bellsSince t e ∧ e.st = 2 then t.nbrWrite i e.st { e with st := 3 }
      else if e.interval = 0 ∧ (2 ^ 30 : Int) ≤ bellsSince t e ∧ e.st ≠ 3 then t.nbrWrite i e.st { e with st := 5 }
      else t
    else t := if_pos h

theorem sweepVisit_unsupervised (h : p.nbrUsable i = true) (hs : ¬ Supervised (p.nbrRead i).2) : p.sweepVisit i = (p.nbrRead i).1 := by
  rw [sweepVisit_usable p i h]
  exact if_neg hs

section
variable (h : p.nbrUsable i = true ∧ Supervised (p.nbrRead i).2)
include h

/-- An entry with an interval is ABSENT three intervals and the grace after it was heard, LATE one interval and the grace after. -/
theorem sweepVisit_interval (hi : (p.nbrRead i).2.interval ≠ 0) : p.sweepVisit i =
    let t := (p.nbrRead i).1
    let e := (p.nbrRead i).2
    let g := t.get ROLL_LIM.GRACE
    if (3 * e.interval + g : Int) ≤ bellsSince t e then t.nbrAbsentNow i e
    else if (e.interval + g : Int) ≤ bellsSince t e ∧ e.st = 2 then t.nbrWrite i 2 { e with st := 3 }
    else t := by
  obtain ⟨hu, hs⟩ := h
  rw [sweepVisit_usable p i hu]
  simp only [if_pos hs, hi, ne_eq, not_false_eq_true, true_and, false_and, if_false]
  refine ite_congr rfl (fun _ => rfl) fun _ => ite_congr rfl (fun late => ?_) fun _ => rfl
  rw [late.2]

/-- An entry without an interval is IDLE 2^30 bells after it was heard, unless it is LATE. -/
theorem sweepVisit_noInterval (hi : (p.nbrRead i).2.interval = 0) : p.sweepVisit i =
    let t := (p.nbrRead i).1
    let e := (p.nbrRead i).2
    if (2 ^ 30 : Int) ≤ bellsSince t e ∧ e.st ≠ 3 then t.nbrWrite i e.st { e with st := 5 } else t := by
  obtain ⟨hu, hs⟩ := h
  rw [sweepVisit_usable p i hu]
  simp only [if_pos hs, hi, ne_eq, not_true_eq_false, true_and, false_and, if_false]

end
end

/-! ROLL_ABSENT (R397). -/

theorem absentPop_empty (h : p.roll.absent = []) : p.absentPop = (p, 0) := by rw [State.absentPop, h]

theorem absentPop_oldest (i : Nat) (l : List Nat) (h : p.roll.absent = i :: l) :
    p.absentPop = ({ p with roll.absent := l }, i + 2 ^ 16 + l.length * 2 ^ 17) := by
  rw [State.absentPop, h]

theorem exec_rollAbsent (a : Access) (h : p.takes a false ROLL_ABSENT.reg 0 0 0 = true) :
    exec (.rollAbsent a) p = .next (p.finish ((p.pass a.dt).absentPop.1.setRsp .okay
      ((p.pass a.dt).absentPop.2.land (accMask a ROLL_ABSENT.reg 0 0)))) :=
  State.readReg_takes p a ROLL_ABSENT.reg 0 State.absentPop h

/-! ROLL_CFG (R13, R390). -/

section
variable (w : Nat)

/-- Does the word clear the bit of a bank that holds entries? -/
abbrev ClearsOccupied : Prop :=
  ∃ b < 4, bitAt (p.get ROLL_CFG.BANKS) b = true ∧ bitAt (getBits w 4 4) b = false ∧ mapGet (fun _ => 0) p.roll.used (12 + b) ≠ 0

theorem clearsOccupied_iff : (List.range 4).any (fun b => bitAt (p.get ROLL_CFG.BANKS) b && !bitAt (getBits w 4 4) b &&
    mapGet (fun _ => 0) p.roll.used (12 + b) != 0) = true ↔ ClearsOccupied p w := by
  simp only [List.any_eq_true, List.mem_range, Bool.and_eq_true, Bool.not_eq_true', bne_iff_ne, and_assoc]

/-- The banks that the word enables and that have not failed. -/
def banksEnabled : Nat := (List.range 4).foldl
  (fun m b => if bitAt (getBits w 4 4) b && !(p.get MEM_BANK_STAT.HEALTH (12 + b) == 3) then m + 2 ^ b else m) 0

theorem rollCfgWrite_outOfRange (h : 240 < getBits w 16 8) : p.rollCfgWrite w = p := if_pos h

variable (h : getBits w 16 8 ≤ 240)
include h

theorem rollCfgWrite_refused (hc : ClearsOccupied p w) : p.rollCfgWrite w = p.evt ROLL_EVT.CFG_REFUSED 0x80 :=
  (if_neg (Nat.not_lt.2 h)).trans (if_pos ((clearsOccupied_iff p w).2 hc))

theorem rollCfgWrite_stored (hc : ¬ ClearsOccupied p w) :
    p.rollCfgWrite w = p.setRg (ROLL_CFG.reg.key 0 0) (setBits w 4 4 (banksEnabled p w)) :=
  (if_neg (Nat.not_lt.2 h)).trans (if_neg (mt (clearsOccupied_iff p w).1 hc))

end

theorem exec_rollCfgWrite (a : Access) (h : p.takes a true ROLL_CFG.reg 0 0 (wdata a) = true) :
    exec (.rollCfgWrite a) p = .next (p.finish (((p.pass a.dt).rollCfgWrite
      ((p.pass a.dt).merged ROLL_CFG.reg (accMask a ROLL_CFG.reg 0 0) (wdata a))).setRsp .okay 0)) :=
  State.writeReg_takes p a ROLL_CFG.reg 0 0 (wdata a) (fun m s => s.rollCfgWrite (s.merged ROLL_CFG.reg m (wdata a))) h

/-! Roster commands (R407). -/

section
variable (c w : Nat) (stg : List Nat)

/-- The staged interval and destination. -/
def nbrInterval : Nat := getBits (stg.getD 1 0) 0 28
def nbrDest : Nat := getBits (stg.getD 1 0) 28 3

/-- The entry that a READ shows: zeros in a bank that is not usable. -/
def nbrReadable (i : Nat) : State × Nbr := if p.nbrUsable i then p.nbrRead i else (p, Nbr.ofNat 0)

/-- ROLL_NBR_KEY, ROLL_NBR_DATA and ROLL_NBR_INFO of copy `c` loaded. -/
def nbrShown (e : Nbr) : State :=
  ((p.setRg ((ROLL_NBR_KEY.reg.of c).key 0 0) e.id).setRg ((ROLL_NBR_DATA.reg.of c).key 0 0)
    (e.interval + e.dest * 2 ^ 28 + e.st * 2 ^ 32 + b2n e.pend * 2 ^ 35 + e.seq * 2 ^ 48)).setRg
    ((ROLL_NBR_INFO.reg.of c).key 0 0) (e.bell + e.missed * 2 ^ 32 + e.dup * 2 ^ 48)

/-- The action is one of R407. -/
abbrev NamedAct : Prop := ¬ (getBits w 0 3 = 0 ∨ 4 < getBits w 0 3)

theorem nbrCmd_idle (ha : NamedAct w) (hi : (p.role 0x40).func = .idle) : p.nbrCmd c w stg = p.nbrRefuse c 5 :=
  (if_neg ha).trans (if_pos hi)

theorem nbrCmd_stale (ha : NamedAct w) (hi : (p.role 0x40).func ≠ .idle) (hg : getBits w 32 16 ≠ (p.role 0x40).gen.toNat) :
    p.nbrCmd c w stg = (p.count GLB_STALE_CNT.COUNT).nbrRefuse c 4 :=
  (if_neg ha).trans ((if_neg hi).trans (if_pos hg))

section
variable (hi : (p.role 0x40).func ≠ .idle) (hg : getBits w 32 16 = (p.role 0x40).gen.toNat) (u : State)
include hi hg

theorem nbrInsert_replaces (h : getBits w 0 3 = 1) (i : Nat) (e : Nbr) (hn : p.nbrFind (stg.getD 0 0) = (u, .entry i e)) :
    p.nbrCmd c w stg = (u.nbrWrite i e.st
      { e with interval := nbrInterval stg, dest := nbrDest stg, st := if e.st = 3 then 2 else e.st }).nbrRes c (1 + 2 ^ 5 + i * 2 ^ 16) := by
  simp only [State.nbrCmd, h, hi, hg, hn, ne_eq, not_true_eq_false, Nat.reduceEqDiff, Nat.reduceLT, or_self, if_true, if_false]
  rfl

theorem nbrInsert_adds (h : getBits w 0 3 = 1) (i : Nat) (hn : p.nbrFind (stg.getD 0 0) = (u, .way i)) :
    p.nbrCmd c w stg = (u.nbrWrite i 0
      ⟨stg.getD 0 0, 0, 1, nbrDest stg, false, 0, u.get ROLL_BELL.BELL, nbrInterval stg, 0, 0, 0⟩).nbrRes c (1 + i * 2 ^ 16) := by
  simp only [State.nbrCmd, h, hi, hg, hn, ne_eq, not_true_eq_false, Nat.reduceEqDiff, Nat.reduceLT, or_self, if_true, if_false]
  rfl

theorem nbrInsert_full (h : getBits w 0 3 = 1) (hn : p.nbrFind (stg.getD 0 0) = (u, .full)) : p.nbrCmd c w stg = u.nbrRefuse c 1 := by
  simp only [State.nbrCmd, h, hi, hg, hn, ne_eq, not_true_eq_false, Nat.reduceEqDiff, Nat.reduceLT, or_self, if_true, if_false]

theorem nbrInsert_bankOff (h : getBits w 0 3 = 1) (hn : p.nbrFind (stg.getD 0 0) = (u, .bankOff)) : p.nbrCmd c w stg = u.nbrRefuse c 3 := by
  simp only [State.nbrCmd, h, hi, hg, hn, ne_eq, not_true_eq_false, Nat.reduceEqDiff, Nat.reduceLT, or_self, if_true, if_false]

theorem nbrDelete_removes (h : getBits w 0 3 = 2) (i : Nat) (e : Nbr) (hn : p.nbrFind (stg.getD 0 0) = (u, .entry i e)) :
    p.nbrCmd c w stg = ((u.dlDrop i).nbrWrite i e.st (Nbr.ofNat 0)).nbrRes c (1 + i * 2 ^ 16) := by
  simp only [State.nbrCmd, h, hi, hg, hn, ne_eq, not_true_eq_false, Nat.reduceEqDiff, Nat.reduceLT, or_self, if_true, if_false]

theorem dlClear_entry (h : getBits w 0 3 = 4) (i : Nat) (e : Nbr) (hn : p.nbrFind (stg.getD 0 0) = (u, .entry i e)) :
    p.nbrCmd c w stg = if e.pend then ((u.dlDrop i).nbrWrite i e.st { e with pend := false, ptr := 0 }).nbrRes c (1 + i * 2 ^ 16)
      else u.nbrRefuse c 2 := by
  simp only [State.nbrCmd, h, hi, hg, hn, ne_eq, not_true_eq_false, Nat.reduceEqDiff, Nat.reduceLT, or_self, if_false]

/-- DELETE and DL_CLEAR need an entry. -/
theorem nbrCmd_missing (h : getBits w 0 3 = 2 ∨ getBits w 0 3 = 4) (x : Found) (hn : p.nbrFind (stg.getD 0 0) = (u, x))
    (hx : ∀ i e, x ≠ .entry i e) : p.nbrCmd c w stg = u.nbrRefuse c 2 := by
  cases x with
  | entry i e => exact absurd rfl (hx i e)
  | _ =>
    rcases h with h | h <;>
      simp only [State.nbrCmd, h, hi, hg, hn, ne_eq, not_true_eq_false, Nat.reduceEqDiff, Nat.reduceLT, or_self, if_true, if_false]

omit u in
theorem nbrRead_shows (h : getBits w 0 3 = 3) : p.nbrCmd c w stg =
    (nbrShown (nbrReadable p (getBits w 16 16)).1 c (nbrReadable p (getBits w 16 16)).2).nbrRes c (1 + getBits w 16 16 * 2 ^ 16) := by
  simp only [State.nbrCmd, h, hi, hg, ne_eq, not_true_eq_false, Nat.reduceEqDiff, Nat.reduceLT, or_self, if_false]
  rfl

end
end

/-- One of the four roster commands, by its action, with what it answers. -/
def RosterCommand (a : Access) (c : Nat) (o : Host.Outcome State Fault Refusal) : Prop :=
  c = 1 ∧ o = exec (.insert a) p ∨ c = 2 ∧ o = exec (.delete a) p ∨ c = 3 ∧ o = exec (.read a) p ∨ c = 4 ∧ o = exec (.dlClear a) p

section
variable {p} {a : Access} {c : Nat} {o : Host.Outcome State Fault Refusal} (ho : RosterCommand p a c o)
include ho

theorem RosterCommand.answers (h : p.serves a ROLL_NBR_CMD.reg 0 (setBits (wdata a) 0 3 c) = true) :
    o = .next (p.finish ((((p.pass a.dt).nbrCmd a.init.val (setBits (wdata a) 0 3 c)
      ((p.pass a.dt).staged ROLL_NBR_CMD.reg.base a.init.val)).pmu evCmdServed 1).setRsp .okay 0)) := by
  obtain ⟨rfl, rfl⟩ | ⟨rfl, rfl⟩ | ⟨rfl, rfl⟩ | ⟨rfl, rfl⟩ := ho <;> exact State.served_ROLL_NBR_CMD p a 0 _ h

theorem RosterCommand.act : getBits (setBits (wdata a) 0 3 c) 0 3 = c := by
  rw [getBits_setBits_same]
  obtain ⟨rfl, -⟩ | ⟨rfl, -⟩ | ⟨rfl, -⟩ | ⟨rfl, -⟩ := ho <;> rfl

theorem RosterCommand.named : NamedAct (setBits (wdata a) 0 3 c) := by
  rw [NamedAct, ho.act]
  obtain ⟨rfl, -⟩ | ⟨rfl, -⟩ | ⟨rfl, -⟩ | ⟨rfl, -⟩ := ho <;> decide

end

end Sys2Proof.Proofs

namespace Sys2Proof.Proofs

open Sys2Proof Sys2Proof.Machine

/-- Settles O52: intake, reports, downlinks and commands by the rows of their rules, a visit of the sweep by the entry's interval. -/
theorem rollCall : Obligations.RollCall := by
  refine ⟨fun dt s h => ⟨fun hi => ?_, fun hf f rest hi => ?_⟩,
    fun q f => ⟨rollSort_barred q f, fun ho ht hr hl => ?_, fun ho ht hr hl => ?_, fun ho ht hr hl => ?_, fun ho ht hr hl hb => ?_,
      fun ho ht hr hl hb => ?_⟩,
    fun t u f pay => ⟨fun i e hn => ⟨fun hs => ?_, fun hs hd => ?_, fun hs hd => ?_, fun hs hd => ?_⟩, fun i hn hl => ?_, fun hn hl => ?_,
      report_unknown t u f pay⟩,
    fun t f pay i old e first missed => ⟨accept_disabled t f pay i old e first missed,
      fun he hr => accept_noRoom t f pay i old e first missed he _ (Prod.ext rfl hr),
      fun he hr => accept_recorded t f pay i old e first missed he _ (Prod.ext rfl hr)⟩,
    fun t u f h x => ⟨downlink_reserved t f h, fun hr hn => ⟨downlink_unknown t u f h hr x hn, ?_⟩⟩,
    fun dt s h => ⟨fun hd => ?_, fun hd => ?_⟩,
    fun t i => ⟨sweepVisit_unusable t i, sweepVisit_unsupervised t i, fun h hi ha => ?_, fun h hi hna hl hs => ?_, fun h hi hna hl => ?_,
      fun h hi hb hs => ?_, fun h hi hb => ?_⟩,
    fun a s h => ⟨fun hn => ?_, fun i l hl => ?_⟩,
    fun a s h => ⟨fun hp => ?_, fun hp hc => ?_, fun hp hc => ?_⟩,
    fun a s c o ho => ?_⟩
  · rw [exec_rollIntake s dt h, rollIntake_idle _ hi]
  · rw [exec_rollIntake s dt h, rollIntake_takes _ hf f rest hi]
  · exact (rollSort_radio q f ho ht hr).trans (if_pos hl)
  · exact (rollSort_radio q f ho ht hr).trans (if_neg (Nat.not_lt.2 hl))
  · exact (rollSort_other q f ho ht hr).trans (if_pos hl)
  · exact (rollSort_other q f ho ht hr).trans ((if_neg (Nat.not_lt.2 hl)).trans (if_neg hb))
  · exact (rollSort_other q f ho ht hr).trans ((if_neg (Nat.not_lt.2 hl)).trans (if_pos hb))
  · exact (report_entry t u f pay i e hn).trans (if_neg hs)
  · exact (report_entry t u f pay i e hn).trans ((if_pos hs).trans ((if_neg (ne_of_gt hd)).trans (if_neg (not_lt_of_gt hd))))
  · exact (report_entry t u f pay i e hn).trans ((if_pos hs).trans (if_pos hd))
  · exact (report_entry t u f pay i e hn).trans ((if_pos hs).trans ((if_neg (ne_of_lt hd)).trans (if_pos hd)))
  · exact (report_way t u f pay i hn).trans (if_pos hl)
  · exact (report_noWay t u f pay hn).trans (if_pos hl)
  · rintro i e rfl
    have hx := downlink_entry t u f h hr i e hn
    refine ⟨fun hp h0 => ?_, fun hp h1 => ?_, fun hp hm => ?_, fun hp hm => ?_⟩
    · exact hx.trans ((if_pos hp).trans (if_pos h0))
    · exact hx.trans ((if_pos hp).trans (if_neg (by rw [h1]; decide)))
    · exact hx.trans ((if_neg (Bool.eq_false_iff.1 hp)).trans (if_pos hm))
    · exact hx.trans ((if_neg (Bool.eq_false_iff.1 hp)).trans (if_neg hm))
  · exact (exec_sweep s dt h).trans (by rw [sweep_none (s.pass dt).afterFixed hd]; rfl)
  · exact (exec_sweep s dt h).trans (by rw [sweep_visits (s.pass dt).afterFixed hd]; rfl)
  · exact (sweepVisit_interval t i h hi).trans (if_pos ha)
  · exact (sweepVisit_interval t i h hi).trans ((if_neg (not_le_of_gt hna)).trans (if_pos ⟨hl, hs⟩))
  · exact (sweepVisit_interval t i h hi).trans ((if_neg (not_le_of_gt hna)).trans
      (if_neg fun late => hl.elim (not_lt_of_ge late.1) fun hs => hs late.2))
  · exact (sweepVisit_noInterval t i h hi).trans (if_pos ⟨hb, hs⟩)
  · exact (sweepVisit_noInterval t i h hi).trans (if_neg fun idle => hb.elim (not_lt_of_ge idle.1) idle.2)
  · rw [exec_rollAbsent s a h, absentPop_empty _ hn]
  · rw [exec_rollAbsent s a h, absentPop_oldest _ i l hl]
  · rw [exec_rollCfgWrite s a h, rollCfgWrite_outOfRange _ _ hp]
  · rw [exec_rollCfgWrite s a h, rollCfgWrite_refused _ _ hp hc]
  · rw [exec_rollCfgWrite s a h, rollCfgWrite_stored _ _ hp hc]
    rfl
  · intro w h
    have act : getBits w 0 3 = c := RosterCommand.act ho
    have named : NamedAct w := RosterCommand.named ho
    rw [RosterCommand.answers ho h]
    refine ⟨fun hi => ?_, fun hi hg => ?_, fun hi hg hc => ?_, fun hi hg u x hn =>
      ⟨fun i e hx => ⟨fun hc => ?_, fun hc => ?_, fun hc hp => ?_, fun hc hp => ?_⟩, fun i hx hc => ?_, fun hx hc => ?_, fun hx hc => ?_,
        fun hx hc => ?_⟩⟩
    · rw [nbrCmd_idle _ _ _ _ named hi]; rfl
    · rw [nbrCmd_stale _ _ _ _ named hi hg]; rfl
    · rw [nbrRead_shows _ _ _ _ hi hg (act.trans hc)]; rfl
    · rw [nbrInsert_replaces _ _ _ _ hi hg u (act.trans hc) i e (hx ▸ hn)]; rfl
    · rw [nbrDelete_removes _ _ _ _ hi hg u (act.trans hc) i e (hx ▸ hn)]; rfl
    · rw [dlClear_entry _ _ _ _ hi hg u (act.trans hc) i e (hx ▸ hn), if_pos hp]; rfl
    · rw [dlClear_entry _ _ _ _ hi hg u (act.trans hc) i e (hx ▸ hn), if_neg (Bool.eq_false_iff.1 hp)]; rfl
    · rw [nbrInsert_adds _ _ _ _ hi hg u (act.trans hc) i (hx ▸ hn)]; rfl
    · rw [nbrInsert_full _ _ _ _ hi hg u (act.trans hc) (hx ▸ hn)]; rfl
    · rw [nbrInsert_bankOff _ _ _ _ hi hg u (act.trans hc) (hx ▸ hn)]; rfl
    · rw [nbrCmd_missing _ _ _ _ hi hg u (hc.imp act.trans act.trans) x hn hx]; rfl

end Sys2Proof.Proofs
end

section
/-! SUPPORT. An access that no row of R483 grants, and an engine whose clock is gated (R483, R503, R505, R506, R511). -/

namespace Sys2Proof.Proofs

open Sys2Proof Sys2Proof.Machine

/-- A request on the register port is answered by its denial where no row of R483 grants it. -/
theorem exec_denied (c : Instr) (s : State) (q : PortReq) (hq : portOf c = some q) (hu : s.portUp q.dt = true)
    (hg : (s.pass q.dt).granted q.init q.wr q.addr q.data = false) :
    exec c s = .next (s.finish (((s.pass q.dt).denied q.init q.wr q.addr).setRsp .denied 0)) := by
  obtain ⟨f, hf, refused⟩ := exec_refused c s q hq
  have answer := State.respond_denied (s.pass q.dt) q.init q.wr q.addr q.size q.data hg
  have hp := refused (s.pass q.dt)
  rw [answer] at hp
  rw [hf, State.portReq_up _ _ _ hu, hp nofun]

/-- A command of an engine acts through the engine's frame, which a gated clock holds. -/
theorem exec_gated (c : Instr) (s : State) (hr : s.runs (siteOf c).dt = true) (he : (siteOf c).dom = .engine)
    (hd : (s.pass (siteOf c).dt).dozing = true) : exec c s = .next (s.finish (s.pass (siteOf c).dt)) := by
  have frame := exec_site c s
  rw [he] at frame
  obtain ⟨f, hf⟩ := frame
  rw [hf, State.engine_dozing _ _ _ hr hd]

end Sys2Proof.Proofs

namespace Sys2Proof.Proofs

open Sys2Proof Sys2Proof.Machine

/-- Settles O9: the access decision comes first in the answer of every request. -/
theorem deniedAccessHasNoEffect : Obligations.DeniedAccessHasNoEffect :=
  fun c s q hq hu hg => exec_denied c s q hq hu hg

/-- Settles O8: every engine's command goes through the frame that its clock gates. -/
theorem dozeStopsTheEngines : Obligations.DozeStopsTheEngines :=
  fun c s hr he hd => exec_gated c s hr he hd

end Sys2Proof.Proofs
end


section
/-! SUPPORT. The states and watchdogs of the service cores, the debugger, and the performance monitor (R412 to R414, R429 to R433). -/

namespace Sys2Proof.Proofs

open Sys2Proof Sys2Proof.Machine

theorem on_eq_false_iff (p : State) (f : Fld) (i j : Nat) : p.on f i j = false ↔ p.get f i j = 0 := by
  rw [State.on, bne_eq_false_iff_eq]

/-- The fixed work of a bell runs outside HALT, DOZE and WATCH (R89, R511). -/
theorem fixedRuns_iff (p : State) : p.fixedRuns = true ↔ p.mode ≠ 5 ∧ p.dozing = false := by
  rw [State.fixedRuns, Bool.and_eq_true, bne_iff_ne, Bool.not_eq_true']

section
variable (p : State) (c : Nat)

/-! A write of SCn_CTRL (R412, R414). -/

/-- The state with the watchdog reloaded where word `w` holds KICK. -/
def kickedBy (w : Nat) : State := if bitAt w 3 then p.put SC_STAT.WDOG_LEFT (p.get SC_CTRL.WDOG_BELLS c) c else p

/-- May the core leave HELD: after START and outside HALT, with firmware received or in RECOVERY? -/
abbrev CoreMayRun : Prop := p.mode ≠ 0 ∧ p.mode ≠ 5 ∧ ((p.core c).fw = true ∨ p.mode = 3)

section
variable (w : Nat)

/-- What a write of SCn_CTRL does, as a choice of one of four: RUN 0, RUN 1, RESTART, or no change of state. -/
theorem scCtrlWritten_eq : p.scCtrlWritten c w =
    if p.get SC_STAT.STATE c = 1 ∧ bitAt w 0 = false then kickedBy ((p.put SC_STAT.STATE 0 c).put SC_STAT.ROM 0 c) c w
    else if p.get SC_STAT.STATE c = 0 ∧ bitAt w 0 = true ∧ CoreMayRun p c then kickedBy (p.coreReset c 2) c w
    else if p.get SC_STAT.STATE c = 3 ∧ bitAt w 2 = true then kickedBy (p.coreReset c 2) c w
    else kickedBy p c w := by
  let ran := if p.get SC_STAT.STATE c = 0 ∧ bitAt w 0 = true ∧ CoreMayRun p c then p.coreReset c 2 else p
  let put := if p.get SC_STAT.STATE c = 1 ∧ bitAt w 0 = false then (p.put SC_STAT.STATE 0 c).put SC_STAT.ROM 0 c else ran
  have order : p.scCtrlWritten c w =
    kickedBy (if p.get SC_STAT.STATE c = 3 ∧ bitAt w 2 = true then put.coreReset c 2 else put) c w := rfl
  rw [order]
  by_cases h1 : p.get SC_STAT.STATE c = 1 ∧ bitAt w 0 = false
  · have hput : put = (p.put SC_STAT.STATE 0 c).put SC_STAT.ROM 0 c := if_pos h1
    rw [if_pos h1, hput, if_neg (by omega)]
  · by_cases h0 : p.get SC_STAT.STATE c = 0 ∧ bitAt w 0 = true ∧ CoreMayRun p c
    · have hput : put = p.coreReset c 2 := (if_neg h1).trans (if_pos h0)
      rw [if_neg h1, if_pos h0, hput, if_neg (by omega)]
    · have hput : put = p := (if_neg h1).trans (if_neg h0)
      rw [if_neg h1, if_neg h0, hput]
      split <;> rfl

theorem exec_scRun (a : Access) (k : Fin 2) (h : p.takes a true SC_CTRL.reg k.val 0 (wdata a) = true) :
    exec (.scRun a k) p = .next (p.finish (State.setRsp (((p.pass a.dt).setRg (SC_CTRL.reg.key k.val 0)
      ((p.pass a.dt).merged SC_CTRL.reg (accMask a SC_CTRL.reg k.val 0) (wdata a) k.val)).scCtrlWritten k.val (wdata a)) .okay 0)) :=
  State.writeReg_takes p a _ _ _ _ _ h

theorem exec_scRestart (a : Access) (k : Fin 2) (hw : w = setBits (wdata a) 2 1 1) (h : p.takes a true SC_CTRL.reg k.val 0 w = true) :
    exec (.scRestart a k) p = .next (p.finish (State.setRsp (((p.pass a.dt).setRg (SC_CTRL.reg.key k.val 0)
      ((p.pass a.dt).merged SC_CTRL.reg (accMask a SC_CTRL.reg k.val 0) w k.val)).scCtrlWritten k.val w) .okay 0)) := by
  subst hw
  exact State.writeReg_takes p a _ _ _ _ _ h

theorem exec_kick (a : Access) (k : Fin 2) (hw : w = setBits (wdata a) 3 1 1) (h : p.takes a true SC_CTRL.reg k.val 0 w = true) :
    exec (.kick a k) p = .next (p.finish (State.setRsp (((p.pass a.dt).setRg (SC_CTRL.reg.key k.val 0)
      ((p.pass a.dt).merged SC_CTRL.reg (accMask a SC_CTRL.reg k.val 0) w k.val)).scCtrlWritten k.val w) .okay 0)) := by
  subst hw
  exact State.writeReg_takes p a _ _ _ _ _ h

end

/-! The start of a core and its watchdog (R412 to R414). -/

/-- In RECOVERY a core that starts to run shows ROM. -/
theorem coreGo_eq : p.coreGo c = ((p.put SC_STAT.STATE 1 c).put SC_STAT.ROM (if p.mode = 3 then 1 else 0) c).put SC_STAT.WDOG_LEFT
    (p.get SC_CTRL.WDOG_BELLS c) c := by
  simp only [State.coreGo, b2n, beq_iff_eq]
  rfl

/-- Does the watchdog of the core count? -/
abbrev WdogCounts : Prop := p.get SC_STAT.STATE c = 1 ∧ p.get SC_CTRL.WDOG_BELLS c ≠ 0 ∧ 0 < p.get SC_STAT.WDOG_LEFT c

theorem wdogEdge_still (h : ¬ WdogCounts p c) : p.wdogEdge c = p := if_neg h

theorem wdogEdge_counts (h : WdogCounts p c) : p.wdogEdge c =
    if p.get SC_STAT.WDOG_LEFT c = 1 then (p.put SC_STAT.WDOG_LEFT (p.get SC_STAT.WDOG_LEFT c - 1) c).wdogExpire c
    else p.put SC_STAT.WDOG_LEFT (p.get SC_STAT.WDOG_LEFT c - 1) c := if_pos h

theorem mayRestart_iff : (p.on SC_CTRL.AUTO_RESTART c && decide ((p.core c).restarts < p.get SC_CTRL.RESTART_MAX c)) = true ↔
    p.get SC_CTRL.AUTO_RESTART c = 1 ∧ (p.core c).restarts < p.get SC_CTRL.RESTART_MAX c := by
  rw [Bool.and_eq_true, on_iff_get_one p c SC_CTRL.AUTO_RESTART 0 rfl, decide_eq_true_eq]

theorem wdogExpire_restarts (h : p.get SC_CTRL.AUTO_RESTART c = 1 ∧ (p.core c).restarts < p.get SC_CTRL.RESTART_MAX c) :
    p.wdogExpire c = (p.setCore c { p.core c with restarts := (p.core c).restarts + 1 }).coreReset c 1 :=
  if_pos ((mayRestart_iff p c).2 h)

theorem wdogExpire_faults (h : ¬ (p.get SC_CTRL.AUTO_RESTART c = 1 ∧ (p.core c).restarts < p.get SC_CTRL.RESTART_MAX c)) :
    p.wdogExpire c = p.coreFault c :=
  if_neg (mt (mayRestart_iff p c).1 h)

theorem wdogNext_iff : p.wdogNext c = true ↔ p.mode ≠ 5 ∧ p.dozing = false ∧ p.get SC_STAT.STATE c = 1 ∧
    p.get SC_CTRL.WDOG_BELLS c ≠ 0 ∧ p.get SC_STAT.WDOG_LEFT c = 1 := by
  rw [← and_assoc, ← fixedRuns_iff]
  simp only [State.wdogNext, Bool.and_eq_true, beq_iff_eq, bne_iff_ne, and_assoc]
  rfl

theorem exec_wdog (k : Fin 2) : exec (.wdog k) p = p.onEdge (fun s => s.wdogNext k.val) := rfl

/-! The debugger (R77, R412). -/

/-- Does the life cycle open SCDBG? -/
abbrev DebugOpen : Prop := p.get LDG_STAT.LC = 0 ∨ p.get LDG_STAT.LC = 1 ∨ p.get LDG_STAT.LC = 3

theorem debugHalt_eq : p.debugHalt c = if DebugOpen p ∧ p.get SC_STAT.STATE c = 1 then p.put SC_STAT.STATE 2 c else p := by
  simp only [State.debugHalt, State.scdbgOk, Bool.and_eq_true, Bool.or_eq_true, beq_iff_eq, or_assoc]
  rfl

theorem debugResume_eq : p.debugResume c = if p.get SC_STAT.STATE c = 2 then p.put SC_STAT.STATE 1 c else p := rfl

theorem exec_debugHalt (dt : Nat) (k : Fin 2) (h : p.awake dt = true) :
    exec (.debugHalt dt k) p = .next (p.finish ((p.pass dt).debugHalt k.val)) := State.engine_awake p dt _ h

theorem exec_debugResume (dt : Nat) (k : Fin 2) (h : p.awake dt = true) :
    exec (.debugResume dt k) p = .next (p.finish ((p.pass dt).debugResume k.val)) := State.engine_awake p dt _ h

end

/-! Counters (R429 to R431). -/

section
variable (p : State) (k n : Nat)

/-- Does counter `k` count only the carries of the counter below it? -/
abbrev PmuChained : Prop := k % 2 = 1 ∧ p.get PMU_EVSEL.CHAIN k = 1

/-- Does counter `k` run? -/
abbrev PmuRuns : Prop := p.get PMU_CTRL.EN = 1 ∧ p.get PMU_EVSEL.EN k = 1

theorem pmuChained_iff : p.pmuChained k = true ↔ PmuChained p k := by
  rw [State.pmuChained, Bool.and_eq_true, beq_iff_eq, on_iff_get_one p k PMU_EVSEL.CHAIN 0 rfl]

theorem pmuRuns_iff : p.pmuRuns k = true ↔ PmuRuns p k := by
  rw [State.pmuRuns, Bool.and_eq_true, on_iff_get_one p 0 PMU_CTRL.EN 0 rfl, on_iff_get_one p k PMU_EVSEL.EN 0 rfl]

theorem evOutside_iff (e : Nat) : evOutside e = true ↔ (1 ≤ e ∧ e ≤ 6) ∨ e = 0x0A ∨ e = 0x42 := by
  simp only [evOutside, Bool.or_eq_true, Bool.and_eq_true, decide_eq_true_eq, beq_iff_eq, or_assoc]

/-- Does counter `k` take occurrences of an event outside the other commands? -/
abbrev PmuCounts : Prop := PmuRuns p k ∧ ¬ PmuChained p k ∧
  ((1 ≤ p.get PMU_EVSEL.EVENT k ∧ p.get PMU_EVSEL.EVENT k ≤ 6) ∨ p.get PMU_EVSEL.EVENT k = 0x0A ∨ p.get PMU_EVSEL.EVENT k = 0x42)

theorem pmuOccur_eq : p.pmuOccur k n = if PmuCounts p k then p.pmuAdd k n else p := by
  simp only [State.pmuOccur, Bool.and_eq_true, Bool.not_eq_true', ← Bool.not_eq_true, pmuRuns_iff, pmuChained_iff, evOutside_iff, and_assoc]

theorem exec_pmuOvf (dt : Nat) (i : Fin 16) (m : BitVec 32) (h : p.awake dt = true) :
    exec (.pmuOvf dt i m) p = .next (p.finish ((p.pass dt).pmuOccur i.val m.toNat)) := State.engine_awake p dt _ h

/-- OVF of the counter sets, and FREEZE clears EN. -/
theorem pmuOverflow_eq : p.pmuOverflow k =
    if (p.evt ⟨PMU_OVF.OVF.base, PMU_OVF.OVF.s1, PMU_OVF.OVF.s2, k, 1⟩ 0xB1).get PMU_CTRL.FREEZE = 1 then
      (p.evt ⟨PMU_OVF.OVF.base, PMU_OVF.OVF.s1, PMU_OVF.OVF.s2, k, 1⟩ 0xB1).put PMU_CTRL.EN 0
    else p.evt ⟨PMU_OVF.OVF.base, PMU_OVF.OVF.s1, PMU_OVF.OVF.s2, k, 1⟩ 0xB1 := by
  simp only [State.pmuOverflow, on_iff_get_one _ 0 PMU_CTRL.FREEZE 0 rfl]

/-- Counter `k` with the sum that `n` occurrences give it. -/
abbrev pmuSummed : State := p.put PMU_CNT.COUNT (p.get PMU_CNT.COUNT k + n) k

/-- Does the carry of counter `k` reach a chained counter? -/
abbrev PmuFeeds : Prop := k % 2 = 0 ∧ PmuChained p (k + 1) ∧ PmuRuns p (k + 1)

/-- What counter `k + 1` holds with the carry of counter `k`. -/
abbrev pmuCarried : Nat := (pmuSummed p k n).get PMU_CNT.COUNT (k + 1) + (p.get PMU_CNT.COUNT k + n) / 2 ^ 32

theorem pmuAdd_eq : p.pmuAdd k n =
    if p.get PMU_CNT.COUNT k + n < 2 ^ 32 then pmuSummed p k n
    else if PmuFeeds (pmuSummed p k n) k then
      if pmuCarried p k n < 2 ^ 32 then (pmuSummed p k n).put PMU_CNT.COUNT (pmuCarried p k n) (k + 1)
      else ((pmuSummed p k n).put PMU_CNT.COUNT (pmuCarried p k n) (k + 1)).pmuOverflow (k + 1)
    else (pmuSummed p k n).pmuOverflow k := by
  simp only [State.pmuAdd, pmuChained_iff, pmuRuns_iff]

end

/-! Samples (R433). -/

section
variable (p : State) (core latency addr st : Nat)

/-- Is sampling on for the core, and not stopped? -/
abbrev Sampled : Prop :=
  p.get PMU_SAMP_CFG.EN = 1 ∧ bitAt (p.get PMU_SAMP_CFG.CORE) core = true ∧ p.get PMU_SAMP_STAT.FULL = 0

theorem sampled_iff : (p.on PMU_SAMP_CFG.EN && bitAt (p.get PMU_SAMP_CFG.CORE) core && !p.on PMU_SAMP_STAT.FULL) = true ↔
    Sampled p core := by
  rw [Bool.and_eq_true, Bool.and_eq_true, on_iff_get_one p 0 PMU_SAMP_CFG.EN 0 rfl, Bool.not_eq_true', on_eq_false_iff, and_assoc]

theorem pmuSample_idle (h : ¬ Sampled p core) : p.pmuSample core latency addr st = p := if_neg (mt (sampled_iff p core).1 h)

/-- The buffer with a record of two words written at slot `i`, and NEXT moved on. -/
def sampleStored (i w0 w1 : Nat) : State :=
  let y := (p.put PMU_SAMP.WORD w0 i 0).put PMU_SAMP.WORD w1 i 1
  State.put { y with samples := y.samples + 1 } PMU_SAMP_STAT.NEXT (i + 1)

/-- The same, stopped where the buffer is full without WRAP. -/
def sampleStopped (i w0 w1 : Nat) : State :=
  if i = 255 ∧ (sampleStored p i w0 w1).get PMU_SAMP_CFG.WRAP = 0 then (sampleStored p i w0 w1).put PMU_SAMP_STAT.FULL 1
  else sampleStored p i w0 w1

theorem pmuSample_taken (h : Sampled p core) (i w0 w1 : Nat) (hi : i = p.get PMU_SAMP_STAT.NEXT)
    (h0 : w0 = core + p.get PMU_SAMP_CFG.EVENT * 2 ^ 8 + latency * 2 ^ 16 + addr * 2 ^ 32)
    (h1 : w1 = st % 2 ^ 32 + p.samples % 2 ^ 32 * 2 ^ 32) : p.pmuSample core latency addr st =
      if (sampleStopped p i w0 w1).samples % 128 = 0 then (sampleStopped p i w0 w1).raise 0xB2 else sampleStopped p i w0 w1 := by
  simp only [State.pmuSample, if_pos ((sampled_iff p core).2 h), on_eq_false_iff, ← hi, ← h0, ← h1]
  rfl

theorem exec_pmuSample (dt : Nat) (k : Fin 2) (lat : BitVec 16) (adr : BitVec 32) (h : p.awake dt = true) :
    exec (.pmuSample dt k lat adr) p = .next (p.finish ((p.pass dt).pmuSample k.val lat.toNat adr.toNat ((p.pass dt).stNs % 2 ^ 32))) := by
  rw [exec, execPmuSample, State.engine_awake p dt _ h]

end

end Sys2Proof.Proofs

namespace Sys2Proof.Proofs

open Sys2Proof Sys2Proof.Machine

/-- Settles O53: SCn_CTRL by the one change that applies, the watchdog by its count, a counter by its carry, a sample by its buffer. -/
theorem coreStatesAndMonitor : Obligations.CoreStatesAndMonitor := by
  refine ⟨fun a c s => ⟨exec_scRun s a c, exec_scRestart s _ a c rfl, exec_kick s _ a c rfl⟩,
    fun t c w => ⟨fun h1 hb => ?_, fun h0 hb hr => ?_, fun h3 hb => ?_, fun hn1 hn0 hn3 => ?_⟩,
    fun t c cause => ?_,
    fun t c => ⟨wdogEdge_still t c, fun h hl => ?_, fun h hl => ?_, fun ha hn => wdogExpire_restarts t c ⟨ha, hn⟩, fun h => ?_⟩,
    fun c s h => ?_,
    fun dt c s h => ⟨fun ho h1 => ?_, fun h1 => ?_, fun h2 => ?_, fun h2 => ?_⟩,
    fun dt k n s h => ⟨fun hc => ?_, fun hc => ?_⟩,
    fun t k n => ⟨fun hv => ?_, fun hv hf => ?_, fun hv hf hc => ?_, fun hv hf hc => ?_⟩,
    fun dt c l a s h => ⟨fun ht => ?_, fun ht => ?_⟩⟩
  · exact (scCtrlWritten_eq t c w).trans (if_pos ⟨h1, hb⟩)
  · exact (scCtrlWritten_eq t c w).trans ((if_neg fun h => by omega).trans (if_pos ⟨h0, hb, hr⟩))
  · exact (scCtrlWritten_eq t c w).trans ((if_neg fun h => by omega).trans ((if_neg fun h => by omega).trans (if_pos ⟨h3, hb⟩)))
  · exact (scCtrlWritten_eq t c w).trans ((if_neg hn1).trans ((if_neg hn0).trans (if_neg hn3)))
  · exact congrArg (fun u => (((State.put u SC_STAT.CAUSE cause c).count SC_CNT.COUNT 7).evt SC_EVT.RESTART 0xB0)) (coreGo_eq _ c)
  · rw [wdogEdge_counts t c h, if_neg hl]
  · rw [wdogEdge_counts t c h, if_pos hl, hl]
  · rw [wdogExpire_faults t c fun hr => by omega]
    rfl
  · have hx := onEdge_runs s (fun t => t.wdogNext c.val) h
    refine ⟨fun hd => ?_, fun hd => ?_⟩
    · rw [exec_wdog, hx, if_pos ((wdogNext_iff _ _).2 hd)]
    · rw [exec_wdog, hx, if_neg (mt (wdogNext_iff _ _).1 hd)]
  · rw [exec_debugHalt s dt c h, debugHalt_eq, if_pos ⟨ho, h1⟩]
  · rw [exec_debugHalt s dt c h, debugHalt_eq, if_neg fun ⟨ho, hs⟩ => h1.elim (· ho) (· hs)]
  · rw [exec_debugResume s dt c h, debugResume_eq, if_pos h2]
  · rw [exec_debugResume s dt c h, debugResume_eq, if_neg h2]
  · rw [exec_pmuOvf s dt k n h, pmuOccur_eq, if_pos hc]
  · rw [exec_pmuOvf s dt k n h, pmuOccur_eq, if_neg hc]
  · exact (pmuAdd_eq t k n).trans (if_pos hv)
  · exact (pmuAdd_eq t k n).trans ((if_neg (Nat.not_lt.2 hv)).trans ((if_neg hf).trans (pmuOverflow_eq _ k)))
  · exact (pmuAdd_eq t k n).trans ((if_neg (Nat.not_lt.2 hv)).trans ((if_pos hf).trans (if_pos hc)))
  · exact (pmuAdd_eq t k n).trans ((if_neg (Nat.not_lt.2 hv)).trans ((if_pos hf).trans ((if_neg (Nat.not_lt.2 hc)).trans (pmuOverflow_eq _ (k + 1)))))
  · rw [exec_pmuSample s dt c l a h, pmuSample_taken _ _ _ _ _ ht _ _ _ rfl rfl rfl]
    rfl
  · rw [exec_pmuSample s dt c l a h, pmuSample_idle _ _ _ _ _ ht]

end Sys2Proof.Proofs
end

section
/-! SUPPORT. The check-value units: RESTART and FLUSH, the data written, the configuration, the results (R438 to R446, R450). -/

namespace Sys2Proof.Proofs

open Sys2Proof Sys2Proof.Machine

variable (p : State) (u : Nat)

/-- A read of an empty FIFO answers 0 under every mask. -/
theorem setRsp_zero_land (m : Nat) : p.setRsp .okay ((0 : Nat).land m) = p.setRsp .okay 0 :=
  congrArg (p.setRsp .okay) (Nat.zero_and m)

/-! RESTART and FLUSH (R438, R440, R442, R450). -/

/-- VALUE of the unit loaded with the start of R438 under tag `tag`; the unit's parameters are those of `p`. -/
def crcLoaded (t : State) (tag : Nat) : State := t.put CRC_VALUE.VALUE (crcStart (p.crcParam u) tag) u

theorem crcRestart_frame (h : p.get CRC_CFG.MODE u = 1) : p.crcRestart u = p :=
  if_pos ((on_iff_get_one p u CRC_CFG.MODE 0 rfl).2 h)

section
variable (h : p.get CRC_CFG.MODE u = 0)
include h

theorem crc_cont : ¬ p.on CRC_CFG.MODE u = true := by rw [(on_eq_false_iff p _ u 0).2 h, Bool.not_eq_true]

theorem crcRestart_fixed (h1 : p.get CRC_CFG.TAG_SRC u ≠ 1) (h2 : p.get CRC_CFG.TAG_SRC u ≠ 2) :
    p.crcRestart u = crcLoaded p u p (p.get CRC_TAG.TAG u) := by
  simp only [State.crcRestart, if_neg (crc_cont p u h), if_neg h2, State.crcTag, if_neg h1, crcLoaded]

theorem crcRestart_sequence (h1 : p.get CRC_CFG.TAG_SRC u = 1) :
    p.crcRestart u = crcLoaded p u (p.put CRC_TAG.TAG (p.get CRC_TAG.TAG u + 1) u) (p.get CRC_TAG.TAG u) := by
  have h2 : p.get CRC_CFG.TAG_SRC u ≠ 2 := by omega
  simp only [State.crcRestart, if_neg (crc_cont p u h), if_neg h2, State.crcTag, if_pos h1, crcLoaded]

/-- No frame gives an address here: the tag is the next free value. -/
theorem crcRestart_address (h2 : p.get CRC_CFG.TAG_SRC u = 2) :
    p.crcRestart u = crcLoaded p u { p with free := p.free + 1 } ((Config.word p.free).toNat % 2 ^ 32) := by
  have h1 : ¬ State.get { p with free := p.free + 1 } CRC_CFG.TAG_SRC u = 1 := by
    show ¬ p.get CRC_CFG.TAG_SRC u = 1
    omega
  have h2' : State.get { p with free := p.free + 1 } CRC_CFG.TAG_SRC u = 2 := h2
  simp only [State.crcRestart, if_neg (crc_cont p u h), if_pos h2, State.crcTag, if_neg h1, if_pos h2']
  rfl

end

theorem exec_crcRestart (a : Access) (k : Fin 4) (h : p.takes a true CRC_CMD.reg k.val 0 (setBits (wdata a) 0 1 1) = true) :
    exec (.crcRestart a k) p = .next (p.finish (((p.pass a.dt).crcCmd k.val (setBits (wdata a) 0 1 1)).setRsp .okay 0)) :=
  State.writeReg_takes p a _ _ _ _ _ h

theorem exec_crcFlush (a : Access) (k : Fin 4) (h : p.takes a true CRC_CMD.reg k.val 0 (setBits (wdata a) 1 1 1) = true) :
    exec (.crcFlush a k) p = .next (p.finish (((p.pass a.dt).crcCmd k.val (setBits (wdata a) 1 1 1)).setRsp .okay 0)) :=
  State.writeReg_takes p a _ _ _ _ _ h

/-! Data (R446). -/

/-- Does the unit take written data: EN 1 and TAP SW? -/
abbrev CrcTakesSw : Prop := p.get CRC_CFG.EN u = 1 ∧ p.get CRC_CFG.TAP u = 0

theorem crcFeedSw_eq (bs : List Nat) : p.crcFeedSw u bs = if CrcTakesSw p u then
    p.put CRC_VALUE.VALUE (crcFeedAll (p.crcParam u) (p.get CRC_VALUE.VALUE u) bs) u else p := by
  simp only [State.crcFeedSw, Bool.and_eq_true, on_iff_get_one p u CRC_CFG.EN 0 rfl, beq_iff_eq]

theorem exec_crcuData (a : Access) (k : Fin 4) (h : p.takes a true CRC_DATA.reg k.val 0 (wdata a) = true) :
    exec (.crcuData a k) p = .next (p.finish
      (((p.pass a.dt).crcDataWrite k.val (accMask a CRC_DATA.reg k.val 0) (wdata a)).setRsp .okay 0)) :=
  State.writeReg_takes p a _ _ _ _ _ h

theorem exec_crcuData1 (a : Access) (k : Fin 4) (h : p.takes a true CRC_DATA1.reg k.val 0 (wdata a) = true) :
    exec (.crcuData1 a k) p = .next (p.finish (((p.pass a.dt).crcFeedSw k.val [wdata a % 2 ^ 8]).setRsp .okay 0)) := by
  rw [← getBits_whole]
  exact State.writeReg_takes p a _ _ _ _ _ h

/-! Configuration (R439 to R441, R445). -/

theorem crcCfgOk_iff (cfg poly init xorout : Nat) : crcCfgOk cfg poly init xorout = true ↔
    getBits cfg 2 2 ≠ 3 ∧ 1 ≤ getBits cfg 8 7 ∧ getBits cfg 8 7 ≤ 64 ∧ getBits cfg 32 2 ≠ 3 ∧
      (getBits cfg 32 2 = 2 → 3 ≤ getBits cfg 16 4 ∧ getBits cfg 16 4 ≤ 6) ∧ crcSelOk (getBits cfg 16 4) (getBits cfg 24 8) = true ∧
      poly < 2 ^ getBits cfg 8 7 ∧ init < 2 ^ getBits cfg 8 7 ∧ xorout < 2 ^ getBits cfg 8 7 ∧ poly % 2 = 1 := by
  simp only [crcCfgOk, Bool.and_eq_true, Bool.or_eq_true, bne_iff_ne, decide_eq_true_eq, and_assoc, ne_eq, ← imp_iff_not_or]

section
variable (new : Nat)

/-- Does EN bar the write of `new` to configuration register `which`? -/
abbrev CrcCfgLocked (which : Nat) : Prop :=
  bitAt (p.rg (CRC_CFG.reg.key u 0)) 0 = true ∧ (which ≠ 0 ∨ new / 2 ≠ p.rg (CRC_CFG.reg.key u 0) / 2)

theorem crcCfgLocked_iff (which : Nat) : (bitAt (p.rg (CRC_CFG.reg.key u 0)) 0 &&
    (which != 0 || new / 2 != p.rg (CRC_CFG.reg.key u 0) / 2)) = true ↔ CrcCfgLocked p u new which := by
  rw [Bool.and_eq_true, Bool.or_eq_true, bne_iff_ne, bne_iff_ne]

/-- Are the four registers in their ranges with `new` in register `which`? -/
def crcCfgFits (which : Nat) : Bool :=
  crcCfgOk (if which = 0 then new else p.rg (CRC_CFG.reg.key u 0)) (if which = 1 then new else p.get CRC_POLY.VALUE u)
    (if which = 2 then new else p.get CRC_INIT.VALUE u) (if which = 3 then new else p.get CRC_XOROUT.VALUE u)

/-- CRCu_CFG stored: clearing EN discards the frame in progress. -/
def crcCfgStored : State :=
  let q := p.setRg (CRC_CFG.reg.key u 0) new
  if bitAt (p.rg (CRC_CFG.reg.key u 0)) 0 && !bitAt new 0 then
    { q with crc.epoch := mapSet (fun _ => 0) q.crc.epoch u (mapGet (fun _ => 0) q.crc.epoch u + 1) }
  else q

theorem crcCfgStored_clears (hc : bitAt (p.rg (CRC_CFG.reg.key u 0)) 0 = true) (hn : bitAt new 0 = false) (q : State)
    (hq : q = p.setRg (CRC_CFG.reg.key u 0) new) : crcCfgStored p u new =
      { q with crc.epoch := mapSet (fun _ => 0) q.crc.epoch u (mapGet (fun _ => 0) q.crc.epoch u + 1) } := by
  subst hq
  exact if_pos (by rw [hc, hn]; rfl)

theorem crcCfgStored_keeps (h : bitAt (p.rg (CRC_CFG.reg.key u 0)) 0 = false ∨ bitAt new 0 = true) :
    crcCfgStored p u new = p.setRg (CRC_CFG.reg.key u 0) new :=
  if_neg (by rcases h with h | h <;> simp [h])

theorem crcCfgWrite_locked (which : Nat) (h : CrcCfgLocked p u new which) :
    p.crcCfgWrite u which new = p.evt CRC_STAT.CFG_REFUSED (0xC4 + u) u := if_pos ((crcCfgLocked_iff p u new which).2 h)

theorem crcCfgWrite_open (k : Fin 4) (h : ¬ CrcCfgLocked p u new k.val) : p.crcCfgWrite u k.val new =
    if !crcCfgFits p u new k.val then p
    else if k.val = 0 then crcCfgStored p u new
    else if k.val = 1 then p.put CRC_POLY.VALUE new u
    else if k.val = 2 then p.put CRC_INIT.VALUE new u
    else p.put CRC_XOROUT.VALUE new u :=
  have unlocked := mt (crcCfgLocked_iff p u new k.val).1 h
  match k with
  | 0 => if_neg unlocked
  | 1 => if_neg unlocked
  | 2 => if_neg unlocked
  | 3 => if_neg unlocked

theorem exec_crcuCfgWrite (a : Access) (k which : Fin 4) (f : Fld) (h : p.takes a true f k.val 0 (wdata a) = true)
    (hf : f = crcCfgReg which.val) : exec (.crcuCfgWrite a k which) p = .next (p.finish
      (((p.pass a.dt).crcCfgWrite k.val which.val ((p.pass a.dt).merged f (accMask a f k.val 0) (wdata a) k.val)).setRsp .okay 0)) := by
  subst hf
  exact State.writeReg_takes p a _ _ _ _ _ h

end

/-! Results (R443). -/

theorem crcRes_none (h : p.crc.due.find? (fun d => d.1 == u) = none) : p.crcRes u = p := by
  simp only [State.crcRes, h]

theorem crcRes_some (d : Nat × CrcEntry) (h : p.crc.due.find? (fun d => d.1 == u) = some d) (q : State)
    (hq : q = { p with crc.due := p.crc.due.erase d }) : p.crcRes u =
      if (q.crcFifo u).length < 16 then
        ((q.setCrcFifo u (q.crcFifo u ++ [d.2])).count CRC_CNT.COUNT u).raise (0xC0 + u)
      else (q.count CRC_CNT.COUNT (4 + u)).evt CRC_STAT.OVF (0xC4 + u) u := by
  subst hq
  simp only [State.crcRes, h]
  rfl

theorem exec_crcRes (dt : Nat) (k : Fin 4) (h : p.awake dt = true) :
    exec (.crcRes dt k) p = .next (p.finish ((p.pass dt).crcRes k.val)) := State.engine_awake p dt (fun s => s.crcRes k.val) h

theorem crcPop_empty (h : p.crcFifo u = []) : p.crcPop u = (p, 0) := by simp only [State.crcPop, h]

theorem crcPop_oldest (e : CrcEntry) (l : List CrcEntry) (h : p.crcFifo u = e :: l) : p.crcPop u = (p.setCrcFifo u l, e.result) := by
  simp only [State.crcPop, h]

theorem exec_crcuFifoVal (a : Access) (k : Fin 4) (h : p.takes a false CRC_FIFO_VAL.reg k.val 0 0 = true) :
    exec (.crcuFifoVal a k) p = .next (p.finish (((p.pass a.dt).crcPop k.val).1.setRsp .okay
      (((p.pass a.dt).crcPop k.val).2.land (accMask a CRC_FIFO_VAL.reg k.val 0)))) :=
  State.readReg_takes p a _ _ _ h

end Sys2Proof.Proofs

namespace Sys2Proof.Proofs

open Sys2Proof Sys2Proof.Machine

/-- Settles O55: the published values by computation; the commands, data and configuration by what permits them, results by the FIFO. -/
theorem checkUnits : Obligations.CheckUnits := by
  refine ⟨by decide +kernel,
    fun t u => ⟨crcRestart_frame t u, fun hm => ⟨crcRestart_fixed t u hm, crcRestart_sequence t u hm, crcRestart_address t u hm⟩⟩,
    fun a u s => ⟨exec_crcRestart s a u, exec_crcFlush s a u⟩,
    fun a u s => ⟨fun h => ⟨fun ht => ?_, fun ht => ?_⟩, fun h => ⟨fun ht => ?_, fun ht => ?_⟩⟩,
    crcCfgOk_iff,
    fun a u k s h => ?_,
    fun dt u s h => ⟨fun hn => ?_, fun d hd => ⟨fun hl => ?_, fun hl => ?_⟩⟩,
    fun a u s h => ⟨fun he => ?_, fun e l he => ?_⟩⟩
  · exact (exec_crcuData s a u h).trans (by rw [State.crcDataWrite, crcFeedSw_eq, if_pos ht])
  · exact (exec_crcuData s a u h).trans (by rw [State.crcDataWrite, crcFeedSw_eq, if_neg ht])
  · exact (exec_crcuData1 s a u h).trans (by rw [crcFeedSw_eq, if_pos ht])
  · exact (exec_crcuData1 s a u h).trans (by rw [crcFeedSw_eq, if_neg ht])
  · have hx := exec_crcuCfgWrite s a u k _ h rfl
    refine ⟨fun hl => ?_, fun hv hl => ?_, fun hv hl => ⟨fun hk hc hn => ?_, fun hk hn => ?_, fun hk => ?_, fun hk => ?_, fun hk => ?_⟩⟩
    · exact hx.trans (by rw [crcCfgWrite_locked _ _ _ _ hl])
    · exact hx.trans (by rw [crcCfgWrite_open _ _ _ _ hl, crcCfgFits, hv]; rfl)
    · exact hx.trans (by rw [crcCfgWrite_open _ _ _ _ hl, crcCfgFits, hv, if_pos hk, crcCfgStored_clears _ _ _ hc hn _ rfl]; rfl)
    · exact hx.trans (by rw [crcCfgWrite_open _ _ _ _ hl, crcCfgFits, hv, if_pos hk, crcCfgStored_keeps _ _ _ hn]; rfl)
    · exact hx.trans (by rw [crcCfgWrite_open _ _ _ _ hl, crcCfgFits, hv, hk]; rfl)
    · exact hx.trans (by rw [crcCfgWrite_open _ _ _ _ hl, crcCfgFits, hv, hk]; rfl)
    · exact hx.trans (by rw [crcCfgWrite_open _ _ _ _ hl, crcCfgFits, hv, hk]; rfl)
  · exact (exec_crcRes s dt u h).trans (by rw [crcRes_none _ _ hn])
  · exact (exec_crcRes s dt u h).trans (by rw [crcRes_some _ _ d hd _ rfl, if_pos hl])
  · exact (exec_crcRes s dt u h).trans (by rw [crcRes_some _ _ d hd _ rfl, if_neg (Nat.not_lt.2 hl)])
  · rw [exec_crcuFifoVal s a u h, crcPop_empty _ _ he, setRsp_zero_land]
  · rw [exec_crcuFifoVal s a u h, crcPop_oldest _ _ e l he]

end Sys2Proof.Proofs
end

section
/-! SUPPORT. Flash commands, and the ledger's registers for firmware (R454, R465 to R467, R473, R474). -/

namespace Sys2Proof.Proofs

open Sys2Proof Sys2Proof.Machine

variable (p : State)

/-! NVM_CMD (R465, R466). -/

section
variable (w act : Nat)

/-- Does R466 refuse action `act` of word `w`? -/
abbrev NvmRefused : Prop :=
  p.nvm ≠ none ∨ p.mode = 0 ∨ p.mode = 4 ∨ p.mode = 5 ∨ (act = 2 ∧ getBits w 8 24 % 65536 ≠ 0) ∨ (act = 3 ∧ getBits w 8 24 % 256 ≠ 0) ∨
    (2 ≤ act ∧ p.get LDR_STAT.LOADED = 1 ∧ p.get LDR_STAT.SLOT = getBits w 2 1)

theorem nvmBad_iff (h : getBits w 0 2 = act) (h1 : 1 ≤ act) : p.nvmBad w = true ↔ NvmRefused p w act := by
  have named : act ≠ 0 := by omega
  simp only [State.nvmBad, h, Bool.or_eq_true, Bool.and_eq_true, beq_iff_eq, bne_iff_ne, decide_eq_true_eq, Option.isSome_iff_ne_none,
    on_iff_get_one p 0 LDR_STAT.LOADED 0 rfl, named, or_false, or_assoc, and_assoc]

theorem nvmCmd_refused (stg : List Nat) (h : p.nvmBad w = true) : p.nvmCmd w stg = p.evt LDR_EVT.NVM_REFUSED 0xC8 := if_pos h

/-- NVM_STAT of a block that runs action `act`. -/
def nvmBusy : State := (p.put NVM_STAT.BUSY 1).put NVM_STAT.ACTION act

theorem nvmCmd_starts (stg : List Nat) (ha : getBits w 0 2 = act) (h : ¬ p.nvmBad w = true) : p.nvmCmd w stg =
    { nvmBusy p act with nvm := some (if act = 1 then headerJob w
      else (nvmBusy p act).writeJob w (if act = 3 then stg.flatMap (fun v => leBytes v 8) else [])) } := by
  subst ha
  exact if_neg h

/-- Write enable, opcode and address, then 8 cycles for each byte of the page. -/
theorem writeJob_eq (page : List Nat) : p.writeJob w page =
    ⟨w, .send, page, 0, 16 + 8 * (if p.get NVM_CFG.ADDR4 = 1 then 4 else 3) + 8 * page.length, 0, 1, p.get NVM_CFG.NVM_DIV, 0⟩ := by
  simp only [State.writeJob, State.nvmAddrBytes, on_iff_get_one p 0 NVM_CFG.ADDR4 0 rfl, NvmJob.mk.injEq, true_and, and_true]
  omega

theorem exec_flashCommand (a : Access) (h1 : 1 ≤ act) (h3 : act ≤ 3) (h : p.serves a NVM_CMD.reg 0 (setBits (wdata a) 0 2 act) = true) :
    exec (if act = 1 then .verify a else if act = 2 then .erase a else .program a) p = .next (p.finish ((((p.pass a.dt).nvmCmd
      (setBits (wdata a) 0 2 act) ((p.pass a.dt).staged NVM_CMD.reg.base a.init.val)).pmu evCmdServed 1).setRsp .okay 0)) := by
  obtain rfl | rfl | rfl : act = 1 ∨ act = 2 ∨ act = 3 := by omega
  all_goals exact State.served_NVM_CMD p a 0 _ h

end

/-! The end of a write (R465). -/

/-- BUSY and the write-protect output return to 0, and event `f` tells how the command ended. -/
def flashEnded (f : Fld) : State := State.evt { (p.put NVM_STAT.BUSY 0).put NVM_STAT.WP 0 with nvm := none } f 0xC8

theorem nvmDone_none (timeout : Bool) (h : p.nvm = none) : p.nvmDone timeout = p := by simp only [State.nvmDone, h]

theorem nvmDone_other (timeout : Bool) (j : NvmJob) (h : p.nvm = some j) (hp : j.phase ≠ .poll) : p.nvmDone timeout = p := by
  simp only [State.nvmDone, h, if_neg hp]

theorem nvmDone_written (j : NvmJob) (h : p.nvm = some j) (hp : j.phase = .poll) :
    p.nvmDone false = flashEnded p LDR_EVT.NVM_DONE := by
  simp only [State.nvmDone, h, if_pos hp]
  rfl

theorem nvmDone_timeout (j : NvmJob) (h : p.nvm = some j) (hp : j.phase = .poll) :
    p.nvmDone true = flashEnded (p.advanceTo (j.startAt + 4000000000)) LDR_EVT.NVM_FAIL := by
  simp only [State.nvmDone, h, if_pos hp, if_true, State.ldrEvt, flashEnded]

theorem exec_nvmDone (dt : Nat) (timeout : Bool) (h : p.awake dt = true) :
    exec (.nvmDone dt timeout) p = .next (p.finish ((p.pass dt).nvmDone timeout)) :=
  State.engine_awake p dt (fun s => s.nvmDone timeout) h

/-! LDG_FW_DATA (R473, R474). -/

section
variable (d : Nat)

theorem ldgRequest_queued (b : LdgBody) (h : p.ledger.queue.length < 16) : p.ldgRequest b =
    (State.put { p with ledger.queue := p.ledger.queue ++ [⟨b, none⟩] } LDG_STAT.QUEUED (p.ledger.queue.length + 1), true) := if_pos h

theorem ldgRequest_busy (b : LdgBody) (h : 16 ≤ p.ledger.queue.length) : p.ldgRequest b = (p.evt LDG_EVT.BUSY 0xC9, false) :=
  if_neg (Nat.not_lt.2 h)

theorem ldgFirmware_budget (h : 16 ≤ p.ledger.fwUsed) : p.ldgFirmware d = p.evt LDG_EVT.BUDGET 0xC9 := if_pos h

theorem ldgFirmware_requests (h : p.ledger.fwUsed < 16) (r : State × Bool) (hr : p.ldgRequest (.fw (p.get LDG_FW_ADDR.WORD) d) = r) :
    p.ldgFirmware d = if r.2 then { r.1 with ledger.fwUsed := p.ledger.fwUsed + 1 } else r.1 := by
  subst hr
  exact if_neg (Nat.not_le.2 h)

theorem exec_ldgFwData (a : Access) (h : p.takes a true LDG_FW_DATA.reg 0 0 (wdata a) = true) :
    exec (.ldgFwData a) p = .next (p.finish (((p.pass a.dt).ldgFirmware (wdata a)).setRsp .okay 0)) :=
  State.writeReg_takes p a _ _ _ _ _ h

end

/-! LDG_RD_DATA (R467, R479). -/

/-- Reading word `w` reports what its decode says. -/
theorem ldgNote_eq (w : Nat) (v : Inner) (h : (innerDecode (p.ldgRaw w).1 (p.ldgRaw w).2).2 = v) : p.ldgNote w =
    if v = .good then p else if v = .corrected then p.evt LDG_EVT.CE 0xC9 else p.evt LDG_EVT.UE 0xC9 := by
  rw [State.ldgNote, h]
  cases v <;> rfl

theorem exec_ldgRdData (a : Access) (h : p.takes a false LDG_RD_DATA.reg 0 0 0 = true) (w : Nat)
    (hw : (p.pass a.dt).get (LDG_RD_ADDR.WORD.of a.init.val) = w) :
    exec (.ldgRdData a) p = .next (p.finish (((p.pass a.dt).ldgNote w).setRsp .okay
      ((innerDecode ((p.pass a.dt).ldgRaw w).1 ((p.pass a.dt).ldgRaw w).2).1.land (accMask a LDG_RD_DATA.reg 0 0)))) := by
  subst hw
  exact State.readReg_takes p a _ _ _ h

end Sys2Proof.Proofs

namespace Sys2Proof.Proofs

open Sys2Proof Sys2Proof.Machine

/-- Settles O56: NVM_CMD by its refusal and its action, the end of a write by its phase, the ledger's registers by budget, queue and
verdict. -/
theorem flashCommandsAndLedgerRegisters : Obligations.FlashCommandsAndLedgerRegisters := by
  refine ⟨fun a s act h1 h3 h => ?_, fun dt timeout s h => ⟨fun hn => ?_, fun j hj => ⟨fun hp => ?_, fun hp ht => ?_, fun hp ht => ?_⟩⟩,
    fun a s h => ⟨fun hb => ?_, fun hb hq => ?_, fun hb hq => ?_⟩, fun t w d => rfl,
    fun a s h => ⟨fun hv => ?_, fun hv => ?_, fun hv => ?_⟩⟩
  · have hx := exec_flashCommand s act a h1 h3 h
    have ha : getBits (setBits (wdata a) 0 2 act) 0 2 = act := by
      rw [getBits_setBits_same]
      omega
    have bad := nvmBad_iff (s.pass a.dt) (setBits (wdata a) 0 2 act) act ha h1
    refine ⟨fun hb => ?_, fun hb => ⟨?_, ?_, ?_⟩⟩
    · exact hx.trans (by rw [nvmCmd_refused _ _ _ (bad.2 hb)])
    · rintro rfl
      exact hx.trans (by rw [nvmCmd_starts _ _ _ _ ha (mt bad.1 hb)]; rfl)
    · rintro rfl
      exact hx.trans (by rw [nvmCmd_starts _ _ _ _ ha (mt bad.1 hb), writeJob_eq]; rfl)
    · rintro rfl
      exact hx.trans (by rw [nvmCmd_starts _ _ _ _ ha (mt bad.1 hb), writeJob_eq]; rfl)
  · exact (exec_nvmDone s dt timeout h).trans (by rw [nvmDone_none _ _ hn])
  · exact (exec_nvmDone s dt timeout h).trans (by rw [nvmDone_other _ _ j hj hp])
  · subst ht
    exact (exec_nvmDone s dt false h).trans (by rw [nvmDone_written _ j hj hp, flashEnded])
  · subst ht
    exact (exec_nvmDone s dt true h).trans (by rw [nvmDone_timeout _ j hj hp, flashEnded])
  · exact (exec_ldgFwData s a h).trans (by rw [ldgFirmware_budget _ _ hb])
  · exact (exec_ldgFwData s a h).trans (by rw [ldgFirmware_requests _ _ hb _ (ldgRequest_queued _ _ hq)]; rfl)
  · exact (exec_ldgFwData s a h).trans (by rw [ldgFirmware_requests _ _ hb _ (ldgRequest_busy _ _ hq)]; rfl)
  · exact (exec_ldgRdData s a h _ rfl).trans (by rw [ldgNote_eq _ _ _ hv]; rfl)
  · exact (exec_ldgRdData s a h _ rfl).trans (by rw [ldgNote_eq _ _ _ hv]; rfl)
  · exact (exec_ldgRdData s a h _ rfl).trans (by rw [ldgNote_eq _ _ _ hv]; rfl)

end Sys2Proof.Proofs
end

section
/-! SUPPORT. Submissions, completions and receive queues of the service cores, and the mailboxes (R415 to R418, R424 to R427). -/

namespace Sys2Proof.Proofs

open Sys2Proof Sys2Proof.Machine

/-! The four rows of R415. -/

section
variable (p : State) (c w : Nat)

/-- What SC_TX_DESC0 of the core holds: the pointer, the length and the tag of the submission. -/
abbrev subDesc : Nat := p.rg ((SC_TX_DESC0.reg.of c).key 0 0)
abbrev subPtr : Nat := subDesc p c % 2 ^ 32
abbrev subLen : Nat := getBits (subDesc p c) 32 14
abbrev subTag : Nat := getBits (subDesc p c) 46 16

abbrev SubFull : Prop := 32 ≤ (p.core c).inprog + (p.core c).done.length
abbrev SubBadPtr : Prop := (p.ptrCheck (subPtr p c)).isSome = true ∨ (p.buf (subPtr p c)).refs ≠ 1
abbrev SubBadLen : Prop := subLen p c < 14 ∨ 16320 < subLen p c ∨ bufBytes (p.pool (ptrPool (subPtr p c))).size < subLen p c + 64
abbrev SubBadField : Prop := (bitAt w 9 = true ∧ (bitAt w 4 = true ∨ bitAt w 5 = true)) ∨
  (bitAt w 4 = false ∧ bitAt w 5 = false ∧ 0xA < w % 16)

theorem subBadField_iff : ((bitAt w 9 && (bitAt w 4 || bitAt w 5)) || (!bitAt w 4 && !bitAt w 5 && decide (0xA < w % 16))) = true ↔
    SubBadField w := by
  simp only [Bool.or_eq_true, Bool.and_eq_true, Bool.not_eq_true', decide_eq_true_eq, and_assoc]

theorem subDest_eq : getBits w 0 4 = w % 16 := getBits_whole w 4

/-! An accepted submission (R416, R417). -/

/-- The job of the submission, and the core with one more in progress. -/
def subStarted : State :=
  let r := p.fresh.1.setJob p.fresh.2
    ⟨8 + c, subTag p c, (p.core c).epoch, bitAt w 8, bitAt w 9, !bitAt w 4 && !bitAt w 5, subLen p c, false, false, 0⟩
  r.setCore c { r.core c with inprog := (r.core c).inprog + 1 }

/-- The bridge reads the first bytes of the frame. -/
def subHead : State × Option (List Nat) :=
  if bitAt w 4 && !bitAt w 5 then (subStarted p c w).fetchPayload (subPtr p c) (min (subLen p c) 64) else (subStarted p c w, some [])

/-- The frame of the submission, in the state `t` that its first bytes `b` leave. -/
def subFrame (t : State) (b : List Nat) : Frame :=
  { Frame.new (0x20 + c) t.st80.toNat (t.get GLB_BELL_NUM.BELL) with
    ptr := subPtr p c, size := bufBytes (t.pool (ptrPool (subPtr p c))).size, len := subLen p c, tc := getBits w 10 3,
    vlan := if getBits w 16 12 = 0 then 1 else getBits w 16 12, tci := (outerTci t.customTpid b).getD 0,
    tagged := (outerTci t.customTpid b).isSome, job := some p.fresh.2, mac := beNat (b.take 12),
    launch := if bitAt w 9 then some (t.rg ((SC_TX_LAUNCH.reg.of c).key 0 0)) else none }

/-- Where the frame goes: to its port, or to the bridge. -/
def subFwd (t : State) (b : List Nat) : Fwd :=
  ⟨subFrame p c w t b, !bitAt w 5 && bitAt w 4, if !bitAt w 5 && !bitAt w 4 then 2 ^ (w % 16) else 0, 0, false, 0, 0, false,
    !(!bitAt w 5 && !bitAt w 4)⟩

section
variable (hf : ¬ SubFull p c) (hp : ¬ SubBadPtr p c) (hl : ¬ SubBadLen p c) (hd : ¬ SubBadField w)

theorem submit_full (h : SubFull p c) : p.submit c w = p.evt SC_EVT.TXQ_FULL 0xB0 := if_pos h

include hf

theorem submit_badPtr (h : SubBadPtr p c) : p.submit c w = p.coreDone c stBadField (subTag p c) 0 := by
  simp only [State.submit, getBits_whole, if_neg hf, if_pos h]

include hp

theorem submit_badLen (h : SubBadLen p c) : p.submit c w = p.coreDone c stBound (subTag p c) 0 := by
  simp only [State.submit, getBits_whole, if_neg hf, if_neg hp, if_pos h]

include hl

theorem submit_badField (h : SubBadField w) : p.submit c w = p.coreDone c stBadField (subTag p c) 0 := by
  simp only [State.submit, subDest_eq, getBits_whole (subDesc p c), if_neg hf, if_neg hp, if_neg hl, if_pos ((subBadField_iff w).2 h)]

include hd

/-- An uncorrectable read drops the frame. -/
theorem submit_unread (t : State) (h : subHead p c w = (t, none)) :
    p.submit c w = (t.release (subPtr p c) (0x20 + c)).jobFinish p.fresh.2 stMemUncorr none := by
  simp only [subHead, subStarted] at h
  simp only [State.submit, State.onCore, subDest_eq, getBits_whole (subDesc p c), if_neg hf, if_neg hp, if_neg hl,
    if_neg (mt (subBadField_iff w).1 hd), h]

/-- A read frame waits for its pass where one is asked for, and is else forwarded. -/
theorem submit_read (t : State) (b : List Nat) (h : subHead p c w = (t, some b)) : p.submit c w =
    if bitAt w 5 || bitAt w 6 || bitAt w 7 then
      { t with cls.subs := t.cls.subs ++ [⟨subFwd p c w t b, bitAt w 5, bitAt w 6, bitAt w 7⟩] }
    else t.forward (subFwd p c w t b) := by
  simp only [subHead, subStarted] at h
  simp only [State.submit, State.onCore, subDest_eq, getBits_whole (subDesc p c), if_neg hf, if_neg hp, if_neg hl,
    if_neg (mt (subBadField_iff w).1 hd), h]
  rfl

end

theorem exec_scTxDesc1 (a : Access) (h : p.takes a true SC_TX_DESC1.reg 0 0 (wdata a) = true) :
    exec (.scTxDesc1 a) p = .next (p.finish (((p.pass a.dt).submit (coreOf a) (wdata a)).setRsp .okay 0)) :=
  State.writeReg_takes p a _ _ _ _ _ h

end

/-! Completions and received frames (R417, R418). -/

section
variable (p : State) (c : Nat)

theorem scTxDone_empty (h : (p.core c).done = []) : p.scTxDone c = (p, 0) := by rw [State.scTxDone, h]

theorem scTxDone_oldest (e : Nat × Nat) (l : List (Nat × Nat)) (h : (p.core c).done = e :: l) :
    p.scTxDone c = (p.setCore c { p.core c with done := l }, e.1) := by
  rw [State.scTxDone, h]
  rfl

theorem exec_scTxDone (a : Access) (h : p.takes a false SC_TX_DONE.reg 0 0 0 = true) (r : State × Nat)
    (hr : (p.pass a.dt).scTxDone (coreOf a) = r) :
    exec (.scTxDone a) p = .next (p.finish (r.1.setRsp .okay (r.2.land (accMask a SC_TX_DONE.reg 0 0)))) := by
  subst hr
  exact State.readReg_takes p a _ _ _ h

theorem scRxPop_empty (h : (p.core c).rxq = []) : p.scRxPop c = (p, 0) := by rw [State.scRxPop, h]

theorem scRxPop_oldest (e : Nat) (l : List Nat) (h : (p.core c).rxq = e :: l) :
    p.scRxPop c = (p.setCore c { p.core c with rxq := l }, e % 2 ^ 32 + 2 ^ 32 + l.length * 2 ^ 33) := by
  rw [State.scRxPop, h]
  rfl

theorem exec_scRxPop (a : Access) (h : p.takes a false SC_RX_POP.reg 0 0 0 = true) (r : State × Nat)
    (hr : (p.pass a.dt).scRxPop (coreOf a) = r) :
    exec (.scRxPop a) p = .next (p.finish (r.1.setRsp .okay (r.2.land (accMask a SC_RX_POP.reg 0 0)))) := by
  subst hr
  exact State.readReg_takes p a _ _ _ h

end

/-! Doorbells (R425). -/

section
variable (p : State) (c w : Nat)

/-- MBX_DB_RES of the writer shows result `v`. -/
def doorbellShown (t : State) (v : Nat) : State := t.setRg ((MBX_DB_RES.reg.of c).key 0 0) (1 + v * 2)

/-- The first two words of the request area of the mailbox that word `w` names. -/
abbrev mbxRequest : State × List Nat := p.staffWords (128 * (w % 16)) 2

/-- Is the mailbox that word `w` names not served by firmware? -/
abbrev MbxUnserved : Prop := (p.role (0x30 + w % 16)).func ≠ .firmware ∨ (p.role (0x30 + w % 16)).owner = none

/-- Does word `w` name another generation of the mailbox? -/
abbrev MbxStale : Prop := getBits w 32 16 ≠ (p.role (0x30 + w % 16)).gen.toNat

/-- The mailbox with the request posted. -/
def mbxPosted : State :=
  let h0 := (mbxRequest p w).2.getD 0 0
  let t := (mbxRequest p w).1.setMbx (w % 16) ⟨getBits h0 0 8, getBits h0 8 8, getBits ((mbxRequest p w).2.getD 1 0) 0 32,
    (p.role (0x30 + w % 16)).gen.toNat, (mbxRequest p w).1.get GLB_BELL_NUM.BELL⟩
  ((t.put MBX_STAT.STATE 1 (w % 16)).put MBX_STAT.SEQ (getBits w 16 16) (w % 16)).count SC_CNT.COUNT 0

/-- A doorbell takes the first of the five rows of R425. -/
theorem mbxDoorbell_eq : p.mbxDoorbell c w =
    if MbxUnserved p w then doorbellShown c p 1
    else if MbxStale p w then doorbellShown c ((p.count GLB_STALE_CNT.COUNT).count SC_CNT.COUNT 2) 2
    else if p.get MBX_STAT.STATE (w % 16) = 1 then doorbellShown c p 3
    else if getBits ((mbxRequest p w).2.getD 0 0) 32 16 ≠ getBits w 16 16 then doorbellShown c (mbxRequest p w).1 4
    else doorbellShown c (mbxPosted p w) 0 := by
  simp only [State.mbxDoorbell, subDest_eq]
  rfl

theorem exec_mbxDb (a : Access) (h : p.takes a true MBX_DB.reg 0 0 (wdata a) = true) :
    exec (.mbxDb a) p = .next (p.finish (((p.pass a.dt).mbxDoorbell a.init.val (wdata a)).setRsp .okay 0)) :=
  State.writeReg_takes p a _ _ _ _ _ h

end

/-! Answers (R424, R426, R427). -/

section
variable (p : State) (m : Nat)

/-- Does an answer with word `w` come too late for the mailbox: no request posted, or another one? -/
abbrev MbxLate (w : Nat) : Prop := p.get MBX_STAT.STATE m ≠ 1 ∨ getBits w 16 16 ≠ p.get MBX_STAT.SEQ m

theorem mbxDone_range (w : Nat) : rangeOk MBX_DONE.reg.base w = decide (getBits w 48 9 ≤ 496) := by
  have ranged : rangeOk MBX_DONE.reg.base w = within MBX_DONE.LEN 0 496 w := rfl
  rw [ranged, within, decide_eq_true (Nat.zero_le _), Bool.true_and]
  rfl

theorem mbxDoneCmd_dropped (w : Nat) (h : 496 < getBits w 48 9) : p.mbxDoneCmd w = p :=
  if_neg (by rw [mbxDone_range, decide_eq_true_eq]; exact Nat.not_le.2 h)

theorem mbxDoneCmd_ranged (w : Nat) (h : getBits w 48 9 ≤ 496) : p.mbxDoneCmd w =
    if MbxLate p (w % 16) w then p.evt SC_EVT.MBX_LATE 0xB0
    else (p.mbxAnswer (w % 16) (getBits w 32 16) (getBits w 48 9)).count SC_CNT.COUNT 1 := by
  have ranged : rangeOk MBX_DONE.reg.base w = true := by rw [mbxDone_range, decide_eq_true h]
  simp only [State.mbxDoneCmd, if_pos ranged, State.mbxDoneWrite, subDest_eq]
  rfl

theorem exec_mbxDone (a : Access) (h : p.takes a true MBX_DONE.reg 0 0 (wdata a) = true) :
    exec (.mbxDone a) p = .next (p.finish (((p.pass a.dt).mbxDoneCmd (wdata a)).setRsp .okay 0)) :=
  State.writeReg_takes p a _ _ _ _ _ h

/-- Have MBX_TMO_BELLS bells passed since the post, counted at bell number `bell`? -/
abbrev MbxOld (bell : Nat) : Prop := p.get SC_SVC_CFG.MBX_TMO_BELLS ≤ (bell + 2 ^ 32 - (p.mbxOf m).bell) % 2 ^ 32

/-- A posted request is answered where the role of its mailbox changes, and where it is old. -/
theorem mbxEdge_eq (changed : List Nat) : p.mbxEdge changed m =
    if p.get MBX_STAT.STATE m ≠ 1 then p
    else if 0x30 + m ∈ changed then p.mbxAnswer m 0x11 0
    else if MbxOld p m (p.get GLB_BELL_NUM.BELL) then (p.mbxAnswer m 0x10 0).count SC_CNT.COUNT 3
    else p := by
  simp only [State.mbxEdge, List.contains_iff_mem]
  rfl

theorem mbxNext_iff : p.mbxNext m = true ↔ p.mode ≠ 5 ∧ p.dozing = false ∧ p.get MBX_STAT.STATE m = 1 ∧
    MbxOld p m (p.get GLB_BELL_NUM.BELL + 1) := by
  rw [← and_assoc, ← fixedRuns_iff]
  simp only [State.mbxNext, Bool.and_eq_true, beq_iff_eq, decide_eq_true_eq, and_assoc]

theorem exec_mbxTimeout (k : Fin 16) : exec (.mbxTimeout k) p = p.onEdge (fun s => s.mbxNext k.val) := rfl

end

end Sys2Proof.Proofs

namespace Sys2Proof.Proofs

open Sys2Proof Sys2Proof.Machine

/-- Settles O54: a submission, a doorbell and an answer by the first row that holds, a read by its FIFO, a mailbox at an edge by what
changed and how old its request is. -/
theorem coreQueuesAndMailboxes : Obligations.CoreQueuesAndMailboxes := by
  refine ⟨fun a s h => ?_, fun a s => ⟨fun h => ⟨fun he => ?_, fun e l he => ?_⟩, fun h => ⟨fun he => ?_, fun e l he => ?_⟩⟩,
    fun a s h => ?_, fun t m status len => rfl, fun a s h => ⟨fun hr => ?_, fun hr hl => ?_, fun hr hl => ?_⟩,
    fun t m changed => ⟨fun hp hc => ?_, fun hp hc ho => ?_, fun hn => ?_⟩, fun m s h => ?_⟩
  · have hx := exec_scTxDesc1 s a h
    refine ⟨fun hf => ?_, fun hf hp => ?_, fun hf hp hl => ?_, fun hf hp hl hd => ?_, fun hf hp hl hd => ⟨fun hu => ?_, fun b hb => ⟨fun hs => ?_, fun hs => ?_⟩⟩⟩
    · exact hx.trans (by rw [submit_full _ _ _ hf])
    · exact hx.trans (by rw [submit_badPtr _ _ _ hf hp])
    · exact hx.trans (by rw [submit_badLen _ _ _ hf hp hl])
    · exact hx.trans (by rw [submit_badField _ _ _ hf hp hl hd])
    · exact hx.trans (by rw [submit_unread _ _ _ hf hp hl hd _ (Prod.ext rfl hu)]; rfl)
    · exact hx.trans (by rw [submit_read _ _ _ hf hp hl hd _ b (Prod.ext rfl hb), if_pos hs]; rfl)
    · exact hx.trans (by rw [submit_read _ _ _ hf hp hl hd _ b (Prod.ext rfl hb), if_neg hs]; rfl)
  · rw [exec_scTxDone s a h _ (scTxDone_empty _ _ he), setRsp_zero_land]
  · rw [exec_scTxDone s a h _ (scTxDone_oldest _ _ e l he)]
  · rw [exec_scRxPop s a h _ (scRxPop_empty _ _ he), setRsp_zero_land]
  · rw [exec_scRxPop s a h _ (scRxPop_oldest _ _ e l he)]
  · have hx := exec_mbxDb s a h
    refine ⟨fun hu => ?_, fun hu hs => ?_, fun hu hs hp => ?_, fun hu hs hp hq => ?_, fun hu hs hp hq => ?_⟩
    · exact hx.trans (by rw [mbxDoorbell_eq, if_pos hu, doorbellShown])
    · exact hx.trans (by rw [mbxDoorbell_eq, if_neg hu, if_pos hs, doorbellShown])
    · exact hx.trans (by rw [mbxDoorbell_eq, if_neg hu, if_neg hs, if_pos hp, doorbellShown])
    · exact hx.trans (by rw [mbxDoorbell_eq, if_neg hu, if_neg hs, if_neg hp, if_pos hq, doorbellShown])
    · exact hx.trans (by rw [mbxDoorbell_eq, if_neg hu, if_neg hs, if_neg hp, if_neg (not_not_intro hq), doorbellShown]; rfl)
  · exact (exec_mbxDone s a h).trans (by rw [mbxDoneCmd_dropped _ _ hr])
  · exact (exec_mbxDone s a h).trans (by rw [mbxDoneCmd_ranged _ _ hr, if_pos hl])
  · exact (exec_mbxDone s a h).trans (by rw [mbxDoneCmd_ranged _ _ hr, if_neg hl])
  · rw [mbxEdge_eq, if_neg (not_not_intro hp), if_pos hc]
  · rw [mbxEdge_eq, if_neg (not_not_intro hp), if_neg hc, if_pos ho]
  · rw [mbxEdge_eq]
    rcases hn with hp | ⟨hc, ho⟩
    · rw [if_pos hp]
    · rw [if_neg hc, if_neg ho, ite_self]
  · have hx := onEdge_runs s (fun t => t.mbxNext m.val) h
    refine ⟨fun hd => ?_, fun hd => ?_⟩
    · rw [exec_mbxTimeout, hx, if_pos ((mbxNext_iff _ _).2 hd)]
    · rw [exec_mbxTimeout, hx, if_neg (mt (mbxNext_iff _ _).1 hd)]

end Sys2Proof.Proofs
end

section
/-! SUPPORT. Power commands, entry to DOZE, WATCH and DEEP, wake decisions, reception while asleep, the always-on alarm
(R509 to R526). -/

namespace Sys2Proof.Proofs

open Sys2Proof Sys2Proof.Machine

variable (p : State)

/-! PWR_CMD (R509). -/

/-- Every power command ends the wait of a KEEP return. -/
def keepFreed : State := { p with pwr.keepLeft := none }

abbrev PwrIdle : Prop := p.get PWR_STAT.STATE = 0 ∧ p.mode = 2
abbrev PwrPends : Prop := p.get PWR_STAT.PEND = 1
/-- Is KEEP_PORT watched for, but released in WATCH (R521)? -/
abbrev KeepReleased : Prop := p.get PWR_WATCH.KEEP_EN = 1 ∧ bitAt (p.get PWR_WATCH.WATCH_PORTS) (p.get PWR_WATCH.KEEP_PORT) = false

abbrev pwrIdleBit : Bool := p.pwrState == pwActive && p.mode == 2
abbrev pwrKeepBit : Bool := p.on PWR_WATCH.KEEP_EN && !bitAt (p.get PWR_WATCH.WATCH_PORTS) (p.get PWR_WATCH.KEEP_PORT)

theorem pwrIdle_iff : pwrIdleBit p = true ↔ PwrIdle p := by rw [Bool.and_eq_true, beq_iff_eq, beq_iff_eq]; rfl

theorem pwrPends_iff : p.on PWR_STAT.PEND = true ↔ PwrPends p := on_iff_get_one p 0 PWR_STAT.PEND 0 rfl

theorem keepReleased_iff : pwrKeepBit p = true ↔ KeepReleased p := by
  rw [Bool.and_eq_true, on_iff_get_one p 0 PWR_WATCH.KEEP_EN 0 rfl, Bool.not_eq_true']

theorem dozing_iff : p.dozing = true ↔ p.get PWR_STAT.STATE = 2 ∨ p.get PWR_STAT.STATE = 3 := by
  rw [State.dozing, Bool.or_eq_true, beq_iff_eq, beq_iff_eq]
  rfl

theorem idle_not_pending_iff : (pwrIdleBit p && !p.on PWR_STAT.PEND) = true ↔ PwrIdle p ∧ ¬ PwrPends p := by
  rw [Bool.and_eq_true, pwrIdle_iff, Bool.not_eq_true', ← Bool.not_eq_true, pwrPends_iff]

theorem watch_refused_iff : (p.on PWR_STAT.PEND || pwrKeepBit p) = true ↔ PwrPends p ∨ KeepReleased p := by
  rw [Bool.or_eq_true, pwrPends_iff, keepReleased_iff]

theorem deep_refused_iff : (p.on PWR_STAT.PEND || !p.clkOn 12) = true ↔ PwrPends p ∨ p.clkOn 12 = false := by
  rw [Bool.or_eq_true, pwrPends_iff, Bool.not_eq_true']

section
variable (w : Nat)

theorem pwrCmd_doze (hw : getBits w 0 3 = 1) : p.pwrCmd w =
    if PwrIdle p ∧ ¬ PwrPends p then ((keepFreed p).pwrAccept 1).pwrEnter 1 else (keepFreed p).pwrRefuse :=
  (if_pos hw).trans (if_congr (idle_not_pending_iff (keepFreed p)) rfl rfl)

theorem pwrCmd_watch (hw : getBits w 0 3 = 2) : p.pwrCmd w =
    if PwrPends p ∨ KeepReleased p then (keepFreed p).pwrRefuse
    else if PwrIdle p then ((keepFreed p).pwrAccept 2).pwrEnter 2
    else if p.get PWR_STAT.STATE = 2 then { (keepFreed p).pwrAccept 2 with pwr.watchNext := true }
    else (keepFreed p).pwrRefuse :=
  (if_neg (by omega)).trans ((if_pos hw).trans
    (if_congr (watch_refused_iff (keepFreed p)) rfl (if_congr (pwrIdle_iff (keepFreed p)) rfl rfl)))

theorem pwrCmd_deep (hw : getBits w 0 3 = 3) : p.pwrCmd w =
    if PwrPends p ∨ p.clkOn 12 = false then (keepFreed p).pwrRefuse
    else if PwrIdle p then ((keepFreed p).pwrAccept 3).pwrEnter 3
    else if p.get PWR_STAT.STATE = 2 ∨ p.get PWR_STAT.STATE = 3 then (keepFreed p).deepFromSleep
    else (keepFreed p).pwrRefuse :=
  (if_neg (by omega)).trans ((if_neg (by omega)).trans ((if_pos hw).trans (if_congr (deep_refused_iff (keepFreed p)) rfl
    (if_congr (pwrIdle_iff (keepFreed p)) rfl (if_congr (dozing_iff (keepFreed p)) rfl rfl)))))

theorem pwrCmd_wake (hw : getBits w 0 3 = 4) : p.pwrCmd w =
    if p.get PWR_STAT.STATE = 1 ∨ p.get PWR_STAT.STATE = 2 ∨ p.get PWR_STAT.STATE = 3 then (keepFreed p).wake 1 0
    else (keepFreed p).pwrRefuse :=
  (if_neg (by omega)).trans ((if_neg (by omega)).trans ((if_neg (by omega)).trans (if_pos hw)))

theorem pwrCmd_ack (hw : getBits w 0 3 = 5) : p.pwrCmd w = (keepFreed p).put PWR_STAT.WAKE_OUT 0 :=
  (if_neg (by omega)).trans ((if_neg (by omega)).trans ((if_neg (by omega)).trans ((if_neg (by omega)).trans (if_pos hw))))

/-- The five actions are one write of PWR_CMD each. -/
theorem exec_powerCommand (a : Access) (act : Nat) (h1 : 1 ≤ act) (h5 : act ≤ 5)
    (h : p.takes a true PWR_CMD.reg 0 0 (setBits (wdata a) 0 3 act) = true) :
    exec (if act = 1 then .doze a else if act = 2 then .watch a else if act = 3 then .deep a else if act = 4 then .wake a else .ack a) p =
      .next (p.finish (((p.pass a.dt).pwrCmd (setBits (wdata a) 0 3 act)).setRsp .okay 0)) := by
  obtain rfl | rfl | rfl | rfl | rfl : act = 1 ∨ act = 2 ∨ act = 3 ∨ act = 4 ∨ act = 5 := by omega
  all_goals exact State.writeReg_takes p a _ _ _ _ _ h

end

/-! A wake decision (R516 to R520). -/

section
variable (cause detail : Nat)

theorem wake_deep (hr : p.chip.reqMain = false) (hc : cause = 7) : p.wake cause detail =
    { (p.wakeNote cause detail 5).put GLB_RST_CAUSE.DEEP_WAKE 1 with chip.reqMain := true, chip.reqLedger := true, chip.wakeCause := true } :=
  (if_pos hr).trans (if_pos hc)

theorem wake_deep_other (hr : p.chip.reqMain = false) (hc : cause ≠ 7) : p.wake cause detail = p :=
  (if_pos hr).trans (if_neg hc)

theorem wake_in_reset (hr : p.chip.reqMain = true) (hm : p.chip.mainReset = true) : p.wake cause detail = p :=
  (if_neg (Bool.not_eq_false _ ▸ hr)).trans (if_pos hm)

section
variable (hr : p.chip.reqMain = true) (hm : p.chip.mainReset = false)
include hr hm

/-- With the main domain up, the state decides. -/
theorem wake_awake : p.wake cause detail =
    if p.get PWR_STAT.STATE = 1 then
      if cause = 2 ∨ cause = 5 ∨ cause = 6 then p
      else
        let x := (p.pwrEvt PWR_STAT.ENTRY_ABORT).wakeNote cause detail 1
        if x.pwr.e0 = true then x.wakeStart
        else State.count { (x.put PWR_STAT.STATE 0).put PWR_STAT.PEND 0 with pwr.deepWait := none } PWR_CNT.COUNT 0
    else if p.get PWR_STAT.STATE = 2 ∨ p.get PWR_STAT.STATE = 3 then
      ((if cause = 5 then { p with pwr.keepLeft := some (p.get PWR_WATCH.RETURN_BELLS) } else keepFreed p).wakeNote cause detail
        (p.get PWR_STAT.STATE)).wakeStart
    else keepFreed p :=
  (if_neg (Bool.not_eq_false _ ▸ hr)).trans (if_neg (Bool.not_eq_true _ ▸ hm))

theorem wake_entering_masked (hs : p.get PWR_STAT.STATE = 1) (hc : cause = 2 ∨ cause = 5 ∨ cause = 6) : p.wake cause detail = p := by
  rw [wake_awake p cause detail hr hm, if_pos hs, if_pos hc]

theorem wake_entering_after_e0 (hs : p.get PWR_STAT.STATE = 1) (hc : ¬ (cause = 2 ∨ cause = 5 ∨ cause = 6))
    (he : ((p.pwrEvt PWR_STAT.ENTRY_ABORT).wakeNote cause detail 1).pwr.e0 = true) :
    p.wake cause detail = ((p.pwrEvt PWR_STAT.ENTRY_ABORT).wakeNote cause detail 1).wakeStart := by
  rw [wake_awake p cause detail hr hm, if_pos hs, if_neg hc]
  exact if_pos he

theorem wake_entering_before_e0 (hs : p.get PWR_STAT.STATE = 1) (hc : ¬ (cause = 2 ∨ cause = 5 ∨ cause = 6))
    (he : ((p.pwrEvt PWR_STAT.ENTRY_ABORT).wakeNote cause detail 1).pwr.e0 = false) :
    p.wake cause detail = State.count { (((p.pwrEvt PWR_STAT.ENTRY_ABORT).wakeNote cause detail 1).put PWR_STAT.STATE 0).put
      PWR_STAT.PEND 0 with pwr.deepWait := none } PWR_CNT.COUNT 0 := by
  rw [wake_awake p cause detail hr hm, if_pos hs, if_neg hc]
  exact if_neg (Bool.not_eq_true _ ▸ he)

theorem wake_asleep (hs : p.get PWR_STAT.STATE = 2 ∨ p.get PWR_STAT.STATE = 3) : p.wake cause detail =
    ((if cause = 5 then { p with pwr.keepLeft := some (p.get PWR_WATCH.RETURN_BELLS) } else keepFreed p).wakeNote cause detail
      (p.get PWR_STAT.STATE)).wakeStart := by
  rw [wake_awake p cause detail hr hm, if_neg (by omega), if_pos hs]

theorem wake_active (hs : p.get PWR_STAT.STATE = 0 ∨ 3 < p.get PWR_STAT.STATE) : p.wake cause detail = keepFreed p := by
  rw [wake_awake p cause detail hr hm, if_neg (by omega), if_neg (by omega)]

end
end

/-! Entry (R510, R514, R515). -/

/-- 6 µs after E1 the ports that are up enter recess, and memories are retained. -/
def entered : State :=
  (((p.advanceTo (p.pwr.e1At + 6000)).forEach ((List.range 8).filter (p.advanceTo (p.pwr.e1At + 6000)).isUp)
    (fun t n => t.put PORT_LPI_STAT.TX_STATE 1 n))).retain

abbrev EntryDue : Prop := p.get PWR_STAT.STATE = 1 ∧ p.pwr.e1 = true ∧ p.pwr.deepWait = none

theorem stateReached_due (h : EntryDue p) : p.stateReached =
    if (entered p).get PWR_STAT.TARGET = 2 then (entered p).watchOn else ((entered p).put PWR_STAT.STATE 2).put PWR_STAT.PEND 0 := if_pos h

theorem stateReached_idle (h : ¬ EntryDue p) : p.stateReached = p := if_neg h

abbrev DeepDue : Prop := p.pwr.deepWait ≠ none ∧ p.get PWR_STAT.STATE = 1 ∧ p.ledger.queue = [] ∧
  (p.get GLB_RAIL_STAT.LEDGER_AVAIL = 1 ∨ p.chip.start.held = [])

/-- DEEP_RESET has fallen due: reset asserts, then the requests fall. -/
def deepened : State := { p.mainReset with chip.reqMain := false, chip.reqLedger := false, pwr.reqPort := 0 }

theorem deepReset_waiting (e : Nat) (hd : p.pwr.deepWait = some e) : p.deepReset =
    if p.pwrState = 1 ∧ p.ledger.queue = [] ∧ (p.on GLB_RAIL_STAT.LEDGER_AVAIL = true ∨ p.chip.start.held = []) then deepened p
    else p := by
  rw [State.deepReset, hd]
  rfl

theorem deepReset_eq : p.deepReset = if DeepDue p then deepened p else p := by
  have avail := on_iff_get_one p 0 GLB_RAIL_STAT.LEDGER_AVAIL 0 rfl
  by_cases hd : p.pwr.deepWait = none
  · rw [if_neg (fun h => h.1 hd), State.deepReset, hd]
  · obtain ⟨e, he⟩ := Option.ne_none_iff_exists'.1 hd
    exact (deepReset_waiting p e he).trans (if_congr (by simp only [DeepDue, ne_eq, hd, not_false_eq_true, true_and, avail]; rfl) rfl rfl)

theorem deepFail_waiting (e : Nat) (hd : p.pwr.deepWait = some e) (hs : p.get PWR_STAT.STATE = 1) : p.deepFail =
    ((p.advanceTo (e + p.get PWR_CFG.DEEP_TMO_MS * 1000000)).evt PWR_STAT.DEEP_FAIL 0xE0).wake 8 0 := by
  rw [State.deepFail, hd]
  exact if_pos hs

theorem deepFail_idle (h : p.pwr.deepWait = none ∨ p.get PWR_STAT.STATE ≠ 1) : p.deepFail = p := by
  rw [State.deepFail]
  cases hd : p.pwr.deepWait with
  | none => rfl
  | some e => exact if_neg (h.resolve_left (hd ▸ Option.some_ne_none e))

theorem keepNext_iff : p.keepNext = true ↔ p.pwr.keepLeft = some 1 ∧ p.get PWR_STAT.STATE = 0 ∧ p.mode = 2 := by
  rw [State.keepNext, Bool.and_eq_true, Bool.and_eq_true, beq_iff_eq, beq_iff_eq, beq_iff_eq, and_assoc]
  rfl

/-! Reception while asleep (R514, R521, R523 to R525). -/

abbrev AsleepNow : Prop := p.mode = 4 ∧ (p.get PWR_STAT.STATE = 1 ∨ p.get PWR_STAT.STATE = 2 ∨ p.get PWR_STAT.STATE = 3)

theorem asleep_iff : p.asleep = true ↔ AsleepNow p := by
  rw [State.asleep, Bool.and_eq_true, Bool.or_eq_true, dozing_iff, beq_iff_eq, beq_iff_eq, or_comm (b := p.pwrState = pwEntering)]
  rfl

section
variable (n : Nat) (f : State → State)

/-- A receiver that is released in WATCH, or that hears its own transmitter, takes nothing. -/
abbrev Deaf : Prop := p.pwr.released.toNat / 2 ^ n % 2 = 1 ∨ p.on PORT_MAC_CTRL.LOOP n = true

/-- What SLEEP_RX_FRAME does with the reception `f`. -/
def sleepRx : State := if p.asleep then p.receive n (fun s => s.fromPcs n f) else p

theorem released_iff : p.portReleased n = true ↔ p.pwr.released.toNat / 2 ^ n % 2 = 1 := by
  rw [State.portReleased, bitAt, beq_iff_eq]

theorem sleepRx_none (h : ¬ AsleepNow p ∨ Deaf p n) : sleepRx p n f = p := by
  rw [sleepRx]
  split
  next ha =>
    rw [State.receive]
    split
    next => rfl
    next hr =>
      have hl : p.on PORT_MAC_CTRL.LOOP n = true :=
        (h.resolve_left (not_not_intro ((asleep_iff p).1 ha))).resolve_left (mt (released_iff p n).2 hr)
      simp only [State.fromPcs, hl, if_true, Nat.lt_irrefl, decide_false, Bool.and_false, Bool.false_eq_true, if_false]
  next => rfl

theorem sleepRx_heard (ha : AsleepNow p) (ho : ¬ Deaf p n) : sleepRx p n f =
    if (p.rxFifoOf n).length < ((f p).rxFifoOf n).length then (f p).sleepFrame n else f p := by
  obtain ⟨hr, hl⟩ := not_or.1 ho
  rw [← released_iff] at hr
  rw [← asleep_iff] at ha
  simp only [sleepRx, State.receive, State.fromPcs, ha, hr, hl, if_true, if_false, Bool.true_and, decide_eq_true_eq, Bool.false_eq_true]

end

section
variable (u : Nat) (rest : List RxFrame) (r : RxFrame)

def wakePats : List Nat := (List.range 16).filter (p.patternHit u r.bytes)
abbrev MagicHit : Prop := p.get PWR_CFG.MAGIC_EN = 1 ∧ holdsAt (magicBytes (p.get WAKE_MAGIC.ADDR)) r.bytes = true
abbrev SleepHit : Prop := p.filters u = true ∧ (wakePats p u r ≠ [] ∨ MagicHit p r ∨ p.keeper u r.bytes = true)

/-- The state that a frame which wakes the block is decided in: its latches set, and itself kept or removed. -/
def wakeReady : State :=
  let x := p.forEach (wakePats p u r) (fun t _ => t.latch 0x16)
  let y := if MagicHit p r then x.latch 0x17 else x
  if y.get PWR_CFG.KEEP_FRAME = 1 then y else y.setRxFifo u rest

theorem magicHit_iff : (p.on PWR_CFG.MAGIC_EN && holdsAt (magicBytes (p.get WAKE_MAGIC.ADDR)) r.bytes) = true ↔ MagicHit p r := by
  rw [Bool.and_eq_true, on_iff_get_one p 0 PWR_CFG.MAGIC_EN 0 rfl]

theorem sleepFrame_empty (h : p.rxFifoOf u = []) : p.sleepFrame u = p := by
  simp only [State.sleepFrame, h, List.getLast?_nil]

/-- The newest frame of the FIFO decides. -/
theorem sleepFrame_last (h : p.rxFifoOf u = rest ++ [r]) : p.sleepFrame u =
    if SleepHit p u r then
      match wakePats p u r with
      | k :: _ => (wakeReady p u rest r).wake 3 k
      | [] => if MagicHit p r then (wakeReady p u rest r).wake 4 u else (wakeReady p u rest r).wake 5 u
    else (p.setRxFifo u rest).count PWR_CNT.COUNT 1 := by
  simp only [State.sleepFrame, h, List.getLast?_concat, List.dropLast_concat, Bool.and_eq_true, Bool.or_eq_true, Bool.not_eq_true',
    List.isEmpty_eq_false_iff, on_iff_get_one _ 0 PWR_CFG.MAGIC_EN 0 rfl, on_iff_get_one _ 0 PWR_CFG.KEEP_FRAME 0 rfl, or_assoc]
  rfl

section
variable (h : p.rxFifoOf u = rest ++ [r]) (hh : SleepHit p u r)
include h hh

theorem sleepFrame_pattern (k : Nat) (l : List Nat) (hp : wakePats p u r = k :: l) :
    p.sleepFrame u = (wakeReady p u rest r).wake 3 k := by
  rw [sleepFrame_last p u rest r h, if_pos hh, hp]

theorem sleepFrame_no_pattern (hp : wakePats p u r = []) : p.sleepFrame u =
    if MagicHit p r then (wakeReady p u rest r).wake 4 u else (wakeReady p u rest r).wake 5 u := by
  rw [sleepFrame_last p u rest r h, if_pos hh, hp]

end
end

/-! The always-on alarm (R526). -/

abbrev AlarmDue : Prop := p.get PWR_AON_ALARM.EN = 1 ∧ p.clkOn 12 = true ∧ p.get PWR_AON_CNT.COUNT ≤ p.get PWR_AON_ALARM.ALARM

theorem aonAlarm_eq : p.aonAlarm = if AlarmDue p then
    (((p.advanceAon (p.get PWR_AON_ALARM.ALARM)).put PWR_AON_ALARM.EN 0).latch 0x12).wakeAonSrc 0x12 else p := by
  exact if_congr (and_congr_left' (on_iff_get_one p 0 PWR_AON_ALARM.EN 0 rfl)) rfl rfl

/-! The commands. -/

theorem next_finish {s t u : State} (h : t = u) : (Host.Outcome.next (s.finish t) : Host.Outcome State Fault Refusal) = .next (s.finish u) :=
  h ▸ rfl

theorem exec_stateReached (h : p.runs 0 = true) : exec .stateReached p = .next (p.finish (p.pass 0).stateReached) :=
  State.main_runs p 0 State.stateReached h

theorem exec_deepReset (dt : Nat) (h : p.runs dt = true) : exec (.deepReset dt) p = .next (p.finish (p.pass dt).deepReset) :=
  State.main_runs p dt State.deepReset h

theorem exec_deepFail (h : p.runs 0 = true) : exec .deepFail p = .next (p.finish (p.pass 0).deepFail) :=
  State.main_runs p 0 State.deepFail h

theorem exec_keepReturn (h : p.runs 0 = true) : exec .keepReturn p =
    if (p.pass 0).pwr.keepLeft = some 1 ∧ (p.pass 0).get PWR_STAT.STATE = 0 ∧ (p.pass 0).mode = 2 then exec .bellEdge p
    else .next (p.finish (p.pass 0)) :=
  (onEdge_runs p State.keepNext h).trans (if_congr (keepNext_iff _) rfl rfl)

theorem exec_sleepRxFrame (dt : Nat) (n : Fin 8) (age : Nat) (lane : Fin 16) (b : List Byte) (h : p.runs dt = true) :
    exec (.sleepRxFrame dt n age lane b) p =
      .next (p.finish (sleepRx (p.pass dt) n.val (fun s => s.rxFrame n.val age lane.val (nats b)))) :=
  State.main_runs p dt (fun s => sleepRx s n.val (fun s => s.rxFrame n.val age lane.val (nats b))) h

/-! The clauses of O58. -/

theorem power_commands (a : Access) (s : State) (act : Nat) (h1 : 1 ≤ act) (h5 : act ≤ 5) :
    let i := if act = 1 then Instr.doze a else if act = 2 then .watch a else if act = 3 then .deep a else if act = 4 then .wake a else .ack a
    let w := setBits (wdata a) 0 3 act
    s.takes a true PWR_CMD.reg 0 0 w = true →
    let p := s.pass a.dt
    let q : State := { p with pwr.keepLeft := none }
    let st := p.get PWR_STAT.STATE
    let idle := st = 0 ∧ p.mode = 2
    let pend := p.get PWR_STAT.PEND = 1
    let badKeep := q.get PWR_WATCH.KEEP_EN = 1 ∧ bitAt (q.get PWR_WATCH.WATCH_PORTS) (q.get PWR_WATCH.KEEP_PORT) = false
    let r := ((q.put PWR_STAT.PEND 1).put PWR_STAT.TARGET act).put PWR_STAT.WAKE_OUT 0
    let ends := fun t => exec i s = .next (s.finish (State.setRsp t .okay 0))
    let refused := ends (q.evt PWR_STAT.REFUSED 0xE0)
    (act = 1 → (idle ∧ ¬ pend → ends (r.pwrEnter 1)) ∧ (¬ (idle ∧ ¬ pend) → refused)) ∧
    (act = 2 → (pend ∨ badKeep → refused) ∧ (¬ (pend ∨ badKeep) →
      (idle → ends (r.pwrEnter 2)) ∧ (¬ idle → st = 2 → ends { r with pwr.watchNext := true }) ∧ (¬ idle → st ≠ 2 → refused))) ∧
    (act = 3 → (pend ∨ q.clkOn 12 = false → refused) ∧ (¬ (pend ∨ q.clkOn 12 = false) →
      (idle → ends (r.pwrEnter 3)) ∧
      (¬ idle → st = 2 ∨ st = 3 → ends ((State.unretain { r.put PWR_STAT.STATE 1 with pwr.e0 := true, pwr.e1 := true, pwr.watchNext := false }).deepDrain)) ∧
      (¬ idle → ¬ (st = 2 ∨ st = 3) → refused))) ∧
    (act = 4 → (st = 1 ∨ st = 2 ∨ st = 3 → ends (q.wake 1 0)) ∧ (¬ (st = 1 ∨ st = 2 ∨ st = 3) → refused)) ∧
    (act = 5 → ends (q.put PWR_STAT.WAKE_OUT 0)) := by
  intro i w h p q st idle pend badKeep r ends refused
  have ends_of : ∀ t, p.pwrCmd w = t → ends t := fun t e => e ▸ exec_powerCommand s a act h1 h5 h
  have hw : getBits w 0 3 = act := by rw [getBits_setBits_same]; omega
  refine ⟨fun e => ⟨fun hi => ?_, fun hi => ?_⟩, fun e => ⟨fun hr => ?_, fun hr => ⟨fun hi => ?_, fun hi hd => ?_, fun hi hd => ?_⟩⟩,
    fun e => ⟨fun hr => ?_, fun hr => ⟨fun hi => ?_, fun hi hd => ?_, fun hi hd => ?_⟩⟩, fun e => ⟨fun hs => ?_, fun hs => ?_⟩, fun e => ?_⟩
  all_goals subst e; apply ends_of
  case refine_1 => exact (pwrCmd_doze p w hw).trans (if_pos hi)
  case refine_2 => exact (pwrCmd_doze p w hw).trans (if_neg hi)
  case refine_3 => exact (pwrCmd_watch p w hw).trans (if_pos hr)
  case refine_4 => exact (pwrCmd_watch p w hw).trans ((if_neg hr).trans (if_pos hi))
  case refine_5 => exact (pwrCmd_watch p w hw).trans ((if_neg hr).trans ((if_neg hi).trans (if_pos hd)))
  case refine_6 => exact (pwrCmd_watch p w hw).trans ((if_neg hr).trans ((if_neg hi).trans (if_neg hd)))
  case refine_7 => exact (pwrCmd_deep p w hw).trans (if_pos hr)
  case refine_8 => exact (pwrCmd_deep p w hw).trans ((if_neg hr).trans (if_pos hi))
  case refine_9 => exact (pwrCmd_deep p w hw).trans ((if_neg hr).trans ((if_neg hi).trans (if_pos hd)))
  case refine_10 => exact (pwrCmd_deep p w hw).trans ((if_neg hr).trans ((if_neg hi).trans (if_neg hd)))
  case refine_11 => exact (pwrCmd_wake p w hw).trans (if_pos hs)
  case refine_12 => exact (pwrCmd_wake p w hw).trans (if_neg hs)
  case refine_13 => exact pwrCmd_ack p w hw

/-- Settles O58: PWR_CMD by its action, a wake decision by the state it finds, the entry and its end, reception while asleep by
what the newest frame matches, and the always-on alarm. -/
theorem powerControl : Obligations.PowerControl := by
  unfold Obligations.PowerControl
  refine ⟨fun a s act h1 h5 h => power_commands a s act h1 h5 h, fun _ _ => rfl, fun t cause detail => ?_,
    fun _ => rfl, fun s h => ?_, fun _ => rfl, fun dt s h => ?_, fun s h => ?_, fun dt n age lane b s h => ?_, fun t u => ?_, fun s h => ?_⟩
  case refine_1 =>
    refine ⟨fun hr => ⟨?_, ?_⟩, ?_, fun hr hm => ⟨?_, fun hs hc => ⟨?_, ?_⟩, fun hs => ⟨fun hc => ?_, fun hc => ?_⟩, ?_⟩⟩
    · exact wake_deep t cause detail hr
    · exact wake_deep_other t cause detail hr
    · exact wake_in_reset t cause detail
    · exact wake_entering_masked t cause detail hr hm
    · exact wake_entering_after_e0 t cause detail hr hm hs hc
    · exact wake_entering_before_e0 t cause detail hr hm hs hc
    · exact (wake_asleep t cause detail hr hm hs).trans (by rw [if_pos hc]; rfl)
    · exact (wake_asleep t cause detail hr hm hs).trans (by rw [if_neg hc]; rfl)
    · exact wake_active t cause detail hr hm
  case refine_2 =>
    have reached := exec_stateReached s h
    exact ⟨fun hd ht => reached.trans (next_finish ((stateReached_due _ hd).trans (if_pos ht))),
      fun hd ht => reached.trans (next_finish ((stateReached_due _ hd).trans (if_neg ht))),
      fun hd => reached.trans (next_finish (stateReached_idle _ hd))⟩
  case refine_3 =>
    exact ⟨fun hd => (exec_deepReset s dt h).trans (next_finish ((deepReset_eq _).trans (if_pos hd))),
      fun hd => (exec_deepReset s dt h).trans (next_finish ((deepReset_eq _).trans (if_neg hd)))⟩
  case refine_4 =>
    exact ⟨fun e hd hs => (exec_deepFail s h).trans (next_finish (deepFail_waiting _ e hd hs)),
      fun hd => (exec_deepFail s h).trans (next_finish (deepFail_idle _ hd)),
      fun hd => (exec_keepReturn s h).trans (if_pos hd), fun hd => (exec_keepReturn s h).trans (if_neg hd)⟩
  case refine_5 =>
    have heard := exec_sleepRxFrame s dt n age lane b h
    exact ⟨fun hd => heard.trans (next_finish (sleepRx_none _ _ _ hd)),
      fun ha ho hg => heard.trans (next_finish ((sleepRx_heard _ _ _ ha ho).trans (if_pos hg))),
      fun ha ho hg => heard.trans (next_finish ((sleepRx_heard _ _ _ ha ho).trans (if_neg hg)))⟩
  case refine_6 =>
    exact ⟨sleepFrame_empty t u, fun rest r hf => ⟨fun hh => (sleepFrame_last t u rest r hf).trans (if_neg hh),
      fun hh k l hp => sleepFrame_pattern t u rest r hf hh k l hp,
      fun hh hp hm => (sleepFrame_no_pattern t u rest r hf hh hp).trans (if_pos hm),
      fun hh hp hm => (sleepFrame_no_pattern t u rest r hf hh hp).trans (if_neg hm)⟩⟩
  case refine_7 =>
    have alarm : exec .aonTimer s = .next (s.finish (s.pass 0).aonAlarm) := State.always_alive s 0 State.aonAlarm h
    exact ⟨fun hd => alarm.trans (next_finish ((aonAlarm_eq _).trans (if_pos hd))),
      fun hd => alarm.trans (next_finish ((aonAlarm_eq _).trans (if_neg hd)))⟩

end Sys2Proof.Proofs
end

section
/-! SUPPORT. The hall pass: proposals and their application (R486 to R493); tamper detections and the end of a wipe (R495,
R499 to R501). -/

namespace Sys2Proof.Proofs

open Sys2Proof Sys2Proof.Machine

variable (p : State)

/-! PROT_CMD (R488). -/

section
variable (c reason num : Nat)

/-- PROT_CMD_RES of the writer. -/
def protResult : State :=
  p.setRg ((PROT_CMD_RES.reg.of c).key 0 0) (1 + (if reason = 0 then 0 else 2) + reason * 4 + num % 2 ^ 32 * 2 ^ 32)

theorem two_b2n_ne_zero : 2 * b2n (reason != 0) = if reason = 0 then 0 else 2 := by
  by_cases h : reason = 0
  · rw [h]; rfl
  · rw [if_neg h, bne_iff_ne.2 h]; rfl

theorem protRes_eq : p.protRes c reason num = protResult p c reason num :=
  congrArg (fun k => p.setRg ((PROT_CMD_RES.reg.of c).key 0 0) (1 + k + reason * 4 + num % 2 ^ 32 * 2 ^ 32)) (two_b2n_ne_zero reason)

/-- A refusal: its result, REFUSED and the counter. -/
def protRefused : State := ((protResult p c reason num).evt PROT_EVT.REFUSED 0xD0).count PROT_CNT.COUNT 3

theorem protRefuse_eq : p.protRefuse c reason num = protRefused p c reason num := by
  rw [State.protRefuse, protRes_eq]
  rfl

end

section
variable (c w : Nat) (stg : List Nat)

abbrev ProtUnserved : Prop := p.mode = 0 ∨ 3 < p.mode

theorem protCmd_unserved (h : ProtUnserved p) : p.protCmd c w stg = protRefused p c 7 (getBits w 32 32) :=
  (if_pos h).trans (protRefuse_eq p c 7 _)

section
variable (h : ¬ ProtUnserved p)
include h

theorem protCmd_commit (hw : getBits w 0 2 = 1) : p.protCmd c w stg = p.propCommit c (getBits w 32 32) stg :=
  (if_neg h).trans (if_pos hw)

theorem protCmd_approve (hw : getBits w 0 2 = 2) : p.protCmd c w stg = p.propApprove c (getBits w 32 32) (stg.getD 7 0) :=
  (if_neg h).trans ((if_neg (by omega)).trans (if_pos hw))

theorem protCmd_cancel (hw : getBits w 0 2 = 3) : p.protCmd c w stg = p.propCancel c (getBits w 32 32) :=
  (if_neg h).trans ((if_neg (by omega)).trans ((if_neg (by omega)).trans (if_pos hw)))

end

/-- The three actions are one write of PROT_CMD each. -/
theorem exec_protCommand (a : Access) (act : Nat) (h1 : 1 ≤ act) (h3 : act ≤ 3)
    (h : p.serves a PROT_CMD.reg 0 (setBits (wdata a) 0 2 act) = true) :
    exec (if act = 1 then .propCommit a else if act = 2 then .approve a else .propCancel a) p = .next (p.finish ((((p.pass a.dt).protCmd
      a.init.val (setBits (wdata a) 0 2 act) ((p.pass a.dt).staged PROT_CMD.reg.base a.init.val)).pmu evCmdServed 1).setRsp .okay 0)) := by
  obtain rfl | rfl | rfl : act = 1 ∨ act = 2 ∨ act = 3 := by omega
  all_goals exact State.served_PROT_CMD p a 0 _ h

end

/-! COMMIT (R489, R490). -/

section
variable (c num kind target : Nat) (v : List Nat)

/-- The number of the next proposal skips 0. -/
def nextProposal : Nat := if p.get PROT_PROP_STAT.PROP_NUM + 1 = 2 ^ 32 then 1 else p.get PROT_PROP_STAT.PROP_NUM + 1

/-- The slot with the new proposal, its values and its digest. -/
def propStaged : State :=
  let n := nextProposal p
  let dg := sha256 (propRecord kind target n c (p.get LDG_STAT.BOOT_COUNT) v)
  let q1 := p.setRg (PROT_PROP_STAT.reg.key 0 0) (1 + kind * 2 ^ 2 + target * 2 ^ 6 + c * 2 ^ 16 + n * 2 ^ 32)
  let q2 := q1.setRg (PROT_PROP_INFO.reg.key 0 0) ((q1.get GLB_TERM_NUM.TERM + q1.get PROT_CFG.EXPIRY_TERMS) % 2 ^ 32 * 2 ^ 32)
  let q3 := q2.forEach (List.range 6) (fun t i => t.put PROT_PROP_VAL.VAL (v.getD i 0) i)
  q3.forEach (List.range 4) (fun t i => t.put PROT_PROP_DIGEST.DIGEST (beNat ((dg.drop (8 * i)).take 8)) i)

theorem stage_eq : p.stage c kind target v =
    ((((protResult (propStaged p c kind target v) c 0 (nextProposal p)).count PROT_CNT.COUNT 1).evt PROT_EVT.STAGED 0xD0).raise 0xD1) := by
  rw [← protRes_eq]
  rfl

theorem propCommit_eq (stg : List Nat) : p.propCommit c num stg =
    if p.get PROT_PROP_STAT.STATE = 2 then p.protRefuse c 2 num
    else if p.propBad (stg.getD 0 0 % 2 ^ 4) (getBits (stg.getD 0 0) 16 10) ((stg.drop 1).take 6) = true then p.protRefuse c 1 num
    else p.stage c (stg.getD 0 0 % 2 ^ 4) (getBits (stg.getD 0 0) 16 10) ((stg.drop 1).take 6) := by
  rw [State.propCommit, getBits_whole]
  rfl

/-! The conditions of each kind (R489): the kind selects the branch of `propBad`, a disjunction of the faults. -/

theorem unset_iff (d : List Nat) : unsetDigest d = true ↔ ∀ x ∈ d, x = 0 := by
  simp only [unsetDigest, List.all_eq_true, beq_iff_eq]

theorem any_ne_zero_iff (d : List Nat) : (d.any (· != 0)) = true ↔ ∃ x ∈ d, x ≠ 0 := by
  simp only [List.any_eq_true, bne_iff_ne]

theorem propBad_map : p.propBad 1 target v = true ↔ 0x101 < target ∨ v.getD 0 0 / 2 ^ 54 ≠ 0 ∨ (∃ x ∈ v.drop 1, x ≠ 0) ∨
    p.mapStands target (v.getD 0 0) = false := by
  change (_ || _ || _ || _) = true ↔ _
  simp only [Bool.or_eq_true, decide_eq_true_eq, Bool.not_eq_true', any_ne_zero_iff, or_assoc]

theorem propBad_page : p.propBad 2 target v = true ↔ 15 < target ∨ v.getD 0 0 / 2 ^ 6 ≠ 0 ∨ ∃ x ∈ v.drop 1, x ≠ 0 := by
  change (_ || _ || _) = true ↔ _
  simp only [Bool.or_eq_true, decide_eq_true_eq, any_ne_zero_iff, or_assoc]

theorem propBad_owner : p.propBad 3 target v = true ↔ unitValid target = false ∨ 3 < getBits (v.getD 0 0) 4 4 ∨
    (7 < getBits (v.getD 0 0) 0 4 ∧ getBits (v.getD 0 0) 0 4 ≠ 0xF) ∨ getBits (v.getD 0 0) 8 8 ≠ 0 ∨ v.getD 0 0 / 2 ^ 32 ≠ 0 ∨
    ∃ x ∈ v.drop 1, x ≠ 0 := by
  change (_ || _ || (_ && _) || _ || _ || _) = true ↔ _
  simp only [Bool.or_eq_true, Bool.and_eq_true, decide_eq_true_eq, Bool.not_eq_true', bne_iff_ne, any_ne_zero_iff, or_assoc]

theorem propBad_digest : p.propBad 4 target v = true ↔ 1 < target ∨ (∃ x ∈ v.drop 4, x ≠ 0) ∨
    (p.get LDG_STAT.LC = 2 ∧ (∀ x ∈ v.take 4, x = 0) ∧ ∀ x ∈ if target = 0 then p.ledger.td1 else p.ledger.td0, x = 0) := by
  change (_ || _ || (_ && _ && _)) = true ↔ _
  simp only [Bool.or_eq_true, Bool.and_eq_true, decide_eq_true_eq, beq_iff_eq, any_ne_zero_iff, unset_iff, or_assoc, and_assoc]
  rfl

theorem propBad_life : p.propBad 5 target v = true ↔ target ≠ 0 ∨ v.getD 0 0 / 2 ^ 3 ≠ 0 ∨ (∃ x ∈ v.drop 1, x ≠ 0) ∨
    (p.get LDG_STAT.LC, v.getD 0 0) ∉ lcMoves ∨ (v.getD 0 0 = 2 ∧ (∀ x ∈ p.ledger.td0, x = 0) ∧ ∀ x ∈ p.ledger.td1, x = 0) := by
  change (_ || _ || _ || _ || (_ && _ && _)) = true ↔ _
  simp only [Bool.or_eq_true, Bool.and_eq_true, decide_eq_true_eq, beq_iff_eq, bne_iff_ne, Bool.not_eq_true', ← Bool.not_eq_true,
    List.contains_iff_mem, any_ne_zero_iff, unset_iff, or_assoc, and_assoc]
  rfl

theorem propBad_rollback : p.propBad 6 target v = true ↔ target ≠ 0 ∨ v.getD 0 0 / 2 ^ 33 ≠ 0 ∨ (∃ x ∈ v.drop 1, x ≠ 0) ∨
    (p.get LDG_STAT.MIN_EN = 1 ∧ bitAt (v.getD 0 0) 32 = true ∧ wrapDiff 32 (getBits (v.getD 0 0) 0 32) p.ledger.genMin < 0) ∨
    (p.get LDG_STAT.LC = 2 ∧ p.get LDG_STAT.MIN_EN = 1 ∧ bitAt (v.getD 0 0) 32 = false) := by
  change (_ || _ || _ || (_ && _ && _) || (_ && _ && _)) = true ↔ _
  simp only [Bool.or_eq_true, Bool.and_eq_true, decide_eq_true_eq, beq_iff_eq, bne_iff_ne, Bool.not_eq_true',
    on_iff_get_one p 0 LDG_STAT.MIN_EN 0 rfl, any_ne_zero_iff, or_assoc, and_assoc]
  rfl

theorem propBad_unknown (h : kind = 0 ∨ 6 < kind) : p.propBad kind target v = true := by
  have named : kind ≠ 1 ∧ kind ≠ 2 ∧ kind ≠ 3 ∧ kind ≠ 4 ∧ kind ≠ 5 ∧ kind ≠ 6 := by omega
  obtain ⟨h1, h2, h3, h4, h5, h6⟩ := named
  exact (if_neg h1).trans ((if_neg h2).trans ((if_neg h3).trans ((if_neg h4).trans ((if_neg h5).trans (if_neg h6)))))

end

/-! Edges (R487, R492, R493). -/

theorem expireNext_iff : p.expireNext = true ↔ p.endsTerm p.nextEdge = true ∧ p.get PROT_PROP_STAT.STATE = 1 ∧
    p.get PROT_PROP_INFO.EXPIRE_TERM = (p.get GLB_TERM_NUM.TERM + 1) % 2 ^ 32 := by
  rw [State.expireNext, Bool.and_eq_true, Bool.and_eq_true, beq_iff_eq, beq_iff_eq, and_assoc]
  rfl

theorem propApplies_iff : (p.changesApply && p.propDue) = true ↔ p.changesApply = true ∧ p.get PROT_PROP_STAT.STATE = 2 ∧
    p.get GLB_RAIL_STAT.LEDGER_AVAIL = 1 ∧ p.ledger.queue.length + (if 4 ≤ p.get PROT_PROP_STAT.KIND then 2 else 1) ≤ 16 := by
  rw [State.propDue, Bool.and_eq_true, Bool.and_eq_true, Bool.and_eq_true, beq_iff_eq, decide_eq_true_eq,
    on_iff_get_one p 0 GLB_RAIL_STAT.LEDGER_AVAIL 0 rfl, and_assoc]
  rfl

theorem exec_expired (h : p.runs 0 = true) : exec .expired p =
    if (p.pass 0).expireNext = true then exec .bellEdge p else .next (p.finish (p.pass 0)) := onEdge_runs p State.expireNext h

theorem exec_applied (h : p.runs 0 = true) : exec .applied p =
    if ((p.pass 0).changesApply && (p.pass 0).propDue) = true then exec .bellEdge p else .next (p.finish (p.pass 0)) :=
  onEdge_runs p (fun s => s.changesApply && s.propDue) h

theorem notDiag_eq (toService : Bool) (f : UnitFunc) : notDiag toService f = if toService = true ∧ f = .diag then .owned else f :=
  if_congr (by rw [Bool.and_eq_true, beq_iff_eq]) rfl rfl

section
variable (toService : Bool)

/-- The unit whose role the slot changes. -/
abbrev propUnit : Nat := p.get PROT_PROP_STAT.TARGET
/-- The first value of the slot, with the owner, the function and the generation. -/
abbrev propWord : Nat := p.get PROT_PROP_VAL.VAL 0
/-- The function that the unit gets. -/
abbrev propFunc : UnitFunc := (UnitFunc.ofCode (getBits (propWord p) 4 4)).getD .idle
/-- A change of the same unit that waits is overridden, with BUSY. -/
def propOverrides : State := if (p.role (propUnit p)).pend.isSome then p.put GLB_ROLE_STAT.BUSY 1 else p

theorem applyProposal_owner (h : p.get PROT_PROP_STAT.KIND = 3) : p.applyProposal toService =
    if getBits (propWord p) 16 16 ≠ (p.role (propUnit p)).gen.toNat then
      (((p.count GLB_STALE_CNT.COUNT).put PROT_PROP_STAT.STATE 0).evt PROT_EVT.APPLY_FAIL 0xD0, none)
    else (((propOverrides p).setRole (propUnit p) ⟨ownerOf (getBits (propWord p) 0 4),
      if toService = true ∧ propFunc p = .diag then .owned else propFunc p,
      ((propOverrides p).role (propUnit p)).gen + 1, none⟩).propApplied, some (propUnit p)) := by
  rw [← notDiag_eq]
  exact if_pos h

/-- An applied change that is no life-cycle transition leaves the mode. -/
theorem applyProposal_effect (h3 : p.get PROT_PROP_STAT.KIND ≠ 3) (h5 : p.get PROT_PROP_STAT.KIND ≠ 5) :
    p.applyProposal toService = (p.propEffect.propApplied, none) := by
  have ordinary : (p.propKind == pkLifeCycle) = false := beq_false_of_ne h5
  refine (if_neg h3).trans ?_
  simp only [ordinary, Bool.false_and, Bool.false_eq_true, if_false]

theorem propEffect_map (h : p.get PROT_PROP_STAT.KIND = 1) :
    p.propEffect = p.setRg (PROT_INIT.reg.key (p.get PROT_PROP_STAT.TARGET) 0) (p.get PROT_PROP_VAL.VAL 0) := if_pos h

theorem propEffect_page (h : p.get PROT_PROP_STAT.KIND = 2) : p.propEffect =
    (p.setRg (PROT_SECPAGE.reg.key (p.get PROT_PROP_STAT.TARGET) 0) (p.get PROT_PROP_VAL.VAL 0 % 2 ^ 32)).wipeStart 2
      (2 ^ p.get PROT_PROP_STAT.TARGET) := (if_neg (by rw [State.propKind, h]; decide)).trans (if_pos h)

end

/-! Tamper (R495, R500, R501) and the end of a wipe (R499). -/

section
variable (m : Nat)

/-- The inputs of mask `m` are seen. -/
def tamperSeen : State := p.put TAMPER_STAT.SEEN ((p.get TAMPER_STAT.SEEN).lor m)

def tamperLocks : Bool := decide ((p.get TAMPER_CFG.LOCKOUT).land m ≠ 0)

/-- The region wiped, the slot emptied, the detection signalled and counted, and the lockout where `lock`. -/
def tamperActed (lock : Bool) : State :=
  let y := (((p.wipeAll.put PROT_PROP_STAT.STATE 0).evt PROT_EVT.TAMPER 0xD0).count PROT_CNT.COUNT 4)
  if lock then y.put TAMPER_STAT.LOCKED_OUT 1 else y

/-- The record of a detection that the lockout follows where `lock`. -/
def tamperRecord (lock : Bool) : LdgBody :=
  .log 2 (m + (if lock then 2 ^ 8 else 0)) (if p.get TIME_STAT.RESTORED = 1 ∨ p.get TIME_STAT.STATE ≠ 0 then p.stNs else 0) p.tamperWord

theorem stValid_iff : p.stValid = true ↔ p.get TIME_STAT.RESTORED = 1 ∨ p.get TIME_STAT.STATE ≠ 0 := by
  rw [State.stValid, Bool.or_eq_true, on_iff_get_one p 0 TIME_STAT.RESTORED 0 rfl, State.on, bne_iff_ne]

theorem tamper_in_reset (h : (tamperSeen p m).chip.mainReset = true) : p.tamper m =
    (tamperSeen p m).put TAMPER_STAT.LOG_PEND (((tamperSeen p m).get TAMPER_STAT.LOG_PEND).lor m) := if_pos h

theorem tamperRecord_eq (lock : Bool) : tamperRecord p m lock =
    .log 2 (m + b2n lock * 2 ^ 8) (if p.stValid then p.stNs else 0) p.tamperWord := by
  rw [tamperRecord, b2n_mul]
  exact congrArg (fun v => LdgBody.log 2 (m + if lock then 2 ^ 8 else 0) v p.tamperWord) (if_congr (stValid_iff p).symm rfl rfl)

theorem tamper_runs (h : (tamperSeen p m).chip.mainReset = false) : p.tamper m =
    ((tamperActed (tamperSeen p m) (tamperLocks (tamperSeen p m) m)).ldgRequest
      (tamperRecord (tamperActed (tamperSeen p m) (tamperLocks (tamperSeen p m) m)) m (tamperLocks (tamperSeen p m) m))).1 := by
  have locks : tamperLocks (tamperSeen p m) m = (((tamperSeen p m).get TAMPER_CFG.LOCKOUT).land m != 0) := 
    Bool.eq_iff_iff.2 (by rw [tamperLocks, decide_eq_true_eq, bne_iff_ne])
  rw [tamperRecord_eq, locks]
  exact if_neg (Bool.not_eq_true _ ▸ h)

theorem exec_tamper (dt : Nat) (found : BitVec 8) (h : p.chip.aonOn = true) :
    exec (.tamper dt found) p = .next (p.finish ((p.pass dt).tamperIn found.toNat)) :=
  congrArg (fun t => Host.Outcome.next (p.finish t)) (if_pos h)

end

theorem tamperIn_none (i : Nat) (h : i.land (p.get TAMPER_CFG.EN) = 0) : p.tamperIn i = p := if_pos h

theorem tamperIn_found (i : Nat) (h : i.land (p.get TAMPER_CFG.EN) ≠ 0) : p.tamperIn i =
    ((p.put TAMPER_STAT.LEVEL (p.tamperLevel (i.land (p.get TAMPER_CFG.EN)))).tamper (i.land (p.get TAMPER_CFG.EN))).wakeTamper
      (i.land (p.get TAMPER_CFG.EN)) := if_neg h

theorem wakeTamper_none (m : Nat) (h : (List.range 8).find? (fun j => bitAt m j && bitAt (p.get PWR_WAKE_EN.EN) (2 + j)) = none) :
    p.wakeTamper m = p := by rw [State.wakeTamper, h]

theorem wakeTamper_some (m j : Nat) (h : (List.range 8).find? (fun j => bitAt m j && bitAt (p.get PWR_WAKE_EN.EN) (2 + j)) = some j) :
    p.wakeTamper m = p.wake 7 (2 + j) := by
  rw [State.wakeTamper, h]
  rfl

abbrev WipeDue : Prop := p.get PROT_SEC_STAT.WIPING = 1 ∧ (p.get PROT_SEC_STAT.CAUSE = 3 ∨ p.get PROT_SEC_STAT.PENDING = 0)

theorem wipeDone_eq : p.wipeDone = if WipeDue p then p.wipeEnd else p :=
  if_congr (by rw [Bool.and_eq_true, Bool.or_eq_true, beq_iff_eq, beq_iff_eq, on_iff_get_one p 0 PROT_SEC_STAT.WIPING 0 rfl]) rfl rfl

theorem exec_wipeDone (dt : Nat) (h : p.runs dt = true) : exec (.wipeDone dt) p = .next (p.finish (p.pass dt).wipeDone) :=
  State.main_runs p dt State.wipeDone h

/-! The clauses of O57. -/

theorem hallPass_commands (a : Access) (s : State) (act : Nat) (h1 : 1 ≤ act) (h3 : act ≤ 3) :
    let i := if act = 1 then Instr.propCommit a else if act = 2 then .approve a else .propCancel a
    let w := setBits (wdata a) 0 2 act
    s.serves a PROT_CMD.reg 0 w = true →
    let p := s.pass a.dt
    let c := a.init.val
    let num := getBits w 32 32
    let stg := p.staged PROT_CMD.reg.base c
    let kind := stg.getD 0 0 % 2 ^ 4
    let target := getBits (stg.getD 0 0) 16 10
    let v := (stg.drop 1).take 6
    let st := p.get PROT_PROP_STAT.STATE
    let result := fun (t : State) reason n => t.setRg ((PROT_CMD_RES.reg.of c).key 0 0) (1 + (if reason = 0 then 0 else 2) + reason * 4 + n % 2 ^ 32 * 2 ^ 32)
    let ends := fun (t : State) => exec i s = .next (s.finish ((t.pmu evCmdServed 1).setRsp .okay 0))
    let refused := fun reason => ends (((result p reason num).evt PROT_EVT.REFUSED 0xD0).count PROT_CNT.COUNT 3)
    let served := p.mode = 1 ∨ p.mode = 2 ∨ p.mode = 3
    (¬ served → refused 7) ∧
    (served → act = 1 →
      (st = 2 → refused 2) ∧
      (st ≠ 2 → p.propBad kind target v = true → refused 1) ∧
      (st ≠ 2 → p.propBad kind target v = false →
        let n := if p.get PROT_PROP_STAT.PROP_NUM + 1 = 2 ^ 32 then 1 else p.get PROT_PROP_STAT.PROP_NUM + 1
        let dg := sha256 (propRecord kind target n c (p.get LDG_STAT.BOOT_COUNT) v)
        let q1 := p.setRg (PROT_PROP_STAT.reg.key 0 0) (1 + kind * 2 ^ 2 + target * 2 ^ 6 + c * 2 ^ 16 + n * 2 ^ 32)
        let q2 := q1.setRg (PROT_PROP_INFO.reg.key 0 0) ((q1.get GLB_TERM_NUM.TERM + q1.get PROT_CFG.EXPIRY_TERMS) % 2 ^ 32 * 2 ^ 32)
        let q3 := q2.forEach (List.range 6) (fun t i => t.put PROT_PROP_VAL.VAL (v.getD i 0) i)
        let q4 := q3.forEach (List.range 4) (fun t i => t.put PROT_PROP_DIGEST.DIGEST (beNat ((dg.drop (8 * i)).take 8)) i)
        ends ((((result q4 0 n).count PROT_CNT.COUNT 1).evt PROT_EVT.STAGED 0xD0).raise 0xD1))) ∧
    (served → act = 2 →
      (st ≠ 1 → refused 3) ∧
      (st = 1 → num ≠ p.get PROT_PROP_STAT.PROP_NUM → refused 4) ∧
      (st = 1 → num = p.get PROT_PROP_STAT.PROP_NUM → c = p.get PROT_PROP_STAT.PROPOSER → refused 5) ∧
      (st = 1 → num = p.get PROT_PROP_STAT.PROP_NUM → c ≠ p.get PROT_PROP_STAT.PROPOSER →
        (stg.getD 7 0 ≠ p.get PROT_PROP_DIGEST.DIGEST 3 → refused 6) ∧
        (stg.getD 7 0 = p.get PROT_PROP_DIGEST.DIGEST 3 →
          ends ((result ((p.put PROT_PROP_STAT.STATE 2).put PROT_PROP_INFO.APPROVER c) 0 num).evt PROT_EVT.APPROVED 0xD0)))) ∧
    (served → act = 3 →
      (st = 0 → refused 3) ∧
      (st ≠ 0 → num ≠ p.get PROT_PROP_STAT.PROP_NUM → refused 4) ∧
      (st ≠ 0 → num = p.get PROT_PROP_STAT.PROP_NUM → ends (result (p.put PROT_PROP_STAT.STATE 0) 0 num))) := by
  intro i w h p c num stg kind target v st result ends refused served
  have ends_of : ∀ t, p.protCmd c w stg = t → ends t := fun t e => e ▸ exec_protCommand s a act h1 h3 h
  have refused_of : ∀ reason, p.protCmd c w stg = p.protRefuse c reason num → refused reason := fun reason e =>
    ends_of _ (e.trans (protRefuse_eq p c reason num))
  have hw : getBits w 0 2 = act := by rw [getBits_setBits_same]; omega
  have runs : served → ¬ ProtUnserved p := by
    intro (hs : p.mode = 1 ∨ p.mode = 2 ∨ p.mode = 3) (hu : p.mode = 0 ∨ 3 < p.mode)
    omega
  refine ⟨fun hs => ends_of _ (protCmd_unserved p c w stg ?_), fun hs e => ?_, fun hs e => ?_, fun hs e => ?_⟩
  · have hn : ¬ (p.mode = 1 ∨ p.mode = 2 ∨ p.mode = 3) := hs
    show p.mode = 0 ∨ 3 < p.mode
    omega
  · have commit := (protCmd_commit p c w stg (runs hs) (hw.trans e)).trans (propCommit_eq p c num stg)
    refine ⟨fun h2 => refused_of 2 (commit.trans (if_pos h2)), fun h2 hb => refused_of 1 (commit.trans ((if_neg h2).trans (if_pos hb))),
      fun h2 hb => ends_of _ (commit.trans ((if_neg h2).trans ((if_neg (Bool.not_eq_true _ ▸ hb)).trans ?_)))⟩
    exact stage_eq p c kind target v
  · have approve := protCmd_approve p c w stg (runs hs) (hw.trans e)
    exact ⟨fun h1 => refused_of 3 (approve.trans (if_pos h1)),
      fun h1 hn => refused_of 4 (approve.trans ((if_neg (not_not_intro h1)).trans (if_pos hn))),
      fun h1 hn hc => refused_of 5 (approve.trans ((if_neg (not_not_intro h1)).trans ((if_neg (not_not_intro hn)).trans (if_pos hc)))),
      fun h1 hn hc => ⟨fun hd => refused_of 6 (approve.trans ((if_neg (not_not_intro h1)).trans ((if_neg (not_not_intro hn)).trans
          ((if_neg hc).trans (if_pos hd))))),
        fun hd => ends_of _ (approve.trans ((if_neg (not_not_intro h1)).trans ((if_neg (not_not_intro hn)).trans
          ((if_neg hc).trans ((if_neg (not_not_intro hd)).trans (congrArg (fun t => t.evt PROT_EVT.APPROVED 0xD0) (protRes_eq _ c 0 num)))))))⟩⟩
  · have cancel := protCmd_cancel p c w stg (runs hs) (hw.trans e)
    exact ⟨fun h0 => refused_of 3 (cancel.trans (if_pos h0)),
      fun h0 hn => refused_of 4 (cancel.trans ((if_neg h0).trans (if_pos hn))),
      fun h0 hn => ends_of _ (cancel.trans ((if_neg h0).trans ((if_neg (not_not_intro hn)).trans (protRes_eq _ c 0 num))))⟩

/-- Settles O57: PROT_CMD by its action and the first condition that refuses it, the COMMIT checks by kind, expiry and application
at an edge, a tamper detection by whether the main domain is in reset, and the end of a wipe. -/
theorem hallPassAndTamper : Obligations.HallPassAndTamper := by
  unfold Obligations.HallPassAndTamper
  refine ⟨fun a s act h1 h3 h => hallPass_commands a s act h1 h3 h, fun t kind target v => ?_, fun s h => ?_, fun t => ?_,
    fun t toService => ?_, fun dt found s h => ?_, fun t m => ?_, fun dt s h => ?_⟩
  case refine_1 =>
    refine ⟨fun k => ?_, fun k => ?_, fun k => ?_, fun k => ?_, fun k => ?_, fun k => ?_, propBad_unknown t kind target v⟩
    all_goals subst k
    · exact propBad_map t target v
    · exact propBad_page t target v
    · exact propBad_owner t target v
    · exact propBad_digest t target v
    · exact propBad_life t target v
    · exact propBad_rollback t target v
  case refine_2 =>
    have applies := propApplies_iff (s.pass 0)
    have dies := expireNext_iff (s.pass 0)
    exact ⟨fun hd => (exec_expired s h).trans (if_pos (dies.2 hd)), fun hd => (exec_expired s h).trans (if_neg (mt dies.1 hd)),
      fun ha => (exec_applied s h).trans (if_pos (applies.2 ha)), fun ha => (exec_applied s h).trans (if_neg (mt applies.1 ha))⟩
  case refine_3 => exact ⟨fun hd => if_pos hd, fun hd => if_neg hd⟩
  case refine_4 =>
    refine ⟨fun hk hg => ?_, fun hk hg => ?_, fun hk => ?_, fun hk => ?_⟩
    · exact (applyProposal_owner t toService hk).trans (if_pos hg)
    · exact (applyProposal_owner t toService hk).trans (if_neg (not_not_intro hg))
    · rw [applyProposal_effect t toService (by omega) (by omega), propEffect_map t hk]
      rfl
    · rw [applyProposal_effect t toService (by omega) (by omega), propEffect_page t hk]
      rfl
  case refine_5 =>
    refine ⟨fun hm => ?_, fun hm => ⟨fun hr => ?_, fun hr => ?_⟩⟩
    · exact (exec_tamper s dt found h).trans (next_finish (tamperIn_none _ _ hm))
    · exact (exec_tamper s dt found h).trans (next_finish ((tamperIn_found _ _ hm).trans
        (congrArg (fun t => State.wakeTamper t _) (tamper_in_reset _ _ hr))))
    · exact (exec_tamper s dt found h).trans (next_finish ((tamperIn_found _ _ hm).trans
        (congrArg (fun t => State.wakeTamper t _) (tamper_runs _ _ hr))))
  case refine_6 => exact ⟨wakeTamper_none t m, wakeTamper_some t m⟩
  case refine_7 =>
    exact ⟨fun hd => (exec_wipeDone s dt h).trans (next_finish ((wipeDone_eq _).trans (if_pos hd))),
      fun hd => (exec_wipeDone s dt h).trans (next_finish ((wipeDone_eq _).trans (if_neg hd)))⟩

end Sys2Proof.Proofs
end

section
/-! SUPPORT. The two cases of a step, and the frames of the commands in a block that is dead, in main-domain reset, or without
REG_CK (R47, R52, R57, R60, R80); a granted access that is not answered with OKAY (R68, R513). -/

namespace Sys2Proof.Proofs

open Sys2Proof Sys2Proof.Machine

variable (c : Instr) (s : State)

theorem alive_eq_false_iff : s.alive = false ↔ s.chip.aonOn = false ∨ s.chip.mfgTest = true := by
  rw [State.alive, Bool.and_eq_false_iff, Bool.not_eq_false']

/-- The engines and the register port lie in the main domain. -/
theorem exec_main (h : (siteOf c).dom = .main ∨ (siteOf c).dom = .engine ∨ (siteOf c).dom = .port) :
    ∃ f, exec c s = s.main (siteOf c).dt f := by
  have frame := exec_site c s
  obtain hd | hd | hd := h <;>
  · rw [hd] at frame
    obtain ⟨f, hf⟩ := frame
    exact ⟨_, hf⟩

/-- Every command but those of the reset pins and the tamper inputs acts in the island's frame. -/
theorem exec_always (h : (siteOf c).dom ≠ .chip) : ∃ f, exec c s = s.always (siteOf c).dt f := by
  by_cases hm : (siteOf c).dom = .main ∨ (siteOf c).dom = .engine ∨ (siteOf c).dom = .port
  · obtain ⟨f, hf⟩ := exec_main c s hm
    exact ⟨_, hf⟩
  · have frame := exec_site c s
    have hi : (siteOf c).dom = .island := by
      cases hd : (siteOf c).dom <;> simp_all
    rwa [hi] at frame

theorem exec_dead (h : (siteOf c).dom ≠ .chip) (hs : s.alive = false) : exec c s = .next (s.finish s) := by
  obtain ⟨f, hf⟩ := exec_always c s h
  rw [hf, State.always_dead _ _ _ hs]

/-- A request on the register port that is not answered with OKAY ends in what the answer itself leaves. -/
theorem exec_notOkay (q : PortReq) (hq : portOf c = some q) (hu : s.portUp q.dt = true) (t : State) (code : RspCode)
    (answer : (s.pass q.dt).respond q.init q.wr q.addr q.size q.data = (t, code)) (hc : code ≠ .okay) :
    exec c s = .next (s.finish (t.setRsp code 0)) := by
  obtain ⟨f, hf, refused⟩ := exec_refused c s q hq
  have hp := refused (s.pass q.dt)
  rw [answer] at hp
  rw [hf, State.portReq_up _ _ _ hu, hp hc]

end Sys2Proof.Proofs

namespace Sys2Proof.Proofs

open Sys2Proof Sys2Proof.Machine

/-- Settles O1: the queue of a step is the front command and the rest. -/
theorem stepRunsFrontCommand : Obligations.StepRunsFrontCommand :=
  fun c rest s => step_front { s with pending := c :: rest } c rest rfl

/-- Settles O2: with no command waiting a step is one cycle of a block that is alive. -/
theorem stepIdlesOneCycle : Obligations.StepIdlesOneCycle :=
  fun s h => step_empty s h

/-- Settles O5: the frame of every command outside the reset pins and the tamper inputs holds in a dead block. -/
theorem deadBlockIsStill : Obligations.DeadBlockIsStill :=
  fun c s hs h => exec_dead c s h ((alive_eq_false_iff s).2 hs)

/-- Settles O6: the frame of the main domain holds in main-domain reset. -/
theorem resetHoldsTheMainDomain : Obligations.ResetHoldsTheMainDomain := by
  intro c s ha hm hd
  obtain ⟨f, hf⟩ := exec_main c s hd
  rw [hf, State.main_reset _ _ _ ha hm]

/-- Settles O7: the frame of the register port holds without REG_CK. -/
theorem registerPortNeedsItsClock : Obligations.RegisterPortNeedsItsClock := by
  intro c s hr hd hc
  have frame := exec_site c s
  rw [hd] at frame
  obtain ⟨f, hf⟩ := frame
  rw [hf, State.portReq_stopped _ _ _ hr hc]

/-- Settles O10: a granted access is answered by the sleep rule first, then by its form. -/
theorem misformedAccessIsDecoded : Obligations.MisformedAccessIsDecoded := by
  refine fun c s q hq hu hg => ⟨fun hd hb => ?_, fun hd => ?_⟩
  · have answer := State.respond_form (s.pass q.dt) q.init q.wr q.addr q.size q.data hg hd
    rw [if_pos hb] at answer
    exact exec_notOkay c s q hq hu _ _ answer nofun
  · exact exec_notOkay c s q hq hu _ _ (State.respond_asleep (s.pass q.dt) q.init q.wr q.addr q.size q.data hg hd) nofun

end Sys2Proof.Proofs
end

section
/-! SUPPORT. Manufacturing test: what time, a pulse on PORST# and the tamper inputs leave of it (R59, R80, R500). -/

namespace Sys2Proof.Proofs

open Sys2Proof Sys2Proof.Machine

/-! What leaves the chip's own part of the state as it is. -/

section
variable (s : State)

theorem forEach_keeps {α β : Type} (g : State → β) (f : State → α → State) (h : ∀ t x, g (f t x) = g t) (l : List α) :
    g (s.forEach l f) = g s := by
  induction l generalizing s with
  | nil => rfl
  | cons x l ih => exact (ih (f s x)).trans (h s x)

theorem chip_of_sameButRegs {s t : State} (h : SameButRegs s t) : t.chip = s.chip := by
  obtain ⟨r, rfl⟩ := h
  rfl

theorem evt_chip (f : Fld) (src i : Nat) : (s.evt f src i).chip = s.chip :=
  chip_of_sameButRegs ((SameButRegs.refl s).evt f src i)

theorem latch_chip (n : Nat) : (s.latch n).chip = s.chip := by
  unfold State.latch
  split <;> rfl

theorem accrue_chip (b : Bool) (f : Fld) (dt i j : Nat) : (s.accrue b f dt i j).chip = s.chip := by
  cases b <;> rfl

theorem portTime_chip (dt n : Nat) : (State.portTime dt s n).chip = s.chip := by
  simp only [State.portTime, accrue_chip]
  split
  · rfl
  · simp only [State.put_chip, State.onPort, State.setPort_chip, State.countN]

theorem radTimePass_chip (dt n : Nat) : (State.radTimePass dt s n).chip = s.chip := by
  refine (accrue_chip _ _ _ _ _ _).trans ?_
  split
  · exact (accrue_chip _ _ _ _ _ _).trans (accrue_chip _ _ _ _ _ _)
  · exact accrue_chip _ _ _ _ _ _

theorem pushFront_chip (u : Nat) (e : QEntry) : (s.pushFront u e).chip = s.chip := by
  simp only [State.pushFront]
  split <;> rfl

theorem discardWait_chip (n : Nat) : (s.discardWait n).chip = s.chip := by
  unfold State.discardWait
  split
  · exact pushFront_chip _ _ _
  · rfl

theorem copyRecheck_chip (n : Nat) : (s.copyRecheck n).chip = s.chip := by
  unfold State.copyRecheck
  split
  · rfl
  · dsimp only
    split
    · split <;> rfl
    · split
      · exact discardWait_chip s n
      · rfl

theorem ldgRequest_chip (b : LdgBody) : (s.ldgRequest b).1.chip = s.chip := by
  unfold State.ldgRequest
  split
  · rfl
  · exact evt_chip _ _ _ _

theorem wipeAll_chip : s.wipeAll.chip = s.chip := by
  rw [State.wipeAll, State.wipeStart, State.put_chip, State.put_chip, State.put_chip]
  exact forEach_keeps s State.chip State.zeroPage (fun _ _ => rfl) _

theorem wakeNote_chip (cause detail src : Nat) : (s.wakeNote cause detail src).chip = s.chip := by
  simp only [State.wakeNote, State.put_chip]

theorem unretain_chip : s.unretain.chip = s.chip :=
  forEach_keeps s State.chip _ (fun t b => by split <;> rfl) _

theorem wakeStart_chip : s.wakeStart.chip = s.chip := (unretain_chip _).trans (latch_chip _ _)

end

/-! What keeps the block in manufacturing test. -/

section
variable (s : State)

theorem aonTime_mfgTest (dt : Nat) : (s.aonTime dt).chip.mfgTest = s.chip.mfgTest := by
  unfold State.aonTime
  split <;> rfl

/-- Outside main-domain reset what time adds to the counters leaves the chip's part as the always-on count left it. -/
theorem advance_chip (dt : Nat) : (s.advance dt).chip = if dt = 0 then s.chip else (s.aonTime dt).chip := by
  unfold State.advance
  split
  · rfl
  · dsimp only
    split
    · rfl
    · have ports := forEach_keeps (((s.aonTime dt).accrue ((s.aonTime dt).get TIME_STAT.STATE == 3) TIME_CNT.COUNT dt 3 0).accrue
        (((s.aonTime dt).accrue ((s.aonTime dt).get TIME_STAT.STATE == 3) TIME_CNT.COUNT dt 3 0).get TIME_STAT.STATE == 4)
        TIME_CNT.COUNT dt 4 0) State.chip (State.portTime dt) (fun t n => portTime_chip t dt n) (List.range 8)
      have counted := ports.trans ((accrue_chip _ _ _ _ _ _).trans (accrue_chip _ _ _ _ _ _))
      have radios := (forEach_keeps _ State.chip (State.radTimePass dt) (fun t n => radTimePass_chip t dt n) (List.range 3)).trans counted
      split <;> exact radios

theorem advance_mfgTest (dt : Nat) : (s.advance dt).chip.mfgTest = s.chip.mfgTest := by
  rw [advance_chip]
  split
  · rfl
  · exact aonTime_mfgTest s dt

/-- With no ledger read running, time alone ends no manufacturing test. -/
theorem pass_mfgTest (dt : Nat) (hm : s.chip.mfgTest = true) (hr : s.reading = false) : (s.pass dt).chip.mfgTest = true := by
  have idle : s.queueWaits = false := by simp [State.queueWaits, hm]
  have elapsed : (s.elapse dt).chip.mfgTest = true := by
    rw [State.elapse, hr]
    exact (advance_mfgTest s dt).trans hm
  rw [State.pass, idle]
  split
  · exact elapsed
  · exact (congrArg ChipSt.mfgTest (forEach_keeps _ State.chip _ copyRecheck_chip _)).trans elapsed

theorem porst_filtered (low : Nat) (back : Bool) (h : low < 100) : s.porst low back =
    if back then { s.advance low with chip.porst := true } else s.advance low := by
  have filtered : (if s.chip.porst then s.pulseSeen low 100 1000 else (s, false)) = (s, false) := by
    rw [State.pulseSeen, if_pos h, ite_self]
  rw [State.porst, filtered]
  rfl

theorem porst_filtered_mfgTest (low : Nat) (back : Bool) (h : low < 100) : (s.porst low back).chip.mfgTest = s.chip.mfgTest := by
  rw [porst_filtered s low back h]
  cases back <;> exact advance_mfgTest s low

theorem wake_mfgTest (cause detail : Nat) : (s.wake cause detail).chip.mfgTest = s.chip.mfgTest := by
  unfold State.wake
  split
  · split
    · simp only [State.put_chip, wakeNote_chip]
    · rfl
  · split
    · rfl
    · dsimp only
      split
      · split
        · rfl
        · have aborted : (s.pwrEvt PWR_STAT.ENTRY_ABORT).chip = s.chip := evt_chip s PWR_STAT.ENTRY_ABORT 0xE0 0
          split
          · rw [wakeStart_chip, wakeNote_chip, aborted]
          · simp only [State.count, State.countN, State.put_chip, wakeNote_chip, aborted]
      · split
        · rw [wakeStart_chip, wakeNote_chip]
          split <;> rfl
        · rfl

theorem wakeTamper_mfgTest (m : Nat) : (s.wakeTamper m).chip.mfgTest = s.chip.mfgTest := by
  unfold State.wakeTamper
  split
  · exact wake_mfgTest s _ _
  · rfl

theorem tamper_chip (m : Nat) : (s.tamper m).chip = s.chip := by
  unfold State.tamper
  dsimp only
  split
  · rfl
  · refine (ldgRequest_chip _ _).trans ?_
    have reacted : ((((s.put TAMPER_STAT.SEEN ((s.get TAMPER_STAT.SEEN).lor m)).wipeAll.propNone.protEvt PROT_EVT.TAMPER).protCount
        prTamper)).chip = s.chip := by
      rw [State.protCount, State.count, State.countN, State.put_chip, State.protEvt, evt_chip, State.propNone, State.put_chip, wipeAll_chip,
        State.put_chip]
    split
    · exact (State.put_chip _ _ _ _ _).trans reacted
    · exact reacted

theorem tamperIn_mfgTest (i : Nat) : (s.tamperIn i).chip.mfgTest = s.chip.mfgTest := by
  unfold State.tamperIn
  dsimp only
  split
  · rfl
  · exact (wakeTamper_mfgTest _ _).trans (congrArg ChipSt.mfgTest (tamper_chip _ _))

end

/-! The commands of the reset pins and the tamper inputs. -/

theorem finish_self (s : State) : s.finish s = { s with intOut := s.lines } := rfl

/-- The commands that may end manufacturing test: a reset of the whole block, and, while the ledger read of START still runs, the
commands that let time pass to its end. -/
def EndsTest (s : State) (c : Instr) (rest : List Instr) : Prop :=
  ∃ tail dt, c :: rest = .aonPor dt :: tail ∨ c :: rest = .vddAonFall dt :: tail ∨
    (∃ low back, (100 ≤ low ∨ s.reading = true) ∧ c :: rest = .porst dt ⟨low, back⟩ :: tail) ∨
    (s.reading = true ∧ ∃ j, c :: rest = .tamper dt j :: tail)

/-- A command of the reset pins or the tamper inputs ends manufacturing test or keeps it. -/
theorem exec_chip_mfgTest (c : Instr) (rest : List Instr) (s t : State) (hd : (siteOf c).dom = .chip) (hm : s.chip.mfgTest = true)
    (ht : exec c s = .next t) : t.chip.mfgTest = true ∨ EndsTest s c rest := by
  cases c with
  | aonPor dt => exact .inr ⟨rest, dt, .inl rfl⟩
  | vddAonFall dt => exact .inr ⟨rest, dt, .inr (.inl rfl)⟩
  | porst dt x =>
    by_cases hx : 100 ≤ x.low ∨ s.reading = true
    · exact .inr ⟨rest, dt, .inr (.inr (.inl ⟨x.low, x.back, hx, rfl⟩))⟩
    · obtain ⟨hl, hr⟩ := not_or.1 hx
      injection ht with ht
      subst ht
      refine .inl ?_
      show (if s.chip.aonOn then (s.pass dt).porst x.low x.back else s).chip.mfgTest = true
      split
      · exact (porst_filtered_mfgTest _ _ _ (Nat.lt_of_not_le hl)).trans (pass_mfgTest s dt hm (Bool.eq_false_iff.2 hr))
      · exact hm
  | tamper dt i =>
    cases hr : s.reading with
    | true => exact .inr ⟨rest, dt, .inr (.inr (.inr ⟨hr, i, rfl⟩))⟩
    | false =>
      injection ht with ht
      subst ht
      refine .inl ?_
      show (if s.chip.aonOn then (s.pass dt).tamperIn i.toNat else s).chip.mfgTest = true
      split
      · exact (tamperIn_mfgTest _ _).trans (pass_mfgTest s dt hm hr)
      · exact hm
  | _ => cases hd

end Sys2Proof.Proofs

namespace Sys2Proof.Proofs

open Sys2Proof Sys2Proof.Machine

/-- Settles O60: a command of the reset pins or the tamper inputs keeps the test where it does not end it, and every other one finds a
dead block. -/
theorem manufacturingTestEndsByReset : Obligations.ManufacturingTestEndsByReset := by
  intro s t hm ht
  have dead : s.alive = false := (alive_eq_false_iff s).2 (.inr hm)
  by_cases hp : s.pending = []
  · rw [step_empty s hp, if_neg (Bool.eq_false_iff.1 dead), finish_self] at ht
    injection ht with ht
    refine ⟨.inl (ht ▸ hm), fun _ => ht.symm, fun c rest hc => ?_⟩
    rw [hp] at hc
    exact absurd hc nofun
  · obtain ⟨c, rest, hc⟩ := List.exists_cons_of_ne_nil hp
    rw [step_front s c rest hc] at ht
    have still (hd : (siteOf c).dom ≠ .chip) : t = { s with pending := rest, intOut := s.lines } := by
      rw [exec_dead c { s with pending := rest } hd dead] at ht
      injection ht with ht
      exact ht.symm
    refine ⟨?_, fun hn => absurd hn hp, fun c' rest' hc' => ?_⟩
    · rw [hc]
      by_cases hd : (siteOf c).dom = .chip
      · exact exec_chip_mfgTest c rest { s with pending := rest } t hd hm ht
      · exact .inl (still hd ▸ hm)
    · obtain ⟨rfl, rfl⟩ := List.cons.inj (hc.symm.trans hc')
      exact still

end Sys2Proof.Proofs
end

section
/-! SUPPORT. What a reset leaves: the always-on registers, the ledger's cells, and a block that has not begun (R45, R47, R49, R58 to
R63). -/

namespace Sys2Proof.Proofs

open Sys2Proof Sys2Proof.Machine

/-! Main-domain reset (R49, R58, R538). -/

section
variable (s : State)

/-- A sparse map whose entries are kept by their keys reads as before under a kept key, and as unlisted under any other. -/
theorem mapGet_filter {α : Type} (d : Nat → α) (keep : Nat → Bool) (m : List (Nat × α)) (k : Nat) :
    mapGet d (m.filter (fun e => keep e.1)) k = if keep k then mapGet d m k else d k := by
  induction m with
  | nil => cases keep k <;> rfl
  | cons e m ih =>
    obtain ⟨a, v⟩ := e
    by_cases ha : keep a
    · rw [List.filter_cons_of_pos (by exact ha)]
      by_cases hk : k = a
      · subst hk
        simp [mapGet, ha]
      · simp [mapGet, hk, ih]
    · rw [List.filter_cons_of_neg (by exact ha), ih]
      by_cases hk : k = a
      · subst hk
        simp [ha]
      · simp [mapGet, hk]

/-- Main-domain reset before it clears the lockout and the power state. -/
def islandKept : State := { State.reset with
  pending := s.pending, regs := s.aonRegs, free := s.free, latchMerged := s.latchMerged, ports := portInputs s.ports,
  ledger := { LedgerSt.init with cells := s.ledger.cells }, panel := s.panel, pwr := { PwrSt.init with reqPort := s.pwr.reqPort },
  chip := { s.chip with mainReset := true, rstPend := false, start := .init, tap := .init } }

theorem mainReset_eq :
    s.mainReset = (((islandKept s).put TAMPER_STAT.LOCKED_OUT 0).put PWR_STAT.STATE 0).put PWR_STAT.PEND 0 := rfl

theorem rg_mainReset (k : Nat) (ht : k ≠ TAMPER_STAT.reg.key 0 0) (hp : k ≠ PWR_STAT.reg.key 0 0) :
    s.mainReset.rg k = if isAon k then s.rg k else (resetWord k).toNat := by
  have clearedTamper : k ≠ TAMPER_STAT.LOCKED_OUT.key 0 0 := ht
  have clearedState : k ≠ PWR_STAT.STATE.key 0 0 := hp
  have clearedPend : k ≠ PWR_STAT.PEND.key 0 0 := hp
  rw [mainReset_eq, State.rg_put_other _ _ _ _ _ _ clearedPend, State.rg_put_other _ _ _ _ _ _ clearedState,
    State.rg_put_other _ _ _ _ _ _ clearedTamper]
  have kept : (islandKept s).rg k = (mapGet resetWord s.aonRegs k).toNat := rfl
  rw [kept, State.aonRegs, mapGet_filter]
  split <;> rfl

theorem get_mainReset (f : Fld) (i j : Nat) (ht : f.key i j ≠ TAMPER_STAT.reg.key 0 0) (hp : f.key i j ≠ PWR_STAT.reg.key 0 0)
    (ha : isAon (f.key i j) = true) : s.mainReset.get f i j = s.get f i j := by
  rw [State.get, rg_mainReset s _ ht hp, if_pos ha]
  rfl

/-- What main-domain reset clears, and what it keeps of the ledger. -/
theorem mainReset_cleared : s.mainReset.frc = 0 ∧ s.mainReset.roles = [] ∧ s.mainReset.cmdq = [] ∧ s.mainReset.mem = MemSt.init ∧
    s.mainReset.egr = EgrSt.init ∧ s.mainReset.rads = [] ∧ s.mainReset.ledger.cells = s.ledger.cells ∧
    s.mainReset.chip.mainReset = true := by
  simp only [mainReset_eq, State.put_frc, State.put_roles, State.put_cmdq, State.put_mem, State.put_egr, State.put_rads, State.put_ledger,
    State.put_chip]
  exact ⟨rfl, rfl, rfl, rfl, rfl, rfl, rfl, rfl⟩

theorem mainReset_lockedOut : s.mainReset.on TAMPER_STAT.LOCKED_OUT = false := by
  have cleared : s.mainReset.get TAMPER_STAT.LOCKED_OUT = 0 := by
    rw [mainReset_eq]
    exact (State.get_put_key _ _ _ _ _ _ _ _ (by decide)).trans ((State.get_put_key _ _ _ _ _ _ _ _ (by decide)).trans
      (State.get_put_same _ TAMPER_STAT.LOCKED_OUT 0 0 0 (by decide)))
  rw [State.on, cleared]
  rfl

theorem mainReset_pwrState : s.mainReset.get PWR_STAT.STATE = 0 := by
  rw [mainReset_eq]
  exact (State.get_put_bits _ PWR_STAT.PEND PWR_STAT.STATE 0 0 0 0 0 rfl (by decide) (by decide)).trans
    (State.get_put_same _ PWR_STAT.STATE 0 0 0 (by decide))

theorem mainReset_pwrPend : s.mainReset.get PWR_STAT.PEND = 0 := State.get_put_same _ PWR_STAT.PEND 0 0 0 (by decide)

end

/-! A block in main-domain reset, and the time that passes there. -/

/-- `t` stands in main-domain reset with the ledger's cells of `s`: nothing has begun, and every register that is not always-on holds
its reset value. -/
structure InReset (s t : State) : Prop where
  frc : t.frc = 0
  roles : t.roles = []
  mem : t.mem = MemSt.init
  cmdq : t.cmdq = []
  mainReset : t.chip.mainReset = true
  cells : t.ledger.cells = s.ledger.cells
  regs : ∀ k, isAon k = false → t.rg k = (resetWord k).toNat

section
variable {s t : State}

theorem isAon_of_reset_keys : isAon (TAMPER_STAT.reg.key 0 0) = true ∧ isAon (PWR_STAT.reg.key 0 0) = true ∧
    isAon (PWR_AON_CNT.COUNT.key 0 0) = true ∧ isAon (GLB_RST_CAUSE.reg.key 0 0) = true := by decide +kernel

theorem InReset.of_mainReset (s : State) : InReset s s.mainReset := by
  obtain ⟨frc, roles, cmdq, mem, -, -, cells, main⟩ := mainReset_cleared s
  refine ⟨frc, roles, mem, cmdq, main, cells, fun k hk => ?_⟩
  obtain ⟨aonTamper, aonPwr, -, -⟩ := isAon_of_reset_keys
  have other (j : Nat) (hj : isAon j = true) : k ≠ j := fun h => Bool.false_ne_true (hk.symm.trans (h ▸ hj))
  rw [rg_mainReset s k (other _ aonTamper) (other _ aonPwr), hk]
  rfl

/-- A reset by a cause starts from the state with the cause's bit set. -/
theorem InReset.of_resetBy (s : State) (f : Fld) : InReset s (s.resetBy f) := by
  obtain ⟨frc, roles, mem, cmdq, main, cells, regs⟩ := InReset.of_mainReset (s.put f 1)
  exact ⟨frc, roles, mem, cmdq, main, cells, regs⟩

theorem resetBy_cause (s : State) (f : Fld) (hf : f.key 0 0 = GLB_RST_CAUSE.reg.key 0 0) (hw : f.lo + f.w ≤ 64) :
    (s.resetBy f).get f = 1 % 2 ^ f.w := by
  obtain ⟨-, -, -, aonCause⟩ := isAon_of_reset_keys
  rw [State.resetBy, get_mainReset _ f 0 0 (by rw [hf]; decide) (by rw [hf]; decide) (by rw [hf]; exact aonCause)]
  exact State.get_put_same s f 1 0 0 hw

/-- The always-on count runs or stands. -/
theorem aonTime_cases (t : State) (dt : Nat) : t.aonTime dt = t ∨
    ∃ r v, t.aonTime dt = State.put { t with chip.aonRem := r } PWR_AON_CNT.COUNT v := by
  unfold State.aonTime
  split
  · exact .inr ⟨_, _, rfl⟩
  · exact .inl rfl

theorem advance_in_reset (t : State) (dt : Nat) (h : t.chip.mainReset = true) : t.advance dt = t ∨
    ∃ r v, t.advance dt = State.put { t with chip.aonRem := r } PWR_AON_CNT.COUNT v := by
  have main : (t.aonTime dt).chip.mainReset = true := by
    rcases aonTime_cases t dt with ht | ⟨r, v, ht⟩ <;> rw [ht] <;> exact h
  have time : t.advance dt = if dt = 0 then t else t.aonTime dt := by
    unfold State.advance
    split
    · rfl
    · exact if_pos main
  rw [time]
  split
  · exact .inl rfl
  · exact aonTime_cases t dt

theorem InReset.advance (h : InReset s t) (dt : Nat) : InReset s (t.advance dt) := by
  rcases advance_in_reset t dt h.mainReset with ht | ⟨r, v, ht⟩ <;> rw [ht]
  · exact h
  · obtain ⟨-, -, aonCount, -⟩ := isAon_of_reset_keys
    refine ⟨h.frc, h.roles, h.mem, h.cmdq, h.mainReset, h.cells, fun k hk => ?_⟩
    have other : k ≠ PWR_AON_CNT.COUNT.key 0 0 := fun e => Bool.false_ne_true (hk.symm.trans (e ▸ aonCount))
    rw [State.rg_put_other _ _ _ _ _ _ other]
    exact h.regs k hk

theorem get_advance_in_reset (f : Fld) (dt : Nat) (h : t.chip.mainReset = true) (hf : f.key 0 0 ≠ PWR_AON_CNT.COUNT.key 0 0) :
    (t.advance dt).get f = t.get f := by
  rcases advance_in_reset t dt h with ht | ⟨r, v, ht⟩ <;> rw [ht]
  rw [State.get_put_key _ _ _ _ _ _ _ _ hf]
  rfl

/-- The pins of the power supplies and of PORST# stand still in reset. -/
theorem pins_advance_in_reset (dt : Nat) (h : t.chip.mainReset = true) : (t.advance dt).chip.porst = t.chip.porst ∧
    (t.advance dt).chip.pgCore = t.chip.pgCore ∧ (t.advance dt).chip.pgSram = t.chip.pgSram := by
  rcases advance_in_reset t dt h with ht | ⟨r, v, ht⟩ <;> rw [ht] <;> exact ⟨rfl, rfl, rfl⟩

theorem InReset.withPorst (h : InReset s t) (level : Bool) : InReset s { t with chip.porst := level } :=
  ⟨h.frc, h.roles, h.mem, h.cmdq, h.mainReset, h.cells, h.regs⟩

theorem InReset.setRail (h : InReset s t) (sram level : Bool) : InReset s (t.setRail sram level) := by
  cases sram <;> exact ⟨h.frc, h.roles, h.mem, h.cmdq, h.mainReset, h.cells, h.regs⟩

end

/-! Pulses on the pins (R45, R59). -/

section
variable (p : State) (low : Nat)

theorem pulseSeen_long (a b : Nat) (ha : a ≤ low) (hb : b ≤ low) : p.pulseSeen low a b = (p, true) := by
  rw [State.pulseSeen, if_neg (Nat.not_lt.2 ha), if_pos hb]

/-- PORST# is low, and the block in reset, when the pulse has ended. -/
def porstHeld : State := State.advance { p.porstReset with chip.porst := false } low

theorem porst_recognized (back : Bool) (hp : p.chip.porst = true) (h : 1000 ≤ low) :
    p.porst low back = if back then { porstHeld p low with chip.porst := true } else porstHeld p low := by
  rw [State.porst, if_pos hp, pulseSeen_long p low 100 1000 (by omega) h]
  rfl

theorem porstReset_inReset : InReset p p.porstReset := by
  obtain ⟨frc, roles, mem, cmdq, main, cells, regs⟩ := InReset.of_resetBy { p with
    chip.reqMain := true, chip.reqLedger := true, chip.mfgTest := false, chip.mfgMbist := false, chip.wakeCause := false,
    pwr.reqPort := 0x7FF } GLB_RST_CAUSE.PORST
  exact ⟨frc, roles, mem, cmdq, main, cells, regs⟩

theorem porstHeld_inReset : InReset p (porstHeld p low) := ((porstReset_inReset p).withPorst false).advance low

theorem porstHeld_cause : (porstHeld p low).get GLB_RST_CAUSE.PORST = 1 := by
  have held := get_advance_in_reset GLB_RST_CAUSE.PORST low ((porstReset_inReset p).withPorst false).mainReset (by decide)
  have pin : State.get { p.porstReset with chip.porst := false } GLB_RST_CAUSE.PORST = p.porstReset.get GLB_RST_CAUSE.PORST :=
    State.get_congr _ 0 0 rfl
  rw [porstHeld, held, pin, State.porstReset]
  exact resetBy_cause _ GLB_RST_CAUSE.PORST rfl (by decide)

theorem porstHeld_pin : (porstHeld p low).chip.porst = false :=
  (pins_advance_in_reset low ((porstReset_inReset p).withPorst false).mainReset).1

/-- The cause bit of a core rail. -/
def railCause (sram : Bool) : Fld := if sram then GLB_RST_CAUSE.SRAM_RAIL else GLB_RST_CAUSE.CORE_RAIL

/-- A core rail is low, and the block in reset, when the pulse has ended. -/
def railHeld (sram : Bool) : State := ((p.resetBy (railCause sram)).setRail sram false).advance low

variable (sram : Bool)

theorem railFall_recognized (back : Bool) (hp : p.railLevel sram = true) (h : 100 ≤ low) :
    p.railFall sram low back =
      let q := ((p.railReset sram).setRail sram false).advance low
      if back then q.setRail sram true else q := by
  rw [State.railFall, if_pos hp, pulseSeen_long p low 50 100 (by omega) h]
  rfl

theorem railReset_requested (hr : p.chip.reqMain = true) : p.railReset sram = p.resetBy (railCause sram) := if_pos hr

theorem railReset_released (hr : p.chip.reqMain = false) : p.railReset sram = p := if_neg (Bool.eq_false_iff.1 hr)

theorem railHeld_inReset : InReset p (railHeld p low sram) := ((InReset.of_resetBy p _).setRail sram false).advance low

theorem get_setRail (t : State) (level : Bool) (f : Fld) : (t.setRail sram level).get f = t.get f := by
  cases sram <;> rfl

theorem railLevel_setRail (t : State) (level : Bool) : (t.setRail sram level).railLevel sram = level := by
  cases sram <;> rfl

theorem railHeld_cause : (railHeld p low sram).get (railCause sram) = 1 := by
  have held : (railHeld p low sram).get (railCause sram) = (p.resetBy (railCause sram)).get (railCause sram) :=
    (get_advance_in_reset _ low ((InReset.of_resetBy p _).setRail sram false).mainReset (by cases sram <;> decide)).trans
      (get_setRail sram _ false _)
  rw [held]
  cases sram
  · exact resetBy_cause p GLB_RST_CAUSE.CORE_RAIL rfl (by decide)
  · exact resetBy_cause p GLB_RST_CAUSE.SRAM_RAIL rfl (by decide)

theorem railHeld_pin : (railHeld p low sram).railLevel sram = false := by
  obtain ⟨-, core, mem⟩ := pins_advance_in_reset low ((InReset.of_resetBy p (railCause sram)).setRail sram false).mainReset
  cases sram
  · exact core
  · exact mem

end

/-! The commands of the reset pins and the core rails. -/

section
variable (s : State) (dt low : Nat)

theorem exec_porst (back : Bool) (h : s.chip.aonOn = true) :
    exec (.porst dt ⟨low, back⟩) s = .next (s.finish ((s.pass dt).porst low back)) := by
  show s.answer (if s.chip.aonOn then (s.pass dt).porst low back else s) = _
  rw [if_pos h]
  rfl

theorem exec_coreRail (sram back : Bool) (h : s.alive = true) :
    exec (.coreRail dt sram ⟨low, back⟩) s = .next (s.finish ((s.pass dt).railFall sram low back)) :=
  State.always_alive s dt (fun p => p.railFall sram low back) h

end

end Sys2Proof.Proofs

namespace Sys2Proof.Proofs

open Sys2Proof Sys2Proof.Machine

/-- Settles O11: what each register reads, then the parts that main-domain reset clears. -/
theorem mainResetKeepsOnlyTheIsland : Obligations.MainResetKeepsOnlyTheIsland :=
  fun s k ht hp =>
    have ⟨frc, roles, cmdq, mem, egr, rads, cells, main⟩ := mainReset_cleared s
    ⟨rg_mainReset s k ht hp, frc, roles, cmdq, mem, egr, rads, cells, main, mainReset_lockedOut s, mainReset_pwrState s,
      mainReset_pwrPend s⟩

/-- Settles O12: the power-on reset as it stands, a recognized pulse as a block that stands in reset, a filtered one as time. -/
theorem powerPinsResetTheBlock : Obligations.PowerPinsResetTheBlock := by
  refine ⟨fun s dt => ⟨_, rfl, rfl, rfl, rfl, rfl, rfl, rfl, rfl, rfl⟩, fun s dt => ⟨_, rfl, rfl, rfl, rfl, rfl, rfl, rfl, rfl, rfl⟩,
    fun s dt low back ha hp hl => ⟨_, exec_porst s dt low back ha, ?_⟩, fun s dt low ha hp hl => ?_,
    fun s dt low sram back ha hl hp hr => ⟨_, exec_coreRail s dt low sram back ha, ?_⟩, fun s dt low sram ha hl hp hr => ?_⟩
  · rw [porst_recognized _ low back hp hl]
    obtain ⟨frc, roles, mem, cmdq, main, cells, regs⟩ := porstHeld_inReset (s.pass dt) low
    have cause := porstHeld_cause (s.pass dt) low
    cases back
    · exact ⟨frc, roles, mem, cmdq, main, cause, porstHeld_pin _ _, cells, regs⟩
    · exact ⟨frc, roles, mem, cmdq, main, cause, rfl, cells, regs⟩
  · rw [exec_porst s dt low true ha, porst_filtered _ _ _ hl]
    rfl
  · rw [railFall_recognized _ low sram back hp hl, railReset_requested _ _ hr]
    have held := railHeld_inReset (s.pass dt) low sram
    have cause := railHeld_cause (s.pass dt) low sram
    cases back
    · obtain ⟨frc, roles, mem, cmdq, main, cells, regs⟩ := held
      exact ⟨frc, roles, mem, cmdq, main, cause, railHeld_pin _ _ _, cells, regs⟩
    · obtain ⟨frc, roles, mem, cmdq, main, cells, regs⟩ := held.setRail sram true
      exact ⟨frc, roles, mem, cmdq, main, (get_setRail sram _ true _).trans cause, railLevel_setRail sram _ true, cells, regs⟩
  · rw [exec_coreRail s dt low sram false ha, railFall_recognized _ low sram false hp hl, railReset_released _ _ hr]
    rfl

end Sys2Proof.Proofs
end

section
/-! SUPPORT. The ledger rail, the clock monitors, software reset and the release of main-domain reset (R45, R47, R56, R57, R60, R63,
R507). -/

namespace Sys2Proof.Proofs

open Sys2Proof Sys2Proof.Machine

/-! The ledger rail (R47). -/

section
variable (p : State)

theorem ledgerFall_seen (low : Nat) (hp : p.chip.pgLedger = true) (h : 100 ≤ low) : p.ledgerFall low =
    let q : State := { p with chip.pgLedger := false }
    if q.chip.reqLedger then
      (if q.chip.mainReset then q.put GLB_RST_CAUSE.LEDGER_RAIL 1
       else (q.put GLB_RST_CAUSE.LEDGER_RAIL 1).put GLB_RAIL_STAT.LEDGER_AVAIL 0).latch 0x14
    else q := by
  simp only [State.ledgerFall, pulseSeen_long p low 50 100 (by omega) h, hp, Bool.and_true, if_true, State.put_chip]

/-- The words that START holds are written in their order. -/
def heldWritten : State :=
  let q : State := { p with chip.pgLedger := true }
  { q.forEach q.chip.start.held (fun r e => r.ldgPut e.1 e.2) with chip.start.held := [] }

theorem ledgerReturn_in_reset (h : p.chip.mainReset = true) : p.ledgerReturn = { p with chip.pgLedger := true } := if_pos h

theorem ledgerReturn_running (h : p.chip.mainReset = false) : p.ledgerReturn =
    if (heldWritten p).ledger.queue.isEmpty then (heldWritten p).put GLB_RAIL_STAT.LEDGER_AVAIL 1 else heldWritten p :=
  if_neg (Bool.eq_false_iff.1 h)

end

/-! The loss of a clock (R57, R507). -/

section
variable (p : State) (d rx : Nat)

/-- The clock of domain `d` is absent, and the block has not reacted yet. -/
def clockGone : State := { p with chip.clkUp := p.chip.clkUp &&& ~~~(1#13 <<< d) }

/-- Port `n` keeps the frame that it was receiving when its clock stopped. -/
def rxLeftOpen (r : State) (n : Nat) : State := if bitAt rx n then r.onPort n (fun x => { x with rxOpen := true }) else r

/-- The ports of domain `d` that mark nothing, and those that mark the loss. -/
def portsStopped (q : State) : State := q.forEach (clkPorts d) (rxLeftOpen rx)
def portsLost (q : State) : State := q.forEach (clkPorts d) (fun r n => (rxLeftOpen rx r n).pevt PORT_EVT.CLK_LOST n)

/-- The monitor of domain `d` shows the loss in LOST. -/
def lossShown (q : State) : State := q.put GLB_CLK_STAT.LOST ((q.get GLB_CLK_STAT.LOST).lor (2 ^ d))

theorem clockLoss_in_reset (hc : p.clkOn d = true) (hd : d ≠ 11) (hm : p.chip.mainReset = true) : p.clockLoss d rx = clockGone p d := by
  rw [State.clockLoss, if_neg (by simp [hc, hd])]
  exact if_pos hm

theorem clockLoss_main (hc : p.clkOn d = true) (hm : p.chip.mainReset = false) (hd : d = 0 ∨ d = 1 ∨ d = 2 ∨ d = 5) :
    p.clockLoss d rx = ((clockGone p d).put GLB_RST_CAUSE.LOST_CLK d).resetBy GLB_RST_CAUSE.CLOCK_LOSS := by
  have monitored : ¬ (d = 11 ∨ p.clkOn d = false) := by
    rw [hc]
    rintro (h | h)
    · omega
    · exact absurd h nofun
  rw [State.clockLoss, if_neg monitored]
  exact (if_neg (Bool.eq_false_iff.1 hm)).trans (if_pos hd)

/-- The loss of a clock that is not a main one: it is recorded where it is not expected, `quiet`, and the ports of the clock note it. -/
def lossNoted (q : State) (quiet : Bool) : State :=
  let q := if quiet then q else if d = 12 then (q.put GLB_CLK_STAT.AON_LOST 1).latch 0x13 else lossShown d q
  let q := q.forEach (clkPorts d) (fun r n => if quiet then rxLeftOpen rx r n else (rxLeftOpen rx r n).pevt PORT_EVT.CLK_LOST n)
  if d = 10 ∧ quiet = false then q.forEach (List.range 3) (fun r n => r.revt RAD_EVT.CLK_LOST n) else q

theorem clockLoss_other (hc : p.clkOn d = true) (hd : d ≠ 11) (hm : p.chip.mainReset = false) (hn : ¬ (d = 0 ∨ d = 1 ∨ d = 2 ∨ d = 5)) :
    p.clockLoss d rx = (lossNoted d rx (clockGone p d) ((clockGone p d).lossExpected d)).clkEval d := by
  rw [State.clockLoss, if_neg (by simp [hc, hd])]
  exact (if_neg (Bool.eq_false_iff.1 hm)).trans (if_neg hn)

theorem lossNoted_expected (q : State) : lossNoted d rx q true = portsStopped d rx q := by
  simp only [lossNoted, if_true, Bool.true_eq_false, and_false, if_false]
  rfl

theorem lossNoted_port (q : State) (h12 : d ≠ 12) (h10 : d ≠ 10) : lossNoted d rx q false = portsLost d rx (lossShown d q) := by
  simp only [lossNoted, Bool.false_eq_true, if_false, if_neg h12, h10, false_and]
  rfl

theorem clockLoss_expected (hc : p.clkOn d = true) (hd : d ≠ 11) (hm : p.chip.mainReset = false)
    (hn : ¬ (d = 0 ∨ d = 1 ∨ d = 2 ∨ d = 5)) (hq : (clockGone p d).lossExpected d = true) :
    p.clockLoss d rx = (portsStopped d rx (clockGone p d)).clkEval d := by
  rw [clockLoss_other p d rx hc hd hm hn, hq, lossNoted_expected]

theorem clockLoss_port (hc : p.clkOn d = true) (hm : p.chip.mainReset = false) (hd : d ∈ [3, 4, 6, 7, 8, 9])
    (hq : (clockGone p d).lossExpected d = false) : p.clockLoss d rx = (portsLost d rx (lossShown d (clockGone p d))).clkEval d := by
  simp only [List.mem_cons, List.not_mem_nil, or_false] at hd
  rw [clockLoss_other p d rx hc (by omega) hm (by omega), hq, lossNoted_port d rx _ (by omega) (by omega)]

theorem clockLoss_radio (hc : p.clkOn 10 = true) (hm : p.chip.mainReset = false) (hq : (clockGone p 10).lossExpected 10 = false) :
    p.clockLoss 10 rx =
      ((lossShown 10 (clockGone p 10)).forEach (List.range 3) (fun r n => r.revt RAD_EVT.CLK_LOST n)).clkEval 10 := by
  rw [clockLoss_other p 10 rx hc (by decide) hm (by decide), hq]
  rfl

/-- No port runs on AON_CK. -/
theorem clkEval_aon (q : State) : q.clkEval 12 = q := rfl

theorem forEach_nil {α : Type} (q : State) (f : State → α → State) : q.forEach [] f = q := rfl

theorem lossNoted_aon (q : State) (hd : d = 12) : lossNoted d rx q false = (q.put GLB_CLK_STAT.AON_LOST 1).latch 0x13 := by
  have noPort (f : State → Nat → State) (x : State) : x.forEach (clkPorts d) f = x := by
    rw [hd]
    exact forEach_nil x f
  have noRadio : ¬ d = 10 := fun h => absurd (hd.symm.trans h) (by decide)
  simp only [lossNoted, noPort, noRadio, false_and, if_false, if_pos hd, if_neg Bool.false_ne_true]

/-- The loss of AON_CK is never expected. -/
theorem clockLoss_aon (hc : p.clkOn 12 = true) (hm : p.chip.mainReset = false) :
    p.clockLoss 12 rx = ((clockGone p 12).put GLB_CLK_STAT.AON_LOST 1).latch 0x13 := by
  have unexpected : (clockGone p 12).lossExpected 12 = false := rfl
  rw [clockLoss_other p 12 rx hc (by decide) hm (by decide), unexpected, lossNoted_aon 12 rx _ rfl, clkEval_aon]

end

/-! The return of a clock (R56, R78). -/

section
variable (p : State) (d : Nat)

/-- The clock of domain `d` is present, and the block has not reacted yet. -/
def clockBackUp : State := { p with chip.clkUp := p.chip.clkUp ||| (1#13 <<< d) }

theorem clockBack_in_reset (hd : d ≠ 11) (hm : p.chip.mainReset = true) : p.clockBack d = clockBackUp p d := by
  have returned : p.clockReturn d = clockBackUp p d := by
    rw [State.clockReturn, if_neg hd]
    exact if_pos hm
  have held : (clockBackUp p d).chip.mainReset = true := hm
  rw [State.clockBack, returned]
  exact if_neg (by simp [held])

theorem clockReturn_running (hd : d ≠ 11) (hm : p.chip.mainReset = false) : p.clockReturn d =
    if d = 3 then ((clockBackUp p d).clkEval d).forEach (List.range 8) State.hostKick else (clockBackUp p d).clkEval d := by
  rw [State.clockReturn, if_neg hd]
  exact if_neg (Bool.eq_false_iff.1 hm)

theorem clockBack_port (hd : d ≠ 11) (hm : p.chip.mainReset = false) (h3 : d ≠ 3) (h4 : d ≠ 4) :
    p.clockBack d = (clockBackUp p d).clkEval d := by
  rw [State.clockBack, clockReturn_running p d hd hm, if_neg h3]
  exact if_neg (fun h => h4 h.1)

theorem clockBack_host (hm : p.chip.mainReset = false) :
    p.clockBack 3 = ((clockBackUp p 3).clkEval 3).forEach (List.range 8) State.hostKick := by
  rw [State.clockBack, clockReturn_running p 3 (by decide) hm]
  rfl

theorem clockBack_reg (hm : p.chip.mainReset = false) : p.clockBack 4 =
    if ((clockBackUp p 4).clkEval 4).chip.mainReset then (clockBackUp p 4).clkEval 4 else ((clockBackUp p 4).clkEval 4).tapResume := by
  rw [State.clockBack, clockReturn_running p 4 (by decide) hm, if_neg (show ¬ 4 = 3 by decide)]
  by_cases h : ((clockBackUp p 4).clkEval 4).chip.mainReset = true
  · rw [if_pos h]
    exact if_neg (fun hc => Bool.false_ne_true (hc.2.symm.trans h))
  · rw [if_neg h]
    exact if_pos ⟨rfl, Bool.eq_false_iff.2 h⟩

end

section
variable (s : State) (dt : Nat)

/-- What a loss or return of a clock leaves is looked at once more by the LINK wake. -/
theorem linkWatch_of_eq (p : State) (f : State → State) (t : State) (h : f p = t) : p.linkWatch f = p.linkWatch (fun _ => t) := by
  rw [State.linkWatch, State.linkWatch, h]

theorem exec_clockLoss (d : Fin 13) (rx : BitVec 8) (t : State) (h : s.alive = true) (ht : (s.pass dt).clockLoss d.val rx.toNat = t) :
    exec (.clockLoss dt d rx) s = .next (s.finish ((s.pass dt).linkWatch (fun _ => t))) :=
  (State.always_alive s dt (fun p => p.linkWatch (fun q => q.clockLoss d.val rx.toNat)) h).trans
    (next_finish (linkWatch_of_eq _ _ t ht))

theorem exec_clockReturn (d : Fin 13) (t : State) (h : s.alive = true) (ht : (s.pass dt).clockBack d.val = t) :
    exec (.clockReturn dt d) s = .next (s.finish ((s.pass dt).linkWatch (fun _ => t))) :=
  (State.always_alive s dt (fun p => p.linkWatch (fun q => q.clockBack d.val)) h).trans
    (next_finish (linkWatch_of_eq _ _ t ht))

end

/-! Release of main-domain reset (R60). -/

/-- The release conditions hold: PORST# and the supplies are up, the main domain is requested, the six main clocks run. -/
theorem mayRelease_of (p : State) (hr : p.chip.reqMain = true) (hp : p.chip.porst = true) (hc : p.chip.pgCore = true)
    (hs : p.chip.pgSram = true) (hl : p.chip.pgLedger = true) (hk : ∀ d < 6, p.clkOn d = true) : p.mayRelease = true := by
  have clocks : (List.range 6).all p.clkOn = true := List.all_eq_true.2 fun d hd => hk d (List.mem_range.1 hd)
  simp only [State.mayRelease, hr, hp, hc, hs, hl, clocks, Bool.and_self]

end Sys2Proof.Proofs

namespace Sys2Proof.Proofs

open Sys2Proof Sys2Proof.Machine

/-- Settles O13: the rail by its request and by the queue, a loss by its domain and whether it is expected, a return by its domain. -/
theorem ledgerRailAndClocks : Obligations.LedgerRailAndClocks := by
  refine ⟨fun s dt low ha hl hp => ?_, fun s dt ha => ?_, fun s dt d rx ha hc hd => ?_, fun s dt d ha hd => ?_, fun s dt rx ha => ?_⟩
  · exact (State.always_alive s dt (fun p => p.ledgerFall low) ha).trans (next_finish (ledgerFall_seen _ low hp hl))
  · have answer := State.always_alive s dt State.ledgerReturn ha
    refine ⟨fun hm => ?_, fun hm hq => ?_, fun hm hq => ?_⟩
    · exact answer.trans (next_finish (ledgerReturn_in_reset _ hm))
    · exact answer.trans (next_finish ((ledgerReturn_running _ hm).trans (if_pos (List.isEmpty_iff.2 hq))))
    · exact answer.trans (next_finish ((ledgerReturn_running _ hm).trans (if_neg (mt List.isEmpty_iff.1 hq))))
  · refine ⟨fun hm => ?_, fun hm => ⟨fun hk => ?_, fun hk hq => ?_, fun hk hq => ?_, fun hk hq => ?_, fun hk => ?_⟩⟩
    · exact exec_clockLoss s dt d rx _ ha (clockLoss_in_reset _ _ _ hc hd hm)
    · refine exec_clockLoss s dt d rx _ ha (clockLoss_main _ _ _ hc hm ?_)
      simpa using hk
    · refine exec_clockLoss s dt d rx _ ha (clockLoss_expected _ _ _ hc hd hm ?_ hq)
      simp only [List.mem_cons, List.not_mem_nil, or_false] at hk
      omega
    · exact exec_clockLoss s dt d rx _ ha (clockLoss_port _ _ _ hc hm hk hq)
    · refine exec_clockLoss s dt d rx _ ha ?_
      rw [hk] at hc ⊢
      exact clockLoss_radio _ _ hc hm hq
    · refine exec_clockLoss s dt d rx _ ha ?_
      rw [hk] at hc ⊢
      exact clockLoss_aon _ _ hc hm
  · refine ⟨fun hm => ?_, fun hm h3 h4 => ?_, fun hm h3 => ?_, fun hm h4 => ?_⟩
    · exact exec_clockReturn s dt d _ ha (clockBack_in_reset _ _ hd hm)
    · exact exec_clockReturn s dt d _ ha (clockBack_port _ _ hd hm h3 h4)
    · refine exec_clockReturn s dt d _ ha ?_
      rw [h3]
      exact clockBack_host _ hm
    · refine exec_clockReturn s dt d _ ha ?_
      rw [h4]
      exact clockBack_reg _ hm
  · exact ⟨exec_clockLoss s dt 11 rx _ ha rfl, exec_clockReturn s dt 11 _ ha rfl⟩

/-- Settles O14: the write by its word, the scheduled reset, and the end of reset under its release conditions. -/
theorem softwareResetAndRelease : Obligations.SoftwareResetAndRelease := by
  refine ⟨fun a s h => State.writeReg_takes s a _ 0 0 _ _ h, fun dt s hr hp => ?_, fun dt after s ha hm hr hp hc hs hl hk => ?_⟩
  · exact (State.main_runs s dt State.swReset hr).trans (next_finish (if_pos hp))
  · have released := mayRelease_of _ hr hp hc hs hl hk
    refine (State.always_alive s dt (fun p => p.resetEnd after) ha).trans (next_finish (if_pos ?_))
    rw [hm, released]
    rfl

end Sys2Proof.Proofs
end

section
/-! SUPPORT. The inputs of the front panel: raw and debounced changes, the times of an active input, the quarantine of CHATTER, and
what a report does (R518, R527 to R529). -/

namespace Sys2Proof.Proofs

open Sys2Proof Sys2Proof.Machine

variable (p : State) (k : Nat)

/-! A raw change (R527, R528). -/

section
variable (level : Bool)

/-- How many raw changes the chatter window of this moment holds, with one more. -/
def rawChanges : Nat :=
  if p.get PWR_AON_CNT.COUNT / 32768 = (p.panelIn k).window then (p.panelIn k).changes + 1 else 1

/-- The input with its new raw level: the debounce time restarts, and the change counts in its window. -/
def rawNoted : PanelIn :=
  { p.panelIn k with raw := level, changeAt := p.get PWR_AON_CNT.COUNT, changes := rawChanges p k,
                     window := p.get PWR_AON_CNT.COUNT / 32768 }

/-- The change is the first one that its window does not permit, outside CHATTER. -/
def EntersChatter : Prop := rawChanges p k = p.get PANEL_CFG.CHATTER_CNT k + 1 ∧ p.panelState k ≠ 3

theorem panelRaw_same (h : (p.panelIn k).raw = level) : p.panelRaw k level = p := if_pos h

theorem panelRaw_unclocked (h : (p.panelIn k).raw ≠ level) (hc : p.clkOn 12 = false) : p.panelRaw k level =
    p.setPanelIn k { p.panelIn k with raw := level, changeAt := p.get PWR_AON_CNT.COUNT } :=
  (if_neg h).trans (if_neg (Bool.eq_false_iff.1 hc))

theorem panelRaw_chatters (h : (p.panelIn k).raw ≠ level) (hc : p.clkOn 12 = true) (he : EntersChatter p k) : p.panelRaw k level =
    ((p.setPanelIn k { rawNoted p k level with since := p.get PWR_AON_CNT.COUNT, chatLevel := p.panelLevel k }).put
      (panelStateF k) 3).panelReport k 4 :=
  (if_neg h).trans ((if_pos hc).trans (if_pos he))

theorem panelRaw_counts (h : (p.panelIn k).raw ≠ level) (hc : p.clkOn 12 = true) (he : ¬ EntersChatter p k) :
    p.panelRaw k level = p.setPanelIn k (rawNoted p k level) :=
  (if_neg h).trans ((if_pos hc).trans (if_neg he))

end

/-! A debounced change (R527, R528). -/

/-- The raw level differs from the debounced one, and its time runs. -/
def Debouncing : Prop := (p.panelIn k).raw ≠ p.panelLevel k ∧ p.clkOn 12 = true

theorem panelDebounced_due (h : Debouncing p k) : p.panelDebounced k =
    (p.advanceAon ((p.panelIn k).changeAt + (p.get PANEL_CFG.DEBOUNCE_MS k * 32768 + 999) / 1000)).panelChange k (p.panelIn k).raw := by
  obtain ⟨hr, hc⟩ := h
  exact if_neg (not_or.2 ⟨hr, fun hf => Bool.false_ne_true (hf.symm.trans hc)⟩)

theorem panelDebounced_idle (h : ¬ Debouncing p k) : p.panelDebounced k = p :=
  if_pos ((not_and_or.1 h).imp not_not.1 Bool.eq_false_iff.2)

section
variable (level : Bool)

/-- The debounced level of the input as PANEL_STAT shows it. -/
def levelShown : State := p.put (panelLevelF k) (if level then 1 else 0)

theorem panelChange_press (hs : p.panelState k = 0) (hl : level = false) :
    p.panelChange k level = ((levelShown p k level).panelOn k).panelReport k 0 := if_pos ⟨hs, hl⟩

theorem panelChange_release (hs : p.panelState k = 1) (hl : level = true) :
    p.panelChange k level = ((levelShown p k level).panelOff k).panelReport k 1 := by
  have active : ¬ (p.panelState k = 0 ∧ level = false) := fun h => absurd (hl.symm.trans h.2) (by decide)
  exact (if_neg active).trans (if_pos ⟨hs, hl⟩)

theorem panelChange_clear (hs : p.panelState k = 2) (hl : level = true) :
    p.panelChange k level = ((levelShown p k level).panelOff k).panelReport k 5 := by
  have pressed : ¬ (p.panelState k = 0 ∧ level = false) := fun h => absurd (hl.symm.trans h.2) (by decide)
  have active : ¬ (p.panelState k = 1 ∧ level = true) := fun h => absurd (hs.symm.trans h.1) (by decide)
  exact (if_neg pressed).trans ((if_neg active).trans (if_pos ⟨hs, hl⟩))

theorem panelChange_only (h0 : ¬ (p.panelState k = 0 ∧ level = false)) (h1 : ¬ ((p.panelState k = 1 ∨ p.panelState k = 2) ∧ level = true)) :
    p.panelChange k level = levelShown p k level :=
  (if_neg h0).trans ((if_neg fun h => h1 ⟨.inl h.1, h.2⟩).trans (if_neg fun h => h1 ⟨.inr h.1, h.2⟩))

end

/-! The times of an active input (R528). -/

/-- LONG is due: the input is ACTIVE, LONG_S is set, and this press has not reported it. -/
def LongDue : Prop :=
  p.panelState k = 1 ∧ p.get PANEL_CFG.LONG_S k ≠ 0 ∧ (p.panelIn k).longDone = false ∧ p.clkOn 12 = true

/-- LONG is reported at its time. -/
def longShown : State :=
  (((p.advanceAon ((p.panelIn k).since + p.get PANEL_CFG.LONG_S k * 32768)).setPanelIn k
    { p.panelIn k with longDone := true }).put (panelLongF k) 1).panelReport k 2

theorem panelLong_due (h : LongDue p k) : p.panelLong k = longShown p k := if_pos h

theorem panelLong_idle (h : ¬ LongDue p k) : p.panelLong k = p := if_neg h

/-- STUCK is due: the input is ACTIVE and STUCK_S is set. -/
def StuckDue : Prop := p.panelState k = 1 ∧ p.get PANEL_CFG.STUCK_S k ≠ 0 ∧ p.clkOn 12 = true

/-- The input is STUCK, reported at its time, after `t`. -/
def stuckShown (t : State) : State :=
  ((t.advanceAon ((p.panelIn k).since + p.get PANEL_CFG.STUCK_S k * 32768)).put (panelStateF k) 2).panelReport k 3

theorem panelStuck_due (h : StuckDue p k) : p.panelStuck k =
    stuckShown p k (if p.get PANEL_CFG.LONG_S k ≤ p.get PANEL_CFG.STUCK_S k then p.panelLong k else p) := if_pos h

theorem panelStuck_afterLong (h : StuckDue p k) (hl : LongDue p k) (ht : p.get PANEL_CFG.LONG_S k ≤ p.get PANEL_CFG.STUCK_S k) :
    p.panelStuck k = stuckShown p k (longShown p k) := by
  rw [panelStuck_due p k h, if_pos ht, panelLong_due p k hl]

theorem panelStuck_only (h : StuckDue p k) (hl : ¬ (LongDue p k ∧ p.get PANEL_CFG.LONG_S k ≤ p.get PANEL_CFG.STUCK_S k)) :
    p.panelStuck k = stuckShown p k p := by
  rw [panelStuck_due p k h]
  by_cases ht : p.get PANEL_CFG.LONG_S k ≤ p.get PANEL_CFG.STUCK_S k
  · rw [if_pos ht, panelLong_idle p k fun hd => hl ⟨hd, ht⟩]
  · rw [if_neg ht]

theorem panelStuck_idle (h : ¬ StuckDue p k) : p.panelStuck k = p := if_neg h

/-! The end of CHATTER (R528). -/

/-- The input is in CHATTER and its quarantine runs. -/
def Quarantined : Prop := p.panelState k = 3 ∧ p.clkOn 12 = true

/-- The quarantine has run. -/
def quarantineOver : State := p.advanceAon ((p.panelIn k).since + p.get PANEL_CFG.QUAR_S k * 32768)

/-- CHATTER ends by the debounced level, with CLEAR. -/
def chatterCleared : State :=
  let q := quarantineOver p k
  (if q.panelLevel k then q.panelOff k else q.panelOn k).panelReport k 5

theorem panelQuiet_same (h : Quarantined p k) (hl : (quarantineOver p k).panelLevel k = (p.panelIn k).chatLevel) :
    p.panelQuiet k = chatterCleared p k := (if_pos h).trans (if_pos hl)

theorem panelQuiet_differs (h : Quarantined p k) (hl : (quarantineOver p k).panelLevel k ≠ (p.panelIn k).chatLevel) :
    p.panelQuiet k = (chatterCleared p k).panelReport k (if (quarantineOver p k).panelLevel k then 1 else 0) :=
  (if_pos h).trans (if_neg hl)

theorem panelQuiet_idle (h : ¬ Quarantined p k) : p.panelQuiet k = p := if_neg h

/-! A report (R518, R529). -/

section
variable (kind : Nat)

/-- A report is shown: its bit of PANEL_EVT, the latch, and the count while the main domain runs. -/
def reportShown : State :=
  let q := (p.put ⟨PANEL_EVT.reg.base, 0, 0, 6 * k + kind, 1⟩ 1).latch 0x18
  if q.chip.mainReset then q else q.count PWR_CNT.COUNT 2

/-- The module of an uplink is seen to come (kind 0) or go (kind 1). -/
def moduleSeen (r : State) (n : Nat) : State :=
  let m := (r.put PORT_MOD_CTRL.ABS kind n).modDrive n
  if kind = 1 then m.pevt PORT_EVT.MOD_OUT n else m.pevt PORT_EVT.MOD_IN n

/-- A report with the module events of an uplink: those of PRESS and RELEASE, while the main domain runs. -/
def reportNoted : State :=
  if 2 ≤ k ∧ kind ≤ 1 ∧ (reportShown p k kind).chip.mainReset = false then moduleSeen kind (reportShown p k kind) (k - 2)
  else reportShown p k kind

theorem panelReport_eq : p.panelReport k kind =
    if k < 2 then if kind = 0 then (reportNoted p k kind).wakeAonSrc k else reportNoted p k kind
    else if kind ≤ 1 then (reportNoted p k kind).wakeAonSrc (0x0E + k)
    else reportNoted p k kind := rfl

theorem reportNoted_only (h : ¬ (2 ≤ k ∧ kind ≤ 1 ∧ (reportShown p k kind).chip.mainReset = false)) :
    reportNoted p k kind = reportShown p k kind := if_neg h

theorem reportNoted_button (hk : k < 2) : reportNoted p k kind = reportShown p k kind :=
  reportNoted_only p k kind fun h => absurd h.1 (Nat.not_le.2 hk)

theorem panelReport_press (hk : k < 2) (h0 : kind = 0) : p.panelReport k kind = (reportShown p k kind).wakeAonSrc k := by
  rw [panelReport_eq, if_pos hk, if_pos h0, reportNoted_button p k kind hk]

theorem panelReport_button (hk : k < 2) (h0 : kind ≠ 0) : p.panelReport k kind = reportShown p k kind := by
  rw [panelReport_eq, if_pos hk, if_neg h0, reportNoted_button p k kind hk]

theorem panelReport_module_other (hk : 2 ≤ k) (h1 : 1 < kind) : p.panelReport k kind = reportShown p k kind := by
  rw [panelReport_eq, if_neg (Nat.not_lt.2 hk), if_neg (Nat.not_le.2 h1),
    reportNoted_only p k kind fun h => absurd h.2.1 (Nat.not_le.2 h1)]

theorem panelReport_module (hk : 2 ≤ k) (h1 : kind ≤ 1) :
    p.panelReport k kind = (reportNoted p k kind).wakeAonSrc (0x0E + k) := by
  rw [panelReport_eq, if_neg (Nat.not_lt.2 hk), if_pos h1]

theorem reportNoted_in_reset (hm : (reportShown p k kind).chip.mainReset = true) : reportNoted p k kind = reportShown p k kind :=
  reportNoted_only p k kind fun h => Bool.false_ne_true (h.2.2.symm.trans hm)

theorem reportNoted_module (hk : 2 ≤ k) (h1 : kind ≤ 1) (hm : (reportShown p k kind).chip.mainReset = false) :
    reportNoted p k kind = moduleSeen kind (reportShown p k kind) (k - 2) := if_pos ⟨hk, h1, hm⟩

end

end Sys2Proof.Proofs

namespace Sys2Proof.Proofs

open Sys2Proof Sys2Proof.Machine

/-- Settles O59: each command by whether its time is due, the debounced change by the state it finds, the report by its input and kind. -/
theorem panelInputs : Obligations.PanelInputs := by
  refine ⟨fun dt k level s ha => ?_, fun k s ha => ?_, fun t k level => ?_, fun t k => rfl, fun k s ha => ?_, fun k s ha => ?_,
    fun t k kind => ?_⟩
  · have answer := State.always_alive s dt (fun p => p.panelRaw k.val level) ha
    refine ⟨fun h => ?_, fun h hc => ?_, fun h hc => ⟨fun he => ?_, fun he => ?_⟩⟩
    · exact answer.trans (next_finish (panelRaw_same _ _ _ h))
    · exact answer.trans (next_finish (panelRaw_unclocked _ _ _ h hc))
    · exact answer.trans (next_finish (panelRaw_chatters _ _ _ h hc he))
    · exact answer.trans (next_finish (panelRaw_counts _ _ _ h hc he))
  · have answer := State.always_alive s 0 (fun p => p.panelDebounced k.val) ha
    exact ⟨fun h => answer.trans (next_finish (panelDebounced_due _ _ h)),
      fun h => answer.trans (next_finish (panelDebounced_idle _ _ h))⟩
  · exact ⟨panelChange_press t k level, panelChange_release t k level, panelChange_clear t k level, panelChange_only t k level⟩
  · have long := State.always_alive s 0 (fun p => p.panelLong k.val) ha
    have stuck := State.always_alive s 0 (fun p => p.panelStuck k.val) ha
    refine ⟨fun h => ?_, fun h => ?_, fun h hl => ?_, fun h hl => ?_, fun h => ?_⟩
    · exact long.trans (next_finish (panelLong_due _ _ h))
    · exact long.trans (next_finish (panelLong_idle _ _ h))
    · exact stuck.trans (next_finish (panelStuck_afterLong _ _ h hl.1 hl.2))
    · exact stuck.trans (next_finish (panelStuck_only _ _ h hl))
    · exact stuck.trans (next_finish (panelStuck_idle _ _ h))
  · have answer := State.always_alive s 0 (fun p => p.panelQuiet k.val) ha
    refine ⟨fun h hl => ?_, fun h hl => ?_, fun h => ?_⟩
    · exact answer.trans (next_finish (panelQuiet_same _ _ h hl))
    · exact answer.trans (next_finish (panelQuiet_differs _ _ h hl))
    · exact answer.trans (next_finish (panelQuiet_idle _ _ h))
  · refine ⟨panelReport_press t k kind, panelReport_button t k kind, panelReport_module_other t k kind, fun hk hm h1 => ?_,
      fun hk hm h0 => ?_, fun hk hm h1 => ?_⟩
    · rw [panelReport_module t k kind hk h1, reportNoted_in_reset t k kind hm]
      rfl
    · rw [panelReport_module t k kind hk (by omega), reportNoted_module t k kind hk (by omega) hm, moduleSeen,
        if_neg (by omega)]
      rfl
    · rw [panelReport_module t k kind hk (by omega), reportNoted_module t k kind hk (by omega) hm, moduleSeen, if_pos h1]
      rfl

end Sys2Proof.Proofs
end

section
/-! SUPPORT. The management SPI target and the test access port (R73 to R80). -/

namespace Sys2Proof.Proofs

open Sys2Proof Sys2Proof.Machine

variable (p : State)

/-! Management SPI (R73, R74). -/

/-- The status byte of a response. -/
theorem spiStatus_eq (c : RspCode) : BitVec.ofNat 8 (rspStatus c) = match c with | .okay => 0 | .denied => 1 | .decode => 2 := by
  cases c <;> rfl

section
variable (wr wide late : Bool) (addr v : Nat)

/-- The access of a transaction and the status byte: that of the response, or 3 with data 0 where the port answers too late. -/
theorem spiAccess_eq : p.spiAccess wr wide addr v late =
    let r := p.access 0xFE wr addr (b2n wide) v 0
    if late then { r.setRsp r.rsp.code 0 with spi := 3 }
    else { r with spi := match r.rsp.code with | .okay => 0 | .denied => 1 | .decode => 2 } := by
  rw [State.spiAccess, spiStatus_eq]

variable (cmd n sck : Nat)

theorem spiFrame_none (hc : p.clkOn 4 = true) (h : 2 ^ 20 ≤ addr ∨ sck < 8 * (if cmd == 1 || cmd == 2 then 4 + if cmd = 2 ∨ cmd = 4 then 8 else 4 else 4)) :
    p.spiFrame cmd addr v late sck = { p with spiOut := [] } := by
  rw [State.spiFrame, if_neg (by simp [hc]), if_pos (.inr (.inr h))]

/-- A whole transaction: its access, then turnaround, data and status on the output as far as the clock runs. -/
theorem spiFrame_whole (hc : p.clkOn 4 = true) (h0 : cmd ≠ 0) (h4 : cmd ≤ 4) (hn : n = if cmd = 2 ∨ cmd = 4 then 8 else 4)
    (hwr : wr = (cmd == 1 || cmd == 2)) (ha : addr < 2 ^ 20) (hs : 8 * (if wr then 4 + n else 4) ≤ sck) :
    p.spiFrame cmd addr v late sck =
      let t := p.spiAccess wr (n == 8) addr (onHalf n addr v) late
      let out := [0, 0] ++ (if wr then [] else beBytes (offHalf n addr t.rsp.data.toNat) n) ++ [t.spi.toNat]
      { t with spiOut := out.take (sck / 8 - if wr then 4 + n else 4) } := by
  subst hn hwr
  rw [State.spiFrame, if_neg (by simp [hc]), if_neg (by omega)]

end

theorem onHalf_four (addr v : Nat) : onHalf 4 addr v = if addr % 8 < 4 then v else v * 2 ^ 32 := by
  unfold onHalf
  by_cases h : addr % 8 < 4
  · rw [if_neg (by omega), if_pos h]
  · rw [if_pos (by omega), if_neg h]

theorem onHalf_eight (addr v : Nat) : onHalf 8 addr v = v := by simp [onHalf]

theorem onHalf_zero (n addr : Nat) : onHalf n addr 0 = 0 := by simp [onHalf]

/-! The life-cycle states that permit test access (R80). -/

theorem testAllowed_of (h : p.lifeCycle = 0 ∨ p.lifeCycle = 1 ∨ p.lifeCycle = 3) : p.testAllowed = true := by
  simpa [State.testAllowed, or_assoc] using h

theorem testAllowed_not (h : p.lifeCycle = 2 ∨ 3 < p.lifeCycle) : p.testAllowed = false := by
  simp only [State.testAllowed, Bool.or_eq_false_iff, beq_eq_false_iff_ne]
  omega

/-! The test access port (R75 to R78). -/

/-- Update-DR under instruction `ir` with `w` in its register. -/
def tapShifted (ir : BitVec 5) (w : Nat) : State :=
  { p with chip.tap.ir := ir, chip.tap.state := .updateDr, chip.tap.dr := BitVec.ofNat 90 w }

theorem tapIr_test (ir : BitVec 5) (hi : p.chip.tap.ir = ir) (ht : p.testAllowed = true) (h : ir = 0x08 ∨ ir = 0x0A) :
    p.tapIr = ir.toNat := by
  rw [State.tapIr, hi]
  rcases h with rfl | rfl <;> simp [ht]

theorem tapIr_bypass (hi : p.chip.tap.ir ≠ 0x01) (ht : p.testAllowed = false) : p.tapIr = 0x1F := by
  have : p.chip.tap.ir.toNat ≠ 1 := fun h => hi (BitVec.eq_of_toNat_eq h)
  simp [State.tapIr, ht, this]

/-- Instruction `ir` is in the instruction register. -/
def withIr (ir : BitVec 5) : State := { p with chip.tap.ir := ir }

theorem tapLoad_eq (c : Nat) : p.tapLoad c = withIr p (BitVec.ofNat 5 (withIr p (BitVec.ofNat 5 c)).tapIr) := rfl

/-- A permitted instruction stays in force. -/
theorem tapUpdate_permitted (c w : Nat) (ht : p.testAllowed = true) (h : c = 0x08 ∨ c = 0x0A) :
    p.tapUpdate c w = (tapShifted p (BitVec.ofNat 5 c) w).tapUpdateDr := by
  have hi : (withIr p (BitVec.ofNat 5 c)).tapIr = c := by
    rw [tapIr_test (withIr p (BitVec.ofNat 5 c)) (BitVec.ofNat 5 c) rfl ht (by rcases h with rfl | rfl <;> simp)]
    rcases h with rfl | rfl <;> rfl
  rw [State.tapUpdate, tapLoad_eq, hi]
  rfl

/-- Elsewhere the instruction in force is BYPASS, whose update does nothing. -/
theorem tapUpdate_bypass (c w : Nat) (ht : p.testAllowed = false) (h : c = 0x08 ∨ c = 0x0A) : p.tapUpdate c w = tapShifted p 0x1F w := by
  have hc : BitVec.ofNat 5 c ≠ 0x01 := by rcases h with rfl | rfl <;> decide
  have hi : (withIr p (BitVec.ofNat 5 c)).tapIr = 0x1F := tapIr_bypass (withIr p (BitVec.ofNat 5 c)) hc ht
  have hb : (tapShifted p 0x1F w).tapIr = 0x1F := tapIr_bypass (tapShifted p 0x1F w) (by decide : (0x1F : BitVec 5) ≠ 0x01) ht
  rw [State.tapUpdate, tapLoad_eq, hi]
  change (tapShifted p 0x1F w).tapUpdateDr = _
  simp only [State.tapUpdateDr, hb]

theorem tapUpdateDr_regacc (w : Nat) (ht : p.testAllowed = true) : (tapShifted p 0x08 w).tapUpdateDr =
    if p.clkOn 4 then (tapShifted p 0x08 w).tapAccess (BitVec.ofNat 90 w)
    else { tapShifted p 0x08 w with chip.tap.wait := p.chip.tap.wait ++ [BitVec.ofNat 90 w], chip.tap.acc := BitVec.ofNat 90 w } := by
  have hi : (tapShifted p 0x08 w).tapIr = 0x08 := tapIr_test (tapShifted p 0x08 w) 0x08 rfl ht (.inl rfl)
  simp only [State.tapUpdateDr, hi]
  rfl

theorem tapUpdateDr_mbist (ht : p.testAllowed = true) : (tapShifted p 0x0A 1).tapUpdateDr =
    { tapShifted p 0x0A 1 with free := p.free + 1, chip.tap.mbist := Config.mbistResult p.free } := by
  have hi : (tapShifted p 0x0A 1).tapIr = 0x0A := tapIr_test (tapShifted p 0x0A 1) 0x0A rfl ht (.inr rfl)
  have hw : (tapShifted p 0x0A 1).chip.tap.dr.getLsbD 0 = true := (by decide : (BitVec.ofNat 90 1).getLsbD 0 = true)
  simp only [State.tapUpdateDr, hi, hw, if_true]
  rfl

/-- The REGACC register of an access, field by field. -/
theorem accWord_fields (wr wide : Bool) (a d : Nat) (ha : a < 2 ^ 20) (hd : d < 2 ^ 64) :
    accWord wr wide a d < 2 ^ 90 ∧ bitAt (accWord wr wide a d) 0 = wr ∧ getBits (accWord wr wide a d) 2 20 = a ∧
      getBits (accWord wr wide a d) 1 1 = b2n wide ∧ getBits (accWord wr wide a d) 22 64 = d := by
  have hb : b2n wr ≤ 1 := by cases wr <;> decide
  have hw : b2n wide ≤ 1 := by cases wide <;> decide
  have h0 : bitAt (b2n wr) 0 = wr := by cases wr <;> rfl
  refine ⟨?_, Eq.trans ?_ h0, ?_, ?_, ?_⟩
  · unfold accWord; omega
  · have : accWord wr wide a d / 2 ^ 0 % 2 = b2n wr / 2 ^ 0 % 2 := by unfold accWord; omega
    rw [bitAt, this, bitAt]
  · unfold getBits accWord; omega
  · unfold getBits accWord; omega
  · unfold getBits accWord; omega

/-- REGACC makes one access with initiator 0xFF; its register takes the data and the status. -/
theorem tapAccess_accWord (wr wide : Bool) (a d w : Nat) (ha : a < 2 ^ 20) (hd : d < 2 ^ 64) (hw : w = accWord wr wide a d) :
    p.tapAccess (BitVec.ofNat 90 w) =
      let t := p.access 0xFF wr a (b2n wide) d 0
      { t with chip.tap.acc := BitVec.ofNat 90 (setBits (setBits w 22 64 t.rsp.data.toNat) 86 4 (rspStatus t.rsp.code)) } := by
  obtain ⟨hlt, hwr, haddr, hwide, hdata⟩ := accWord_fields wr wide a d ha hd
  have hn : (BitVec.ofNat 90 w).toNat = w := by rw [BitVec.toNat_ofNat, hw, Nat.mod_eq_of_lt hlt]
  simp only [State.tapAccess, hn]
  rw [hw, hwr, haddr, hwide, hdata]

theorem accWord_eq (wr wide : Bool) (a d : Nat) :
    (if wr then 1 else 0) + (if wide then 2 else 0) + a * 4 + d * 2 ^ 22 = accWord wr wide a d := by
  cases wr <;> cases wide <;> rfl

/-- IDCODE is captured (R76). -/
theorem tapClock_idcode (x : Bool × Bool) (hs : p.chip.tap.state = .captureDr) (hi : p.chip.tap.ir = 0x01) :
    (p.tapClock x).chip.tap.dr = BitVec.ofNat 90 idcode := by
  have hc : p.tapIr = 0x01 := by simp [State.tapIr, hi]
  obtain ⟨tms, tdi⟩ := x
  cases tms <;> simp only [State.tapClock, hs, TapState.next, State.tapCapture, hc]

end Sys2Proof.Proofs

namespace Sys2Proof.Proofs

open Sys2Proof Sys2Proof.Machine

/-! A transaction of the management SPI, from its command to its output. -/

/-- What a whole transaction makes of the answer `r` to its access: the status, and the output of `n` bytes of data after `lead` bytes. -/
def spiDone (late : Bool) (sck addr n lead : Nat) (rd : Bool) (r : State) : State :=
  let t := if late then { r.setRsp r.rsp.code 0 with spi := 3 }
    else { r with spi := match r.rsp.code with | .okay => 0 | .denied => 1 | .decode => 2 }
  { t with spiOut := ([0, 0] ++ (if rd then beBytes (offHalf n addr t.rsp.data.toNat) n else []) ++ [t.spi.toNat]).take (sck / 8 - lead) }

section
variable (s : State) (dt addr v : Nat) (late : Bool) (sck : Nat) (h : s.portUp dt = true)
include h

theorem main_spiFrame (cmd : Nat) : s.main dt (fun p => p.spiFrame cmd addr v late sck) = .next (s.finish ((s.pass dt).spiFrame cmd addr v late sck)) :=
  s.main_runs dt (fun p => p.spiFrame cmd addr v late sck) (Bool.and_eq_true_iff.1 h).1

theorem main_spi_none (cmd : Nat) (hc : 2 ^ 20 ≤ addr ∨ sck < 8 * if cmd == 1 || cmd == 2 then 4 + if cmd = 2 ∨ cmd = 4 then 8 else 4 else 4) :
    s.main dt (fun p => p.spiFrame cmd addr v late sck) = .next (s.finish { s.pass dt with spiOut := [] }) := by
  rw [main_spiFrame s dt addr v late sck h, spiFrame_none _ _ _ _ _ _ (Bool.and_eq_true_iff.1 h).2 hc]

theorem main_spi_write32 (ha : addr < 2 ^ 20) (hs : 64 ≤ sck) : s.main dt (fun p => p.spiFrame 1 addr v late sck) =
    .next (s.finish (spiDone late sck addr 4 8 false
      ((s.pass dt).access 0xFE true addr 0 (if addr % 8 < 4 then v else v * 2 ^ 32) 0))) := by
  rw [main_spiFrame s dt addr v late sck h, spiFrame_whole _ true late addr v 1 4 sck (Bool.and_eq_true_iff.1 h).2 (by decide) (by decide) rfl rfl ha hs,
    onHalf_four, spiAccess_eq]
  rfl

theorem main_spi_write64 (ha : addr < 2 ^ 20) (hs : 96 ≤ sck) : s.main dt (fun p => p.spiFrame 2 addr v late sck) =
    .next (s.finish (spiDone late sck addr 8 12 false ((s.pass dt).access 0xFE true addr 1 v 0))) := by
  rw [main_spiFrame s dt addr v late sck h, spiFrame_whole _ true late addr v 2 8 sck (Bool.and_eq_true_iff.1 h).2 (by decide) (by decide) rfl rfl ha hs,
    onHalf_eight, spiAccess_eq]
  rfl

theorem main_spi_read32 (ha : addr < 2 ^ 20) (hs : 32 ≤ sck) : s.main dt (fun p => p.spiFrame 3 addr 0 late sck) =
    .next (s.finish (spiDone late sck addr 4 4 true ((s.pass dt).access 0xFE false addr 0 0 0))) := by
  rw [main_spiFrame s dt addr 0 late sck h, spiFrame_whole _ false late addr 0 3 4 sck (Bool.and_eq_true_iff.1 h).2 (by decide) (by decide) rfl rfl ha hs,
    onHalf_zero, spiAccess_eq]
  rfl

theorem main_spi_read64 (ha : addr < 2 ^ 20) (hs : 32 ≤ sck) : s.main dt (fun p => p.spiFrame 4 addr 0 late sck) =
    .next (s.finish (spiDone late sck addr 8 4 true ((s.pass dt).access 0xFE false addr 1 0 0))) := by
  rw [main_spiFrame s dt addr 0 late sck h, spiFrame_whole _ false late addr 0 4 8 sck (Bool.and_eq_true_iff.1 h).2 (by decide) (by decide) rfl rfl ha hs,
    onHalf_zero, spiAccess_eq]
  rfl

end

/-! Commands of the test access port. -/

section
variable (s : State) (dt : Nat) (h : s.runs dt = true)
include h

theorem main_tapUpdate (c w : Nat) : s.main dt (fun p => p.tapUpdate c w) = .next (s.finish ((s.pass dt).tapUpdate c w)) :=
  s.main_runs dt (fun p => p.tapUpdate c w) h

section
variable (wr wide : Bool) (a : BitVec 20) (d : Word) (w : Nat) (hw : w = accWord wr wide a.toNat d.toNat)
include hw

theorem exec_regacc_forbidden (ht : (s.pass dt).testAllowed = false) :
    exec (.regacc dt wr wide a d) s = .next (s.finish (tapShifted (s.pass dt) 0x1F w)) := by
  subst hw
  exact (main_tapUpdate s dt h 0x08 _).trans (next_finish (tapUpdate_bypass (s.pass dt) 0x08 _ ht (.inl rfl)))

theorem exec_regacc_permitted (ht : (s.pass dt).testAllowed = true) : exec (.regacc dt wr wide a d) s =
    .next (s.finish (if (s.pass dt).clkOn 4 then (tapShifted (s.pass dt) 0x08 w).tapAccess (BitVec.ofNat 90 w)
      else { tapShifted (s.pass dt) 0x08 w with
        chip.tap.wait := (s.pass dt).chip.tap.wait ++ [BitVec.ofNat 90 w], chip.tap.acc := BitVec.ofNat 90 w })) := by
  subst hw
  exact (main_tapUpdate s dt h 0x08 _).trans (next_finish
    ((tapUpdate_permitted (s.pass dt) 0x08 _ ht (.inl rfl)).trans (tapUpdateDr_regacc (s.pass dt) _ ht)))

end

theorem exec_mbist_permitted (ht : (s.pass dt).testAllowed = true) : exec (.mbist dt) s = .next (s.finish
    { tapShifted (s.pass dt) 0x0A 1 with free := (s.pass dt).free + 1, chip.tap.mbist := Config.mbistResult (s.pass dt).free }) :=
  (main_tapUpdate s dt h 0x0A 1).trans (next_finish
    ((tapUpdate_permitted (s.pass dt) 0x0A 1 ht (.inr rfl)).trans (tapUpdateDr_mbist (s.pass dt) ht)))

theorem exec_mbist_forbidden (ht : (s.pass dt).testAllowed = false) :
    exec (.mbist dt) s = .next (s.finish (tapShifted (s.pass dt) 0x1F 1)) :=
  (main_tapUpdate s dt h 0x0A 1).trans (next_finish (tapUpdate_bypass (s.pass dt) 0x0A 1 ht (.inr rfl)))

/-- TM_SCAN or TM_MBIST wipes the secure region and enters manufacturing test, where test is permitted (R80). -/
theorem exec_tmScan (mb : Bool) : exec (.tmScan dt mb) s = .next (s.finish (if (s.pass dt).testAllowed then
    { (s.pass dt).wipeAll with chip.mfgTest := true, chip.mfgMbist := mb } else s.pass dt)) :=
  s.main_runs dt (fun p => p.tmScan mb) h

end

theorem exec_jtagTrst (s : State) (dt : Nat) (trst : Bool) (tck : List (Bool × Bool)) (h : s.alive = true) :
    exec (.jtagTrst ⟨dt, trst, tck⟩) s = .next (s.finish (((s.pass dt).tapTrst trst).tapRun tck)) :=
  s.always_alive dt (fun p => (p.tapTrst trst).tapRun tck) h

end Sys2Proof.Proofs

namespace Sys2Proof.Proofs

open Sys2Proof Sys2Proof.Machine

/-- Settles O18: a transaction and an update each come down to one access of the port; what the life-cycle state forbids is BYPASS. -/
theorem managementAndTestAccess : Obligations.ManagementAndTestAccess := by
  unfold Obligations.ManagementAndTestAccess
  refine ⟨fun dt addr d32 d64 late sck s h => ⟨?_, ?_, ?_, ?_, ?_, ?_, fun hc => ⟨?_, ?_⟩⟩, fun dt wr wide addr d s h => ?_, fun dt mb s h => ?_,
    fun dt trst tck s h => ?_, fun s x hs hi => tapClock_idcode s x hs hi,
    fun dt pin level s h => s.always_alive dt (fun p => p.gpioInput pin.val level) h⟩
  · exact fun ha hs => main_spi_write32 s dt addr.toNat d32.toNat late sck h ha hs
  · exact fun ha hs => main_spi_write64 s dt addr.toNat d64.toNat late sck h ha hs
  · exact fun ha hs => main_spi_read32 s dt addr.toNat late sck h ha hs
  · exact fun ha hs => main_spi_read64 s dt addr.toNat late sck h ha hs
  · exact fun hc => main_spi_none s dt addr.toNat d32.toNat late sck h 1 hc
  · exact fun hc => main_spi_none s dt addr.toNat d64.toNat late sck h 2 hc
  · exact main_spi_none s dt addr.toNat 0 late sck h 3 hc
  · exact main_spi_none s dt addr.toNat 0 late sck h 4 hc
  · intro p w shifted
    have hw : w = accWord wr wide addr.toNat d.toNat := accWord_eq wr wide addr.toNat d.toNat
    refine ⟨fun hl => ⟨fun hc => ?_, fun hc => ?_⟩, fun hl => exec_regacc_forbidden s dt h wr wide addr d w hw (testAllowed_not p hl)⟩
    · rw [exec_regacc_permitted s dt h wr wide addr d w hw (testAllowed_of p hl), if_pos hc,
        tapAccess_accWord _ wr wide addr.toNat d.toNat w addr.isLt d.isLt hw]
      rfl
    · rw [exec_regacc_permitted s dt h wr wide addr d w hw (testAllowed_of p hl), if_neg (Bool.eq_false_iff.1 hc)]
      rfl
  · intro p shifted
    refine ⟨fun hl => ⟨exec_mbist_permitted s dt h (testAllowed_of p hl), ?_⟩, fun hl => ⟨exec_mbist_forbidden s dt h (testAllowed_not p hl), ?_⟩⟩
    · rw [exec_tmScan s dt h, if_pos (testAllowed_of p hl)]
    · rw [exec_tmScan s dt h, if_neg (Bool.eq_false_iff.1 (testAllowed_not p hl))]
  · intro p
    refine ⟨fun hm => ?_, fun hm => ?_⟩
    · rw [exec_jtagTrst s dt trst tck h]
      exact next_finish (if_pos hm)
    · rw [exec_jtagTrst s dt trst tck h]
      exact next_finish (if_neg (Bool.eq_false_iff.1 hm))

end Sys2Proof.Proofs
end

section
/-! SUPPORT. Deliveries to a partition, the end of a completion, and the responses and timeouts of the host memory port (R71, R72,
R309, R330, R331, R335). -/

namespace Sys2Proof.Proofs

open Sys2Proof Sys2Proof.Machine

/-! Deliveries (R330, R331). -/

section
variable (p : State) (i : Nat)

/-- The engine may take the next frame of partition `i`. -/
def MayDeliver : Prop :=
  p.takesEntries i true = true ∧ p.oldWork i true = false ∧ p.get PART_STAT.RXC_STALL i = 0 ∧
    (p.part i).deliv.length + (p.part i).rxHeld.length < 64

theorem mayDeliver_iff : (p.takesEntries i true && !p.oldWork i true && !p.on PART_STAT.RXC_STALL i &&
    decide ((p.part i).deliv.length + (p.part i).rxHeld.length < 64)) = true ↔ MayDeliver p i := by
  simp only [MayDeliver, Bool.and_eq_true, Bool.not_eq_true', on_eq_false_iff, decide_eq_true_eq, and_assoc]

theorem rxDelivery_may (h : MayDeliver p i) : p.rxDelivery i =
    match (p.part i).rxq with
    | [] => p
    | f :: rest =>
      match takeBufs (p.part i).rxBufs f.len with
      | none => p.evt PART_EVT.RX_NO_BUF (0x58 + i) i
      | some (use, left) =>
        ((p.onPart i (fun q => { q with rxq := rest, rxBufs := left })).put PART_STAT.RX_BUFS left.length i).rxStart i f use :=
  if_pos ((mayDeliver_iff p i).2 h)

theorem rxDelivery_idle (h : ¬ MayDeliver p i ∨ (p.part i).rxq = []) : p.rxDelivery i = p := by
  by_cases hm : MayDeliver p i
  · rw [rxDelivery_may p i hm, h.resolve_left (not_not.2 hm)]
  · exact if_neg (mt (mayDeliver_iff p i).1 hm)

variable (f : Frame) (rest : List Frame) (hq : (p.part i).rxq = f :: rest)
include hq

theorem rxDelivery_few (h : MayDeliver p i) (hb : takeBufs (p.part i).rxBufs f.len = none) :
    p.rxDelivery i = p.evt PART_EVT.RX_NO_BUF (0x58 + i) i := by
  rw [rxDelivery_may p i h, hq]
  simp only [hb]

theorem rxDelivery_takes (use left : List (Nat × Nat)) (h : MayDeliver p i)
    (hb : takeBufs (p.part i).rxBufs f.len = some (use, left)) : p.rxDelivery i =
      ((p.onPart i (fun q => { q with rxq := rest, rxBufs := left })).put PART_STAT.RX_BUFS left.length i).rxStart i f use := by
  rw [rxDelivery_may p i h, hq]
  simp only [hb]

end

section
variable (t : State) (i : Nat) (f : Frame) (use : List (Nat × Nat))

/-- The reads of the card and of the payload of frame `f`, with the state after them. -/
def cardRead : State × BytesRead := t.bufRead .mover (ptrAddr f.ptr) 64
def payloadRead : State × Option (List Nat) := (cardRead t f).1.fetchPayload f.ptr f.len

/-- The delivery has a number of its own. -/
def delivNumbered : State := { (payloadRead t f).1 with host.next := (payloadRead t f).1.host.next + 1 }

/-- The delivery of frame `f` into the buffers `use`, before its writes are counted. -/
def newDeliv : Deliv :=
  ⟨(payloadRead t f).1.host.next, f, 0, (use.headD (0, 0)).1, use.length, ((payloadRead t f).1.role (0x81 + 2 * i)).gen.toNat, (cardRead t f).2.bytes⟩

/-- The data writes of payload `b` are wanted, and counted. -/
def writesWanted (b : List Nat) : State × Nat :=
  (((delivNumbered t f).crcTapRd f.src f.ptr b).crcTapHostRx i (newDeliv t i f use).addr b).wantAll i
    (.data (newDeliv t i f use).id) (spreadBufs use b)

theorem rxStart_eq : t.rxStart i f use =
    match (payloadRead t f).2, (cardRead t f).2.ok with
    | some b, true => ((writesWanted t i f use b).1.onPart i (fun q =>
        { q with deliv := q.deliv ++ [{ newDeliv t i f use with left := (writesWanted t i f use b).2 }] })).hostPump
    | _, _ => (delivNumbered t f).rxFinish i (newDeliv t i f use) stMemUncorr := rfl

theorem rxStart_unreadable (h : (payloadRead t f).2 = none ∨ (cardRead t f).2.ok = false) :
    t.rxStart i f use = (delivNumbered t f).rxFinish i (newDeliv t i f use) stMemUncorr := by
  rw [rxStart_eq]
  rcases h with h | h
  · rw [h]
  · rw [h]
    cases (payloadRead t f).2 <;> rfl

theorem rxStart_readable (b : List Nat) (hb : (payloadRead t f).2 = some b) (hc : (cardRead t f).2.ok = true) :
    t.rxStart i f use = ((writesWanted t i f use b).1.onPart i (fun q =>
      { q with deliv := q.deliv ++ [{ newDeliv t i f use with left := (writesWanted t i f use b).2 }] })).hostPump := by
  rw [rxStart_eq, hb, hc]

end

theorem rxDone_waits (p : State) (i : Nat) (h : ∀ d ∈ (p.part i).deliv, d.left ≠ 0) : p.rxDone i = p := by
  have hn : (p.part i).deliv.find? (fun d => d.left == 0) = none :=
    List.find?_eq_none.2 fun d hd => by simpa using h d hd
  simp only [State.rxDone, hn]

theorem rxDone_first (p : State) (i : Nat) (d : Deliv) (h : (p.part i).deliv.find? (fun d => d.left == 0) = some d) :
    p.rxDone i = (p.rxFinish i d stOk).hostKick i := by
  simp only [State.rxDone, h]

/-! The end of a completion (R309, R331). -/

section
variable (t : State) (i : Nat) (c : Cpl)

/-- A completion of this ring is held, or was and is not written yet. -/
def StillHeld (x : State) : Prop :=
  (if c.rx then (x.part i).rxHeld else (x.part i).txHeld) ≠ [] ∨ ∃ d ∈ (x.part i).cpls, d.rx = c.rx ∧ d.held = true

/-- The completion is written: it counts and raises its source. -/
def cplNoted : State :=
  ((t.onPart i (fun q => { q with cpls := q.cpls.filter (fun d => d.id != c.id) })).cplCount i c).raise (cplSrc i c.rx)

theorem stillHeld_iff (x : State) : ((if c.rx then (x.part i).rxHeld else (x.part i).txHeld) ≠ [] ∨
    (x.part i).cpls.any (fun d => d.rx == c.rx && d.held) = true) ↔ StillHeld i c x := by
  simp only [StillHeld, List.any_eq_true, Bool.and_eq_true, beq_iff_eq]

theorem cplWritten_held (hs : c.skip = false) (h : StillHeld i c (cplNoted t i c)) : t.cplWritten i c = cplNoted t i c := by
  rw [State.cplWritten, hs]
  exact if_pos ((stillHeld_iff i c _).2 h)

theorem cplWritten_last (hs : c.skip = false) (h : ¬ StillHeld i c (cplNoted t i c)) :
    t.cplWritten i c = (cplNoted t i c).put (if c.rx then PART_STAT.RXC_STALL else PART_STAT.TXC_STALL) 0 i := by
  rw [State.cplWritten, hs]
  exact (if_neg (mt (stillHeld_iff i c _).1 h)).trans (apply_ite (fun k => (cplNoted t i c).put k 0 i) _ _ _).symm

end

/-! Responses (R71, R72, R335). -/

section
variable (p : State) (tag : Nat) (bad : Bool) (d : Nat)

theorem hostRead_discarded (h : p.host.reads.find? (fun e => e.1 == tag) = none) : p.hostRead tag bad d = p := by
  simp only [State.hostRead, h]

theorem hostWrite_discarded (h : p.host.writes.find? (fun e => e.1 == tag) = none) : p.hostWrite tag bad = p := by
  simp only [State.hostWrite, h]

/-- The tag of a response is free again. -/
def readFreed : State := { p with host.reads := mapDel tag p.host.reads }
def writeFreed : State := { p with host.writes := mapDel tag p.host.writes }

section
variable (k : Nat) (r : HostReq)

theorem hostRead_found (h : p.host.reads.find? (fun e => e.1 == tag) = some (k, r)) : p.hostRead tag bad d =
    (if r.dead then readFreed p tag
     else if r.at_ + 16000 < p.frc.toNat then (readFreed p tag).readFail r true
     else if bad then (readFreed p tag).readFail r false
     else (readFreed p tag).readData r d).hostKick r.part := by
  simp only [State.hostRead, h]
  exact congrArg (fun t => State.hostKick t r.part) (ite_congr rfl (fun _ => rfl) fun _ =>
    ite_congr decide_eq_true_eq (fun _ => rfl) fun _ => rfl)

theorem hostWrite_found (h : p.host.writes.find? (fun e => e.1 == tag) = some (k, r)) : p.hostWrite tag bad =
    (if r.dead then writeFreed p tag
     else if r.at_ + 16000 < p.frc.toNat ∨ bad = true then (writeFreed p tag).writeFail r
     else (writeFreed p tag).writeOk r).hostKick r.part := by
  simp only [State.hostWrite, h]
  exact congrArg (fun t => State.hostKick t r.part) (ite_congr rfl (fun _ => rfl) fun _ =>
    ite_congr ((Bool.or_eq_true _ _).trans (congrArg (· ∨ bad = true) decide_eq_true_eq)) (fun _ => rfl) fun _ => rfl)

end

end

section
variable (q : State) (r : HostReq)

theorem readFail_ring (rx : Bool) (ptr c : Nat) (late : Bool) (h : r.op = .ring rx ptr c) : q.readFail r late =
    q.onPart r.part (fun v => v.withSlots rx (v.slots rx ++ (List.range c).map (fun k =>
      ((ptr + k) % (2 * q.ringN r.part (subRing rx)), if late then Slot.timeout else Slot.fault)))) := by
  simp only [State.readFail, h]

theorem readFail_seg (id off lo c : Nat) (late : Bool) (h : r.op = .seg id off lo c) :
    q.readFail r late = q.txReadFail r.part id (if late then stHostTimeout else stHostFault) := by
  simp only [State.readFail, h]

theorem readFail_gone (late : Bool) (h : r.op = .gone) : q.readFail r late = q := by simp only [State.readFail, h]

theorem readData_ring (rx : Bool) (ptr c d : Nat) (h : r.op = .ring rx ptr c) : q.readData r d =
    q.onPart r.part (fun v => v.withSlots rx (v.slots rx ++ (List.range c).map (fun k =>
      ((ptr + k) % (2 * q.ringN r.part (subRing rx)), Slot.data (getBits d (128 * ((ptr + k) % 4)) 128))))) := by
  simp only [State.readData, h]

theorem readData_seg (id off lo c d : Nat) (h : r.op = .seg id off lo c) :
    q.readData r d = q.txChunk r.part id off (leBytes (d / 2 ^ (8 * lo)) c) := by
  simp only [State.readData, h]

theorem readData_gone (d : Nat) (h : r.op = .gone) : q.readData r d = q := by simp only [State.readData, h]

theorem writeFail_gone (h : r.op = .gone) : q.writeFail r = q := by simp only [State.writeFail, h]

theorem writeOk_gone (h : r.op = .gone) : q.writeOk r = q := by simp only [State.writeOk, h]

theorem writeOk_data (id : Nat) (h : r.op = .data id) : q.writeOk r = q.onPart r.part (fun v =>
    { v with deliv := v.deliv.map (fun d => if d.id == id then { d with left := d.left - 1 } else d) }) := by
  simp only [State.writeOk, h]

theorem writeOk_cpl (rx : Bool) (id : Nat) (h : r.op = .cpl rx id) : q.writeOk r = q.cplAck r.part rx id := by
  simp only [State.writeOk, h]

theorem writeFail_data (id : Nat) (d : Deliv) (h : r.op = .data id) (hf : (q.part r.part).deliv.find? (fun d => d.id == id) = some d) :
    q.writeFail r = (q.disown r.part (fun o => o == .data id)).rxFinish r.part d stDataFault := by
  simp only [State.writeFail, h, hf]

theorem writeFail_cpl (rx : Bool) (id : Nat) (c : Cpl) (h : r.op = .cpl rx id)
    (hf : (q.part r.part).cpls.find? (fun c => c.rx == rx && c.id == id) = some c) :
    q.writeFail r = q.fence r.part (cplRing rx) c.ptr stHostFault 0 := by
  simp only [State.writeFail, h, hf]

end

/-! What a response does, by what its request was for. -/

section
variable (p : State) (tag k : Nat) (bad : Bool) (r : HostReq)

theorem ringSpan (q : State) (i : Nat) (rx : Bool) :
    (if rx then 2 * q.ringN i 1 else 2 * q.ringN i 0) = 2 * q.ringN i (subRing rx) := by
  cases rx <;> rfl

section
variable (d : Nat) (h : p.host.reads.find? (fun e => e.1 == tag) = some (k, r))
include h

theorem hostRead_dead (hd : r.dead = true) : p.hostRead tag bad d = (readFreed p tag).hostKick r.part := by
  rw [hostRead_found p tag bad d k r h, if_pos hd]

theorem hostRead_gone (hg : r.op = .gone) : p.hostRead tag bad d = (readFreed p tag).hostKick r.part := by
  rw [hostRead_found p tag bad d k r h, readFail_gone _ r _ hg, readFail_gone _ r _ hg, readData_gone _ r d hg, ite_self, ite_self, ite_self]

section
variable (hd : r.dead = false)
include hd

theorem hostRead_late (hl : r.at_ + 16000 < p.frc.toNat) :
    p.hostRead tag bad d = ((readFreed p tag).readFail r true).hostKick r.part := by
  rw [hostRead_found p tag bad d k r h, if_neg (Bool.eq_false_iff.1 hd), if_pos hl]

theorem hostRead_fault (hl : ¬ r.at_ + 16000 < p.frc.toNat) (hb : bad = true) :
    p.hostRead tag bad d = ((readFreed p tag).readFail r false).hostKick r.part := by
  rw [hostRead_found p tag bad d k r h, if_neg (Bool.eq_false_iff.1 hd), if_neg hl, if_pos hb]

theorem hostRead_data (hl : ¬ r.at_ + 16000 < p.frc.toNat) (hb : bad = false) :
    p.hostRead tag bad d = ((readFreed p tag).readData r d).hostKick r.part := by
  rw [hostRead_found p tag bad d k r h, if_neg (Bool.eq_false_iff.1 hd), if_neg hl, if_neg (Bool.eq_false_iff.1 hb)]

/-- The slots of a ring read hold their data, or that the read failed or came too late. -/
theorem hostRead_ring (rx : Bool) (ptr c : Nat) (ho : r.op = .ring rx ptr c) : p.hostRead tag bad d =
    ((readFreed p tag).onPart r.part (fun v => v.withSlots rx (v.slots rx ++ (List.range c).map (fun k =>
      ((ptr + k) % (if rx then 2 * (readFreed p tag).ringN r.part 1 else 2 * (readFreed p tag).ringN r.part 0),
        if r.at_ + 16000 < p.frc.toNat then Slot.timeout else if bad then Slot.fault
        else Slot.data (getBits d (128 * ((ptr + k) % 4)) 128)))))).hostKick r.part := by
  rw [ringSpan]
  by_cases hl : r.at_ + 16000 < p.frc.toNat
  · simp only [hostRead_late p tag k bad r d h hd hl, readFail_ring _ r rx ptr c true ho, hl, if_true]
  · cases bad with
    | true => simp only [hostRead_fault p tag k true r d h hd hl rfl, readFail_ring _ r rx ptr c false ho, hl, if_false, if_true,
        Bool.false_eq_true]
    | false => simp only [hostRead_data p tag k false r d h hd hl rfl, readData_ring _ r rx ptr c d ho, hl, if_false, Bool.false_eq_true]

end

end

section
variable (h : p.host.writes.find? (fun e => e.1 == tag) = some (k, r))
include h

theorem hostWrite_done (hd : r.dead = true ∨ r.op = .gone) : p.hostWrite tag bad = (writeFreed p tag).hostKick r.part := by
  rw [hostWrite_found p tag bad k r h]
  rcases hd with hd | hg
  · rw [if_pos hd]
  · rw [writeFail_gone _ r hg, writeOk_gone _ r hg, ite_self, ite_self]

theorem hostWrite_okay (hd : r.dead = false) (hf : ¬ (r.at_ + 16000 < p.frc.toNat ∨ bad = true)) :
    p.hostWrite tag bad = ((writeFreed p tag).writeOk r).hostKick r.part := by
  rw [hostWrite_found p tag bad k r h, if_neg (Bool.eq_false_iff.1 hd), if_neg hf]

theorem hostWrite_fails (hd : r.dead = false) (hf : r.at_ + 16000 < p.frc.toNat ∨ bad = true) :
    p.hostWrite tag bad = ((writeFreed p tag).writeFail r).hostKick r.part := by
  rw [hostWrite_found p tag bad k r h, if_neg (Bool.eq_false_iff.1 hd), if_pos hf]

end

end

/-! Timeouts (R335). -/

section
variable (p : State)

/-- Request `e` waits for its response. -/
def Waits (e : Nat × HostReq) : Prop := e ∈ p.host.reads ++ p.host.writes ∧ e.2.dead = false

/-- The earlier of the times known so far, `m`, and the issue of `e`. -/
def earlier (m : Option Nat) (e : Nat × HostReq) : Option Nat :=
  match m with
  | none => some e.2.at_
  | some t => some (min t e.2.at_)

theorem oldestAt_eq : p.oldestAt = ((p.host.reads ++ p.host.writes).filter (fun e => !e.2.dead)).foldl earlier none := rfl

/-- `a` is a lower bound of the time `m`, where there is one. -/
def Bounds (a : Nat) (m : Option Nat) : Prop := ∀ t, m = some t → a ≤ t

theorem earlier_bounds {a : Nat} {m : Option Nat} {e : Nat × HostReq} (hm : Bounds a m) (he : a ≤ e.2.at_) : Bounds a (earlier m e) := by
  intro t ht
  cases m with
  | none => exact he.trans_eq (Option.some.inj ht)
  | some u => exact (le_min (hm u rfl) he).trans_eq (Option.some.inj ht)

theorem earlier_reached {a : Nat} {m : Option Nat} {e : Nat × HostReq} (hm : Bounds a m) (he : a ≤ e.2.at_)
    (h : m = some a ∨ e.2.at_ = a) : earlier m e = some a := by
  cases m with
  | none => exact congrArg some (h.resolve_left (by simp))
  | some u =>
    have hu := hm u rfl
    refine congrArg some ?_
    rcases h with h | h
    · rw [Option.some.inj h, min_eq_left he]
    · rw [h, min_eq_right hu]

/-- A lower bound that is reached is what the fold finds. -/
theorem foldl_earlier (a : Nat) (l : List (Nat × HostReq)) : ∀ m : Option Nat, (∀ e ∈ l, a ≤ e.2.at_) → Bounds a m →
    (m = some a ∨ ∃ e ∈ l, e.2.at_ = a) → l.foldl earlier m = some a := by
  induction l with
  | nil => exact fun m _ _ h => h.resolve_right (by simp)
  | cons e l ih =>
    intro m hl hm h
    have he : a ≤ e.2.at_ := hl e List.mem_cons_self
    refine ih (earlier m e) (fun x hx => hl x (List.mem_cons_of_mem e hx)) (earlier_bounds hm he) ?_
    rcases h with h | ⟨x, hx, hxa⟩
    · exact .inl (earlier_reached hm he (.inl h))
    · rcases List.mem_cons.1 hx with rfl | hx
      · exact .inl (earlier_reached hm he (.inr hxa))
      · exact .inr ⟨x, hx, hxa⟩

theorem mem_waiting_iff (e : Nat × HostReq) : e ∈ (p.host.reads ++ p.host.writes).filter (fun e => !e.2.dead) ↔ Waits p e := by
  rw [List.mem_filter, Waits, Bool.not_eq_true']

theorem oldestAt_none (h : ∀ e, ¬ Waits p e) : p.oldestAt = none := by
  have hl : (p.host.reads ++ p.host.writes).filter (fun e => !e.2.dead) = [] :=
    List.eq_nil_iff_forall_not_mem.2 fun e he => h e ((mem_waiting_iff p e).1 he)
  rw [oldestAt_eq, hl]
  rfl

theorem oldestAt_some (e0 : Nat × HostReq) (h0 : Waits p e0) (h : ∀ e, Waits p e → e0.2.at_ ≤ e.2.at_) : p.oldestAt = some e0.2.at_ := by
  rw [oldestAt_eq]
  exact foldl_earlier e0.2.at_ _ none (fun e he => h e ((mem_waiting_iff p e).1 he)) (fun t ht => nomatch ht)
    (.inr ⟨e0, (mem_waiting_iff p e0).2 h0, rfl⟩)

theorem hostTimeout_idle (h : p.oldestAt = none) : p.hostTimeout = p := by simp only [State.hostTimeout, h]

section
variable (t tag : Nat) (r : HostReq) (q : State) (ht : p.oldestAt = some t) (hq : q = p.advanceTo (t + 16001))
include ht hq

theorem hostTimeout_read (h : q.host.reads.find? (fun e => !e.2.dead && e.2.at_ == t) = some (tag, r)) : p.hostTimeout =
    (State.readFail { q with host.reads := mapIns tag { r with dead := true, op := .gone } (mapDel tag q.host.reads) } r true).hostKick r.part := by
  subst hq
  simp only [State.hostTimeout, ht, hostTmo, Nat.add_assoc, Nat.reduceAdd, h]

theorem hostTimeout_write (hr : q.host.reads.find? (fun e => !e.2.dead && e.2.at_ == t) = none)
    (h : q.host.writes.find? (fun e => !e.2.dead && e.2.at_ == t) = some (tag, r)) : p.hostTimeout =
    (State.writeFail { q with host.writes := mapIns tag { r with dead := true, op := .gone } (mapDel tag q.host.writes) } r).hostKick r.part := by
  subst hq
  simp only [State.hostTimeout, ht, hostTmo, Nat.add_assoc, Nat.reduceAdd, hr, h]

end

end

/-! The commands. -/

section
variable (s : State) (dt : Nat)

theorem exec_rxDelivery (i : Fin 8) (h : s.awake dt = true) :
    exec (.rxDelivery dt i) s = .next (s.finish ((s.pass dt).rxDelivery i.val)) :=
  s.engine_awake dt (fun p => p.rxDelivery i.val) h

theorem exec_rxDone (i : Fin 8) (h : s.awake dt = true) : exec (.rxDone dt i) s = .next (s.finish ((s.pass dt).rxDone i.val)) :=
  s.engine_awake dt (fun p => p.rxDone i.val) h

variable (bad : Bool)

theorem exec_hostRead (tag : Fin 128) (data : BitVec 512) (h : s.runs dt = true) : exec (.hostReadResponse dt tag bad data) s =
    .next (s.finish (if (s.pass dt).clkOn 3 then (s.pass dt).hostRead tag.val bad data.toNat else s.pass dt)) :=
  s.main_runs dt (fun p => if p.clkOn 3 then p.hostRead tag.val bad data.toNat else p) h

theorem exec_hostWrite (tag : Fin 64) (h : s.runs dt = true) : exec (.hostWriteResponse dt tag bad) s =
    .next (s.finish (if (s.pass dt).clkOn 3 then (s.pass dt).hostWrite tag.val bad else s.pass dt)) :=
  s.main_runs dt (fun p => if p.clkOn 3 then p.hostWrite tag.val bad else p) h

theorem exec_hostTimeout (h : s.runs 0 = true) : exec .hostTimeout s = .next (s.finish (s.pass 0).hostTimeout) :=
  s.main_runs 0 State.hostTimeout h

end

end Sys2Proof.Proofs

namespace Sys2Proof.Proofs

open Sys2Proof Sys2Proof.Machine

/-- Settles O48: a delivery by what it finds, a response by the request that its tag names, a timeout by the oldest request. -/
theorem hostDeliveryAndResponses : Obligations.HostDeliveryAndResponses := by
  unfold Obligations.HostDeliveryAndResponses
  refine ⟨fun dt j s h => ?_, fun t i f use => ⟨rxStart_unreadable t i f use, rxStart_readable t i f use⟩, fun dt j s h => ?_,
    fun t i d status => rfl, fun t i c hs => ⟨cplWritten_held t i c hs, cplWritten_last t i c hs⟩,
    fun dt tag bad data s h hc => ?_, fun dt tag bad s h hc => ?_, fun dt tag w bad data s h hc => ⟨?_, ?_⟩, fun t r => ⟨?_, ?_⟩,
    fun s h => ?_⟩
  · have answer := exec_rxDelivery s dt j h
    exact ⟨fun hi => answer.trans (next_finish (rxDelivery_idle _ _ hi)), fun hm f rest hq =>
      ⟨fun hb => answer.trans (next_finish (rxDelivery_few _ _ f rest hq hm hb)), fun use left hb =>
        answer.trans (next_finish (rxDelivery_takes _ _ f rest hq use left hm hb))⟩⟩
  · have answer := exec_rxDone s dt j h
    exact ⟨fun hn => answer.trans (next_finish (rxDone_waits _ _ hn)), fun d hd => answer.trans (next_finish (rxDone_first _ _ d hd))⟩
  · have answer := (exec_hostRead s dt bad tag data h).trans (next_finish (if_pos hc))
    refine ⟨fun hn => answer.trans (next_finish (hostRead_discarded _ _ _ _ hn)), fun k r hf => ⟨?_, ?_, ?_, ?_⟩⟩
    · exact fun hd => answer.trans (next_finish (hostRead_dead _ _ k _ r _ hf hd))
    · exact fun hd rx ptr c ho => answer.trans (next_finish (hostRead_ring _ _ k _ r _ hf hd rx ptr c ho))
    · intro hd id off lo c ho
      refine ⟨fun hl => ?_, fun hl hb => ?_, fun hl hb => ?_⟩
      · exact answer.trans (next_finish ((hostRead_late _ _ k _ r _ hf hd hl).trans
          (congrArg (fun t => State.hostKick t r.part) (readFail_seg _ r id off lo c true ho))))
      · exact answer.trans (next_finish ((hostRead_fault _ _ k _ r _ hf hd hl hb).trans
          (congrArg (fun t => State.hostKick t r.part) (readFail_seg _ r id off lo c false ho))))
      · exact answer.trans (next_finish ((hostRead_data _ _ k _ r _ hf hd hl hb).trans
          (congrArg (fun t => State.hostKick t r.part) (readData_seg _ r id off lo c _ ho))))
    · exact fun hg => answer.trans (next_finish (hostRead_gone _ _ k _ r _ hf hg))
  · have answer := (exec_hostWrite s dt bad tag h).trans (next_finish (if_pos hc))
    refine ⟨fun hn => answer.trans (next_finish (hostWrite_discarded _ _ _ hn)), fun k r hf => ⟨?_, ?_, ?_, ?_⟩⟩
    · exact fun hd => answer.trans (next_finish (hostWrite_done _ _ k _ r hf hd))
    · exact fun hd hk id ho => answer.trans (next_finish ((hostWrite_okay _ _ k _ r hf hd hk).trans
        (congrArg (fun t => State.hostKick t r.part) (writeOk_data _ r id ho))))
    · exact fun hd hk rx id ho => answer.trans (next_finish ((hostWrite_okay _ _ k _ r hf hd hk).trans
        (congrArg (fun t => State.hostKick t r.part) (writeOk_cpl _ r rx id ho))))
    · exact fun hd hk => answer.trans (next_finish (hostWrite_fails _ _ k _ r hf hd hk))
  · exact (exec_hostRead s dt bad tag data h).trans (next_finish (if_neg (Bool.eq_false_iff.1 hc)))
  · exact (exec_hostWrite s dt bad w h).trans (next_finish (if_neg (Bool.eq_false_iff.1 hc)))
  · exact fun id d ho hd => writeFail_data t r id d ho hd
  · exact fun rx id c ho hc => writeFail_cpl t r rx id c ho hc
  · have answer := exec_hostTimeout s h
    refine ⟨fun hn => answer.trans (next_finish (hostTimeout_idle _ (oldestAt_none _ hn))), fun e0 h0 hmin => ?_⟩
    have ht := oldestAt_some _ e0 h0 hmin
    exact ⟨fun tag r hr => answer.trans (next_finish (hostTimeout_read _ _ tag r _ ht rfl hr)), fun hr tag r hw =>
      answer.trans (next_finish (hostTimeout_write _ _ tag r _ ht rfl hr hw))⟩

end Sys2Proof.Proofs
end
